-- ==== Sys2Proof/Word.lean ====
section
/-!
DEFINITION. Word.lean: the plain types of the CV-4820 model: bytes, register words, core addresses and the bounded
numbers that name the device's repeated parts (ports, cores, sequencers, engines, rings, lanes, actuators, heads).
-/
namespace Sys2Proof

/-- One byte. -/
abbrev Byte := BitVec 8
/-- One 32-bit register word (R1). -/
abbrev Word := BitVec 32
/-- A 48-bit core address (R16, R182). -/
abbrev Addr := BitVec 48
/-- A host port and its controller, 0 or 1 (R33). -/
abbrev Port := Fin 2
/-- An Idquin core IQ0-IQ7. -/
abbrev Core := Fin 8
/-- A Currant sequencer CS0-CS43 (R176). -/
abbrev Cs := Fin 44
/-- A Quince engine QE0-QE11. -/
abbrev Qe := Fin 12
/-- A Media Work Ring, 0-1,023. -/
abbrev Ring := Fin 1024
/-- A recording lane, 0-7 (R219). -/
abbrev Lane := Fin 8
/-- An actuator, 0-3. -/
abbrev Act := Fin 4
/-- A head, numbered actuator × 6 + slot. -/
abbrev Head := Fin 24
/-- An internal tag: slot in bits [15:3], epoch in bits [2:0] (R80). -/
abbrev Tag := BitVec 16
/-- The slot of an internal tag, 0-8,191. -/
abbrev Slot := Fin 8192

/-- The slot a tag names. -/
def Tag.slot (t : Tag) : Nat := t.toNat / 8
/-- The epoch a tag carries. -/
def Tag.epoch (t : Tag) : Nat := t.toNat % 8

end Sys2Proof
end

