-- ==== Sys2Proof/Syntax.lean ====
section
/-!
DEFINITION. Syntax.lean: the commands of the CV-4820, one constructor per row of the table of operations and events, in
the table's order. Operands carry what the command brings from outside (an address, a value, a measurement, the data of
a frame); the repeated parts of the device are named by bounded numbers, so that most ill-formed commands cannot be written.
-/
namespace Sys2Proof

/-- Who makes an access (R16, R20, R112). -/
inductive Agent where
  | core (n : Core) | debug | host (p : Port) | seq (n : Cs) | hepDma (p : Port) | link
  deriving DecidableEq, Repr

/-- A register group with a COMMIT bit (R7): HEP_PW_CTRL of a port, CHN_SYNC of a lane, CHN_ZT, SRV_ACT_CTRL of an
actuator, SRV_QE_CFG of an engine, MPD_PA and EFL_RDCFG. -/
inductive Group where
  | pw (p : Port) | sync (l : Lane) | zt | act (a : Act) | qeBank (n : Qe) | paBank | rdcfg
  deriving DecidableEq, Repr

/-- A split 64-bit pair with a latch (R19, R98). -/
inductive Pair where
  | eccLog | ldgSeq | ldgHinfo (p : Port) | btlMseq | btlGen | appMseq | appGen | mtime | aont | uid | plvImg
  | qeState (n : Qe) (w : Byte)
  deriving DecidableEq, Repr

/-- A write to a configuration-space field that the rules read (R30, R31, R35, R36, R52, R54). -/
inductive CfgWrite where
  | tag10 (v : Bool) | ctoValue (v : BitVec 4) | relaxed (v : Bool) | ats (v : Bool) | functionMask (v : Bool)
  | maxPayload (v : BitVec 3) | maxReadRequest (v : BitVec 3) | ltr (v : Bool) | ecrcGen (v : Bool) | ecrcCheck (v : Bool)
  | aspmL1 (v : Bool) | d3hot (v : Bool)
  deriving DecidableEq, Repr

/-- A field of configuration space or of a capability structure that a configuration read asks for (R20, R30, R36, R48, R53). -/
inductive CfgRead where
  | linkSpeeds | maxLinkWidth | laneMargining | maxPayloadSupported | tag10Completer | tag10Requester | aerPresent | ecrcGenCapable
  | ecrcCheckCapable | aspmSupport | l1Substates | d1Support | d2Support | pmeSupport | flrCapable | ltrSupported | atsPresent
  | atsQueueDepth | atsSmallestUnit | atsPageAligned | priPresent | pasidPresent | msixTableSize | msiPresent | interruptPin
  | sriovPresent | ariPresent | tphPresent | ptmPresent | resizableBarPresent | ctoRanges | ctoDisable | barType (n : Fin 6)
  | tag10Enable | ctoValue | relaxed | atsEnable | functionMask | maxPayload | maxReadRequest | ltrEnable | ecrcGenEnable
  | ecrcCheckEnable | aspmControl | powerState | aerAdvisory | aerEntries
  deriving DecidableEq, Repr

/-- A configuration request (R30, R32). -/
inductive CfgReq where
  | read (r : CfgRead) | write (w : CfgWrite)
  deriving DecidableEq, Repr

/-- How firmware's work on the media for a command ended, after its retries (R91). -/
inductive MediaEnd where
  | ok | malformed | servoFault | writeFault
  deriving DecidableEq, Repr

/-- A fetched submission queue entry, decoded (R83, R85): the fields the intake sequencers use. -/
structure Sqe where
  opc : Byte
  cid : BitVec 16
  nsid : BitVec 32
  slba : BitVec 64
  /-- Zero-based, as NVMe has it. -/
  nlb : BitVec 16
  fua : Bool
  /-- Dataset Management ranges: first LBA and length. -/
  ranges : List (Nat × Nat)
  /-- Zone Management Send: every zone of the namespace. -/
  selectAll : Bool
  /-- Dataset Management: the Deallocate attribute. -/
  deallocate : Bool
  /-- PRACT and PRCHK (R134). -/
  pract : Bool
  prchk : BitVec 3
  /-- A reserved field of the entry is set (R91). -/
  reserved : Bool
  deriving DecidableEq, Repr

/-- The outcome of the protection-information check of R133, which NVMe defines. -/
inductive PiResult where
  | ok | guard | app | ref
  deriving DecidableEq, Repr

/-- What a write of a register brings: its value, and whether the TLP that carried it was poisoned (R46). -/
structure WriteWord where
  value : Word
  poisoned : Bool
  deriving DecidableEq, Repr

/-- An access's size in bytes, and whether it writes. -/
structure AccessKind where
  size : Nat
  write : Bool
  deriving DecidableEq, Repr

/-- Where a queue lies: an address in host memory, or an offset in the CMB (R57). -/
structure QueuePlace where
  base : BitVec 64
  inCmb : Bool
  deriving DecidableEq, Repr

/-- What ends the data of a write: an offset in the CMB where they lie there, the check of protection information, and the media's end. -/
structure WriteEnd where
  src : Option (BitVec 26)
  pi : PiResult
  fin : MediaEnd
  deriving DecidableEq, Repr

/-- What ends the data of a read: the check of protection information, and the media's end. -/
structure ReadEnd where
  pi : PiResult
  fin : MediaEnd
  deriving DecidableEq, Repr

/-- What TX sends: bytes from an address, and the check of their protection information. -/
structure TxData where
  src : Addr
  len : Nat
  pi : PiResult
  deriving DecidableEq, Repr

/-- What RX takes: the data of one block of host memory, none before they have come, or an offset in the CMB. -/
inductive RxData where
  | host (data : List Byte) | cmb (off : BitVec 26)
  deriving DecidableEq, Repr

/-- An INSERT: its sequencer, and the ranges of a Deallocate. -/
structure Insertion where
  n : Cs
  ranges : List (Nat × Nat)
  deriving DecidableEq, Repr

/-- An SPDM request carried by Security Send (R337). -/
inductive SpdmReq where
  | getCertificate (slot : Fin 8)
  | challenge (slot : Fin 8) (nonce : List Byte)
  | getMeasurements (idx : Byte) (nonce : List Byte)
  deriving DecidableEq, Repr

/-- The operations of the RISC-V A extension (R168). -/
inductive AmoOp where
  | lr | sc | swap | add | xor | and | or | min | max | minu | maxu
  deriving DecidableEq, Repr

/-- Why a microword's wait ends (R180, R181). -/
inductive WaitCause where
  | cond | timeout | kill
  deriving DecidableEq, Repr

/-- What a control frame to a preamp carries (R244). -/
inductive PreampKind where
  | head | mode | assist | heater
  deriving DecidableEq, Repr

/-- A control frame to a preamp (R454): its kind and its 32 bits. -/
structure PreampFrame where
  kind : PreampKind
  data : BitVec 32
  deriving DecidableEq, Repr

/-- A measurement of one wedge for one head (R250-R253). -/
structure WedgeMeas where
  /-- The track number decoded with its CRC or parity good. -/
  tidOk : Bool
  tid : BitVec 24
  wnOk : Bool
  wn : BitVec 10
  /-- The four burst amplitudes A, B, C and D. -/
  ba : BitVec 16
  bb : BitVec 16
  bc : BitVec 16
  bd : BitVec 16
  /-- The RRO correction read from the wedge. -/
  rro : BitVec 8
  deriving DecidableEq, Repr

/-- A driver whose trip is detected (R291). -/
inductive Driver where
  | spindle | vcm (a : Act) | ma (h : Fin 24) | boost
  deriving DecidableEq, Repr

/-- The condition that trips a driver (R291). -/
inductive TripCause where
  | overcurrent | openLoad | temperature | boostLow
  deriving DecidableEq, Repr

/-- The header of a Medlar frame (R432). -/
structure FrameHdr where
  crcOk : Bool
  seq : BitVec 16
  ack : BitVec 16
  nak : Bool
  poison : BitVec 4
  term : Byte
  tag : Tag
  addr : BitVec 64
  deriving DecidableEq, Repr

/-- The contents of a SERVO frame (R437): of an actuator, or of the spindle (ADDR 4). State words are those of the coarse engine, then of the
fine one; of QE8 for the spindle. -/
inductive ServoImage where
  | act (a : Act) (wedge : BitVec 10) (mode : BitVec 4) (prim mate : BitVec 3) (ont : BitVec 6) (track : BitVec 24)
      (coarse fine0 fine1 : BitVec 16) (samInterval sinceSam : BitVec 32) (coarseWords fineWords : List (BitVec 40))
  | spindle (theta : BitVec 12) (period : BitVec 32) (torque : BitVec 16) (words : List (BitVec 40))
  deriving DecidableEq, Repr

/-- The commands. -/
inductive Instr where
  /-- REGISTER_WRITE (R4). -/
  | registerWrite (g : Agent) (a : Addr) (size : Nat) (v : WriteWord)
  /-- COMMIT (R7). -/
  | commit (g : Group)
  /-- SHADOW_APPLY (R21). -/
  | shadowApply (g : Group)
  /-- SPLIT_LOW_READ (R19). -/
  | splitLowRead (p : Pair)
  /-- UNMAPPED_ACCESS (R17). -/
  | unmappedAccess (g : Agent) (a : Addr) (k : AccessKind)
  /-- UNSTARTED_BLOCK_ACCESS (R18). -/
  | unstartedBlockAccess (a : Addr) (write : Bool)
  /-- HEP_EN (R32). -/
  | hepEn (p : Port) (v : Bool)
  /-- CONFIGURATION_REQUEST (R32). -/
  | configurationRequest (p : Port) (r : CfgReq)
  /-- COMPLETION_TLP (R37). -/
  | completionTlp (p : Port) (tag : Nat) (data : List Byte) (good poisoned expiring : Bool)
  /-- COMPLETION_TIMEOUT (R38). -/
  | completionTimeout (p : Port) (tag : Nat)
  /-- QUARANTINE_HOLD_EXPIRY (R39). -/
  | quarantineHoldExpiry (p : Port) (tag : Nat)
  /-- CMB_WRITE (R58). -/
  | cmbWrite (p : Port) (off : BitVec 26) (data : List Byte) (poisoned : Bool)
  /-- CMB_READ (R59). -/
  | cmbRead (p : Port) (off : BitVec 26) (len : Nat)
  /-- PEER_WINDOW_WRITE (R66). -/
  | peerWindowWrite (p : Port) (off : BitVec 26) (data : List Byte) (contiguous poisoned : Bool)
  /-- PEER_WINDOW_READ (R64). -/
  | peerWindowRead (p : Port) (off : BitVec 26) (len : Nat)
  /-- ASSEMBLY_TIMEOUT (R66). -/
  | assemblyTimeout (p : Port) (slot : Fin 8)
  /-- WINDOW_IDLE_BOUNDARY (R70). -/
  | windowIdleBoundary (p : Port)
  /-- FORCED_BOUNDARY (R70). -/
  | forcedBoundary (p : Port)
  /-- CNT_CLR (R73). -/
  | cntClr (p : Port)
  /-- FLR (R43). -/
  | flr (p : Port)
  /-- LINK_DOWN (R43). -/
  | linkDown (p : Port)
  /-- PERST (R34). -/
  | perst (p : Port)
  /-- TRANSLATION_COMPLETION (R49). -/
  | translationCompletion (p : Port) (tag : Nat) (size : Nat) (host : BitVec 64) (rd wr : Bool)
  /-- INVALIDATE_REQUEST (R50). -/
  | invalidateRequest (p : Port) (itag : Fin 32) (start : BitVec 64) (size : Nat)
  /-- INVALIDATE_COMPLETION (R51). -/
  | invalidateCompletion (p : Port)
  /-- ATS_ENABLE_CLEAR (R52). -/
  | atsEnableClear (p : Port)
  /-- MSIX_VECTOR_UNMASK (R54). -/
  | msixVectorUnmask (p : Port) (vec : Fin 1025)
  /-- CQ_HEAD_DOORBELL (R55). -/
  | cqHeadDoorbell (p : Port) (q : Fin 1025) (head : BitVec 16) (poisoned : Bool)
  /-- ATTENTION_BUTTON_PRESS (R62). -/
  | attentionButtonPress
  /-- LOG_PAGE_C8 (R62). -/
  | logPageC8 (t : Slot) (retain : Bool)
  /-- SQ_DOORBELL (R76). -/
  | sqDoorbell (p : Port) (q : Fin 1025) (tail : BitVec 16) (poisoned : Bool)
  /-- ARBITRATION_GRANT (R77). -/
  | arbitrationGrant
  /-- COMMAND_INTAKE (R85). -/
  | commandIntake (p : Port) (q : Fin 1025) (e : Sqe)
  /-- OVERLAP_WAIT_END (R85). -/
  | overlapWaitEnd (t : Slot)
  /-- BUFFER_SLOT_WAIT_END (R87). -/
  | bufferSlotWaitEnd (t : Slot)
  /-- WRITE_DATA_BUFFERED (R88). -/
  | writeDataBuffered (t : Slot)
  /-- WRITE_COMPLETION_RELEASE (R13). -/
  | writeCompletionRelease (t : Slot)
  /-- CONTROLLER_ENABLE (R26). -/
  | controllerEnable (p : Port)
  /-- CONTROLLER_RESET (R92). -/
  | controllerReset (p : Port)
  /-- CREATE_IO_SUBMISSION_QUEUE (R74). -/
  | createIoSubmissionQueue (t : Slot) (q cq : Fin 1025) (size : BitVec 16) (base : QueuePlace) (prio : Fin 4)
  /-- CREATE_IO_COMPLETION_QUEUE (R57). -/
  | createIoCompletionQueue (t : Slot) (q : Fin 1025) (size : BitVec 16) (base : BitVec 64) (vec : Fin 1025) (inCmb : Bool)
  /-- DELETE_IO_SUBMISSION_QUEUE (R92). -/
  | deleteIoSubmissionQueue (t : Slot) (q : Fin 1025)
  /-- DELETE_IO_COMPLETION_QUEUE (R74). -/
  | deleteIoCompletionQueue (t : Slot) (q : Fin 1025)
  /-- GET_LOG_PAGE (R74). -/
  | getLogPage (t : Slot) (lid : Byte) (off len : Nat)
  /-- LEDGER_LOG_PAGE (R97). -/
  | ledgerLogPage (t : Slot) (off len : Nat)
  /-- BOOT_CHAIN_LOG_PAGE (R339). -/
  | bootChainLogPage (t : Slot) (off len : Nat)
  /-- EVENT_LOG_PAGE (R402). -/
  | eventLogPage (t : Slot) (off len : Nat)
  /-- IDENTIFY (R75). -/
  | identify (t : Slot) (cns : Byte)
  /-- ABORT (R83). -/
  | abort (t : Slot) (q : Fin 1025) (cid : BitVec 16)
  /-- SET_FEATURES (R77). -/
  | setFeatures (t : Slot) (fid : Byte) (v : Word)
  /-- GET_FEATURES (R74). -/
  | getFeatures (t : Slot) (fid : Byte)
  /-- ASYNCHRONOUS_EVENT_REQUEST (R74). -/
  | asynchronousEventRequest (t : Slot)
  /-- NAMESPACE_CREATE (R159). -/
  | namespaceCreate (t : Slot) (blocks : Nat) (msize : Fin 3) (zoned prot : Bool)
  /-- NAMESPACE_DELETE (R342). -/
  | namespaceDelete (t : Slot) (ns : Fin 64)
  /-- NAMESPACE_ATTACHMENT (R74). -/
  | namespaceAttachment (t : Slot) (ns : Fin 64) (p : Port) (attach : Bool)
  /-- FIRMWARE_IMAGE_DOWNLOAD (R330). -/
  | firmwareImageDownload (t : Slot) (cls : Fin 9) (off : Nat) (data : List Byte)
  /-- FIRMWARE_COMMIT_WRITE (R330). -/
  | firmwareCommitWrite (t : Slot) (slotB : Bool)
  /-- FIRMWARE_COMMIT_WRITE_TRIAL (R330). -/
  | firmwareCommitWriteTrial (t : Slot) (slotB : Bool)
  /-- FIRMWARE_COMMIT_TRIAL_IN_PLACE (R330). -/
  | firmwareCommitTrialInPlace (t : Slot) (slotB : Bool)
  /-- FIRMWARE_COMMIT_RESET_REQUIRED (R330). -/
  | firmwareCommitResetRequired (t : Slot) (slotB : Bool)
  /-- FORMAT_NVM (R342). -/
  | formatNvm (t : Slot) (ns : Fin 64) (msize : Fin 3) (crypto : Bool)
  /-- SECURITY_SEND (R337). -/
  | securitySend (t : Slot) (proto : Byte) (req : SpdmReq)
  /-- SECURITY_RECEIVE (R337). -/
  | securityReceive (t : Slot) (proto : Byte) (len : Nat)
  /-- SANITIZE_CRYPTO_ERASE (R342). -/
  | sanitizeCryptoErase (t : Slot)
  /-- SANITIZE_BLOCK_ERASE (R74). -/
  | sanitizeBlockErase (t : Slot)
  /-- DEVICE_SELF_TEST (R74). -/
  | deviceSelfTest (t : Slot) (code : Fin 16)
  /-- FLUSH (R75). -/
  | flush (t : Slot)
  /-- WRITE (R88). -/
  | write (t : Slot) (blocks : List (List Byte)) (e : WriteEnd)
  /-- READ (R89). -/
  | read (t : Slot) (media : List (List Byte)) (e : ReadEnd)
  /-- WRITE_ZEROES (R84). -/
  | writeZeroes (t : Slot)
  /-- COMPARE (R91). -/
  | compare (t : Slot) (host : List (List Byte)) (media : List (List Byte)) (e : ReadEnd)
  /-- DATASET_MANAGEMENT (R146). -/
  | datasetManagement (t : Slot)
  /-- VERIFY (R84). -/
  | verify (t : Slot) (media : List (List Byte)) (e : ReadEnd)
  /-- RESERVATION_REGISTER (R74). -/
  | reservationRegister (t : Slot) (action : Fin 3) (cur new : BitVec 64)
  /-- RESERVATION_REPORT (R74). -/
  | reservationReport (t : Slot)
  /-- RESERVATION_ACQUIRE (R74). -/
  | reservationAcquire (t : Slot) (action : Fin 3) (rtype : Fin 8) (cur preempt : BitVec 64)
  /-- RESERVATION_RELEASE (R74). -/
  | reservationRelease (t : Slot) (clear : Bool) (cur : BitVec 64)
  /-- ZONE_CLOSE (R74). -/
  | zoneClose (t : Slot)
  /-- ZONE_FINISH (R149). -/
  | zoneFinish (t : Slot)
  /-- ZONE_OPEN (R150). -/
  | zoneOpen (t : Slot)
  /-- ZONE_RESET (R149). -/
  | zoneReset (t : Slot)
  /-- ZONE_OFFLINE (R74). -/
  | zoneOffline (t : Slot)
  /-- ZONE_MANAGEMENT_RECEIVE (R74). -/
  | zoneManagementReceive (t : Slot)
  /-- ZONE_APPEND (R86). -/
  | zoneAppend (t : Slot) (blocks : List (List Byte)) (e : WriteEnd)
  /-- CIU_EN (R99). -/
  | ciuEn (v : Bool)
  /-- BUFFER_SLOT_RELEASE (R87). -/
  | bufferSlotRelease (n : BitVec 17)
  /-- ABORT_LOOKUP (R82). -/
  | abortLookup (q : BitVec 11) (cid : BitVec 16)
  /-- LDG_EN (R100). -/
  | ldgEn (v mirror : Bool)
  /-- BUF_DDR_EN (R136). -/
  | bufDdrEn (v : Bool)
  /-- DDR_TRAINING_END (R136). -/
  | ddrTrainingEnd (good : Bool)
  /-- DRAM_FILL (R104). -/
  | dramFill (a : Addr)
  /-- PATROL_SCRUB (R106). -/
  | patrolScrub
  /-- POST_PACKAGE_REPAIR (R108). -/
  | postPackageRepair (bank : BitVec 4) (row : BitVec 18) (ch : Bool)
  /-- REPAIR_END (R108). -/
  | repairEnd (good : Bool)
  /-- BRAMBLE_ACCESS (R110). -/
  | brambleAccess (g : Agent) (a : Addr) (w : Option (List Byte)) (whole : Bool)
  /-- PIP_PREFETCH (R111). -/
  | pipPrefetch (a : Addr)
  /-- EVICTION_ACCEPT (R112). -/
  | evictionAccept
  /-- EVICTION_DONE (R112). -/
  | evictionDone
  /-- CLEAN (R119). -/
  | clean (count : BitVec 17) (setWay : Bool)
  /-- INVALIDATE (R119). -/
  | invalidate (count : BitVec 17) (setWay : Bool)
  /-- CLEAN_AND_INVALIDATE (R119). -/
  | cleanAndInvalidate (count : BitVec 17) (setWay : Bool)
  /-- MAINTENANCE_END (R120). -/
  | maintenanceEnd
  /-- BRAMBLE_DISABLE (R123). -/
  | brambleDisable
  /-- DISABLE_WALK_END (R123). -/
  | disableWalkEnd
  /-- BRAMBLE_ENABLE (R125). -/
  | brambleEnable
  /-- SRAM_INIT (R129). -/
  | sramInit (array : Byte)
  /-- SRAM_INIT_END (R129). -/
  | sramInitEnd
  /-- SPARE_ROW (R132). -/
  | spareRow (array : Byte) (row : BitVec 16) (perm : Bool)
  /-- SPARE_ROW_END (R132). -/
  | spareRowEnd
  /-- FLIP_ARM (R131). -/
  | flipArm (array check : Byte)
  /-- BTL_EN (R165). -/
  | btlEn (v : Bool)
  /-- OPEN_RECORD (R141). -/
  | openRecord (flags : Byte) (band owner : BitVec 32) (purpose nsidx acc : Byte)
  /-- COMMIT_RECORD (R141). -/
  | commitRecord (flags : Byte) (new old owner : BitVec 32) (upto : BitVec 48) (nsidx hgen8 : Byte)
  /-- RESET_RECORD (R141). -/
  | resetRecord (flags : Byte) (band : BitVec 32) (hgen : BitVec 48)
  /-- RETIRE_RECORD (R159). -/
  | retireRecord (flags : Byte) (band : BitVec 32) (cause : Byte)
  /-- MC_PUT_RECORD (R147). -/
  | mcPutRecord (flags : Byte) (nsidx len : Byte) (lba pma : BitVec 64)
  /-- ZONE_WP_RECORD (R149). -/
  | zoneWpRecord (flags : Byte) (nsidx : Byte) (zone wp : BitVec 32)
  /-- SEAL_RECORD (R141). -/
  | sealRecord (flags : Byte) (band : BitVec 32) (hgen : BitVec 48)
  /-- CHECKPOINT_RECORD (R143). -/
  | checkpointRecord (flags : Byte) (pma : BitVec 64) (covers : BitVec 48)
  /-- MODE_RECORD (R160). -/
  | modeRecord (flags : Byte) (degraded : Bool)
  /-- HEAD_FAIL_RECORD (R155). -/
  | headFailRecord (head : BitVec 5)
  /-- REFRESH_QUEUE_READ (R157). -/
  | refreshQueueRead
  /-- CORE_RUN (R175). -/
  | coreRun (n : Core) (v : Bool)
  /-- MTIME_COMPARE (R173). -/
  | mtimeCompare (n : Core)
  /-- IPI_SET (R173). -/
  | ipiSet (m : Byte)
  /-- IPI_CLEAR (R173). -/
  | ipiClear (m : Byte)
  /-- INTERRUPT_CLAIM (R172). -/
  | interruptClaim (n : Core)
  /-- INTERRUPT_COMPLETE (R172). -/
  | interruptComplete (n : Core) (src : Byte)
  /-- WFI (R166). -/
  | wfi (n : Core) (mie : BitVec 3)
  /-- FENCE_I (R167). -/
  | fenceI (n : Core)
  /-- LR_SC_AMO (R168). -/
  | lrScAmo (n : Core) (op : AmoOp) (dword : Bool) (a : Addr) (rd : Fin 32) (v : BitVec 64)
  /-- CONTROL_STORE_LOAD (R185). -/
  | controlStoreLoad (cls : Fin 8) (first : BitVec 12) (count : BitVec 13)
  /-- CONTROL_STORE_LOAD_END (R184). -/
  | controlStoreLoadEnd
  /-- CS_START (R187). -/
  | csStart (n : Cs) (entry : BitVec 12)
  /-- CS_STOP (R187). -/
  | csStop (n : Cs)
  /-- KILL (R187). -/
  | kill (n : Cs)
  /-- ABANDON (R189). -/
  | abandon (n : Cs)
  /-- SPARE_CS_BIND (R193). -/
  | spareCsBind (k : Fin 2) (cls : Fin 8) (repl : BitVec 6) (bind : Bool)
  /-- SPARE_QE_BIND (R194). -/
  | spareQeBind (m : BitVec 4) (bind : Bool)
  /-- QE_START (R191). -/
  | qeStart (n : Qe)
  /-- QE_STOP (R191). -/
  | qeStop (n : Qe)
  /-- QE_TRIGGER (R272). -/
  | qeTrigger (n : Qe) (inputs : List (BitVec 16))
  /-- WAIT_END (R181). -/
  | waitEnd (n : Cs) (cause : WaitCause)
  /-- JUMP (R179). -/
  | jump (n : Cs) (next : BitVec 12)
  /-- COND1 (R179). -/
  | cond1 (n : Cs) (next : BitVec 12) (c0 : Byte)
  /-- COND2 (R179). -/
  | cond2 (n : Cs) (next : BitVec 12) (c0 c1 : Byte)
  /-- COND3 (R179). -/
  | cond3 (n : Cs) (next : BitVec 12) (c0 c1 c2 : Byte)
  /-- COND4 (R179). -/
  | cond4 (n : Cs) (next : BitVec 12) (c0 c1 c2 c3 : Byte)
  /-- CALL (R179). -/
  | call (n : Cs) (next ret : BitVec 12)
  /-- RET (R179). -/
  | ret (n : Cs)
  /-- DISPATCH (R179). -/
  | dispatch (n : Cs) (next : BitVec 12)
  /-- LOOP (R179). -/
  | loop (n : Cs) (next : BitVec 12)
  /-- HALT (R179). -/
  | halt (n : Cs)
  /-- A_MOV (R182). -/
  | aMov (n : Cs) (d r : Fin 16)
  /-- A_LDI (R182). -/
  | aLdi (n : Cs) (d : Fin 16) (imm : BitVec 16)
  /-- A_LDH (R182). -/
  | aLdh (n : Cs) (d : Fin 16) (imm : BitVec 16)
  /-- A_ADD (R182). -/
  | aAdd (n : Cs) (d r : Fin 16)
  /-- A_ADDI (R182). -/
  | aAddi (n : Cs) (d : Fin 16) (imm : BitVec 16)
  /-- A_SUB (R182). -/
  | aSub (n : Cs) (d r : Fin 16)
  /-- A_AND (R182). -/
  | aAnd (n : Cs) (d r : Fin 16)
  /-- A_OR (R182). -/
  | aOr (n : Cs) (d r : Fin 16)
  /-- A_XOR (R182). -/
  | aXor (n : Cs) (d r : Fin 16)
  /-- A_SHR (R182). -/
  | aShr (n : Cs) (d : Fin 16) (imm : BitVec 16)
  /-- A_SHL (R182). -/
  | aShl (n : Cs) (d : Fin 16) (imm : BitVec 16)
  /-- A_LDD (R182). -/
  | aLdd (n : Cs) (d : Fin 16) (imm : BitVec 16)
  /-- A_STD (R182). -/
  | aStd (n : Cs) (r : Fin 16) (imm : BitVec 16)
  /-- A_LDLC (R182). -/
  | aLdlc (n : Cs) (r : Fin 16)
  /-- A_CMP (R182). -/
  | aCmp (n : Cs) (d r : Fin 16)
  /-- ARM_READ (R230). -/
  | armRead (n : Cs)
  /-- ARM_WRITE (R14). -/
  | armWrite (n : Cs)
  /-- SECTOR (R183). -/
  | sector (n : Cs)
  /-- REPLAY (R236). -/
  | replay (n : Cs) (off : BitVec 5) (set : BitVec 3)
  /-- ZONE (R229). -/
  | zone (n : Cs) (idx : BitVec 10)
  /-- ASSIST (R240). -/
  | assist (n : Cs) (code : Byte)
  /-- DISARM (R183). -/
  | disarm (n : Cs)
  /-- DMA_FETCH (R135). -/
  | dmaFetch (n : Cs)
  /-- FETCH_RAW (R183). -/
  | fetchRaw (n : Cs)
  /-- STORE (R183). -/
  | store (n : Cs)
  /-- POST (R183). -/
  | post (n : Cs) (code : Byte)
  /-- TAKE (R199). -/
  | take (n : Cs)
  /-- SELECT (R208). -/
  | select (n : Cs)
  /-- RING_FETCH (R199). -/
  | ringFetch (n : Cs) (r : Ring)
  /-- FORWARD (R209). -/
  | forward (n : Cs) (r : Ring) (idx : BitVec 16)
  /-- COMPLETE (R206). -/
  | complete (n : Cs) (r : Ring) (idx : BitVec 16) (code : Byte)
  /-- RING_ERROR (R183). -/
  | ringError (n : Cs) (r : Ring)
  /-- FETCH_SQE (R183). -/
  | fetchSqe (n : Cs) (p : Port) (q : Fin 1025)
  /-- TX (R183). -/
  | tx (n : Cs) (d : TxData)
  /-- RX (R134). -/
  | rx (n : Cs) (lba : BitVec 64) (dst : Addr) (data : RxData) (pi : PiResult)
  /-- POST_CQE (R183). -/
  | postCqe (n : Cs)
  /-- MSIX (R56). -/
  | msix (n : Cs)
  /-- PREFETCH (R111). -/
  | prefetch (n : Cs) (a : Addr)
  /-- ALLOC (R80). -/
  | alloc (n : Cs)
  /-- RELEASE (R80). -/
  | release (n : Cs)
  /-- INSERT (R183). -/
  | insert (x : Insertion)
  /-- SEARCH (R85). -/
  | search (n : Cs)
  /-- REMOVE (R183). -/
  | remove (n : Cs)
  /-- APPEND_ACCEPTED (R94). -/
  | appendAccepted (n : Cs)
  /-- LDG_STATE (R93). -/
  | ldgState (n : Cs) (st : BitVec 4)
  /-- LDG_FLAGS (R93). -/
  | ldgFlags (n : Cs) (f : Byte)
  /-- LOOKUP (R89). -/
  | lookup (n : Cs)
  /-- PUBLISH (R88). -/
  | publish (n : Cs)
  /-- WINDOW (R251). -/
  | window (n : Cs)
  /-- DEMOD (R252). -/
  | demod (n : Cs)
  /-- PES (R255). -/
  | pes (n : Cs)
  /-- TRIGGER (R259). -/
  | trigger (n : Cs) (iMeas vel maPri maMate : BitVec 16)
  /-- STAMP (R274). -/
  | stamp (n : Cs)
  /-- WCLK (R228). -/
  | wclk (n : Cs) (err : Int)
  /-- SUB_READ (R183). -/
  | subRead (n : Cs)
  /-- SUB_WRITE (R376). -/
  | subWrite (n : Cs)
  /-- COPY_XOR (R154). -/
  | copyXor (n : Cs)
  /-- COPY_LOG (R142). -/
  | copyLog (n : Cs)
  /-- SUB_VERIFY (R158). -/
  | subVerify (n : Cs)
  /-- DRV (R183). -/
  | drv (n : Cs) (d : BitVec 5)
  /-- SAMPLE (R183). -/
  | sample (n : Cs) (m : Byte) (v : Word)
  /-- VAULT (R183). -/
  | vault (n : Cs)
  /-- SLOE (R311). -/
  | sloe (n : Cs) (dom : BitVec 5) (on : Bool)
  /-- NOP (R270). -/
  | qNop (n : Qe)
  /-- CLR (R270). -/
  | qClr (n : Qe) (a : Bool)
  /-- LDA (R270). -/
  | qLda (n : Qe) (a : Bool) (x : Fin 16)
  /-- LDP (R270). -/
  | qLdp (n : Qe) (a : Bool) (x t : Fin 16)
  /-- LDS (R270). -/
  | qLds (n : Qe) (a : Bool) (k : Byte)
  /-- STS (R270). -/
  | qSts (n : Qe) (a : Bool) (k : Byte)
  /-- ADDS (R270). -/
  | qAdds (n : Qe) (a : Bool) (k : Byte)
  /-- MPY (R270). -/
  | qMpy (n : Qe) (a : Bool) (x : Fin 16) (k : Byte)
  /-- MAC (R270). -/
  | qMac (n : Qe) (a : Bool) (x : Fin 16) (k : Byte)
  /-- MSU (R270). -/
  | qMsu (n : Qe) (a : Bool) (x : Fin 16) (k : Byte)
  /-- MPYX (R270). -/
  | qMpyx (n : Qe) (a : Bool) (x t : Fin 16)
  /-- MACX (R270). -/
  | qMacx (n : Qe) (a : Bool) (x t : Fin 16)
  /-- ADDA (R270). -/
  | qAdda (n : Qe) (a : Bool)
  /-- SUBA (R270). -/
  | qSuba (n : Qe) (a : Bool)
  /-- SHA (R270). -/
  | qSha (n : Qe) (a : Bool) (sh : BitVec 4)
  /-- CLAMP (R269). -/
  | qClamp (n : Qe) (a : Bool) (k : Byte)
  /-- MOV (R270). -/
  | qMov (n : Qe) (d x : Fin 16)
  /-- LDI (R270). -/
  | qLdi (n : Qe) (d : Fin 16) (imm : BitVec 16)
  /-- LDC (R270). -/
  | qLdc (n : Qe) (d : Fin 16) (k : Byte)
  /-- IN (R272). -/
  | qIn (n : Qe) (d : Fin 16) (p : Fin 32)
  /-- OUT (R272). -/
  | qOut (n : Qe) (x : Fin 16) (p : Fin 32)
  /-- ADD (R269). -/
  | qAdd (n : Qe) (d x t : Fin 16)
  /-- SUB (R269). -/
  | qSub (n : Qe) (d x t : Fin 16)
  /-- MUL (R269). -/
  | qMul (n : Qe) (d x t : Fin 16)
  /-- STH (R269). -/
  | qSth (n : Qe) (d : Fin 16) (a : Bool)
  /-- STL (R270). -/
  | qStl (n : Qe) (d : Fin 16) (a : Bool)
  /-- LIM (R269). -/
  | qLim (n : Qe) (d x : Fin 16) (k : Byte)
  /-- ABS (R269). -/
  | qAbs (n : Qe) (d x : Fin 16)
  /-- AND (R270). -/
  | qAnd (n : Qe) (d x t : Fin 16)
  /-- OR (R270). -/
  | qOr (n : Qe) (d x t : Fin 16)
  /-- CMP (R269). -/
  | qCmp (n : Qe) (x t : Fin 16)
  /-- CMPA (R270). -/
  | qCmpa (n : Qe) (a : Bool)
  /-- JMP (R270). -/
  | qJmp (n : Qe) (target : BitVec 10)
  /-- BR (R270). -/
  | qBr (n : Qe) (cond : BitVec 4) (target : BitVec 10)
  /-- SIG (R272). -/
  | qSig (n : Qe) (bits : BitVec 4)
  /-- END (R272). -/
  | qEnd (n : Qe)
  /-- ILLEGAL_INSTRUCTION (R271). -/
  | illegalInstruction (n : Qe)
  /-- MWR_EN (R218). -/
  | mwrEn (v : Bool)
  /-- DOORBELL (R204). -/
  | doorbell (r : Ring) (tail : BitVec 16)
  /-- ERROR_ENTRY (R211). -/
  | errorEntry (r : Ring)
  /-- RING_ENABLE (R218). -/
  | ringEnable (r : Ring)
  /-- RING_DISABLE (R214). -/
  | ringDisable (r : Ring)
  /-- DRAIN_END (R214). -/
  | drainEnd (r : Ring)
  /-- ABORT_COMPLETE (R213). -/
  | abortComplete (r : Ring)
  /-- ABORT_COMPLETE_END (R213). -/
  | abortCompleteEnd (r : Ring)
  /-- RESUME (R212). -/
  | resume (r : Ring)
  /-- CLR_OVR (R205). -/
  | clrOvr (r : Ring)
  /-- WITHDRAW (R215). -/
  | withdraw (r : Ring) (tag : Tag)
  /-- WITHDRAW_SCAN_END (R215). -/
  | withdrawScanEnd
  /-- FORMATTER_READ (R237). -/
  | formatterRead (l : Lane)
  /-- FORMATTER_WRITE (R240). -/
  | formatterWrite (l : Lane)
  /-- READ_CHECK (R237). -/
  | readCheck (l : Lane)
  /-- READ_RAW (R234). -/
  | readRaw (l : Lane) (samples : List Byte)
  /-- SEEK (R257). -/
  | seek (a : Act)
  /-- FOLLOW (R257). -/
  | follow (a : Act)
  /-- ARM_MATE (R265). -/
  | armMate (a : Act)
  /-- UNLOAD (R257). -/
  | unload (a : Act)
  /-- LOAD (R257). -/
  | load (a : Act)
  /-- COPY (R197). -/
  | copy (n : Cs)
  /-- BAND_VERIFY (R158). -/
  | bandVerify (n : Cs) (bad : List (Nat × Nat))
  /-- XOR (R197). -/
  | xor (n : Cs)
  /-- LOG (R198). -/
  | log (n : Cs)
  /-- PORT_LOG (R198). -/
  | portLog
  /-- START (R294). -/
  | start
  /-- STOP (R294). -/
  | stop
  /-- TIER (R288). -/
  | tier
  /-- RETRACT (R293). -/
  | retract
  /-- MEASURE (R294). -/
  | measure
  /-- ARM (R421). -/
  | arm (eraseGood : Bool)
  /-- SAVE (R420). -/
  | save
  /-- RESTORE (R422). -/
  | restore
  /-- SCAN (R422). -/
  | scan
  /-- LANE_EN (R246). -/
  | laneEn (l : Lane) (v : Bool)
  /-- SECTOR_START (R234). -/
  | sectorStart (l : Lane) (primary recovery : Option Int)
  /-- SECTOR_END (R239). -/
  | sectorEnd (l : Lane)
  /-- DECODE_END (R236). -/
  | decodeEnd (l : Lane) (dec : Fin 4) (field : Option (List Byte))
  /-- REPLAY_ATTEMPT (R236). -/
  | replayAttempt (l : Lane) (sector : Nat) (off : Int) (set : Fin 8)
  /-- WRITE_SECTOR (R240). -/
  | writeSector (l : Lane)
  /-- PREAMP_FAULT (R241). -/
  | preampFault (a : Act)
  /-- DECODER_FAULT (R239). -/
  | decoderFault (l : Lane) (dec : Fin 4)
  /-- SPARE_DECODER_BIND (R239). -/
  | spareDecoderBind (k : Fin 2) (l : Lane) (dec : Bool) (bind : Bool)
  /-- ZONE_TABLE_COMMIT (R226). -/
  | zoneTableCommit
  /-- PREAMP_CONTROL_FRAME (R454). -/
  | preampControlFrame (a : Act) (frame : PreampFrame) (ack : Bool)
  /-- SRV_EN (R276). -/
  | srvEn (v : Bool)
  /-- SAM_FOUND (R251). -/
  | samFound (a : Act) (mate : Bool) (time : Word)
  /-- WINDOW_END (R251). -/
  | windowEnd (a : Act) (mate : Bool)
  /-- DEMOD_DONE (R252). -/
  | demodDone (a : Act) (mate : Bool) (m : WedgeMeas)
  /-- FAULT_HOLD_EXPIRY (R264). -/
  | faultHoldExpiry (a : Act)
  /-- MPD_EN (R295). -/
  | mpdEn (v : Bool)
  /-- BEMF_CROSSING (R278). -/
  | bemfCrossing (valid : Bool) (angle : BitVec 12)
  /-- PSEUDO_STAMP (R278). -/
  | pseudoStamp
  /-- WEDGE_GAP_CHECK (R286). -/
  | wedgeGapCheck (residual : BitVec 12)
  /-- MEASURE_END (R283). -/
  | measureEnd (rpm : BitVec 16) (backward : Bool)
  /-- ALIGN_END (R283). -/
  | alignEnd
  /-- OPEN_LOOP_TIMEOUT (R283). -/
  | openLoopTimeout
  /-- HOLD_TIMEOUT (R287). -/
  | holdTimeout
  /-- REACQUIRE_TIMEOUT (R287). -/
  | reacquireTimeout
  /-- COAST_TIMEOUT (R285). -/
  | coastTimeout
  /-- SPEED_THRESHOLD (R283). -/
  | speedThreshold (rpm : BitVec 16)
  /-- DRIVER_TRIP (R291). -/
  | driverTrip (d : Driver) (c : TripCause)
  /-- RETRACT_PARKED (R293). -/
  | retractParked (a : Act)
  /-- RETRACT_TIMEOUT (R293). -/
  | retractTimeout (a : Act)
  /-- HARVEST_END (R292). -/
  | harvestEnd (mj : BitVec 16)
  /-- RAIL_FAULT (R298). -/
  | railFault (rail : Fin 17)
  /-- LOWV_SET (R299). -/
  | lowvSet (mv : BitVec 16)
  /-- LOWV_CLEAR (R299). -/
  | lowvClear (mv : BitVec 16)
  /-- GOVERNOR_TICK (R300). -/
  | governorTick (pin vin : BitVec 16)
  /-- XTAL32_DETECT (R303). -/
  | xtal32Detect (found : Bool)
  /-- XTAL32_STOP (R303). -/
  | xtal32Stop
  /-- XTAL_BOOT_RETRY (R304). -/
  | xtalBootRetry (good : Bool)
  /-- SLOE_REQUEST (R307). -/
  | sloeRequest (dom : BitVec 5) (on flush : Bool)
  /-- SLOE_FLUSH (R307). -/
  | sloeFlush
  /-- DOMAIN_START (R308). -/
  | domainStart
  /-- DOMAIN_ON (R308). -/
  | domainOn
  /-- DOMAIN_START_FAIL (R309). -/
  | domainStartFail (pll : Option (Fin 5))
  /-- DOMAIN_STOP (R310). -/
  | domainStop
  /-- SLOE_WAIT_TIMEOUT (R307). -/
  | sloeWaitTimeout
  /-- DEVICE_STATE_REQUEST (R312). -/
  | deviceStateRequest (req : BitVec 2)
  /-- WAKE (R313). -/
  | wake (src : Fin 7)
  /-- WAKE_TIMER (R313). -/
  | wakeTimer
  /-- CORE_WDT_FIRST_EXPIRY (R315). -/
  | coreWdtFirstExpiry (n : Core)
  /-- CORE_WDT_SECOND_EXPIRY (R315). -/
  | coreWdtSecondExpiry (n : Core)
  /-- WDT_KICK (R316). -/
  | wdtKick (n : Core) (key : Byte)
  /-- SYS_WDT_KICK (R317). -/
  | sysWdtKick (key : Byte)
  /-- SYS_WDT_EXPIRY (R317). -/
  | sysWdtExpiry
  /-- POR (R459). -/
  | por (straps : BitVec 5)
  /-- RESET_N (R452). -/
  | resetN (long : Bool)
  /-- SWRST (R319). -/
  | swrst (key : BitVec 16)
  /-- DEBUG_RESET (R343). -/
  | debugReset (token : List Byte)
  /-- RESET_PERFORM (R320). -/
  | resetPerform (straps : BitVec 5)
  /-- BOOT_ROM_RUN (R332). -/
  | bootRomRun
  /-- RECOVERY_IMAGE_MESSAGE (R333). -/
  | recoveryImageMessage (cls : Fin 9) (image : List Byte) (last : Bool)
  /-- SPDM_GET_CERTIFICATE (R337). -/
  | spdmGetCertificate (slot : Fin 8)
  /-- SPDM_CHALLENGE (R337). -/
  | spdmChallenge (slot : Fin 8) (nonce : List Byte)
  /-- SPDM_GET_MEASUREMENTS (R338). -/
  | spdmGetMeasurements (idx : Byte) (nonce : List Byte)
  /-- CONTAINER_VERIFY (R325). -/
  | containerVerify (cls : BitVec 4)
  /-- VERIFY_END (R325). -/
  | verifyEnd
  /-- ARB_ADVANCE (R326). -/
  | arbAdvance (cls : BitVec 4) (svn : BitVec 6)
  /-- ARB_ADVANCE_END (R326). -/
  | arbAdvanceEnd
  /-- KEY_REVOKE (R327). -/
  | keyRevoke (slot : Fin 4)
  /-- SEC_LOCK (R334). -/
  | secLock
  /-- GEN (R341). -/
  | gen (ns : Fin 64)
  /-- KEY_LOAD (R341). -/
  | keyLoad (ns : Fin 64)
  /-- CLEAR (R341). -/
  | clear (ns : Fin 64)
  /-- KEY_OPERATION_END (R341). -/
  | keyOperationEnd
  /-- EFL_UNLOCK (R352). -/
  | eflUnlock (key : Word)
  /-- PROGRAM (R354). -/
  | program (g : Agent) (count : BitVec 7)
  /-- ERASE_ROW (R361). -/
  | eraseRow (g : Agent)
  /-- ERASE_BLOCK (R361). -/
  | eraseBlock (g : Agent)
  /-- BLANK_CHECK (R353). -/
  | blankCheck (g : Agent) (count : BitVec 7)
  /-- MASS_ERASE (R353). -/
  | massErase (g : Agent)
  /-- EFL_COMMAND_END (R353). -/
  | eflCommandEnd (good : Bool)
  /-- SUSPEND (R357). -/
  | suspend
  /-- SUSPEND_TAKE_EFFECT (R358). -/
  | suspendTakeEffect
  /-- ERASE_RESUME (R357). -/
  | eraseResume
  /-- EFLASH_WINDOW_READ (R351). -/
  | eflashWindowRead (g : Agent) (off : BitVec 24)
  /-- RDP_RAISE (R365). -/
  | rdpRaise (g : Agent) (target : BitVec 2)
  /-- RDP_LOWER (R366). -/
  | rdpLower (g : Agent)
  /-- CONVERSION_REQUEST (R369). -/
  | conversionRequest (m : BitVec 16)
  /-- SENSOR_SCAN (R370). -/
  | sensorScan
  /-- AON_SENSOR_SCAN (R370). -/
  | aonSensorScan
  /-- CONVERSION_END (R371). -/
  | conversionEnd (temp : BitVec 12)
  /-- THROTTLE_WINDOW (R374). -/
  | throttleWindow
  /-- RESTART_WAIT_END (R381). -/
  | restartWaitEnd
  /-- CAL_EN (R389). -/
  | calEn (v : Bool)
  /-- CAL_ITEM_DUE (R384). -/
  | calItemDue (n : Fin 64)
  /-- CAL_DUE (R384). -/
  | calDue (n : Fin 64)
  /-- CAL_MEASUREMENT_START (R383). -/
  | calMeasurementStart
  /-- CAL_MEASUREMENT_END (R385). -/
  | calMeasurementEnd (n : Fin 64) (v : Option (BitVec 16))
  /-- CAL_SUBMIT (R383). -/
  | calSubmit (v : BitVec 16)
  /-- CAL_DISCARD (R383). -/
  | calDiscard
  /-- CAL_STARVE (R384). -/
  | calStarve (n : Fin 64)
  /-- EVR_EN (R401). -/
  | evrEn
  /-- EVR_SCAN_END (R401). -/
  | evrScanEnd
  /-- EVENT_ENTRY (R394). -/
  | eventEntry (code : BitVec 16) (a0 a1 a2 : Word)
  /-- EVENT_SUBMIT (R393). -/
  | eventSubmit (code : BitVec 16) (keep : Bool)
  /-- RECORD_PROGRAM (R397). -/
  | recordProgram
  /-- OPERATING_MINUTE_END (R395). -/
  | operatingMinuteEnd
  /-- FREEZE_TIMEOUT (R403). -/
  | freezeTimeout
  /-- EVENT_CLEAR (R404). -/
  | eventClear (key : BitVec 16) (areas : BitVec 2)
  /-- PLV_EN (R426). -/
  | plvEn (v : Bool) (diesGood : Bool) (ppb blocks : BitVec 16)
  /-- POWER_LOSS_DETECT (R410). -/
  | powerLossDetect
  /-- ENERGY_OK_FALL (R409). -/
  | energyOkFall
  /-- VAULT_PAGE_PROGRAMMED (R418). -/
  | vaultPageProgrammed (good : Bool)
  /-- DUMP_END (R414). -/
  | dumpEnd
  /-- RAILS_OFF (R414). -/
  | railsOff
  /-- MIR_EN (R445). -/
  | mirEn (v : Bool)
  /-- HELLO (R431). -/
  | hello (pos : Bool) (term : Option (Byte × Bool)) (protMib : BitVec 10)
  /-- WRITE_FRAME (R434). -/
  | writeFrame (h : FrameHdr) (data : List Byte)
  /-- SERVO_FRAME (R437). -/
  | servoFrame (h : FrameHdr) (x : ServoImage)
  /-- KEY_FRAME (R438). -/
  | keyFrame (h : FrameHdr) (wrapped : List Byte)
  /-- IDLE_FRAME (R433). -/
  | idleFrame (h : FrameHdr)
  /-- ACK_TIMEOUT (R433). -/
  | ackTimeout
  /-- RESYNC (R435). -/
  | resync
  /-- RESYNC_END (R435). -/
  | resyncEnd
  /-- KEY_EXCHANGE (R438). -/
  | keyExchange (ns : Fin 64)
  /-- AUTO_TAKEOVER (R439). -/
  | autoTakeover
  /-- TAKEOVER_LINES_HIGH (R440). -/
  | takeoverLinesHigh
  /-- TAKEOVER_ABANDON (R440). -/
  | takeoverAbandon
  /-- FENCED (R428). -/
  | fenced (low : Bool)
  /-- OWN_LINE_CHANGE (R427). -/
  | ownLineChange (line : Fin 5) (high : Bool)
  /-- PCIE_LINK_UP (R73). -/
  | pcieLinkUp (p : Port) (speed : Fin 6) (width : Fin 5)
  /-- MEDLAR_LINK_UP (R431). -/
  | medlarLinkUp
  /-- RESET_N_RELEASE (R452). -/
  | resetNRelease (straps : BitVec 5)
  /-- PERST_RELEASE (R34). -/
  | perstRelease (p : Port)
  /-- ATTENTION_BUTTON_RELEASE (R63). -/
  | attentionButtonRelease
  /-- COALESCING_TIME_EXPIRY (R56). -/
  | coalescingTimeExpiry (p : Port) (vec : Fin 1025)
  /-- CRYSTAL_FAILURE (R304). -/
  | crystalFailure
  /-- RETRACT_WAIT_END (R429). -/
  | retractWaitEnd
  deriving DecidableEq, Repr

end Sys2Proof
end

