-- ==== Sys2Proof/Decode.lean ====
section
/-!
DEFINITION. Decode.lean: the commands that words spell. No row of the manual's table of operations and events gives bits,
so no word spells a command.
-/
namespace Sys2Proof

/-- The command a word of nbits bits spells: none, since no row of the table has an encoding. -/
def decodeTableWord (_nbits _w : Nat) : Option Instr := none

end Sys2Proof
end

