-- ==== Sys2Proof/Config.lean ====
section
/-!
DEFINITION. Config.lean: the values the manual leaves open (free values, with no body) and the standard cryptographic
functions it names without giving (R324, R325, R335, R340, R341), left uninterpreted. Nothing can be proved of a value here.
-/
namespace Sys2Proof.Config

/-- A free value: what the manual leaves open, drawn with the counter that State holds (log entry 3). -/
opaque freeValue : Nat → Nat
/-- SHA-384 of a byte string, 48 bytes (R324, R335); named, not given, by the manual (log entry 6). -/
opaque sha384 : List Byte → List Byte
/-- ECDSA P-384 verification of digest, public key and signature (R325). -/
opaque ecdsaOk : List Byte → List Byte → List Byte → Bool
/-- ML-DSA-87 verification of message, public key and signature (R325). -/
opaque mldsaOk : List Byte → List Byte → List Byte → Bool
/-- AES key wrap of the 72 bytes of R341 under the device's key-encryption key: key material, NSIDX, generation. -/
opaque wrapKey : Nat → Nat → Nat → List Byte
/-- Unwrapping: the key material, NSIDX and generation of a wrapped key, none when the wrap does not check (R341). -/
opaque unwrapKey : List Byte → Option (Nat × Nat × Nat)
/-- Unwrapping of a KEY frame under the pair key of R438. -/
opaque unwrapPair : List Byte → Option (Nat × Nat × Nat)
/-- Wrapping under the pair key of R438. -/
opaque wrapPair : Nat → Nat → Nat → List Byte
/-- AES-256-XTS of R340: key, LBA, plain bytes. -/
opaque xtsEncrypt : Nat → Nat → List Byte → List Byte
/-- The inverse of xtsEncrypt under the same key and LBA (R340). -/
opaque xtsDecrypt : Nat → Nat → List Byte → List Byte
/-- An ECDSA P-384 signature by the device identity key (R337): slot and message. -/
opaque spdmSign : Nat → List Byte → List Byte
/-- The provisioned certificate chain of an SPDM slot (R337). -/
opaque certChain : Nat → List Byte
/-- The public key of the device's identity key pair (R337, R431). -/
opaque identityKey : List Byte
/-- The Boot ROM's own digest (entry 0 of R335). -/
opaque romDigest : List Byte
/-- The fuse hash of a key slot (R325). -/
opaque fuseKeyHash : Nat → List Byte
/-- Its version, in entry 0 (R335). -/
opaque romVersion : Nat
/-- What the decoder of R104 takes an error over four or more bytes of a granule for, by its pattern alone (the generator of
the code is not given): 1 an error of one byte, 2 poison, any other value uncorrectable. -/
opaque wideSyndrome : Nat → Nat
/-- The byte a decoder corrects in such a pattern, 0-63 of the granule, and the value it adds to it (R104). -/
opaque wideByte : Nat → Nat × Nat
/-- The chunk of a channel that a bank and row of the fitted DRAM hold (R103, R108), whose addressing the manual does not give. -/
opaque rowChunk : Nat → Nat → Nat
/-- The 256 KiB of an SRAM array in which a row lies, and the row in which a word lies (R130, R132): not given. -/
opaque rowUnit : Nat → Nat → Nat
opaque wordRow : Nat → Nat → Nat
/-- Protection information that the device generates for a block (R134), as NVMe defines it: data and LBA. -/
opaque piOf : List Byte → Nat → List Byte
/-- Bits of the NVMe controller registers, by offset in BAR0, that the manual does not give. -/
opaque nvmeReg : Nat → Nat

end Sys2Proof.Config
end

