-- ==== Sys2Proof/Machine/Regs.lean ====
section
/-!
DEFINITION. Machine/Regs.lean: the register fields of the manual's register tables, each under its own name
(register name, underscore, field name), with block, address, index strides, bit places, access type (R3), change
class (R27) and reset value. Reserved bits hold nothing and read 0 (R2).
-/
namespace Sys2Proof.Machine

/-- The 18 register blocks of the internal map in base order (R16, R322 UNSTART), and the BAR0 vendor area (R63). -/
inductive Blk where
  | hep | ciu | ldg | buf | btl | eng | mwr | chn | srv | mpd | sup | sec | efl | thm | cal | evr | plv | mir | va
  deriving DecidableEq, Repr

/-- Access types of R3. -/
inductive Acc where
  | rw | ro | w1c | w1s | wo
  deriving DecidableEq, Repr

/-- Change classes of R4-R6; none for RO fields (R27). -/
inductive Cls where
  | s | b | l | none
  deriving DecidableEq, Repr

/-- How a table gives a field's reset value: one value, or one that differs between the copies. -/
inductive Rst where
  /-- The same value in every copy. -/
  | val (v : Nat)
  /-- ENG_IQ_CTRL.RUN: 1 for IQ0, else 0. -/
  | firstCore
  /-- SRV_QE_CFG.TRIG_SRC by engine (R274). -/
  | trigSrc
  /-- SRV_QE_CFG.ACT by engine (R276). -/
  | loopAct
  /-- EVR_CODE.CODE by entry (R396). -/
  | evrCode
  /-- EVR_CODE.LIMIT by entry (R396). -/
  | evrLimit
  /-- EVR_CODE.KEEP by entry (R396). -/
  | evrKeep
  /-- A port's copy: the value for port 0; the copy of port 1 reads 0 until two-port mode gives it the value (R34). -/
  | port (v : Nat)
  deriving DecidableEq, Repr

/-- Where a field stands and how it behaves. Index i of a field stands at
base + (i mod count) × stride + (i ÷ count) × stride2. -/
structure FieldInfo where
  blk : Blk
  base : Nat
  stride : Nat
  count : Nat
  stride2 : Nat
  count2 : Nat
  hi : Nat
  lo : Nat
  acc : Acc
  cls : Cls
  reset : Rst
  deriving DecidableEq, Repr

/-- Every field of every register table of the manual that is not reserved. -/
inductive Fld where
  | VA_ID_LAYOUT | VA_ID_ID | SLOT_CAP_ABP | SLOT_CAP_PIP
  | SLOT_CAP_AIP | SLOT_CTL_PIC | SLOT_CTL_AIC | SLOT_CTL_ABP_AEN
  | SLOT_STS_ABP | SLOT_STS_BTN | SLOT_STS_PDS | PEER_INFO_SELF_ID
  | PEER_INFO_PW_ON | HEP_CTRL_EN | HEP_CTRL_ERR_IE | HEP_STATUS_LINK_UP
  | HEP_STATUS_SPEED | HEP_STATUS_WIDTH | HEP_STATUS_PORT_MODE | HEP_STATUS_CFG_ERR
  | HEP_CTO_CTO_TIME | HEP_CTO_QHOLD | HEP_TAG_STAT_QUAR | HEP_TAG_STAT_LATE
  | HEP_CMB_BASE_LO_BASE_LO | HEP_CMB_BASE_HI_BASE_HI | HEP_SLOT_BTN | HEP_SLOT_BTN_EV
  | HEP_SLOT_PRES_REL | HEP_SLOT_PIC | HEP_SLOT_AIC | HEP_SLOT_BTN_IE
  | HEP_PW_CTRL_PW_EN | HEP_PW_CTRL_COMMIT | HEP_PW_CTRL_COMMIT_PEND | HEP_PW_CTRL_MSG_IE
  | HEP_PW_CTRL_COAL | HEP_PW_CTRL_CNT_CLR | HEP_PW_ID_SELF_ID | HEP_PW_RANGE_RANGE_LO
  | HEP_PW_RANGE_RANGE_HI | HEP_PW_RING_LO_BASE_LO | HEP_PW_RING_HI_BASE_HI | HEP_PW_RING_SIZE_LOG2
  | HEP_PW_PROD_PROD | HEP_PW_CONS_CONS | HEP_PW_ASM_ASM_TO | HEP_PW_DROP_A_STRADDLE
  | HEP_PW_DROP_A_FULL | HEP_PW_DROP_B_CHECK | HEP_PW_DROP_B_TIMEOUT | CIU_CTRL_EN
  | CIU_CTRL_ERR_IE | CIU_CTRL_FETCH_HOLD | CIU_CTRL_HIT_EN | CIU_STATUS_CFG_ERR
  | CIU_STATUS_IDLE | CIU_STATUS_LIMIT | CIU_CFG_MAX_INFLIGHT | CIU_CFG_ADMIN_RSV
  | CIU_ARB_AB | CIU_ARB_LPW | CIU_ARB_MPW | CIU_ARB_HPW
  | CIU_TAG_STAT_STALE | CIU_TAG_STAT_IDCONF | CIU_OVL_STAT_INFLIGHT | CIU_OVL_STAT_WAITS
  | CIU_BIDX_LO_BASE_LO | CIU_BIDX_HI_BASE_HI | CIU_DATA_LO_BASE_LO | CIU_DATA_HI_BASE_HI
  | CIU_SLOTS_COUNT | CIU_BUF_REL_SLOT | CIU_BUF_STAT_USED | CIU_ABT_REQ_CID
  | CIU_ABT_REQ_SQID | CIU_ABT_REQ_GO | CIU_ABT_RES_DONE | CIU_ABT_RES_RESULT
  | CIU_ABT_RES_TAG | LDG_CTRL_EN | LDG_CTRL_MIRROR | LDG_CTRL_ERR_IE
  | LDG_STATUS_CFG_ERR | LDG_STATUS_NONFINAL | LDG_BASE_LO_BASE_LO | LDG_BASE_HI_BASE_HI
  | LDG_SEQ_LO_SEQ_LO | LDG_SEQ_HI_SEQ_HI | LDG_APPEND_INDEX | LDG_APPEND_SKIPS
  | LDG_HINFO_LO_NEWEST_LO | LDG_HINFO_HI_NEWEST_HI | LDG_HSTAT_NONFINAL | LDG_HSTAT_RESTORED
  | BUF_DDR_CTRL_EN | BUF_DDR_CTRL_ERR_IE | BUF_STATUS_CFG_ERR | BUF_STATUS_READY
  | BUF_DDR_CFG_SIZE | BUF_DDR_CFG_SCRUB_HRS | BUF_ECC_STAT_CE | BUF_ECC_STAT_UE
  | BUF_ECC_LOG_LO_ADDR_LO | BUF_ECC_LOG_HI_ADDR_HI | BUF_ECC_LOG_HI_UE | BUF_PPR_BANK
  | BUF_PPR_ROW | BUF_PPR_CH | BUF_PPR_RESULT | BUF_PPR_BUSY
  | BUF_PPR_GO | BUF_PPR_TIME_PGM | BUF_BRM_CTRL_EN | BUF_BRM_CTRL_DISABLE_PENDING
  | BUF_BRM_CTRL_PIP_EN | BUF_BRM_CTRL_STREAM_EN | BUF_BRM_STAT_DIRTY | BUF_BRM_STAT_EVQ
  | BUF_CMO_ADDR_LO_ADDR_LO | BUF_CMO_ADDR_HI_ADDR_HI | BUF_CMO_CTRL_COUNT | BUF_CMO_CTRL_OP
  | BUF_CMO_CTRL_MODE | BUF_CMO_CTRL_BUSY | BUF_CMO_CTRL_GO | BUF_CMO_LINE_LINE
  | BUF_FLIP_LO_MASK_LO | BUF_FLIP_HI_MASK_HI | BUF_FLIP_CTRL_CHECK | BUF_FLIP_CTRL_ARRAY
  | BUF_FLIP_CTRL_ARM | BUF_SRAM_ERR_ARRAY | BUF_SRAM_ERR_UE | BUF_SRAM_WORD_WORD
  | BUF_SRAM_CNT_CE | BUF_SRAM_CNT_UE | BUF_SRAM_INIT_ARRAY | BUF_SRAM_INIT_BUSY
  | BUF_SRAM_INIT_GO | BUF_SPARE_ARRAY | BUF_SPARE_ROW | BUF_SPARE_PERM
  | BUF_SPARE_BUSY | BUF_SPARE_GO | BUF_SPARE_STAT_FUSED | BUF_SPARE_STAT_SOFT
  | BUF_SPARE_STAT_RESULT | BTL_CTRL_EN | BTL_CTRL_ERR_IE | BTL_CTRL_EV_IE
  | BTL_STATUS_CFG_ERR | BTL_STATUS_DEGRADED | BTL_STATUS_MLOG_FULL | BTL_STATUS_RQ_NE
  | BTL_STATUS_RETIRE_EV | BTL_STATUS_DEG_EV | BTL_CFG_ACC_COUNT | BTL_CFG_ZONE_ACC
  | BTL_CFG_RADIUS | BTL_BT_LO_BASE_LO | BTL_BT_HI_BASE_HI | BTL_BT_COUNT_COUNT
  | BTL_ACC_LO_BASE_LO | BTL_ACC_HI_BASE_HI | BTL_MLOG_LO_BASE_LO | BTL_MLOG_HI_BASE_HI
  | BTL_MLOG_SIZE_LOG2 | BTL_MLOG_TAIL_INDEX | BTL_MLOG_TRIM_INDEX | BTL_MSEQ_LO_NEXT_LO
  | BTL_MSEQ_HI_NEXT_HI | BTL_GEN_LO_NEXT_LO | BTL_GEN_HI_NEXT_HI | BTL_APP_B_BODY
  | BTL_APP_CTRL_TYPE | BTL_APP_CTRL_FLAGS | BTL_APP_CTRL_RESULT | BTL_APP_CTRL_BUSY
  | BTL_APP_CTRL_GO | BTL_APP_MSEQ_LO_MSEQ_LO | BTL_APP_MSEQ_HI_MSEQ_HI | BTL_APP_GEN_LO_GEN_LO
  | BTL_APP_GEN_HI_GEN_HI | BTL_POOL_FREE | BTL_SPARE_SPARE | BTL_COMMITTED_COUNT
  | BTL_RESERVE_RESERVE | BTL_EXPO_THRESH | BTL_RQ_BAND | BTL_RQ_VALID
  | BTL_RQ_STAT_DEPTH | BTL_RQ_STAT_OVF | BTL_VFY_MARGIN | BTL_HEAD_FAIL_HEAD
  | BTL_HEAD_FAIL_GO | BTL_CNT_RETIRED | BTL_CNT_REFUSED | ENG_CTRL_ERR_IE
  | ENG_CTRL_EV_IE | ENG_STATUS_CFG_ERR | ENG_STATUS_FAULT_EV | ENG_STATUS_LOAD_EV
  | ENG_STATUS_LOADED | ENG_FUSED_LO_CS_LO | ENG_FUSED_HI_CS_HI | ENG_FUSED_HI_QE
  | ENG_FUSED_HI_IQ | ENG_CSL_SRC_LO_BASE_LO | ENG_CSL_SRC_HI_BASE_HI | ENG_CSL_CTRL_FIRST
  | ENG_CSL_CTRL_COUNT | ENG_CSL_CTRL_CLASS | ENG_CSL_CTRL_BUSY | ENG_CSL_CTRL_GO
  | ENG_CSL_STAT_RESULT | ENG_CSL_STAT_DONE | ENG_CSL_STAT_BAD_ADDR | ENG_SPARE_CS_CLASS
  | ENG_SPARE_CS_REPLACES | ENG_SPARE_CS_BIND | ENG_SPARE_QE_REPLACES | ENG_SPARE_QE_BIND
  | ENG_MTIME_LO_MTIME_LO | ENG_MTIME_HI_MTIME_HI | ENG_IPI_SET | ENG_IPI_CLR
  | ENG_IPI_PEND | ENG_MTIMECMP_LO_CMP_LO | ENG_MTIMECMP_HI_CMP_HI | ENG_IRQ_CLAIM_SOURCE
  | ENG_IRQ_THR_THR | ENG_IQ_CTRL_RUN | ENG_IQ_ENTRY_LO_ENTRY_LO | ENG_IQ_ENTRY_HI_ENTRY_HI
  | ENG_CS_CTRL_START | ENG_CS_CTRL_STOP | ENG_CS_CTRL_KILL | ENG_CS_CTRL_ABANDON
  | ENG_CS_CTRL_ENTRY | ENG_CS_STAT_STATE | ENG_CS_STAT_FAULT | ENG_CS_STAT_HELD
  | ENG_CS_STAT_BOUND | ENG_CS_STAT_UPC | ENG_QE_CTRL_START | ENG_QE_CTRL_STOP
  | ENG_QE_CTRL_STATE | ENG_QE_CTRL_FAULT | ENG_QE_CTRL_BOUND | ENG_IRQ_ROUTE_CORE
  | ENG_IRQ_ROUTE_PRIO | ENG_IRQ_ROUTE_PEND | ENG_IRQ_ROUTE_CLAIMED | MWR_CTRL_EN
  | MWR_CTRL_ERR_IE | MWR_CTRL_EV_IE | MWR_STATUS_CFG_ERR | MWR_STATUS_COMPACT
  | MWR_STATUS_RINGS_ON | MWR_HW_LO_BASE_LO | MWR_HW_HI_BASE_HI | MWR_DOORBELL_TAIL
  | MWR_DOORBELL_RING | MWR_DB_STAT_REJECTED | MWR_DB_STAT_DISCARDED | MWR_WITHDRAW_WD_TAG
  | MWR_WITHDRAW_WD_RING | MWR_WITHDRAW_WD_GO | MWR_WD_RES_DONE | MWR_WD_RES_BUSY
  | MWR_WD_RES_CHAINS | MWR_IRQ_PEND_PEND | MWR_ERR_PEND_ERR | MWR_RING_BASE_LO_BASE_LO
  | MWR_RING_BASE_HI_BASE_HI | MWR_RING_CFG_LOG2 | MWR_RING_CFG_WEIGHT | MWR_RING_CFG_BURST
  | MWR_RING_CFG_PRIO | MWR_RING_CTRL_EN | MWR_RING_CTRL_ABORT | MWR_RING_CTRL_RESUME
  | MWR_RING_CTRL_CLR_OVR | MWR_RING_STAT_STATE | MWR_RING_STAT_IDLE | MWR_RING_STAT_INPROG
  | MWR_RING_PTR_HEAD | MWR_RING_PTR_TAIL | MWR_RING_ERR_ERR_INDEX | MWR_RING_ERR_OVR_TAIL
  | MWR_RING_FETCH_FETCH | MWR_RING_FETCH_ERR_DETAIL | CHN_CTRL_EN | CHN_CTRL_ERR_IE
  | CHN_CTRL_EV_IE | CHN_CTRL_ADAPT_EN | CHN_CTRL_REPLAY_EN | CHN_CTRL_OUTER_EN
  | CHN_STATUS_CFG_ERR | CHN_STATUS_ARMED | CHN_STATUS_WRITING | CHN_STATUS_ON_TRACK
  | CHN_STATUS_LOCK | CHN_STATUS_LANE_READY | CHN_STATUS_DEC0_FLT | CHN_STATUS_DEC1_FLT
  | CHN_STATUS_DEC_EV | CHN_STATUS_STALL_EV | CHN_STATUS_PA_FLT | CHN_STATUS_HEAD
  | CHN_SYNC_SYNC_WIN | CHN_SYNC_RSYNC_WIN | CHN_SYNC_SM_TOL | CHN_SYNC_COMMIT
  | CHN_SYNC_COMMIT_PEND | CHN_REPLAY_REPLAY_MAX | CHN_REPLAY_DETSETS | CHN_REPLAY_ERASE_THR
  | CHN_REPLAY_WIDE_TOL | CHN_ASSIST_OK | CHN_WCLK_LOCK_TOL | CHN_ZONE_INDEX
  | CHN_ZONE_VALID | CHN_ZONE_SPT | CHN_STORE_HELD | CHN_CNT_A_REPLAYED
  | CHN_CNT_A_OUTER | CHN_CNT_B_UNREC | CHN_CNT_B_STALLS | CHN_CNT_C_WFAULT
  | CHN_CNT_C_SHIFTED | CHN_ADAPT_TAPS | CHN_PA_LINK_ERR | CHN_COM_CTRL_ASSIST_TYPE
  | CHN_COM_CTRL_ERR_IE | CHN_COM_STATUS_CFG_ERR | CHN_COM_STATUS_SPARE0_FLT | CHN_COM_STATUS_SPARE1_FLT
  | CHN_ZT_BANK_SEL | CHN_ZT_TIER | CHN_ZT_COMMIT | CHN_ZT_COMMIT_PEND
  | CHN_ZT_ACTIVE | CHN_ZT_TIER_NOW | CHN_SPARE_DEC_LANE | CHN_SPARE_DEC_DEC
  | CHN_SPARE_DEC_BIND | SRV_CTRL_EN | SRV_CTRL_ERR_IE | SRV_CTRL_EV_IE
  | SRV_STATUS_CFG_ERR | SRV_STATUS_FAULT_EV | SRV_STATUS_LATE_EV | SRV_STATUS_SIG_EV
  | SRV_STATUS_MATE_EV | SRV_CFG_WIN | SRV_CFG_MISS_MAX | SRV_CFG_MATE_SPAN
  | SRV_CFG_FLT_HOLD | SRV_CFG2_SEEK_TO | SRV_CFG2_SEEK_MIN | SRV_CFG2_SETTLE_TRK
  | SRV_CFG2_RAMP_W | SRV_ACT_CTRL_MATE_EN | SRV_ACT_CTRL_COMMIT | SRV_ACT_CTRL_COMMIT_PEND
  | SRV_ACT_LIM_ILIM | SRV_ACT_LIM_MALIM | SRV_ACT_OT_OT_WRITE | SRV_ACT_OT_OT_READ
  | SRV_ACT_OTC_OT_CNT_W | SRV_ACT_OTC_OT_CNT_R | SRV_ACT_STAT_MODE | SRV_ACT_STAT_ONT
  | SRV_ACT_STAT_PRI | SRV_ACT_STAT_MATE | SRV_ACT_STAT_SOFT | SRV_ACT_STAT_MISSES
  | SRV_ACT_POS_TRACK | SRV_ACT_PES_PES | SRV_ACT_PES_SUM | SRV_ACT_CNT_MISSED
  | SRV_ACT_CNT_TIDERR | SRV_HEAD_FITTED | SRV_HEAD_MATE_OK | SRV_HEAD_RADOFS
  | SRV_HEAD_WR_OFS | SRV_QE_CFG_TRIG_SRC | SRV_QE_CFG_ACT | SRV_QE_CFG_BANK
  | SRV_QE_CFG_COMMIT | SRV_QE_CFG_COMMIT_PEND | SRV_QE_CFG_PERIOD | SRV_QE_LIM_RUN_LIM
  | SRV_QE_STAT_LAST | SRV_QE_STAT_MAX | SRV_QE_STAT_CF | SRV_QE_STAT_SF
  | SRV_QE_STAT_SIG | SRV_QE_STAT_LATE | SRV_QE_STAT_MAX_CLR | SRV_QE_CNT_RUNS
  | SRV_QE_CNT_CLAMPS | MPD_CTRL_EN | MPD_CTRL_ERR_IE | MPD_CTRL_EV_IE
  | MPD_CTRL_BRAKE_EN | MPD_STATUS_CFG_ERR | MPD_STATUS_DRV_EV | MPD_STATUS_SPN_EV
  | MPD_STATUS_RET_EV | MPD_STATUS_LOWV | MPD_SPN_CFG_PP | MPD_SPN_CFG_ALIGN_MS
  | MPD_SPN_CFG_OL_RPM | MPD_SPN_CFG_COAST_TO | MPD_SPN_PWR_SPIN_W | MPD_SPN_PWR_TIER_W
  | MPD_SPN_PWR_REGEN_W | MPD_SPN_LOSS_RESID_THR | MPD_SPN_LOSS_BEMF_TO | MPD_SPN_LOSS_REACQ
  | MPD_SPN_TBL_BANK | MPD_SPN_TBL_COMMIT | MPD_SPN_TBL_COMMIT_PEND | MPD_SPN_TBL_ACTIVE
  | MPD_SPN_STAT_STATE | MPD_SPN_STAT_SRC | MPD_SPN_STAT_DIR | MPD_SPN_STAT_AT_SPEED
  | MPD_SPN_STAT_LOADOK | MPD_SPN_STAT_TIER_NOW | MPD_SPN_STAT_RPM | MPD_AOFS_AOFS
  | MPD_AOFS_VALID | MPD_VCM_CFG_COIL_MOHM | MPD_VCM_STAT_I_MEAS | MPD_VCM_STAT_TRIP
  | MPD_MA_CFG_SLEW | MPD_MA_FLT_FLT | MPD_RET_CFG_RET_VEL | MPD_RET_CFG_RET_I
  | MPD_RET_CFG_RET_TO | MPD_RET_CFG_PARK_MS | MPD_RET_STAT_RESULT | MPD_HARV_HARV_FLOOR
  | MPD_HARV_STAT_HARV_MJ | MPD_PA_B0_E | MPD_PA_B1_E | SUP_CTRL_ERR_IE
  | SUP_CTRL_EV_IE | SUP_STATUS_CFG_ERR | SUP_STATUS_LOWV | SUP_STATUS_LOWV_EV
  | SUP_STATUS_GOV_EV | SUP_STATUS_SLOE_EV | SUP_STATUS_RAIL_EV | SUP_STATUS_XT32
  | SUP_VIN_VIN_MV | SUP_VIN_PIN | SUP_PLIM_PIN_MAX | SUP_PLIM_BUDGET
  | SUP_PLIM_VCM_CAP_LOW | SUP_GOV_CAP | SUP_GOV_SPIN_CUT | SUP_SLOE_REQ_DOMAIN
  | SUP_SLOE_REQ_ON | SUP_SLOE_REQ_FLUSH | SUP_SLOE_REQ_GO | SUP_SLOE_STAT_HEAD
  | SUP_SLOE_STAT_BUSY | SUP_SLOE_STAT_WAITING | SUP_SLOE_STAT_DEPTH | SUP_SLOE_STAT_SUM
  | SUP_DOM_ON_ON | SUP_DOM_FLT_FLT | SUP_DSTATE_REQ | SUP_DSTATE_NOW
  | SUP_WAKE_EN | SUP_WAKE_STAT | SUP_WKT_MS | SUP_AONT_LO_T_LO
  | SUP_AONT_HI_T_HI | SUP_STRAP_PORT | SUP_STRAP_CLK | SUP_STRAP_RECOV
  | SUP_STRAP_PAIR | SUP_PLL_LOCK | SUP_RAIL_PG_PG | SUP_UNSTART_BLK
  | SUP_RST_KEY | SUP_RST_GO | SUP_RST_CAUSE_CAUSE | SUP_RST_CAUSE_CORE
  | SUP_RST_CAUSE_PWRCYC | SUP_RST_CAUSE_RESETS | SUP_WDT_CFG_TIMEOUT | SUP_WDT_CFG_GRACE
  | SUP_WDT_CFG_PAUSE | SUP_WDT_CFG_EN | SUP_WDT_KICK_KEY | SUP_SWDT_TIMEOUT
  | SUP_SWDT_EN | SUP_SWDT_KICK_KEY | SEC_CTRL_ERR_IE | SEC_CTRL_EV_IE
  | SEC_STATUS_CFG_ERR | SEC_STATUS_VFY_EV | SEC_STATUS_KEY_EV | SEC_LOCK_LOCK
  | SEC_BOOT_SLOT | SEC_BOOT_TRIAL | SEC_BOOT_RECOVERY | SEC_BOOT_DBG_LV
  | SEC_BOOT_KEY | SEC_CHAIN_CHAIN | SEC_ARB_COUNT | SEC_ARB_BOOTED
  | SEC_ARB_PRESENT | SEC_ARB_ADV_CLASS | SEC_ARB_ADV_SVN | SEC_ARB_ADV_REFUSED
  | SEC_ARB_ADV_DONE | SEC_ARB_ADV_BUSY | SEC_ARB_ADV_GO | SEC_KEYREV_REVOKED
  | SEC_KEYREV_SLOT | SEC_KEYREV_GO | SEC_UID_LO_UID_LO | SEC_UID_HI_UID_HI
  | SEC_VFY_LO_BASE_LO | SEC_VFY_HI_BASE_HI | SEC_VFY_CTRL_CLASS | SEC_VFY_CTRL_RESULT
  | SEC_VFY_CTRL_DONE | SEC_VFY_CTRL_BUSY | SEC_VFY_CTRL_GO | SEC_KEY_CTRL_NSIDX
  | SEC_KEY_CTRL_OP | SEC_KEY_CTRL_RESULT | SEC_KEY_CTRL_DONE | SEC_KEY_CTRL_BUSY
  | SEC_KEY_CTRL_GO | SEC_KEY_LD_LO_LOADED_LO | SEC_KEY_LD_HI_LOADED_HI | SEC_WRAP_WRAP
  | EFL_CTRL_ERR_IE | EFL_CTRL_EV_IE | EFL_STATUS_CFG_ERR | EFL_STATUS_OP_EV
  | EFL_STATUS_LEVEL | EFL_STATUS_JROW | EFL_STATUS_JFREE | EFL_RDCFG_FSEL
  | EFL_RDCFG_WS | EFL_RDCFG_VTRACK | EFL_RDCFG_PREFETCH | EFL_RDCFG_COMMIT
  | EFL_RDCFG_COMMIT_PEND | EFL_UNLOCK_KEY | EFL_ADDR_OFFSET | EFL_CMD_CODE
  | EFL_CMD_COUNT | EFL_CMD_SUSPEND | EFL_CMD_RESUME | EFL_CMD_GO
  | EFL_RES_RESULT | EFL_RES_DONE | EFL_RES_BUSY | EFL_RES_SUSPENDED
  | EFL_WP_WP | EFL_ECC_CE | EFL_ECC_UE | EFL_ECC_ADDR_OFFSET
  | EFL_RDP_TARGET | EFL_RDP_BUSY | EFL_RDP_GO | EFL_PBUF_DATA
  | THM_CTRL_ERR_IE | THM_CTRL_EV_IE | THM_CTRL_ASSIST_OWN | THM_STATUS_CFG_ERR
  | THM_STATUS_WARN | THM_STATUS_WARN_EV | THM_STATUS_LVL_EV | THM_STATUS_SENS_EV
  | THM_CONV_REQ | THM_CONV_PEND | THM_SCAN_MASK | THM_SCAN_PERIOD
  | THM_THR_THR_WARN | THM_THR_THR_CRIT | THM_THR2_THROT_ON | THM_THR2_THR_HOLD
  | THM_THR3_HYST | THM_THR3_STEP | THM_THR3_RESTART_DT | THM_THR3_MIN_OFF
  | THM_MAX_TEMP | THM_MAX_SENSOR | THM_MAX_VALID | THM_MAX_MAXMASK_LO
  | THM_LVL_LEVEL | THM_LVL_LVL_HOLD | THM_LVL_MIN_LVL | THM_LVL_MAXMASK_15
  | THM_LVL_SLOT_MS | THM_HOLD_HELD | THM_HOLD_FW_FW | THM_COMP_RC_TC
  | THM_COMP_REF_TC | THM_TRIP_A_TEMP | THM_TRIP_A_SENSOR | THM_TRIP_A_TRIPS
  | THM_TRIP_A_VALID | THM_TRIP_B_AONT | THM_TEMP_TEMP | THM_TEMP_VALID
  | CAL_CTRL_EN | CAL_CTRL_ERR_IE | CAL_CTRL_EV_IE | CAL_STATUS_CFG_ERR
  | CAL_STATUS_FW_EV | CAL_STATUS_REJ_EV | CAL_STATUS_STARVE_EV | CAL_CFG_RING
  | CAL_CFG_STARVE | CAL_FW_ITEM | CAL_FW_WAIT | CAL_SUBMIT_VALUE
  | CAL_SUBMIT_DISCARD | CAL_SUBMIT_GO | CAL_ICFG_VALID | CAL_ICFG_MEAS
  | CAL_ICFG_DEST | CAL_ICFG_UNIT | CAL_ICFG_REPEATS | CAL_ICFG_COUNT
  | CAL_ISCH_PERIOD | CAL_ISCH_DT | CAL_ISCH_DT_HARD | CAL_ITOL_TOL
  | CAL_ITOL_DUE | CAL_ICH_LO_BASE_LO | CAL_ICH_HI_BASE_HI | CAL_ICH_HI_LEN
  | CAL_IRES_VALUE | CAL_IRES_TEMP | CAL_ISTAT_STATE | CAL_ISTAT_DONE_N
  | CAL_ISTAT_REJ | CAL_ISTAT_ACCEPTS | EVR_CTRL_EN | EVR_CTRL_ERR_IE
  | EVR_CTRL_EV_IE | EVR_CTRL_FREEZE | EVR_STATUS_CFG_ERR | EVR_STATUS_READY
  | EVR_STATUS_KEEP_FULL | EVR_STATUS_DROP_EV | EVR_STATUS_CLR_EV | EVR_STATUS_QDEPTH
  | EVR_CFG_DEF_LIMIT | EVR_CFG_FRZ_TO | EVR_SEQ_NEXT | EVR_OPMIN_OP_MIN
  | EVR_CYCLES_CYCLES | EVR_CNT_DROPPED | EVR_CNT_SUPPRESSED | EVR_SUB_A_ARG
  | EVR_SUB_CTRL_CODE | EVR_SUB_CTRL_KEEP | EVR_SUB_CTRL_GO | EVR_CLR_KEY
  | EVR_CLR_AREAS | EVR_CLR_RESULT | EVR_CLR_BUSY | EVR_CLR_GO
  | EVR_CODE_CODE | EVR_CODE_LIMIT | EVR_CODE_KEEP | PLV_CTRL_EN
  | PLV_CTRL_ERR_IE | PLV_CTRL_EV_IE | PLV_STATUS_CFG_ERR | PLV_STATUS_READY
  | PLV_STATUS_ARMED | PLV_STATUS_ENERGY_OK | PLV_STATUS_IN_FORCE | PLV_STATUS_FROZEN
  | PLV_STATUS_NAND_EV | PLV_STATUS_FORCE_EV | PLV_CFG_PLD_THR | PLV_CFG_MIN_RPM
  | PLV_CFG_DIES | PLV_NAND_MODE | PLV_NAND_SLC_CMD | PLV_NAND_AREA_BLKS
  | PLV_GEOM_PPB | PLV_GEOM_BLOCKS | PLV_PROT_LO_BASE_LO | PLV_PROT_HI_BASE_HI
  | PLV_PROT_SIZE_PROT_MIB | PLV_IDX_LO_BASE_LO | PLV_IDX_HI_BASE_HI | PLV_AREA_NEWEST
  | PLV_AREA_NEXT | PLV_IMG_LO_SEQ_LO | PLV_IMG_HI_SEQ_HI | PLV_RES_KIND
  | PLV_RES_CONSUMED | PLV_RES_COMPLETE | PLV_RES_UNCORR | PLV_CNT_USABLE
  | PLV_CNT_PFAIL | PLV_BBM_BAD | MIR_CTRL_EN | MIR_CTRL_ERR_IE
  | MIR_CTRL_EV_IE | MIR_CTRL_ALIVE | MIR_CTRL_TAKE_AUTO | MIR_CTRL_TAKE
  | MIR_CTRL_FENCE | MIR_CTRL_KX_OK | MIR_STATUS_CFG_ERR | MIR_STATUS_LINK_UP
  | MIR_STATUS_SYNCED | MIR_STATUS_OWNER | MIR_STATUS_PARTNER_ALIVE | MIR_STATUS_FENCED
  | MIR_STATUS_TAKE_EV | MIR_STATUS_LINK_EV | MIR_STATUS_OWN | MIR_CFG_RETRY_MAX
  | MIR_CFG_ACK_TO | MIR_CFG_STATE_WORDS | MIR_CFG_TK_WIN | MIR_CFG_RESYNC_GBS
  | MIR_TERM_TERM | MIR_CNT_RETRIES | MIR_CNT_TERM_DROP | MIR_RESYNC_BUSY
  | MIR_RESYNC_GO | MIR_KX_NSIDX | MIR_KX_DONE | MIR_KX_BUSY
  | MIR_KX_GO
  deriving DecidableEq, Repr

/-- The register tables, field by field (R73, R99-R101, R136, R165, R195, R218, R246, R247, R276, R277, R295, R322,
R345, R367, R388, R389, R405, R426, R445). -/
def Fld.info : Fld → FieldInfo
  | .VA_ID_LAYOUT => ⟨.va, 0x4000, 0, 1, 1099511627776, 2, 15, 0, .ro, .none, .port 1⟩
  | .VA_ID_ID => ⟨.va, 0x4000, 0, 1, 1099511627776, 2, 31, 16, .ro, .none, .port 0x4820⟩
  | .SLOT_CAP_ABP => ⟨.va, 0x4010, 0, 1, 1099511627776, 2, 0, 0, .ro, .none, .port 1⟩
  | .SLOT_CAP_PIP => ⟨.va, 0x4010, 0, 1, 1099511627776, 2, 1, 1, .ro, .none, .port 1⟩
  | .SLOT_CAP_AIP => ⟨.va, 0x4010, 0, 1, 1099511627776, 2, 2, 2, .ro, .none, .port 1⟩
  | .SLOT_CTL_PIC => ⟨.va, 0x4014, 0, 1, 1099511627776, 2, 1, 0, .rw, .l, .port 1⟩
  | .SLOT_CTL_AIC => ⟨.va, 0x4014, 0, 1, 1099511627776, 2, 3, 2, .rw, .l, .port 3⟩
  | .SLOT_CTL_ABP_AEN => ⟨.va, 0x4014, 0, 1, 1099511627776, 2, 4, 4, .rw, .l, .val 0⟩
  | .SLOT_STS_ABP => ⟨.va, 0x4018, 0, 1, 1099511627776, 2, 0, 0, .w1c, .l, .val 0⟩
  | .SLOT_STS_BTN => ⟨.va, 0x4018, 0, 1, 1099511627776, 2, 1, 1, .ro, .none, .val 0⟩
  | .SLOT_STS_PDS => ⟨.va, 0x4018, 0, 1, 1099511627776, 2, 2, 2, .ro, .none, .port 1⟩
  | .PEER_INFO_SELF_ID => ⟨.va, 0x4020, 0, 1, 1099511627776, 2, 13, 0, .ro, .none, .val 0⟩
  | .PEER_INFO_PW_ON => ⟨.va, 0x4020, 0, 1, 1099511627776, 2, 16, 16, .ro, .none, .val 0⟩
  | .HEP_CTRL_EN => ⟨.hep, 0x40000000, 0, 1, 2048, 2, 0, 0, .rw, .l, .val 0⟩
  | .HEP_CTRL_ERR_IE => ⟨.hep, 0x40000000, 0, 1, 2048, 2, 1, 1, .rw, .l, .val 0⟩
  | .HEP_STATUS_LINK_UP => ⟨.hep, 0x40000004, 0, 1, 2048, 2, 0, 0, .ro, .none, .val 0⟩
  | .HEP_STATUS_SPEED => ⟨.hep, 0x40000004, 0, 1, 2048, 2, 3, 1, .ro, .none, .val 0⟩
  | .HEP_STATUS_WIDTH => ⟨.hep, 0x40000004, 0, 1, 2048, 2, 6, 4, .ro, .none, .val 0⟩
  | .HEP_STATUS_PORT_MODE => ⟨.hep, 0x40000004, 0, 1, 2048, 2, 7, 7, .ro, .none, .val 0⟩
  | .HEP_STATUS_CFG_ERR => ⟨.hep, 0x40000004, 0, 1, 2048, 2, 8, 8, .w1c, .l, .val 0⟩
  | .HEP_CTO_CTO_TIME => ⟨.hep, 0x40000010, 0, 1, 2048, 2, 10, 0, .rw, .l, .port 0x140⟩
  | .HEP_CTO_QHOLD => ⟨.hep, 0x40000010, 0, 1, 2048, 2, 27, 16, .rw, .l, .port 0x3E8⟩
  | .HEP_TAG_STAT_QUAR => ⟨.hep, 0x40000014, 0, 1, 2048, 2, 9, 0, .ro, .none, .val 0⟩
  | .HEP_TAG_STAT_LATE => ⟨.hep, 0x40000014, 0, 1, 2048, 2, 31, 16, .ro, .none, .val 0⟩
  | .HEP_CMB_BASE_LO_BASE_LO => ⟨.hep, 0x40000020, 0, 1, 2048, 2, 31, 26, .rw, .s, .val 0⟩
  | .HEP_CMB_BASE_HI_BASE_HI => ⟨.hep, 0x40000024, 0, 1, 2048, 2, 15, 0, .rw, .s, .val 0⟩
  | .HEP_SLOT_BTN => ⟨.hep, 0x40000030, 0, 1, 2048, 2, 0, 0, .ro, .none, .val 0⟩
  | .HEP_SLOT_BTN_EV => ⟨.hep, 0x40000030, 0, 1, 2048, 2, 1, 1, .w1c, .l, .val 0⟩
  | .HEP_SLOT_PRES_REL => ⟨.hep, 0x40000030, 0, 1, 2048, 2, 2, 2, .rw, .l, .val 0⟩
  | .HEP_SLOT_PIC => ⟨.hep, 0x40000030, 0, 1, 2048, 2, 4, 3, .ro, .none, .port 1⟩
  | .HEP_SLOT_AIC => ⟨.hep, 0x40000030, 0, 1, 2048, 2, 6, 5, .ro, .none, .port 3⟩
  | .HEP_SLOT_BTN_IE => ⟨.hep, 0x40000030, 0, 1, 2048, 2, 7, 7, .rw, .l, .val 0⟩
  | .HEP_PW_CTRL_PW_EN => ⟨.hep, 0x40000040, 0, 1, 2048, 2, 0, 0, .rw, .b, .val 0⟩
  | .HEP_PW_CTRL_COMMIT => ⟨.hep, 0x40000040, 0, 1, 2048, 2, 1, 1, .wo, .l, .val 0⟩
  | .HEP_PW_CTRL_COMMIT_PEND => ⟨.hep, 0x40000040, 0, 1, 2048, 2, 2, 2, .ro, .none, .val 0⟩
  | .HEP_PW_CTRL_MSG_IE => ⟨.hep, 0x40000040, 0, 1, 2048, 2, 3, 3, .rw, .l, .val 0⟩
  | .HEP_PW_CTRL_COAL => ⟨.hep, 0x40000040, 0, 1, 2048, 2, 11, 4, .rw, .l, .val 0⟩
  | .HEP_PW_CTRL_CNT_CLR => ⟨.hep, 0x40000040, 0, 1, 2048, 2, 12, 12, .wo, .l, .val 0⟩
  | .HEP_PW_ID_SELF_ID => ⟨.hep, 0x40000044, 0, 1, 2048, 2, 13, 0, .rw, .b, .val 0⟩
  | .HEP_PW_RANGE_RANGE_LO => ⟨.hep, 0x40000048, 0, 1, 2048, 2, 13, 0, .rw, .b, .val 0⟩
  | .HEP_PW_RANGE_RANGE_HI => ⟨.hep, 0x40000048, 0, 1, 2048, 2, 29, 16, .rw, .b, .port 0x3FFF⟩
  | .HEP_PW_RING_LO_BASE_LO => ⟨.hep, 0x4000004C, 0, 1, 2048, 2, 31, 6, .rw, .b, .val 0⟩
  | .HEP_PW_RING_HI_BASE_HI => ⟨.hep, 0x40000050, 0, 1, 2048, 2, 15, 0, .rw, .b, .val 0⟩
  | .HEP_PW_RING_SIZE_LOG2 => ⟨.hep, 0x40000054, 0, 1, 2048, 2, 4, 0, .rw, .b, .port 6⟩
  | .HEP_PW_PROD_PROD => ⟨.hep, 0x40000058, 0, 1, 2048, 2, 15, 0, .ro, .none, .val 0⟩
  | .HEP_PW_CONS_CONS => ⟨.hep, 0x4000005C, 0, 1, 2048, 2, 15, 0, .rw, .l, .val 0⟩
  | .HEP_PW_ASM_ASM_TO => ⟨.hep, 0x40000060, 0, 1, 2048, 2, 5, 0, .rw, .l, .port 8⟩
  | .HEP_PW_DROP_A_STRADDLE => ⟨.hep, 0x40000064, 0, 1, 2048, 2, 15, 0, .ro, .none, .val 0⟩
  | .HEP_PW_DROP_A_FULL => ⟨.hep, 0x40000064, 0, 1, 2048, 2, 31, 16, .ro, .none, .val 0⟩
  | .HEP_PW_DROP_B_CHECK => ⟨.hep, 0x40000068, 0, 1, 2048, 2, 15, 0, .ro, .none, .val 0⟩
  | .HEP_PW_DROP_B_TIMEOUT => ⟨.hep, 0x40000068, 0, 1, 2048, 2, 31, 16, .ro, .none, .val 0⟩
  | .CIU_CTRL_EN => ⟨.ciu, 0x40100000, 0, 1, 0, 1, 0, 0, .rw, .l, .val 0⟩
  | .CIU_CTRL_ERR_IE => ⟨.ciu, 0x40100000, 0, 1, 0, 1, 1, 1, .rw, .l, .val 0⟩
  | .CIU_CTRL_FETCH_HOLD => ⟨.ciu, 0x40100000, 0, 1, 0, 1, 2, 2, .rw, .l, .val 0⟩
  | .CIU_CTRL_HIT_EN => ⟨.ciu, 0x40100000, 0, 1, 0, 1, 3, 3, .rw, .l, .val 1⟩
  | .CIU_STATUS_CFG_ERR => ⟨.ciu, 0x40100004, 0, 1, 0, 1, 0, 0, .w1c, .l, .val 0⟩
  | .CIU_STATUS_IDLE => ⟨.ciu, 0x40100004, 0, 1, 0, 1, 1, 1, .ro, .none, .val 1⟩
  | .CIU_STATUS_LIMIT => ⟨.ciu, 0x40100004, 0, 1, 0, 1, 2, 2, .ro, .none, .val 0⟩
  | .CIU_CFG_MAX_INFLIGHT => ⟨.ciu, 0x40100008, 0, 1, 0, 1, 13, 0, .rw, .s, .val 0x2000⟩
  | .CIU_CFG_ADMIN_RSV => ⟨.ciu, 0x40100008, 0, 1, 0, 1, 23, 16, .rw, .s, .val 0x20⟩
  | .CIU_ARB_AB => ⟨.ciu, 0x4010000C, 0, 1, 0, 1, 2, 0, .rw, .l, .val 0⟩
  | .CIU_ARB_LPW => ⟨.ciu, 0x4010000C, 0, 1, 0, 1, 15, 8, .rw, .l, .val 0⟩
  | .CIU_ARB_MPW => ⟨.ciu, 0x4010000C, 0, 1, 0, 1, 23, 16, .rw, .l, .val 0⟩
  | .CIU_ARB_HPW => ⟨.ciu, 0x4010000C, 0, 1, 0, 1, 31, 24, .rw, .l, .val 0⟩
  | .CIU_TAG_STAT_STALE => ⟨.ciu, 0x40100010, 0, 1, 0, 1, 15, 0, .ro, .none, .val 0⟩
  | .CIU_TAG_STAT_IDCONF => ⟨.ciu, 0x40100010, 0, 1, 0, 1, 31, 16, .ro, .none, .val 0⟩
  | .CIU_OVL_STAT_INFLIGHT => ⟨.ciu, 0x40100014, 0, 1, 0, 1, 13, 0, .ro, .none, .val 0⟩
  | .CIU_OVL_STAT_WAITS => ⟨.ciu, 0x40100014, 0, 1, 0, 1, 31, 16, .ro, .none, .val 0⟩
  | .CIU_BIDX_LO_BASE_LO => ⟨.ciu, 0x40100020, 0, 1, 0, 1, 31, 20, .rw, .s, .val 0⟩
  | .CIU_BIDX_HI_BASE_HI => ⟨.ciu, 0x40100024, 0, 1, 0, 1, 15, 0, .rw, .s, .val 0⟩
  | .CIU_DATA_LO_BASE_LO => ⟨.ciu, 0x40100028, 0, 1, 0, 1, 31, 6, .rw, .s, .val 0⟩
  | .CIU_DATA_HI_BASE_HI => ⟨.ciu, 0x4010002C, 0, 1, 0, 1, 15, 0, .rw, .s, .val 0⟩
  | .CIU_SLOTS_COUNT => ⟨.ciu, 0x40100030, 0, 1, 0, 1, 16, 0, .rw, .s, .val 0x1E000⟩
  | .CIU_BUF_REL_SLOT => ⟨.ciu, 0x40100034, 0, 1, 0, 1, 16, 0, .wo, .l, .val 0⟩
  | .CIU_BUF_STAT_USED => ⟨.ciu, 0x40100038, 0, 1, 0, 1, 16, 0, .ro, .none, .val 0⟩
  | .CIU_ABT_REQ_CID => ⟨.ciu, 0x40100040, 0, 1, 0, 1, 15, 0, .rw, .l, .val 0⟩
  | .CIU_ABT_REQ_SQID => ⟨.ciu, 0x40100040, 0, 1, 0, 1, 26, 16, .rw, .l, .val 0⟩
  | .CIU_ABT_REQ_GO => ⟨.ciu, 0x40100040, 0, 1, 0, 1, 31, 31, .wo, .l, .val 0⟩
  | .CIU_ABT_RES_DONE => ⟨.ciu, 0x40100044, 0, 1, 0, 1, 0, 0, .ro, .none, .val 0⟩
  | .CIU_ABT_RES_RESULT => ⟨.ciu, 0x40100044, 0, 1, 0, 1, 2, 1, .ro, .none, .val 0⟩
  | .CIU_ABT_RES_TAG => ⟨.ciu, 0x40100044, 0, 1, 0, 1, 31, 16, .ro, .none, .val 0⟩
  | .LDG_CTRL_EN => ⟨.ldg, 0x40200000, 0, 1, 0, 1, 0, 0, .rw, .l, .val 0⟩
  | .LDG_CTRL_MIRROR => ⟨.ldg, 0x40200000, 0, 1, 0, 1, 1, 1, .rw, .s, .val 0⟩
  | .LDG_CTRL_ERR_IE => ⟨.ldg, 0x40200000, 0, 1, 0, 1, 2, 2, .rw, .l, .val 0⟩
  | .LDG_STATUS_CFG_ERR => ⟨.ldg, 0x40200004, 0, 1, 0, 1, 0, 0, .w1c, .l, .val 0⟩
  | .LDG_STATUS_NONFINAL => ⟨.ldg, 0x40200004, 0, 1, 0, 1, 29, 16, .ro, .none, .val 0⟩
  | .LDG_BASE_LO_BASE_LO => ⟨.ldg, 0x40200008, 0, 1, 0, 1, 31, 19, .rw, .s, .val 0⟩
  | .LDG_BASE_HI_BASE_HI => ⟨.ldg, 0x4020000C, 0, 1, 0, 1, 15, 0, .rw, .s, .val 0⟩
  | .LDG_SEQ_LO_SEQ_LO => ⟨.ldg, 0x40200010, 0, 1, 0, 1, 31, 0, .rw, .s, .val 1⟩
  | .LDG_SEQ_HI_SEQ_HI => ⟨.ldg, 0x40200014, 0, 1, 0, 1, 15, 0, .rw, .s, .val 0⟩
  | .LDG_APPEND_INDEX => ⟨.ldg, 0x40200018, 0, 1, 0, 1, 13, 0, .ro, .none, .val 0⟩
  | .LDG_APPEND_SKIPS => ⟨.ldg, 0x40200018, 0, 1, 0, 1, 31, 16, .ro, .none, .val 0⟩
  | .LDG_HINFO_LO_NEWEST_LO => ⟨.va, 0x4100, 0, 1, 1099511627776, 2, 31, 0, .ro, .none, .val 0⟩
  | .LDG_HINFO_HI_NEWEST_HI => ⟨.va, 0x4104, 0, 1, 1099511627776, 2, 15, 0, .ro, .none, .val 0⟩
  | .LDG_HSTAT_NONFINAL => ⟨.va, 0x4108, 0, 1, 1099511627776, 2, 13, 0, .ro, .none, .val 0⟩
  | .LDG_HSTAT_RESTORED => ⟨.va, 0x4108, 0, 1, 1099511627776, 2, 16, 16, .ro, .none, .val 0⟩
  | .BUF_DDR_CTRL_EN => ⟨.buf, 0x40300000, 0, 1, 0, 1, 0, 0, .rw, .l, .val 0⟩
  | .BUF_DDR_CTRL_ERR_IE => ⟨.buf, 0x40300000, 0, 1, 0, 1, 1, 1, .rw, .l, .val 0⟩
  | .BUF_STATUS_CFG_ERR => ⟨.buf, 0x40300004, 0, 1, 0, 1, 0, 0, .w1c, .l, .val 0⟩
  | .BUF_STATUS_READY => ⟨.buf, 0x40300004, 0, 1, 0, 1, 1, 1, .ro, .none, .val 0⟩
  | .BUF_DDR_CFG_SIZE => ⟨.buf, 0x40300008, 0, 1, 0, 1, 1, 0, .rw, .s, .val 3⟩
  | .BUF_DDR_CFG_SCRUB_HRS => ⟨.buf, 0x40300008, 0, 1, 0, 1, 15, 8, .rw, .l, .val 0x18⟩
  | .BUF_ECC_STAT_CE => ⟨.buf, 0x40300010, 0, 1, 0, 1, 15, 0, .ro, .none, .val 0⟩
  | .BUF_ECC_STAT_UE => ⟨.buf, 0x40300010, 0, 1, 0, 1, 31, 16, .ro, .none, .val 0⟩
  | .BUF_ECC_LOG_LO_ADDR_LO => ⟨.buf, 0x40300014, 0, 1, 0, 1, 31, 6, .ro, .none, .val 0⟩
  | .BUF_ECC_LOG_HI_ADDR_HI => ⟨.buf, 0x40300018, 0, 1, 0, 1, 15, 0, .ro, .none, .val 0⟩
  | .BUF_ECC_LOG_HI_UE => ⟨.buf, 0x40300018, 0, 1, 0, 1, 16, 16, .ro, .none, .val 0⟩
  | .BUF_PPR_BANK => ⟨.buf, 0x40300020, 0, 1, 0, 1, 3, 0, .rw, .l, .val 0⟩
  | .BUF_PPR_ROW => ⟨.buf, 0x40300020, 0, 1, 0, 1, 21, 4, .rw, .l, .val 0⟩
  | .BUF_PPR_CH => ⟨.buf, 0x40300020, 0, 1, 0, 1, 22, 22, .rw, .l, .val 0⟩
  | .BUF_PPR_RESULT => ⟨.buf, 0x40300020, 0, 1, 0, 1, 25, 24, .ro, .none, .val 0⟩
  | .BUF_PPR_BUSY => ⟨.buf, 0x40300020, 0, 1, 0, 1, 26, 26, .ro, .none, .val 0⟩
  | .BUF_PPR_GO => ⟨.buf, 0x40300020, 0, 1, 0, 1, 31, 31, .wo, .l, .val 0⟩
  | .BUF_PPR_TIME_PGM => ⟨.buf, 0x40300024, 0, 1, 0, 1, 7, 0, .rw, .l, .val 0x64⟩
  | .BUF_BRM_CTRL_EN => ⟨.buf, 0x40300030, 0, 1, 0, 1, 0, 0, .rw, .l, .val 0⟩
  | .BUF_BRM_CTRL_DISABLE_PENDING => ⟨.buf, 0x40300030, 0, 1, 0, 1, 1, 1, .ro, .none, .val 0⟩
  | .BUF_BRM_CTRL_PIP_EN => ⟨.buf, 0x40300030, 0, 1, 0, 1, 2, 2, .rw, .l, .val 1⟩
  | .BUF_BRM_CTRL_STREAM_EN => ⟨.buf, 0x40300030, 0, 1, 0, 1, 3, 3, .rw, .l, .val 1⟩
  | .BUF_BRM_STAT_DIRTY => ⟨.buf, 0x40300034, 0, 1, 0, 1, 16, 0, .ro, .none, .val 0⟩
  | .BUF_BRM_STAT_EVQ => ⟨.buf, 0x40300034, 0, 1, 0, 1, 21, 17, .ro, .none, .val 0⟩
  | .BUF_CMO_ADDR_LO_ADDR_LO => ⟨.buf, 0x40300040, 0, 1, 0, 1, 31, 7, .rw, .l, .val 0⟩
  | .BUF_CMO_ADDR_HI_ADDR_HI => ⟨.buf, 0x40300044, 0, 1, 0, 1, 15, 0, .rw, .l, .val 0⟩
  | .BUF_CMO_CTRL_COUNT => ⟨.buf, 0x40300048, 0, 1, 0, 1, 16, 0, .rw, .l, .val 1⟩
  | .BUF_CMO_CTRL_OP => ⟨.buf, 0x40300048, 0, 1, 0, 1, 18, 17, .rw, .l, .val 0⟩
  | .BUF_CMO_CTRL_MODE => ⟨.buf, 0x40300048, 0, 1, 0, 1, 19, 19, .rw, .l, .val 0⟩
  | .BUF_CMO_CTRL_BUSY => ⟨.buf, 0x40300048, 0, 1, 0, 1, 30, 30, .ro, .none, .val 0⟩
  | .BUF_CMO_CTRL_GO => ⟨.buf, 0x40300048, 0, 1, 0, 1, 31, 31, .wo, .l, .val 0⟩
  | .BUF_CMO_LINE_LINE => ⟨.buf, 0x4030004C, 0, 1, 0, 1, 15, 0, .rw, .l, .val 0⟩
  | .BUF_FLIP_LO_MASK_LO => ⟨.buf, 0x40300060, 0, 1, 0, 1, 31, 0, .rw, .l, .val 0⟩
  | .BUF_FLIP_HI_MASK_HI => ⟨.buf, 0x40300064, 0, 1, 0, 1, 31, 0, .rw, .l, .val 0⟩
  | .BUF_FLIP_CTRL_CHECK => ⟨.buf, 0x40300068, 0, 1, 0, 1, 7, 0, .rw, .l, .val 0⟩
  | .BUF_FLIP_CTRL_ARRAY => ⟨.buf, 0x40300068, 0, 1, 0, 1, 15, 8, .rw, .l, .val 0⟩
  | .BUF_FLIP_CTRL_ARM => ⟨.buf, 0x40300068, 0, 1, 0, 1, 16, 16, .rw, .l, .val 0⟩
  | .BUF_SRAM_ERR_ARRAY => ⟨.buf, 0x40300070, 0, 1, 0, 1, 7, 0, .ro, .none, .val 0⟩
  | .BUF_SRAM_ERR_UE => ⟨.buf, 0x40300070, 0, 1, 0, 1, 8, 8, .w1c, .l, .val 0⟩
  | .BUF_SRAM_WORD_WORD => ⟨.buf, 0x40300074, 0, 1, 0, 1, 22, 0, .ro, .none, .val 0⟩
  | .BUF_SRAM_CNT_CE => ⟨.buf, 0x40300078, 0, 1, 0, 1, 15, 0, .ro, .none, .val 0⟩
  | .BUF_SRAM_CNT_UE => ⟨.buf, 0x40300078, 0, 1, 0, 1, 31, 16, .ro, .none, .val 0⟩
  | .BUF_SRAM_INIT_ARRAY => ⟨.buf, 0x40300080, 0, 1, 0, 1, 7, 0, .rw, .l, .val 0⟩
  | .BUF_SRAM_INIT_BUSY => ⟨.buf, 0x40300080, 0, 1, 0, 1, 30, 30, .ro, .none, .val 0⟩
  | .BUF_SRAM_INIT_GO => ⟨.buf, 0x40300080, 0, 1, 0, 1, 31, 31, .wo, .l, .val 0⟩
  | .BUF_SPARE_ARRAY => ⟨.buf, 0x40300090, 0, 1, 0, 1, 7, 0, .rw, .l, .val 0⟩
  | .BUF_SPARE_ROW => ⟨.buf, 0x40300090, 0, 1, 0, 1, 23, 8, .rw, .l, .val 0⟩
  | .BUF_SPARE_PERM => ⟨.buf, 0x40300090, 0, 1, 0, 1, 29, 29, .rw, .l, .val 0⟩
  | .BUF_SPARE_BUSY => ⟨.buf, 0x40300090, 0, 1, 0, 1, 30, 30, .ro, .none, .val 0⟩
  | .BUF_SPARE_GO => ⟨.buf, 0x40300090, 0, 1, 0, 1, 31, 31, .wo, .l, .val 0⟩
  | .BUF_SPARE_STAT_FUSED => ⟨.buf, 0x40300094, 0, 1, 0, 1, 7, 0, .ro, .none, .val 0⟩
  | .BUF_SPARE_STAT_SOFT => ⟨.buf, 0x40300094, 0, 1, 0, 1, 15, 8, .ro, .none, .val 0⟩
  | .BUF_SPARE_STAT_RESULT => ⟨.buf, 0x40300094, 0, 1, 0, 1, 17, 16, .ro, .none, .val 0⟩
  | .BTL_CTRL_EN => ⟨.btl, 0x40400000, 0, 1, 0, 1, 0, 0, .rw, .l, .val 0⟩
  | .BTL_CTRL_ERR_IE => ⟨.btl, 0x40400000, 0, 1, 0, 1, 1, 1, .rw, .l, .val 0⟩
  | .BTL_CTRL_EV_IE => ⟨.btl, 0x40400000, 0, 1, 0, 1, 2, 2, .rw, .l, .val 0⟩
  | .BTL_STATUS_CFG_ERR => ⟨.btl, 0x40400004, 0, 1, 0, 1, 0, 0, .w1c, .l, .val 0⟩
  | .BTL_STATUS_DEGRADED => ⟨.btl, 0x40400004, 0, 1, 0, 1, 1, 1, .ro, .none, .val 0⟩
  | .BTL_STATUS_MLOG_FULL => ⟨.btl, 0x40400004, 0, 1, 0, 1, 2, 2, .ro, .none, .val 0⟩
  | .BTL_STATUS_RQ_NE => ⟨.btl, 0x40400004, 0, 1, 0, 1, 3, 3, .ro, .none, .val 0⟩
  | .BTL_STATUS_RETIRE_EV => ⟨.btl, 0x40400004, 0, 1, 0, 1, 4, 4, .w1c, .l, .val 0⟩
  | .BTL_STATUS_DEG_EV => ⟨.btl, 0x40400004, 0, 1, 0, 1, 5, 5, .w1c, .l, .val 0⟩
  | .BTL_CFG_ACC_COUNT => ⟨.btl, 0x40400008, 0, 1, 0, 1, 4, 0, .rw, .s, .val 0x10⟩
  | .BTL_CFG_ZONE_ACC => ⟨.btl, 0x40400008, 0, 1, 0, 1, 9, 5, .rw, .s, .val 8⟩
  | .BTL_CFG_RADIUS => ⟨.btl, 0x40400008, 0, 1, 0, 1, 12, 10, .rw, .s, .val 2⟩
  | .BTL_BT_LO_BASE_LO => ⟨.btl, 0x40400010, 0, 1, 0, 1, 31, 12, .rw, .s, .val 0⟩
  | .BTL_BT_HI_BASE_HI => ⟨.btl, 0x40400014, 0, 1, 0, 1, 15, 0, .rw, .s, .val 0⟩
  | .BTL_BT_COUNT_COUNT => ⟨.btl, 0x40400018, 0, 1, 0, 1, 20, 0, .rw, .s, .val 0⟩
  | .BTL_ACC_LO_BASE_LO => ⟨.btl, 0x40400020, 0, 1, 0, 1, 31, 22, .rw, .s, .val 0⟩
  | .BTL_ACC_HI_BASE_HI => ⟨.btl, 0x40400024, 0, 1, 0, 1, 15, 0, .rw, .s, .val 0⟩
  | .BTL_MLOG_LO_BASE_LO => ⟨.btl, 0x40400028, 0, 1, 0, 1, 31, 15, .rw, .s, .val 0⟩
  | .BTL_MLOG_HI_BASE_HI => ⟨.btl, 0x4040002C, 0, 1, 0, 1, 15, 0, .rw, .s, .val 0⟩
  | .BTL_MLOG_SIZE_LOG2 => ⟨.btl, 0x40400030, 0, 1, 0, 1, 4, 0, .rw, .s, .val 0x13⟩
  | .BTL_MLOG_TAIL_INDEX => ⟨.btl, 0x40400034, 0, 1, 0, 1, 19, 0, .ro, .none, .val 0⟩
  | .BTL_MLOG_TRIM_INDEX => ⟨.btl, 0x40400038, 0, 1, 0, 1, 19, 0, .rw, .l, .val 0⟩
  | .BTL_MSEQ_LO_NEXT_LO => ⟨.btl, 0x4040003C, 0, 1, 0, 1, 31, 0, .rw, .s, .val 1⟩
  | .BTL_MSEQ_HI_NEXT_HI => ⟨.btl, 0x40400040, 0, 1, 0, 1, 15, 0, .rw, .s, .val 0⟩
  | .BTL_GEN_LO_NEXT_LO => ⟨.btl, 0x40400044, 0, 1, 0, 1, 31, 0, .rw, .s, .val 1⟩
  | .BTL_GEN_HI_NEXT_HI => ⟨.btl, 0x40400048, 0, 1, 0, 1, 15, 0, .rw, .s, .val 0⟩
  | .BTL_APP_B_BODY => ⟨.btl, 0x40400050, 4, 5, 0, 1, 31, 0, .rw, .l, .val 0⟩
  | .BTL_APP_CTRL_TYPE => ⟨.btl, 0x40400064, 0, 1, 0, 1, 7, 0, .rw, .l, .val 0⟩
  | .BTL_APP_CTRL_FLAGS => ⟨.btl, 0x40400064, 0, 1, 0, 1, 15, 8, .rw, .l, .val 0⟩
  | .BTL_APP_CTRL_RESULT => ⟨.btl, 0x40400064, 0, 1, 0, 1, 29, 27, .ro, .none, .val 0⟩
  | .BTL_APP_CTRL_BUSY => ⟨.btl, 0x40400064, 0, 1, 0, 1, 30, 30, .ro, .none, .val 0⟩
  | .BTL_APP_CTRL_GO => ⟨.btl, 0x40400064, 0, 1, 0, 1, 31, 31, .wo, .l, .val 0⟩
  | .BTL_APP_MSEQ_LO_MSEQ_LO => ⟨.btl, 0x40400068, 0, 1, 0, 1, 31, 0, .ro, .none, .val 0⟩
  | .BTL_APP_MSEQ_HI_MSEQ_HI => ⟨.btl, 0x4040006C, 0, 1, 0, 1, 15, 0, .ro, .none, .val 0⟩
  | .BTL_APP_GEN_LO_GEN_LO => ⟨.btl, 0x40400070, 0, 1, 0, 1, 31, 0, .ro, .none, .val 0⟩
  | .BTL_APP_GEN_HI_GEN_HI => ⟨.btl, 0x40400074, 0, 1, 0, 1, 15, 0, .ro, .none, .val 0⟩
  | .BTL_POOL_FREE => ⟨.btl, 0x40400080, 0, 1, 0, 1, 20, 0, .ro, .none, .val 0⟩
  | .BTL_SPARE_SPARE => ⟨.btl, 0x40400084, 0, 1, 0, 1, 20, 0, .ro, .none, .val 0⟩
  | .BTL_COMMITTED_COUNT => ⟨.btl, 0x40400088, 0, 1, 0, 1, 20, 0, .rw, .l, .val 0⟩
  | .BTL_RESERVE_RESERVE => ⟨.btl, 0x4040008C, 0, 1, 0, 1, 15, 0, .rw, .l, .val 0x40⟩
  | .BTL_EXPO_THRESH => ⟨.btl, 0x40400090, 0, 1, 0, 1, 15, 0, .rw, .l, .val 0x400⟩
  | .BTL_RQ_BAND => ⟨.btl, 0x40400094, 0, 1, 0, 1, 19, 0, .ro, .none, .val 0⟩
  | .BTL_RQ_VALID => ⟨.btl, 0x40400094, 0, 1, 0, 1, 31, 31, .ro, .none, .val 0⟩
  | .BTL_RQ_STAT_DEPTH => ⟨.btl, 0x40400098, 0, 1, 0, 1, 8, 0, .ro, .none, .val 0⟩
  | .BTL_RQ_STAT_OVF => ⟨.btl, 0x40400098, 0, 1, 0, 1, 9, 9, .w1c, .l, .val 0⟩
  | .BTL_VFY_MARGIN => ⟨.btl, 0x404000A0, 0, 1, 0, 1, 7, 0, .rw, .l, .val 4⟩
  | .BTL_HEAD_FAIL_HEAD => ⟨.btl, 0x404000A4, 0, 1, 0, 1, 4, 0, .rw, .l, .val 0⟩
  | .BTL_HEAD_FAIL_GO => ⟨.btl, 0x404000A4, 0, 1, 0, 1, 31, 31, .wo, .l, .val 0⟩
  | .BTL_CNT_RETIRED => ⟨.btl, 0x404000A8, 0, 1, 0, 1, 15, 0, .ro, .none, .val 0⟩
  | .BTL_CNT_REFUSED => ⟨.btl, 0x404000A8, 0, 1, 0, 1, 31, 16, .ro, .none, .val 0⟩
  | .ENG_CTRL_ERR_IE => ⟨.eng, 0x40500000, 0, 1, 0, 1, 0, 0, .rw, .l, .val 0⟩
  | .ENG_CTRL_EV_IE => ⟨.eng, 0x40500000, 0, 1, 0, 1, 1, 1, .rw, .l, .val 0⟩
  | .ENG_STATUS_CFG_ERR => ⟨.eng, 0x40500004, 0, 1, 0, 1, 0, 0, .w1c, .l, .val 0⟩
  | .ENG_STATUS_FAULT_EV => ⟨.eng, 0x40500004, 0, 1, 0, 1, 1, 1, .w1c, .l, .val 0⟩
  | .ENG_STATUS_LOAD_EV => ⟨.eng, 0x40500004, 0, 1, 0, 1, 2, 2, .w1c, .l, .val 0⟩
  | .ENG_STATUS_LOADED => ⟨.eng, 0x40500004, 0, 1, 0, 1, 13, 8, .ro, .none, .val 0⟩
  | .ENG_FUSED_LO_CS_LO => ⟨.eng, 0x40500008, 0, 1, 0, 1, 31, 0, .ro, .none, .val 0⟩
  | .ENG_FUSED_HI_CS_HI => ⟨.eng, 0x4050000C, 0, 1, 0, 1, 11, 0, .ro, .none, .val 0⟩
  | .ENG_FUSED_HI_QE => ⟨.eng, 0x4050000C, 0, 1, 0, 1, 23, 12, .ro, .none, .val 0⟩
  | .ENG_FUSED_HI_IQ => ⟨.eng, 0x4050000C, 0, 1, 0, 1, 31, 24, .ro, .none, .val 0⟩
  | .ENG_CSL_SRC_LO_BASE_LO => ⟨.eng, 0x40500010, 0, 1, 0, 1, 31, 5, .rw, .l, .val 0⟩
  | .ENG_CSL_SRC_HI_BASE_HI => ⟨.eng, 0x40500014, 0, 1, 0, 1, 15, 0, .rw, .l, .val 0⟩
  | .ENG_CSL_CTRL_FIRST => ⟨.eng, 0x40500018, 0, 1, 0, 1, 11, 0, .rw, .l, .val 0⟩
  | .ENG_CSL_CTRL_COUNT => ⟨.eng, 0x40500018, 0, 1, 0, 1, 24, 12, .rw, .l, .val 0⟩
  | .ENG_CSL_CTRL_CLASS => ⟨.eng, 0x40500018, 0, 1, 0, 1, 27, 25, .rw, .l, .val 0⟩
  | .ENG_CSL_CTRL_BUSY => ⟨.eng, 0x40500018, 0, 1, 0, 1, 30, 30, .ro, .none, .val 0⟩
  | .ENG_CSL_CTRL_GO => ⟨.eng, 0x40500018, 0, 1, 0, 1, 31, 31, .wo, .l, .val 0⟩
  | .ENG_CSL_STAT_RESULT => ⟨.eng, 0x4050001C, 0, 1, 0, 1, 1, 0, .ro, .none, .val 0⟩
  | .ENG_CSL_STAT_DONE => ⟨.eng, 0x4050001C, 0, 1, 0, 1, 2, 2, .ro, .none, .val 0⟩
  | .ENG_CSL_STAT_BAD_ADDR => ⟨.eng, 0x4050001C, 0, 1, 0, 1, 23, 12, .ro, .none, .val 0⟩
  | .ENG_SPARE_CS_CLASS => ⟨.eng, 0x40500020, 4, 2, 0, 1, 2, 0, .rw, .l, .val 0⟩
  | .ENG_SPARE_CS_REPLACES => ⟨.eng, 0x40500020, 4, 2, 0, 1, 13, 8, .rw, .l, .val 0x3F⟩
  | .ENG_SPARE_CS_BIND => ⟨.eng, 0x40500020, 4, 2, 0, 1, 31, 31, .rw, .l, .val 0⟩
  | .ENG_SPARE_QE_REPLACES => ⟨.eng, 0x40500028, 0, 1, 0, 1, 3, 0, .rw, .l, .val 0⟩
  | .ENG_SPARE_QE_BIND => ⟨.eng, 0x40500028, 0, 1, 0, 1, 31, 31, .rw, .l, .val 0⟩
  | .ENG_MTIME_LO_MTIME_LO => ⟨.eng, 0x40500030, 0, 1, 0, 1, 31, 0, .ro, .none, .val 0⟩
  | .ENG_MTIME_HI_MTIME_HI => ⟨.eng, 0x40500034, 0, 1, 0, 1, 31, 0, .ro, .none, .val 0⟩
  | .ENG_IPI_SET => ⟨.eng, 0x40500038, 0, 1, 0, 1, 7, 0, .wo, .l, .val 0⟩
  | .ENG_IPI_CLR => ⟨.eng, 0x40500038, 0, 1, 0, 1, 15, 8, .wo, .l, .val 0⟩
  | .ENG_IPI_PEND => ⟨.eng, 0x40500038, 0, 1, 0, 1, 23, 16, .ro, .none, .val 0⟩
  | .ENG_MTIMECMP_LO_CMP_LO => ⟨.eng, 0x40500040, 8, 8, 0, 1, 31, 0, .rw, .l, .val 0xFFFFFFFF⟩
  | .ENG_MTIMECMP_HI_CMP_HI => ⟨.eng, 0x40500044, 8, 8, 0, 1, 31, 0, .rw, .l, .val 0xFFFFFFFF⟩
  | .ENG_IRQ_CLAIM_SOURCE => ⟨.eng, 0x40500080, 4, 8, 0, 1, 7, 0, .rw, .l, .val 0⟩
  | .ENG_IRQ_THR_THR => ⟨.eng, 0x405000A0, 4, 8, 0, 1, 2, 0, .rw, .l, .val 0⟩
  | .ENG_IQ_CTRL_RUN => ⟨.eng, 0x40500100, 4, 8, 0, 1, 0, 0, .rw, .l, .firstCore⟩
  | .ENG_IQ_ENTRY_LO_ENTRY_LO => ⟨.eng, 0x40500120, 8, 8, 0, 1, 31, 1, .rw, .l, .val 0⟩
  | .ENG_IQ_ENTRY_HI_ENTRY_HI => ⟨.eng, 0x40500124, 8, 8, 0, 1, 15, 0, .rw, .l, .val 0⟩
  | .ENG_CS_CTRL_START => ⟨.eng, 0x40500200, 4, 44, 0, 1, 0, 0, .wo, .l, .val 0⟩
  | .ENG_CS_CTRL_STOP => ⟨.eng, 0x40500200, 4, 44, 0, 1, 1, 1, .wo, .l, .val 0⟩
  | .ENG_CS_CTRL_KILL => ⟨.eng, 0x40500200, 4, 44, 0, 1, 2, 2, .wo, .l, .val 0⟩
  | .ENG_CS_CTRL_ABANDON => ⟨.eng, 0x40500200, 4, 44, 0, 1, 3, 3, .wo, .l, .val 0⟩
  | .ENG_CS_CTRL_ENTRY => ⟨.eng, 0x40500200, 4, 44, 0, 1, 27, 16, .rw, .l, .val 0⟩
  | .ENG_CS_STAT_STATE => ⟨.eng, 0x40500300, 4, 44, 0, 1, 1, 0, .ro, .none, .val 0⟩
  | .ENG_CS_STAT_FAULT => ⟨.eng, 0x40500300, 4, 44, 0, 1, 5, 2, .ro, .none, .val 0⟩
  | .ENG_CS_STAT_HELD => ⟨.eng, 0x40500300, 4, 44, 0, 1, 6, 6, .ro, .none, .val 0⟩
  | .ENG_CS_STAT_BOUND => ⟨.eng, 0x40500300, 4, 44, 0, 1, 7, 7, .ro, .none, .val 0⟩
  | .ENG_CS_STAT_UPC => ⟨.eng, 0x40500300, 4, 44, 0, 1, 19, 8, .ro, .none, .val 0⟩
  | .ENG_QE_CTRL_START => ⟨.eng, 0x40500400, 4, 12, 0, 1, 0, 0, .wo, .l, .val 0⟩
  | .ENG_QE_CTRL_STOP => ⟨.eng, 0x40500400, 4, 12, 0, 1, 1, 1, .wo, .l, .val 0⟩
  | .ENG_QE_CTRL_STATE => ⟨.eng, 0x40500400, 4, 12, 0, 1, 3, 2, .ro, .none, .val 0⟩
  | .ENG_QE_CTRL_FAULT => ⟨.eng, 0x40500400, 4, 12, 0, 1, 7, 4, .ro, .none, .val 0⟩
  | .ENG_QE_CTRL_BOUND => ⟨.eng, 0x40500400, 4, 12, 0, 1, 8, 8, .ro, .none, .val 0⟩
  | .ENG_IRQ_ROUTE_CORE => ⟨.eng, 0x40500800, 4, 256, 0, 1, 2, 0, .rw, .l, .val 0⟩
  | .ENG_IRQ_ROUTE_PRIO => ⟨.eng, 0x40500800, 4, 256, 0, 1, 6, 4, .rw, .l, .val 0⟩
  | .ENG_IRQ_ROUTE_PEND => ⟨.eng, 0x40500800, 4, 256, 0, 1, 8, 8, .ro, .none, .val 0⟩
  | .ENG_IRQ_ROUTE_CLAIMED => ⟨.eng, 0x40500800, 4, 256, 0, 1, 9, 9, .ro, .none, .val 0⟩
  | .MWR_CTRL_EN => ⟨.mwr, 0x40600000, 0, 1, 0, 1, 0, 0, .rw, .l, .val 0⟩
  | .MWR_CTRL_ERR_IE => ⟨.mwr, 0x40600000, 0, 1, 0, 1, 1, 1, .rw, .l, .val 0⟩
  | .MWR_CTRL_EV_IE => ⟨.mwr, 0x40600000, 0, 1, 0, 1, 2, 2, .rw, .l, .val 0⟩
  | .MWR_STATUS_CFG_ERR => ⟨.mwr, 0x40600004, 0, 1, 0, 1, 0, 0, .w1c, .l, .val 0⟩
  | .MWR_STATUS_COMPACT => ⟨.mwr, 0x40600004, 0, 1, 0, 1, 1, 1, .ro, .none, .val 1⟩
  | .MWR_STATUS_RINGS_ON => ⟨.mwr, 0x40600004, 0, 1, 0, 1, 26, 16, .ro, .none, .val 0⟩
  | .MWR_HW_LO_BASE_LO => ⟨.mwr, 0x40600008, 0, 1, 0, 1, 31, 12, .rw, .s, .val 0⟩
  | .MWR_HW_HI_BASE_HI => ⟨.mwr, 0x4060000C, 0, 1, 0, 1, 15, 0, .rw, .s, .val 0⟩
  | .MWR_DOORBELL_TAIL => ⟨.mwr, 0x40600010, 0, 1, 0, 1, 15, 0, .wo, .l, .val 0⟩
  | .MWR_DOORBELL_RING => ⟨.mwr, 0x40600010, 0, 1, 0, 1, 25, 16, .wo, .l, .val 0⟩
  | .MWR_DB_STAT_REJECTED => ⟨.mwr, 0x40600014, 0, 1, 0, 1, 15, 0, .ro, .none, .val 0⟩
  | .MWR_DB_STAT_DISCARDED => ⟨.mwr, 0x40600014, 0, 1, 0, 1, 31, 16, .ro, .none, .val 0⟩
  | .MWR_WITHDRAW_WD_TAG => ⟨.mwr, 0x40600018, 0, 1, 0, 1, 15, 0, .rw, .l, .val 0⟩
  | .MWR_WITHDRAW_WD_RING => ⟨.mwr, 0x40600018, 0, 1, 0, 1, 25, 16, .rw, .l, .val 0⟩
  | .MWR_WITHDRAW_WD_GO => ⟨.mwr, 0x40600018, 0, 1, 0, 1, 31, 31, .wo, .l, .val 0⟩
  | .MWR_WD_RES_DONE => ⟨.mwr, 0x4060001C, 0, 1, 0, 1, 0, 0, .ro, .none, .val 0⟩
  | .MWR_WD_RES_BUSY => ⟨.mwr, 0x4060001C, 0, 1, 0, 1, 1, 1, .ro, .none, .val 0⟩
  | .MWR_WD_RES_CHAINS => ⟨.mwr, 0x4060001C, 0, 1, 0, 1, 31, 16, .ro, .none, .val 0⟩
  | .MWR_IRQ_PEND_PEND => ⟨.mwr, 0x40600100, 4, 32, 0, 1, 31, 0, .w1c, .l, .val 0⟩
  | .MWR_ERR_PEND_ERR => ⟨.mwr, 0x40600180, 4, 32, 0, 1, 31, 0, .ro, .none, .val 0⟩
  | .MWR_RING_BASE_LO_BASE_LO => ⟨.mwr, 0x40608000, 32, 1024, 0, 1, 31, 6, .rw, .s, .val 0⟩
  | .MWR_RING_BASE_HI_BASE_HI => ⟨.mwr, 0x40608004, 32, 1024, 0, 1, 15, 0, .rw, .s, .val 0⟩
  | .MWR_RING_CFG_LOG2 => ⟨.mwr, 0x40608008, 32, 1024, 0, 1, 4, 0, .rw, .s, .val 4⟩
  | .MWR_RING_CFG_WEIGHT => ⟨.mwr, 0x40608008, 32, 1024, 0, 1, 10, 8, .rw, .l, .val 0⟩
  | .MWR_RING_CFG_BURST => ⟨.mwr, 0x40608008, 32, 1024, 0, 1, 15, 12, .rw, .l, .val 0⟩
  | .MWR_RING_CFG_PRIO => ⟨.mwr, 0x40608008, 32, 1024, 0, 1, 16, 16, .rw, .l, .val 0⟩
  | .MWR_RING_CTRL_EN => ⟨.mwr, 0x4060800C, 32, 1024, 0, 1, 0, 0, .rw, .l, .val 0⟩
  | .MWR_RING_CTRL_ABORT => ⟨.mwr, 0x4060800C, 32, 1024, 0, 1, 1, 1, .wo, .l, .val 0⟩
  | .MWR_RING_CTRL_RESUME => ⟨.mwr, 0x4060800C, 32, 1024, 0, 1, 2, 2, .wo, .l, .val 0⟩
  | .MWR_RING_CTRL_CLR_OVR => ⟨.mwr, 0x4060800C, 32, 1024, 0, 1, 3, 3, .wo, .l, .val 0⟩
  | .MWR_RING_STAT_STATE => ⟨.mwr, 0x40608010, 32, 1024, 0, 1, 2, 0, .ro, .none, .val 0⟩
  | .MWR_RING_STAT_IDLE => ⟨.mwr, 0x40608010, 32, 1024, 0, 1, 3, 3, .ro, .none, .val 1⟩
  | .MWR_RING_STAT_INPROG => ⟨.mwr, 0x40608010, 32, 1024, 0, 1, 8, 4, .ro, .none, .val 0⟩
  | .MWR_RING_PTR_HEAD => ⟨.mwr, 0x40608014, 32, 1024, 0, 1, 15, 0, .rw, .s, .val 0⟩
  | .MWR_RING_PTR_TAIL => ⟨.mwr, 0x40608014, 32, 1024, 0, 1, 31, 16, .rw, .s, .val 0⟩
  | .MWR_RING_ERR_ERR_INDEX => ⟨.mwr, 0x40608018, 32, 1024, 0, 1, 15, 0, .ro, .none, .val 0⟩
  | .MWR_RING_ERR_OVR_TAIL => ⟨.mwr, 0x40608018, 32, 1024, 0, 1, 31, 16, .ro, .none, .val 0⟩
  | .MWR_RING_FETCH_FETCH => ⟨.mwr, 0x4060801C, 32, 1024, 0, 1, 15, 0, .ro, .none, .val 0⟩
  | .MWR_RING_FETCH_ERR_DETAIL => ⟨.mwr, 0x4060801C, 32, 1024, 0, 1, 23, 16, .ro, .none, .val 0⟩
  | .CHN_CTRL_EN => ⟨.chn, 0x40700000, 0, 1, 65536, 8, 0, 0, .rw, .l, .val 0⟩
  | .CHN_CTRL_ERR_IE => ⟨.chn, 0x40700000, 0, 1, 65536, 8, 1, 1, .rw, .l, .val 0⟩
  | .CHN_CTRL_EV_IE => ⟨.chn, 0x40700000, 0, 1, 65536, 8, 2, 2, .rw, .l, .val 0⟩
  | .CHN_CTRL_ADAPT_EN => ⟨.chn, 0x40700000, 0, 1, 65536, 8, 3, 3, .rw, .l, .val 1⟩
  | .CHN_CTRL_REPLAY_EN => ⟨.chn, 0x40700000, 0, 1, 65536, 8, 4, 4, .rw, .l, .val 1⟩
  | .CHN_CTRL_OUTER_EN => ⟨.chn, 0x40700000, 0, 1, 65536, 8, 5, 5, .rw, .l, .val 1⟩
  | .CHN_STATUS_CFG_ERR => ⟨.chn, 0x40700004, 0, 1, 65536, 8, 0, 0, .w1c, .l, .val 0⟩
  | .CHN_STATUS_ARMED => ⟨.chn, 0x40700004, 0, 1, 65536, 8, 1, 1, .ro, .none, .val 0⟩
  | .CHN_STATUS_WRITING => ⟨.chn, 0x40700004, 0, 1, 65536, 8, 2, 2, .ro, .none, .val 0⟩
  | .CHN_STATUS_ON_TRACK => ⟨.chn, 0x40700004, 0, 1, 65536, 8, 3, 3, .ro, .none, .val 0⟩
  | .CHN_STATUS_LOCK => ⟨.chn, 0x40700004, 0, 1, 65536, 8, 4, 4, .ro, .none, .val 0⟩
  | .CHN_STATUS_LANE_READY => ⟨.chn, 0x40700004, 0, 1, 65536, 8, 5, 5, .ro, .none, .val 0⟩
  | .CHN_STATUS_DEC0_FLT => ⟨.chn, 0x40700004, 0, 1, 65536, 8, 6, 6, .ro, .none, .val 0⟩
  | .CHN_STATUS_DEC1_FLT => ⟨.chn, 0x40700004, 0, 1, 65536, 8, 7, 7, .ro, .none, .val 0⟩
  | .CHN_STATUS_DEC_EV => ⟨.chn, 0x40700004, 0, 1, 65536, 8, 8, 8, .w1c, .l, .val 0⟩
  | .CHN_STATUS_STALL_EV => ⟨.chn, 0x40700004, 0, 1, 65536, 8, 9, 9, .w1c, .l, .val 0⟩
  | .CHN_STATUS_PA_FLT => ⟨.chn, 0x40700004, 0, 1, 65536, 8, 10, 10, .ro, .none, .val 0⟩
  | .CHN_STATUS_HEAD => ⟨.chn, 0x40700004, 0, 1, 65536, 8, 20, 16, .ro, .none, .val 0⟩
  | .CHN_SYNC_SYNC_WIN => ⟨.chn, 0x40700008, 0, 1, 65536, 8, 5, 0, .rw, .b, .val 8⟩
  | .CHN_SYNC_RSYNC_WIN => ⟨.chn, 0x40700008, 0, 1, 65536, 8, 11, 8, .rw, .b, .val 2⟩
  | .CHN_SYNC_SM_TOL => ⟨.chn, 0x40700008, 0, 1, 65536, 8, 15, 12, .rw, .b, .val 3⟩
  | .CHN_SYNC_COMMIT => ⟨.chn, 0x40700008, 0, 1, 65536, 8, 30, 30, .wo, .l, .val 0⟩
  | .CHN_SYNC_COMMIT_PEND => ⟨.chn, 0x40700008, 0, 1, 65536, 8, 31, 31, .ro, .none, .val 0⟩
  | .CHN_REPLAY_REPLAY_MAX => ⟨.chn, 0x4070000C, 0, 1, 65536, 8, 3, 0, .rw, .l, .val 0xF⟩
  | .CHN_REPLAY_DETSETS => ⟨.chn, 0x4070000C, 0, 1, 65536, 8, 11, 4, .rw, .l, .val 0xFF⟩
  | .CHN_REPLAY_ERASE_THR => ⟨.chn, 0x4070000C, 0, 1, 65536, 8, 19, 12, .rw, .l, .val 0x10⟩
  | .CHN_REPLAY_WIDE_TOL => ⟨.chn, 0x4070000C, 0, 1, 65536, 8, 22, 20, .rw, .l, .val 2⟩
  | .CHN_ASSIST_OK => ⟨.chn, 0x40700010, 0, 1, 65536, 8, 5, 0, .rw, .l, .val 0⟩
  | .CHN_WCLK_LOCK_TOL => ⟨.chn, 0x40700014, 0, 1, 65536, 8, 5, 0, .rw, .l, .val 4⟩
  | .CHN_ZONE_INDEX => ⟨.chn, 0x40700018, 0, 1, 65536, 8, 9, 0, .ro, .none, .val 0⟩
  | .CHN_ZONE_VALID => ⟨.chn, 0x40700018, 0, 1, 65536, 8, 10, 10, .ro, .none, .val 0⟩
  | .CHN_ZONE_SPT => ⟨.chn, 0x40700018, 0, 1, 65536, 8, 26, 16, .ro, .none, .val 0⟩
  | .CHN_STORE_HELD => ⟨.chn, 0x4070001C, 0, 1, 65536, 8, 4, 0, .ro, .none, .val 0⟩
  | .CHN_CNT_A_REPLAYED => ⟨.chn, 0x40700020, 0, 1, 65536, 8, 15, 0, .ro, .none, .val 0⟩
  | .CHN_CNT_A_OUTER => ⟨.chn, 0x40700020, 0, 1, 65536, 8, 31, 16, .ro, .none, .val 0⟩
  | .CHN_CNT_B_UNREC => ⟨.chn, 0x40700024, 0, 1, 65536, 8, 15, 0, .ro, .none, .val 0⟩
  | .CHN_CNT_B_STALLS => ⟨.chn, 0x40700024, 0, 1, 65536, 8, 31, 16, .ro, .none, .val 0⟩
  | .CHN_CNT_C_WFAULT => ⟨.chn, 0x40700028, 0, 1, 65536, 8, 15, 0, .ro, .none, .val 0⟩
  | .CHN_CNT_C_SHIFTED => ⟨.chn, 0x40700028, 0, 1, 65536, 8, 31, 16, .ro, .none, .val 0⟩
  | .CHN_ADAPT_TAPS => ⟨.chn, 0x40700030, 4, 4, 65536, 8, 31, 0, .ro, .none, .val 0⟩
  | .CHN_PA_LINK_ERR => ⟨.chn, 0x40700040, 0, 1, 65536, 8, 15, 0, .ro, .none, .val 0⟩
  | .CHN_COM_CTRL_ASSIST_TYPE => ⟨.chn, 0x40780000, 0, 1, 0, 1, 0, 0, .rw, .s, .val 0⟩
  | .CHN_COM_CTRL_ERR_IE => ⟨.chn, 0x40780000, 0, 1, 0, 1, 1, 1, .rw, .l, .val 0⟩
  | .CHN_COM_STATUS_CFG_ERR => ⟨.chn, 0x40780004, 0, 1, 0, 1, 0, 0, .w1c, .l, .val 0⟩
  | .CHN_COM_STATUS_SPARE0_FLT => ⟨.chn, 0x40780004, 0, 1, 0, 1, 1, 1, .ro, .none, .val 0⟩
  | .CHN_COM_STATUS_SPARE1_FLT => ⟨.chn, 0x40780004, 0, 1, 0, 1, 2, 2, .ro, .none, .val 0⟩
  | .CHN_ZT_BANK_SEL => ⟨.chn, 0x40780008, 0, 1, 0, 1, 0, 0, .rw, .b, .val 0⟩
  | .CHN_ZT_TIER => ⟨.chn, 0x40780008, 0, 1, 0, 1, 2, 1, .rw, .b, .val 0⟩
  | .CHN_ZT_COMMIT => ⟨.chn, 0x40780008, 0, 1, 0, 1, 3, 3, .wo, .l, .val 0⟩
  | .CHN_ZT_COMMIT_PEND => ⟨.chn, 0x40780008, 0, 1, 0, 1, 4, 4, .ro, .none, .val 0⟩
  | .CHN_ZT_ACTIVE => ⟨.chn, 0x40780008, 0, 1, 0, 1, 5, 5, .ro, .none, .val 0⟩
  | .CHN_ZT_TIER_NOW => ⟨.chn, 0x40780008, 0, 1, 0, 1, 7, 6, .ro, .none, .val 0⟩
  | .CHN_SPARE_DEC_LANE => ⟨.chn, 0x40780010, 4, 2, 0, 1, 2, 0, .rw, .l, .val 0⟩
  | .CHN_SPARE_DEC_DEC => ⟨.chn, 0x40780010, 4, 2, 0, 1, 3, 3, .rw, .l, .val 0⟩
  | .CHN_SPARE_DEC_BIND => ⟨.chn, 0x40780010, 4, 2, 0, 1, 31, 31, .rw, .l, .val 0⟩
  | .SRV_CTRL_EN => ⟨.srv, 0x40800000, 0, 1, 0, 1, 0, 0, .rw, .l, .val 0⟩
  | .SRV_CTRL_ERR_IE => ⟨.srv, 0x40800000, 0, 1, 0, 1, 1, 1, .rw, .l, .val 0⟩
  | .SRV_CTRL_EV_IE => ⟨.srv, 0x40800000, 0, 1, 0, 1, 2, 2, .rw, .l, .val 0⟩
  | .SRV_STATUS_CFG_ERR => ⟨.srv, 0x40800004, 0, 1, 0, 1, 0, 0, .w1c, .l, .val 0⟩
  | .SRV_STATUS_FAULT_EV => ⟨.srv, 0x40800004, 0, 1, 0, 1, 1, 1, .w1c, .l, .val 0⟩
  | .SRV_STATUS_LATE_EV => ⟨.srv, 0x40800004, 0, 1, 0, 1, 2, 2, .w1c, .l, .val 0⟩
  | .SRV_STATUS_SIG_EV => ⟨.srv, 0x40800004, 0, 1, 0, 1, 3, 3, .w1c, .l, .val 0⟩
  | .SRV_STATUS_MATE_EV => ⟨.srv, 0x40800004, 0, 1, 0, 1, 4, 4, .w1c, .l, .val 0⟩
  | .SRV_CFG_WIN => ⟨.srv, 0x40800008, 0, 1, 0, 1, 4, 0, .rw, .s, .val 0x10⟩
  | .SRV_CFG_MISS_MAX => ⟨.srv, 0x40800008, 0, 1, 0, 1, 11, 8, .rw, .s, .val 4⟩
  | .SRV_CFG_MATE_SPAN => ⟨.srv, 0x40800008, 0, 1, 0, 1, 22, 16, .rw, .s, .val 0x40⟩
  | .SRV_CFG_FLT_HOLD => ⟨.srv, 0x40800008, 0, 1, 0, 1, 27, 24, .rw, .s, .val 8⟩
  | .SRV_CFG2_SEEK_TO => ⟨.srv, 0x4080000C, 0, 1, 0, 1, 15, 0, .rw, .s, .val 0x1000⟩
  | .SRV_CFG2_SEEK_MIN => ⟨.srv, 0x4080000C, 0, 1, 0, 1, 23, 16, .rw, .s, .val 8⟩
  | .SRV_CFG2_SETTLE_TRK => ⟨.srv, 0x4080000C, 0, 1, 0, 1, 27, 24, .rw, .s, .val 2⟩
  | .SRV_CFG2_RAMP_W => ⟨.srv, 0x4080000C, 0, 1, 0, 1, 31, 28, .rw, .s, .val 4⟩
  | .SRV_ACT_CTRL_MATE_EN => ⟨.srv, 0x40800100, 32, 4, 0, 1, 0, 0, .rw, .l, .val 0⟩
  | .SRV_ACT_CTRL_COMMIT => ⟨.srv, 0x40800100, 32, 4, 0, 1, 1, 1, .wo, .l, .val 0⟩
  | .SRV_ACT_CTRL_COMMIT_PEND => ⟨.srv, 0x40800100, 32, 4, 0, 1, 2, 2, .ro, .none, .val 0⟩
  | .SRV_ACT_LIM_ILIM => ⟨.srv, 0x40800104, 32, 4, 0, 1, 15, 0, .rw, .b, .val 0x7FFF⟩
  | .SRV_ACT_LIM_MALIM => ⟨.srv, 0x40800104, 32, 4, 0, 1, 31, 16, .rw, .b, .val 0x7FFF⟩
  | .SRV_ACT_OT_OT_WRITE => ⟨.srv, 0x40800108, 32, 4, 0, 1, 14, 0, .rw, .b, .val 0xCCD⟩
  | .SRV_ACT_OT_OT_READ => ⟨.srv, 0x40800108, 32, 4, 0, 1, 30, 16, .rw, .b, .val 0x1333⟩
  | .SRV_ACT_OTC_OT_CNT_W => ⟨.srv, 0x4080010C, 32, 4, 0, 1, 3, 0, .rw, .b, .val 4⟩
  | .SRV_ACT_OTC_OT_CNT_R => ⟨.srv, 0x4080010C, 32, 4, 0, 1, 7, 4, .rw, .b, .val 2⟩
  | .SRV_ACT_STAT_MODE => ⟨.srv, 0x40800110, 32, 4, 0, 1, 2, 0, .ro, .none, .val 0⟩
  | .SRV_ACT_STAT_ONT => ⟨.srv, 0x40800110, 32, 4, 0, 1, 9, 4, .ro, .none, .val 0⟩
  | .SRV_ACT_STAT_PRI => ⟨.srv, 0x40800110, 32, 4, 0, 1, 14, 12, .ro, .none, .val 0⟩
  | .SRV_ACT_STAT_MATE => ⟨.srv, 0x40800110, 32, 4, 0, 1, 18, 16, .ro, .none, .val 7⟩
  | .SRV_ACT_STAT_SOFT => ⟨.srv, 0x40800110, 32, 4, 0, 1, 19, 19, .ro, .none, .val 0⟩
  | .SRV_ACT_STAT_MISSES => ⟨.srv, 0x40800110, 32, 4, 0, 1, 23, 20, .ro, .none, .val 0⟩
  | .SRV_ACT_POS_TRACK => ⟨.srv, 0x40800114, 32, 4, 0, 1, 23, 0, .ro, .none, .val 0⟩
  | .SRV_ACT_PES_PES => ⟨.srv, 0x40800118, 32, 4, 0, 1, 15, 0, .ro, .none, .val 0⟩
  | .SRV_ACT_PES_SUM => ⟨.srv, 0x40800118, 32, 4, 0, 1, 31, 16, .ro, .none, .val 0⟩
  | .SRV_ACT_CNT_MISSED => ⟨.srv, 0x4080011C, 32, 4, 0, 1, 15, 0, .ro, .none, .val 0⟩
  | .SRV_ACT_CNT_TIDERR => ⟨.srv, 0x4080011C, 32, 4, 0, 1, 31, 16, .ro, .none, .val 0⟩
  | .SRV_HEAD_FITTED => ⟨.srv, 0x40800400, 4, 24, 0, 1, 0, 0, .rw, .s, .val 0⟩
  | .SRV_HEAD_MATE_OK => ⟨.srv, 0x40800400, 4, 24, 0, 1, 1, 1, .rw, .s, .val 0⟩
  | .SRV_HEAD_RADOFS => ⟨.srv, 0x40800400, 4, 24, 0, 1, 15, 8, .rw, .s, .val 0⟩
  | .SRV_HEAD_WR_OFS => ⟨.srv, 0x40800400, 4, 24, 0, 1, 31, 16, .rw, .s, .val 0⟩
  | .SRV_QE_CFG_TRIG_SRC => ⟨.srv, 0x40800600, 16, 12, 0, 1, 1, 0, .rw, .s, .trigSrc⟩
  | .SRV_QE_CFG_ACT => ⟨.srv, 0x40800600, 16, 12, 0, 1, 3, 2, .rw, .s, .loopAct⟩
  | .SRV_QE_CFG_BANK => ⟨.srv, 0x40800600, 16, 12, 0, 1, 8, 8, .rw, .b, .val 0⟩
  | .SRV_QE_CFG_COMMIT => ⟨.srv, 0x40800600, 16, 12, 0, 1, 14, 14, .wo, .l, .val 0⟩
  | .SRV_QE_CFG_COMMIT_PEND => ⟨.srv, 0x40800600, 16, 12, 0, 1, 15, 15, .ro, .none, .val 0⟩
  | .SRV_QE_CFG_PERIOD => ⟨.srv, 0x40800600, 16, 12, 0, 1, 31, 16, .rw, .l, .val 0x64⟩
  | .SRV_QE_LIM_RUN_LIM => ⟨.srv, 0x40800604, 16, 12, 0, 1, 11, 0, .rw, .l, .val 0x3E8⟩
  | .SRV_QE_STAT_LAST => ⟨.srv, 0x40800608, 16, 12, 0, 1, 11, 0, .ro, .none, .val 0⟩
  | .SRV_QE_STAT_MAX => ⟨.srv, 0x40800608, 16, 12, 0, 1, 23, 12, .ro, .none, .val 0⟩
  | .SRV_QE_STAT_CF => ⟨.srv, 0x40800608, 16, 12, 0, 1, 24, 24, .ro, .none, .val 0⟩
  | .SRV_QE_STAT_SF => ⟨.srv, 0x40800608, 16, 12, 0, 1, 25, 25, .ro, .none, .val 0⟩
  | .SRV_QE_STAT_SIG => ⟨.srv, 0x40800608, 16, 12, 0, 1, 29, 26, .ro, .none, .val 0⟩
  | .SRV_QE_STAT_LATE => ⟨.srv, 0x40800608, 16, 12, 0, 1, 30, 30, .w1c, .l, .val 0⟩
  | .SRV_QE_STAT_MAX_CLR => ⟨.srv, 0x40800608, 16, 12, 0, 1, 31, 31, .wo, .l, .val 0⟩
  | .SRV_QE_CNT_RUNS => ⟨.srv, 0x4080060C, 16, 12, 0, 1, 15, 0, .ro, .none, .val 0⟩
  | .SRV_QE_CNT_CLAMPS => ⟨.srv, 0x4080060C, 16, 12, 0, 1, 31, 16, .ro, .none, .val 0⟩
  | .MPD_CTRL_EN => ⟨.mpd, 0x40900000, 0, 1, 0, 1, 0, 0, .rw, .l, .val 0⟩
  | .MPD_CTRL_ERR_IE => ⟨.mpd, 0x40900000, 0, 1, 0, 1, 1, 1, .rw, .l, .val 0⟩
  | .MPD_CTRL_EV_IE => ⟨.mpd, 0x40900000, 0, 1, 0, 1, 2, 2, .rw, .l, .val 0⟩
  | .MPD_CTRL_BRAKE_EN => ⟨.mpd, 0x40900000, 0, 1, 0, 1, 3, 3, .rw, .l, .val 0⟩
  | .MPD_STATUS_CFG_ERR => ⟨.mpd, 0x40900004, 0, 1, 0, 1, 0, 0, .w1c, .l, .val 0⟩
  | .MPD_STATUS_DRV_EV => ⟨.mpd, 0x40900004, 0, 1, 0, 1, 1, 1, .w1c, .l, .val 0⟩
  | .MPD_STATUS_SPN_EV => ⟨.mpd, 0x40900004, 0, 1, 0, 1, 2, 2, .w1c, .l, .val 0⟩
  | .MPD_STATUS_RET_EV => ⟨.mpd, 0x40900004, 0, 1, 0, 1, 3, 3, .w1c, .l, .val 0⟩
  | .MPD_STATUS_LOWV => ⟨.mpd, 0x40900004, 0, 1, 0, 1, 4, 4, .ro, .none, .val 0⟩
  | .MPD_SPN_CFG_PP => ⟨.mpd, 0x40900008, 0, 1, 0, 1, 3, 0, .rw, .s, .val 6⟩
  | .MPD_SPN_CFG_ALIGN_MS => ⟨.mpd, 0x40900008, 0, 1, 0, 1, 11, 4, .rw, .s, .val 0x1E⟩
  | .MPD_SPN_CFG_OL_RPM => ⟨.mpd, 0x40900008, 0, 1, 0, 1, 19, 12, .rw, .s, .val 0xF⟩
  | .MPD_SPN_CFG_COAST_TO => ⟨.mpd, 0x40900008, 0, 1, 0, 1, 27, 20, .rw, .s, .val 0x3C⟩
  | .MPD_SPN_PWR_SPIN_W => ⟨.mpd, 0x4090000C, 0, 1, 0, 1, 7, 0, .rw, .l, .val 0x14⟩
  | .MPD_SPN_PWR_TIER_W => ⟨.mpd, 0x4090000C, 0, 1, 0, 1, 15, 8, .rw, .l, .val 0x1C⟩
  | .MPD_SPN_PWR_REGEN_W => ⟨.mpd, 0x4090000C, 0, 1, 0, 1, 23, 16, .rw, .l, .val 0x18⟩
  | .MPD_SPN_LOSS_RESID_THR => ⟨.mpd, 0x40900010, 0, 1, 0, 1, 11, 0, .rw, .s, .val 0x100⟩
  | .MPD_SPN_LOSS_BEMF_TO => ⟨.mpd, 0x40900010, 0, 1, 0, 1, 23, 16, .rw, .s, .val 0xA⟩
  | .MPD_SPN_LOSS_REACQ => ⟨.mpd, 0x40900010, 0, 1, 0, 1, 31, 24, .rw, .s, .val 5⟩
  | .MPD_SPN_TBL_BANK => ⟨.mpd, 0x40900014, 0, 1, 0, 1, 0, 0, .rw, .b, .val 0⟩
  | .MPD_SPN_TBL_COMMIT => ⟨.mpd, 0x40900014, 0, 1, 0, 1, 1, 1, .wo, .l, .val 0⟩
  | .MPD_SPN_TBL_COMMIT_PEND => ⟨.mpd, 0x40900014, 0, 1, 0, 1, 2, 2, .ro, .none, .val 0⟩
  | .MPD_SPN_TBL_ACTIVE => ⟨.mpd, 0x40900014, 0, 1, 0, 1, 3, 3, .ro, .none, .val 0⟩
  | .MPD_SPN_STAT_STATE => ⟨.mpd, 0x40900018, 0, 1, 0, 1, 3, 0, .ro, .none, .val 0⟩
  | .MPD_SPN_STAT_SRC => ⟨.mpd, 0x40900018, 0, 1, 0, 1, 4, 4, .ro, .none, .val 0⟩
  | .MPD_SPN_STAT_DIR => ⟨.mpd, 0x40900018, 0, 1, 0, 1, 5, 5, .ro, .none, .val 0⟩
  | .MPD_SPN_STAT_AT_SPEED => ⟨.mpd, 0x40900018, 0, 1, 0, 1, 6, 6, .ro, .none, .val 0⟩
  | .MPD_SPN_STAT_LOADOK => ⟨.mpd, 0x40900018, 0, 1, 0, 1, 7, 7, .ro, .none, .val 0⟩
  | .MPD_SPN_STAT_TIER_NOW => ⟨.mpd, 0x40900018, 0, 1, 0, 1, 9, 8, .ro, .none, .val 0⟩
  | .MPD_SPN_STAT_RPM => ⟨.mpd, 0x40900018, 0, 1, 0, 1, 31, 16, .ro, .none, .val 0⟩
  | .MPD_AOFS_AOFS => ⟨.mpd, 0x40900020, 4, 4, 0, 1, 11, 0, .ro, .none, .val 0⟩
  | .MPD_AOFS_VALID => ⟨.mpd, 0x40900020, 4, 4, 0, 1, 12, 12, .ro, .none, .val 0⟩
  | .MPD_VCM_CFG_COIL_MOHM => ⟨.mpd, 0x40900040, 8, 4, 0, 1, 15, 0, .rw, .s, .val 0⟩
  | .MPD_VCM_STAT_I_MEAS => ⟨.mpd, 0x40900044, 8, 4, 0, 1, 15, 0, .ro, .none, .val 0⟩
  | .MPD_VCM_STAT_TRIP => ⟨.mpd, 0x40900044, 8, 4, 0, 1, 18, 16, .ro, .none, .val 0⟩
  | .MPD_MA_CFG_SLEW => ⟨.mpd, 0x40900060, 0, 1, 0, 1, 3, 0, .rw, .l, .val 2⟩
  | .MPD_MA_FLT_FLT => ⟨.mpd, 0x40900064, 0, 1, 0, 1, 23, 0, .ro, .none, .val 0⟩
  | .MPD_RET_CFG_RET_VEL => ⟨.mpd, 0x40900070, 0, 1, 0, 1, 7, 0, .rw, .l, .val 0x14⟩
  | .MPD_RET_CFG_RET_I => ⟨.mpd, 0x40900070, 0, 1, 0, 1, 15, 8, .rw, .l, .val 0x32⟩
  | .MPD_RET_CFG_RET_TO => ⟨.mpd, 0x40900070, 0, 1, 0, 1, 23, 16, .rw, .l, .val 0x28⟩
  | .MPD_RET_CFG_PARK_MS => ⟨.mpd, 0x40900070, 0, 1, 0, 1, 31, 24, .rw, .l, .val 0x32⟩
  | .MPD_RET_STAT_RESULT => ⟨.mpd, 0x40900074, 0, 1, 0, 1, 7, 0, .ro, .none, .val 0⟩
  | .MPD_HARV_HARV_FLOOR => ⟨.mpd, 0x40900078, 0, 1, 0, 1, 7, 0, .rw, .l, .val 0x3C⟩
  | .MPD_HARV_STAT_HARV_MJ => ⟨.mpd, 0x4090007C, 0, 1, 0, 1, 15, 0, .ro, .none, .val 0⟩
  | .MPD_PA_B0_E => ⟨.mpd, 0x40900100, 4, 32, 0, 1, 11, 0, .rw, .l, .val 0⟩
  | .MPD_PA_B1_E => ⟨.mpd, 0x40900180, 4, 32, 0, 1, 11, 0, .rw, .l, .val 0⟩
  | .SUP_CTRL_ERR_IE => ⟨.sup, 0x40A00000, 0, 1, 0, 1, 0, 0, .rw, .l, .val 0⟩
  | .SUP_CTRL_EV_IE => ⟨.sup, 0x40A00000, 0, 1, 0, 1, 1, 1, .rw, .l, .val 0⟩
  | .SUP_STATUS_CFG_ERR => ⟨.sup, 0x40A00004, 0, 1, 0, 1, 0, 0, .w1c, .l, .val 0⟩
  | .SUP_STATUS_LOWV => ⟨.sup, 0x40A00004, 0, 1, 0, 1, 1, 1, .ro, .none, .val 0⟩
  | .SUP_STATUS_LOWV_EV => ⟨.sup, 0x40A00004, 0, 1, 0, 1, 2, 2, .w1c, .l, .val 0⟩
  | .SUP_STATUS_GOV_EV => ⟨.sup, 0x40A00004, 0, 1, 0, 1, 3, 3, .w1c, .l, .val 0⟩
  | .SUP_STATUS_SLOE_EV => ⟨.sup, 0x40A00004, 0, 1, 0, 1, 4, 4, .w1c, .l, .val 0⟩
  | .SUP_STATUS_RAIL_EV => ⟨.sup, 0x40A00004, 0, 1, 0, 1, 5, 5, .w1c, .l, .val 0⟩
  | .SUP_STATUS_XT32 => ⟨.sup, 0x40A00004, 0, 1, 0, 1, 6, 6, .ro, .none, .val 0⟩
  | .SUP_VIN_VIN_MV => ⟨.sup, 0x40A00008, 0, 1, 0, 1, 15, 0, .ro, .none, .val 0⟩
  | .SUP_VIN_PIN => ⟨.sup, 0x40A00008, 0, 1, 0, 1, 31, 16, .ro, .none, .val 0⟩
  | .SUP_PLIM_PIN_MAX => ⟨.sup, 0x40A0000C, 0, 1, 0, 1, 7, 0, .rw, .l, .val 0xA8⟩
  | .SUP_PLIM_BUDGET => ⟨.sup, 0x40A0000C, 0, 1, 0, 1, 13, 8, .rw, .l, .val 0x19⟩
  | .SUP_PLIM_VCM_CAP_LOW => ⟨.sup, 0x40A0000C, 0, 1, 0, 1, 31, 16, .rw, .l, .val 0x2000⟩
  | .SUP_GOV_CAP => ⟨.sup, 0x40A00010, 0, 1, 0, 1, 15, 0, .ro, .none, .val 0x7FFF⟩
  | .SUP_GOV_SPIN_CUT => ⟨.sup, 0x40A00010, 0, 1, 0, 1, 16, 16, .ro, .none, .val 0⟩
  | .SUP_SLOE_REQ_DOMAIN => ⟨.sup, 0x40A00020, 0, 1, 0, 1, 4, 0, .wo, .l, .val 0⟩
  | .SUP_SLOE_REQ_ON => ⟨.sup, 0x40A00020, 0, 1, 0, 1, 8, 8, .wo, .l, .val 0⟩
  | .SUP_SLOE_REQ_FLUSH => ⟨.sup, 0x40A00020, 0, 1, 0, 1, 30, 30, .wo, .l, .val 0⟩
  | .SUP_SLOE_REQ_GO => ⟨.sup, 0x40A00020, 0, 1, 0, 1, 31, 31, .wo, .l, .val 0⟩
  | .SUP_SLOE_STAT_HEAD => ⟨.sup, 0x40A00024, 0, 1, 0, 1, 4, 0, .ro, .none, .val 0⟩
  | .SUP_SLOE_STAT_BUSY => ⟨.sup, 0x40A00024, 0, 1, 0, 1, 5, 5, .ro, .none, .val 0⟩
  | .SUP_SLOE_STAT_WAITING => ⟨.sup, 0x40A00024, 0, 1, 0, 1, 6, 6, .ro, .none, .val 0⟩
  | .SUP_SLOE_STAT_DEPTH => ⟨.sup, 0x40A00024, 0, 1, 0, 1, 11, 7, .ro, .none, .val 0⟩
  | .SUP_SLOE_STAT_SUM => ⟨.sup, 0x40A00024, 0, 1, 0, 1, 25, 16, .ro, .none, .val 0x14⟩
  | .SUP_DOM_ON_ON => ⟨.sup, 0x40A00028, 0, 1, 0, 1, 16, 0, .ro, .none, .val 3⟩
  | .SUP_DOM_FLT_FLT => ⟨.sup, 0x40A0002C, 0, 1, 0, 1, 16, 0, .w1c, .l, .val 0⟩
  | .SUP_DSTATE_REQ => ⟨.sup, 0x40A00030, 0, 1, 0, 1, 1, 0, .rw, .l, .val 0⟩
  | .SUP_DSTATE_NOW => ⟨.sup, 0x40A00030, 0, 1, 0, 1, 5, 4, .ro, .none, .val 0⟩
  | .SUP_WAKE_EN => ⟨.sup, 0x40A00034, 0, 1, 0, 1, 6, 0, .rw, .l, .val 0x7F⟩
  | .SUP_WAKE_STAT => ⟨.sup, 0x40A00034, 0, 1, 0, 1, 22, 16, .w1c, .l, .val 0⟩
  | .SUP_WKT_MS => ⟨.sup, 0x40A00040, 0, 1, 0, 1, 23, 0, .rw, .l, .val 0⟩
  | .SUP_AONT_LO_T_LO => ⟨.sup, 0x40A00038, 0, 1, 0, 1, 31, 0, .ro, .none, .val 0⟩
  | .SUP_AONT_HI_T_HI => ⟨.sup, 0x40A0003C, 0, 1, 0, 1, 15, 0, .ro, .none, .val 0⟩
  | .SUP_STRAP_PORT => ⟨.sup, 0x40A00044, 0, 1, 0, 1, 0, 0, .ro, .none, .val 0⟩
  | .SUP_STRAP_CLK => ⟨.sup, 0x40A00044, 0, 1, 0, 1, 1, 1, .ro, .none, .val 0⟩
  | .SUP_STRAP_RECOV => ⟨.sup, 0x40A00044, 0, 1, 0, 1, 2, 2, .ro, .none, .val 0⟩
  | .SUP_STRAP_PAIR => ⟨.sup, 0x40A00044, 0, 1, 0, 1, 4, 3, .ro, .none, .val 0⟩
  | .SUP_PLL_LOCK => ⟨.sup, 0x40A00048, 0, 1, 0, 1, 4, 0, .ro, .none, .val 0⟩
  | .SUP_RAIL_PG_PG => ⟨.sup, 0x40A0004C, 0, 1, 0, 1, 16, 0, .ro, .none, .val 0⟩
  | .SUP_UNSTART_BLK => ⟨.sup, 0x40A00050, 0, 1, 0, 1, 17, 0, .w1c, .l, .val 0⟩
  | .SUP_RST_KEY => ⟨.sup, 0x40A00060, 0, 1, 0, 1, 15, 0, .wo, .l, .val 0⟩
  | .SUP_RST_GO => ⟨.sup, 0x40A00060, 0, 1, 0, 1, 31, 31, .wo, .l, .val 0⟩
  | .SUP_RST_CAUSE_CAUSE => ⟨.sup, 0x40A00064, 0, 1, 0, 1, 7, 0, .w1c, .l, .val 1⟩
  | .SUP_RST_CAUSE_CORE => ⟨.sup, 0x40A00064, 0, 1, 0, 1, 10, 8, .ro, .none, .val 0⟩
  | .SUP_RST_CAUSE_PWRCYC => ⟨.sup, 0x40A00064, 0, 1, 0, 1, 11, 11, .ro, .none, .val 1⟩
  | .SUP_RST_CAUSE_RESETS => ⟨.sup, 0x40A00064, 0, 1, 0, 1, 31, 16, .ro, .none, .val 0⟩
  | .SUP_WDT_CFG_TIMEOUT => ⟨.sup, 0x40A00100, 8, 8, 0, 1, 15, 0, .rw, .l, .val 0x3E8⟩
  | .SUP_WDT_CFG_GRACE => ⟨.sup, 0x40A00100, 8, 8, 0, 1, 23, 16, .rw, .l, .val 0x64⟩
  | .SUP_WDT_CFG_PAUSE => ⟨.sup, 0x40A00100, 8, 8, 0, 1, 30, 30, .rw, .l, .val 1⟩
  | .SUP_WDT_CFG_EN => ⟨.sup, 0x40A00100, 8, 8, 0, 1, 31, 31, .rw, .l, .val 0⟩
  | .SUP_WDT_KICK_KEY => ⟨.sup, 0x40A00104, 8, 8, 0, 1, 7, 0, .wo, .l, .val 0⟩
  | .SUP_SWDT_TIMEOUT => ⟨.sup, 0x40A00140, 0, 1, 0, 1, 5, 0, .rw, .l, .val 0x3C⟩
  | .SUP_SWDT_EN => ⟨.sup, 0x40A00140, 0, 1, 0, 1, 31, 31, .rw, .l, .val 0⟩
  | .SUP_SWDT_KICK_KEY => ⟨.sup, 0x40A00144, 0, 1, 0, 1, 7, 0, .wo, .l, .val 0⟩
  | .SEC_CTRL_ERR_IE => ⟨.sec, 0x40B00000, 0, 1, 0, 1, 0, 0, .rw, .l, .val 0⟩
  | .SEC_CTRL_EV_IE => ⟨.sec, 0x40B00000, 0, 1, 0, 1, 1, 1, .rw, .l, .val 0⟩
  | .SEC_STATUS_CFG_ERR => ⟨.sec, 0x40B00004, 0, 1, 0, 1, 0, 0, .w1c, .l, .val 0⟩
  | .SEC_STATUS_VFY_EV => ⟨.sec, 0x40B00004, 0, 1, 0, 1, 1, 1, .w1c, .l, .val 0⟩
  | .SEC_STATUS_KEY_EV => ⟨.sec, 0x40B00004, 0, 1, 0, 1, 2, 2, .w1c, .l, .val 0⟩
  | .SEC_LOCK_LOCK => ⟨.sec, 0x40B00040, 0, 1, 0, 1, 0, 0, .w1s, .l, .val 0⟩
  | .SEC_BOOT_SLOT => ⟨.sec, 0x40B00008, 0, 1, 0, 1, 0, 0, .rw, .l, .val 0⟩
  | .SEC_BOOT_TRIAL => ⟨.sec, 0x40B00008, 0, 1, 0, 1, 1, 1, .rw, .l, .val 0⟩
  | .SEC_BOOT_RECOVERY => ⟨.sec, 0x40B00008, 0, 1, 0, 1, 2, 2, .rw, .l, .val 0⟩
  | .SEC_BOOT_DBG_LV => ⟨.sec, 0x40B00008, 0, 1, 0, 1, 6, 3, .rw, .l, .val 0⟩
  | .SEC_BOOT_KEY => ⟨.sec, 0x40B00008, 0, 1, 0, 1, 8, 7, .rw, .l, .val 0⟩
  | .SEC_CHAIN_CHAIN => ⟨.sec, 0x40B00010, 4, 12, 0, 1, 31, 0, .ro, .none, .val 0⟩
  | .SEC_ARB_COUNT => ⟨.sec, 0x40B00080, 4, 9, 0, 1, 5, 0, .ro, .none, .val 0⟩
  | .SEC_ARB_BOOTED => ⟨.sec, 0x40B00080, 4, 9, 0, 1, 13, 8, .ro, .none, .val 0⟩
  | .SEC_ARB_PRESENT => ⟨.sec, 0x40B00080, 4, 9, 0, 1, 31, 31, .ro, .none, .val 0⟩
  | .SEC_ARB_ADV_CLASS => ⟨.sec, 0x40B000A8, 0, 1, 0, 1, 3, 0, .rw, .l, .val 0⟩
  | .SEC_ARB_ADV_SVN => ⟨.sec, 0x40B000A8, 0, 1, 0, 1, 13, 8, .rw, .l, .val 0⟩
  | .SEC_ARB_ADV_REFUSED => ⟨.sec, 0x40B000A8, 0, 1, 0, 1, 28, 28, .ro, .none, .val 0⟩
  | .SEC_ARB_ADV_DONE => ⟨.sec, 0x40B000A8, 0, 1, 0, 1, 29, 29, .ro, .none, .val 0⟩
  | .SEC_ARB_ADV_BUSY => ⟨.sec, 0x40B000A8, 0, 1, 0, 1, 30, 30, .ro, .none, .val 0⟩
  | .SEC_ARB_ADV_GO => ⟨.sec, 0x40B000A8, 0, 1, 0, 1, 31, 31, .wo, .l, .val 0⟩
  | .SEC_KEYREV_REVOKED => ⟨.sec, 0x40B000AC, 0, 1, 0, 1, 3, 0, .ro, .none, .val 0⟩
  | .SEC_KEYREV_SLOT => ⟨.sec, 0x40B000AC, 0, 1, 0, 1, 17, 16, .rw, .l, .val 0⟩
  | .SEC_KEYREV_GO => ⟨.sec, 0x40B000AC, 0, 1, 0, 1, 31, 31, .wo, .l, .val 0⟩
  | .SEC_UID_LO_UID_LO => ⟨.sec, 0x40B000D8, 0, 1, 0, 1, 31, 0, .ro, .none, .val 0⟩
  | .SEC_UID_HI_UID_HI => ⟨.sec, 0x40B000DC, 0, 1, 0, 1, 31, 0, .ro, .none, .val 0⟩
  | .SEC_VFY_LO_BASE_LO => ⟨.sec, 0x40B000B0, 0, 1, 0, 1, 31, 6, .rw, .l, .val 0⟩
  | .SEC_VFY_HI_BASE_HI => ⟨.sec, 0x40B000B4, 0, 1, 0, 1, 15, 0, .rw, .l, .val 0⟩
  | .SEC_VFY_CTRL_CLASS => ⟨.sec, 0x40B000B8, 0, 1, 0, 1, 3, 0, .rw, .l, .val 0⟩
  | .SEC_VFY_CTRL_RESULT => ⟨.sec, 0x40B000B8, 0, 1, 0, 1, 27, 24, .ro, .none, .val 0⟩
  | .SEC_VFY_CTRL_DONE => ⟨.sec, 0x40B000B8, 0, 1, 0, 1, 29, 29, .ro, .none, .val 0⟩
  | .SEC_VFY_CTRL_BUSY => ⟨.sec, 0x40B000B8, 0, 1, 0, 1, 30, 30, .ro, .none, .val 0⟩
  | .SEC_VFY_CTRL_GO => ⟨.sec, 0x40B000B8, 0, 1, 0, 1, 31, 31, .wo, .l, .val 0⟩
  | .SEC_KEY_CTRL_NSIDX => ⟨.sec, 0x40B000C0, 0, 1, 0, 1, 5, 0, .rw, .l, .val 0⟩
  | .SEC_KEY_CTRL_OP => ⟨.sec, 0x40B000C0, 0, 1, 0, 1, 9, 8, .rw, .l, .val 0⟩
  | .SEC_KEY_CTRL_RESULT => ⟨.sec, 0x40B000C0, 0, 1, 0, 1, 14, 12, .ro, .none, .val 0⟩
  | .SEC_KEY_CTRL_DONE => ⟨.sec, 0x40B000C0, 0, 1, 0, 1, 29, 29, .ro, .none, .val 0⟩
  | .SEC_KEY_CTRL_BUSY => ⟨.sec, 0x40B000C0, 0, 1, 0, 1, 30, 30, .ro, .none, .val 0⟩
  | .SEC_KEY_CTRL_GO => ⟨.sec, 0x40B000C0, 0, 1, 0, 1, 31, 31, .wo, .l, .val 0⟩
  | .SEC_KEY_LD_LO_LOADED_LO => ⟨.sec, 0x40B000C4, 0, 1, 0, 1, 31, 0, .ro, .none, .val 0⟩
  | .SEC_KEY_LD_HI_LOADED_HI => ⟨.sec, 0x40B000C8, 0, 1, 0, 1, 31, 0, .ro, .none, .val 0⟩
  | .SEC_WRAP_WRAP => ⟨.sec, 0x40B00100, 4, 20, 0, 1, 31, 0, .rw, .l, .val 0⟩
  | .EFL_CTRL_ERR_IE => ⟨.efl, 0x40C00000, 0, 1, 0, 1, 0, 0, .rw, .l, .val 0⟩
  | .EFL_CTRL_EV_IE => ⟨.efl, 0x40C00000, 0, 1, 0, 1, 1, 1, .rw, .l, .val 0⟩
  | .EFL_STATUS_CFG_ERR => ⟨.efl, 0x40C00004, 0, 1, 0, 1, 0, 0, .w1c, .l, .val 0⟩
  | .EFL_STATUS_OP_EV => ⟨.efl, 0x40C00004, 0, 1, 0, 1, 1, 1, .w1c, .l, .val 0⟩
  | .EFL_STATUS_LEVEL => ⟨.efl, 0x40C00004, 0, 1, 0, 1, 3, 2, .ro, .none, .val 1⟩
  | .EFL_STATUS_JROW => ⟨.efl, 0x40C00004, 0, 1, 0, 1, 4, 4, .ro, .none, .val 0⟩
  | .EFL_STATUS_JFREE => ⟨.efl, 0x40C00004, 0, 1, 0, 1, 11, 5, .ro, .none, .val 0⟩
  | .EFL_RDCFG_FSEL => ⟨.efl, 0x40C00008, 0, 1, 0, 1, 1, 0, .rw, .b, .val 2⟩
  | .EFL_RDCFG_WS => ⟨.efl, 0x40C00008, 0, 1, 0, 1, 5, 2, .rw, .b, .val 1⟩
  | .EFL_RDCFG_VTRACK => ⟨.efl, 0x40C00008, 0, 1, 0, 1, 6, 6, .rw, .b, .val 0⟩
  | .EFL_RDCFG_PREFETCH => ⟨.efl, 0x40C00008, 0, 1, 0, 1, 7, 7, .rw, .l, .val 1⟩
  | .EFL_RDCFG_COMMIT => ⟨.efl, 0x40C00008, 0, 1, 0, 1, 8, 8, .wo, .l, .val 0⟩
  | .EFL_RDCFG_COMMIT_PEND => ⟨.efl, 0x40C00008, 0, 1, 0, 1, 9, 9, .ro, .none, .val 0⟩
  | .EFL_UNLOCK_KEY => ⟨.efl, 0x40C00010, 0, 1, 0, 1, 31, 0, .wo, .l, .val 0⟩
  | .EFL_ADDR_OFFSET => ⟨.efl, 0x40C00014, 0, 1, 0, 1, 23, 4, .rw, .l, .val 0⟩
  | .EFL_CMD_CODE => ⟨.efl, 0x40C00018, 0, 1, 0, 1, 3, 0, .rw, .l, .val 0⟩
  | .EFL_CMD_COUNT => ⟨.efl, 0x40C00018, 0, 1, 0, 1, 14, 8, .rw, .l, .val 0⟩
  | .EFL_CMD_SUSPEND => ⟨.efl, 0x40C00018, 0, 1, 0, 1, 29, 29, .wo, .l, .val 0⟩
  | .EFL_CMD_RESUME => ⟨.efl, 0x40C00018, 0, 1, 0, 1, 30, 30, .wo, .l, .val 0⟩
  | .EFL_CMD_GO => ⟨.efl, 0x40C00018, 0, 1, 0, 1, 31, 31, .wo, .l, .val 0⟩
  | .EFL_RES_RESULT => ⟨.efl, 0x40C0001C, 0, 1, 0, 1, 3, 0, .ro, .none, .val 0⟩
  | .EFL_RES_DONE => ⟨.efl, 0x40C0001C, 0, 1, 0, 1, 4, 4, .ro, .none, .val 0⟩
  | .EFL_RES_BUSY => ⟨.efl, 0x40C0001C, 0, 1, 0, 1, 5, 5, .ro, .none, .val 0⟩
  | .EFL_RES_SUSPENDED => ⟨.efl, 0x40C0001C, 0, 1, 0, 1, 6, 6, .ro, .none, .val 0⟩
  | .EFL_WP_WP => ⟨.efl, 0x40C00020, 4, 8, 0, 1, 31, 0, .w1s, .l, .val 0⟩
  | .EFL_ECC_CE => ⟨.efl, 0x40C00040, 0, 1, 0, 1, 15, 0, .ro, .none, .val 0⟩
  | .EFL_ECC_UE => ⟨.efl, 0x40C00040, 0, 1, 0, 1, 31, 16, .ro, .none, .val 0⟩
  | .EFL_ECC_ADDR_OFFSET => ⟨.efl, 0x40C00044, 0, 1, 0, 1, 23, 0, .ro, .none, .val 0⟩
  | .EFL_RDP_TARGET => ⟨.efl, 0x40C00048, 0, 1, 0, 1, 1, 0, .rw, .l, .val 0⟩
  | .EFL_RDP_BUSY => ⟨.efl, 0x40C00048, 0, 1, 0, 1, 30, 30, .ro, .none, .val 0⟩
  | .EFL_RDP_GO => ⟨.efl, 0x40C00048, 0, 1, 0, 1, 31, 31, .wo, .l, .val 0⟩
  | .EFL_PBUF_DATA => ⟨.efl, 0x40C00400, 4, 512, 0, 1, 31, 0, .rw, .l, .val 0⟩
  | .THM_CTRL_ERR_IE => ⟨.thm, 0x40D00000, 0, 1, 0, 1, 0, 0, .rw, .l, .val 0⟩
  | .THM_CTRL_EV_IE => ⟨.thm, 0x40D00000, 0, 1, 0, 1, 1, 1, .rw, .l, .val 0⟩
  | .THM_CTRL_ASSIST_OWN => ⟨.thm, 0x40D00000, 0, 1, 0, 1, 2, 2, .rw, .l, .val 1⟩
  | .THM_STATUS_CFG_ERR => ⟨.thm, 0x40D00004, 0, 1, 0, 1, 0, 0, .w1c, .l, .val 0⟩
  | .THM_STATUS_WARN => ⟨.thm, 0x40D00004, 0, 1, 0, 1, 1, 1, .ro, .none, .val 0⟩
  | .THM_STATUS_WARN_EV => ⟨.thm, 0x40D00004, 0, 1, 0, 1, 2, 2, .w1c, .l, .val 0⟩
  | .THM_STATUS_LVL_EV => ⟨.thm, 0x40D00004, 0, 1, 0, 1, 3, 3, .w1c, .l, .val 0⟩
  | .THM_STATUS_SENS_EV => ⟨.thm, 0x40D00004, 0, 1, 0, 1, 4, 4, .w1c, .l, .val 0⟩
  | .THM_CONV_REQ => ⟨.thm, 0x40D00008, 0, 1, 0, 1, 15, 0, .wo, .l, .val 0⟩
  | .THM_CONV_PEND => ⟨.thm, 0x40D00008, 0, 1, 0, 1, 31, 16, .ro, .none, .val 0⟩
  | .THM_SCAN_MASK => ⟨.thm, 0x40D0000C, 0, 1, 0, 1, 15, 0, .rw, .l, .val 0xFFFF⟩
  | .THM_SCAN_PERIOD => ⟨.thm, 0x40D0000C, 0, 1, 0, 1, 25, 16, .rw, .l, .val 0xA⟩
  | .THM_THR_THR_WARN => ⟨.thm, 0x40D00010, 0, 1, 0, 1, 11, 0, .rw, .l, .val 0x2F8⟩
  | .THM_THR_THR_CRIT => ⟨.thm, 0x40D00010, 0, 1, 0, 1, 27, 16, .rw, .l, .val 0x3E8⟩
  | .THM_THR2_THROT_ON => ⟨.thm, 0x40D00014, 0, 1, 0, 1, 11, 0, .rw, .l, .val 0x320⟩
  | .THM_THR2_THR_HOLD => ⟨.thm, 0x40D00014, 0, 1, 0, 1, 27, 16, .rw, .l, .val 0x398⟩
  | .THM_THR3_HYST => ⟨.thm, 0x40D00018, 0, 1, 0, 1, 5, 0, .rw, .l, .val 0x18⟩
  | .THM_THR3_STEP => ⟨.thm, 0x40D00018, 0, 1, 0, 1, 13, 8, .rw, .l, .val 0x10⟩
  | .THM_THR3_RESTART_DT => ⟨.thm, 0x40D00018, 0, 1, 0, 1, 21, 16, .rw, .l, .val 0xF⟩
  | .THM_THR3_MIN_OFF => ⟨.thm, 0x40D00018, 0, 1, 0, 1, 31, 24, .rw, .l, .val 0x3C⟩
  | .THM_MAX_TEMP => ⟨.thm, 0x40D0001C, 0, 1, 0, 1, 11, 0, .ro, .none, .val 0⟩
  | .THM_MAX_SENSOR => ⟨.thm, 0x40D0001C, 0, 1, 0, 1, 15, 12, .ro, .none, .val 0⟩
  | .THM_MAX_VALID => ⟨.thm, 0x40D0001C, 0, 1, 0, 1, 16, 16, .ro, .none, .val 0⟩
  | .THM_MAX_MAXMASK_LO => ⟨.thm, 0x40D0001C, 0, 1, 0, 1, 31, 17, .rw, .l, .val 0x7FFF⟩
  | .THM_LVL_LEVEL => ⟨.thm, 0x40D00020, 0, 1, 0, 1, 2, 0, .ro, .none, .val 0⟩
  | .THM_LVL_LVL_HOLD => ⟨.thm, 0x40D00020, 0, 1, 0, 1, 3, 3, .ro, .none, .val 0⟩
  | .THM_LVL_MIN_LVL => ⟨.thm, 0x40D00020, 0, 1, 0, 1, 6, 4, .rw, .l, .val 0⟩
  | .THM_LVL_MAXMASK_15 => ⟨.thm, 0x40D00020, 0, 1, 0, 1, 7, 7, .rw, .l, .val 1⟩
  | .THM_LVL_SLOT_MS => ⟨.thm, 0x40D00020, 0, 1, 0, 1, 15, 8, .rw, .l, .val 0xA⟩
  | .THM_HOLD_HELD => ⟨.thm, 0x40D00024, 0, 1, 0, 1, 23, 0, .ro, .none, .val 0⟩
  | .THM_HOLD_FW_FW => ⟨.thm, 0x40D00028, 0, 1, 0, 1, 23, 0, .rw, .l, .val 0⟩
  | .THM_COMP_RC_TC => ⟨.thm, 0x40D00030, 0, 1, 0, 1, 7, 0, .ro, .none, .val 0⟩
  | .THM_COMP_REF_TC => ⟨.thm, 0x40D00030, 0, 1, 0, 1, 15, 8, .ro, .none, .val 0⟩
  | .THM_TRIP_A_TEMP => ⟨.thm, 0x40D00034, 0, 1, 0, 1, 11, 0, .ro, .none, .val 0⟩
  | .THM_TRIP_A_SENSOR => ⟨.thm, 0x40D00034, 0, 1, 0, 1, 15, 12, .ro, .none, .val 0⟩
  | .THM_TRIP_A_TRIPS => ⟨.thm, 0x40D00034, 0, 1, 0, 1, 23, 16, .ro, .none, .val 0⟩
  | .THM_TRIP_A_VALID => ⟨.thm, 0x40D00034, 0, 1, 0, 1, 31, 31, .w1c, .l, .val 0⟩
  | .THM_TRIP_B_AONT => ⟨.thm, 0x40D00038, 0, 1, 0, 1, 31, 0, .ro, .none, .val 0⟩
  | .THM_TEMP_TEMP => ⟨.thm, 0x40D00040, 4, 16, 0, 1, 11, 0, .ro, .none, .val 0⟩
  | .THM_TEMP_VALID => ⟨.thm, 0x40D00040, 4, 16, 0, 1, 12, 12, .ro, .none, .val 0⟩
  | .CAL_CTRL_EN => ⟨.cal, 0x40E00000, 0, 1, 0, 1, 0, 0, .rw, .l, .val 0⟩
  | .CAL_CTRL_ERR_IE => ⟨.cal, 0x40E00000, 0, 1, 0, 1, 1, 1, .rw, .l, .val 0⟩
  | .CAL_CTRL_EV_IE => ⟨.cal, 0x40E00000, 0, 1, 0, 1, 2, 2, .rw, .l, .val 0⟩
  | .CAL_STATUS_CFG_ERR => ⟨.cal, 0x40E00004, 0, 1, 0, 1, 0, 0, .w1c, .l, .val 0⟩
  | .CAL_STATUS_FW_EV => ⟨.cal, 0x40E00004, 0, 1, 0, 1, 1, 1, .w1c, .l, .val 0⟩
  | .CAL_STATUS_REJ_EV => ⟨.cal, 0x40E00004, 0, 1, 0, 1, 2, 2, .w1c, .l, .val 0⟩
  | .CAL_STATUS_STARVE_EV => ⟨.cal, 0x40E00004, 0, 1, 0, 1, 3, 3, .w1c, .l, .val 0⟩
  | .CAL_CFG_RING => ⟨.cal, 0x40E00008, 0, 1, 0, 1, 9, 0, .rw, .s, .val 0⟩
  | .CAL_CFG_STARVE => ⟨.cal, 0x40E00008, 0, 1, 0, 1, 23, 16, .rw, .l, .val 0x3C⟩
  | .CAL_FW_ITEM => ⟨.cal, 0x40E0000C, 0, 1, 0, 1, 5, 0, .ro, .none, .val 0⟩
  | .CAL_FW_WAIT => ⟨.cal, 0x40E0000C, 0, 1, 0, 1, 6, 6, .ro, .none, .val 0⟩
  | .CAL_SUBMIT_VALUE => ⟨.cal, 0x40E00010, 0, 1, 0, 1, 15, 0, .wo, .l, .val 0⟩
  | .CAL_SUBMIT_DISCARD => ⟨.cal, 0x40E00010, 0, 1, 0, 1, 30, 30, .wo, .l, .val 0⟩
  | .CAL_SUBMIT_GO => ⟨.cal, 0x40E00010, 0, 1, 0, 1, 31, 31, .wo, .l, .val 0⟩
  | .CAL_ICFG_VALID => ⟨.cal, 0x40E00100, 32, 64, 0, 1, 0, 0, .rw, .l, .val 0⟩
  | .CAL_ICFG_MEAS => ⟨.cal, 0x40E00100, 32, 64, 0, 1, 2, 1, .rw, .s, .val 0⟩
  | .CAL_ICFG_DEST => ⟨.cal, 0x40E00100, 32, 64, 0, 1, 4, 3, .rw, .s, .val 0⟩
  | .CAL_ICFG_UNIT => ⟨.cal, 0x40E00100, 32, 64, 0, 1, 12, 8, .rw, .s, .val 0⟩
  | .CAL_ICFG_REPEATS => ⟨.cal, 0x40E00100, 32, 64, 0, 1, 15, 13, .rw, .s, .val 2⟩
  | .CAL_ICFG_COUNT => ⟨.cal, 0x40E00100, 32, 64, 0, 1, 27, 16, .rw, .s, .val 0x40⟩
  | .CAL_ISCH_PERIOD => ⟨.cal, 0x40E00104, 32, 64, 0, 1, 15, 0, .rw, .l, .val 0⟩
  | .CAL_ISCH_DT => ⟨.cal, 0x40E00104, 32, 64, 0, 1, 23, 16, .rw, .l, .val 0⟩
  | .CAL_ISCH_DT_HARD => ⟨.cal, 0x40E00104, 32, 64, 0, 1, 31, 24, .rw, .l, .val 0⟩
  | .CAL_ITOL_TOL => ⟨.cal, 0x40E00108, 32, 64, 0, 1, 15, 0, .rw, .l, .val 0⟩
  | .CAL_ITOL_DUE => ⟨.cal, 0x40E00108, 32, 64, 0, 1, 31, 31, .w1s, .l, .val 0⟩
  | .CAL_ICH_LO_BASE_LO => ⟨.cal, 0x40E0010C, 32, 64, 0, 1, 31, 6, .rw, .s, .val 0⟩
  | .CAL_ICH_HI_BASE_HI => ⟨.cal, 0x40E00110, 32, 64, 0, 1, 15, 0, .rw, .s, .val 0⟩
  | .CAL_ICH_HI_LEN => ⟨.cal, 0x40E00110, 32, 64, 0, 1, 19, 16, .rw, .s, .val 0⟩
  | .CAL_IRES_VALUE => ⟨.cal, 0x40E00114, 32, 64, 0, 1, 15, 0, .ro, .none, .val 0⟩
  | .CAL_IRES_TEMP => ⟨.cal, 0x40E00114, 32, 64, 0, 1, 27, 16, .ro, .none, .val 0⟩
  | .CAL_ISTAT_STATE => ⟨.cal, 0x40E00118, 32, 64, 0, 1, 1, 0, .ro, .none, .val 0⟩
  | .CAL_ISTAT_DONE_N => ⟨.cal, 0x40E00118, 32, 64, 0, 1, 4, 2, .ro, .none, .val 0⟩
  | .CAL_ISTAT_REJ => ⟨.cal, 0x40E00118, 32, 64, 0, 1, 7, 5, .ro, .none, .val 0⟩
  | .CAL_ISTAT_ACCEPTS => ⟨.cal, 0x40E00118, 32, 64, 0, 1, 31, 16, .ro, .none, .val 0⟩
  | .EVR_CTRL_EN => ⟨.evr, 0x40F00000, 0, 1, 0, 1, 0, 0, .rw, .l, .val 0⟩
  | .EVR_CTRL_ERR_IE => ⟨.evr, 0x40F00000, 0, 1, 0, 1, 1, 1, .rw, .l, .val 0⟩
  | .EVR_CTRL_EV_IE => ⟨.evr, 0x40F00000, 0, 1, 0, 1, 2, 2, .rw, .l, .val 0⟩
  | .EVR_CTRL_FREEZE => ⟨.evr, 0x40F00000, 0, 1, 0, 1, 3, 3, .rw, .l, .val 0⟩
  | .EVR_STATUS_CFG_ERR => ⟨.evr, 0x40F00004, 0, 1, 0, 1, 0, 0, .w1c, .l, .val 0⟩
  | .EVR_STATUS_READY => ⟨.evr, 0x40F00004, 0, 1, 0, 1, 1, 1, .ro, .none, .val 0⟩
  | .EVR_STATUS_KEEP_FULL => ⟨.evr, 0x40F00004, 0, 1, 0, 1, 2, 2, .ro, .none, .val 0⟩
  | .EVR_STATUS_DROP_EV => ⟨.evr, 0x40F00004, 0, 1, 0, 1, 3, 3, .w1c, .l, .val 0⟩
  | .EVR_STATUS_CLR_EV => ⟨.evr, 0x40F00004, 0, 1, 0, 1, 4, 4, .w1c, .l, .val 0⟩
  | .EVR_STATUS_QDEPTH => ⟨.evr, 0x40F00004, 0, 1, 0, 1, 14, 8, .ro, .none, .val 0⟩
  | .EVR_CFG_DEF_LIMIT => ⟨.evr, 0x40F00008, 0, 1, 0, 1, 7, 0, .rw, .l, .val 0x40⟩
  | .EVR_CFG_FRZ_TO => ⟨.evr, 0x40F00008, 0, 1, 0, 1, 15, 8, .rw, .l, .val 0xA⟩
  | .EVR_SEQ_NEXT => ⟨.evr, 0x40F0000C, 0, 1, 0, 1, 31, 0, .ro, .none, .val 0⟩
  | .EVR_OPMIN_OP_MIN => ⟨.evr, 0x40F00010, 0, 1, 0, 1, 31, 0, .ro, .none, .val 0⟩
  | .EVR_CYCLES_CYCLES => ⟨.evr, 0x40F00014, 0, 1, 0, 1, 31, 0, .ro, .none, .val 0⟩
  | .EVR_CNT_DROPPED => ⟨.evr, 0x40F00018, 0, 1, 0, 1, 15, 0, .ro, .none, .val 0⟩
  | .EVR_CNT_SUPPRESSED => ⟨.evr, 0x40F00018, 0, 1, 0, 1, 31, 16, .ro, .none, .val 0⟩
  | .EVR_SUB_A_ARG => ⟨.evr, 0x40F00020, 4, 3, 0, 1, 31, 0, .rw, .l, .val 0⟩
  | .EVR_SUB_CTRL_CODE => ⟨.evr, 0x40F0002C, 0, 1, 0, 1, 15, 0, .rw, .l, .val 0⟩
  | .EVR_SUB_CTRL_KEEP => ⟨.evr, 0x40F0002C, 0, 1, 0, 1, 16, 16, .rw, .l, .val 0⟩
  | .EVR_SUB_CTRL_GO => ⟨.evr, 0x40F0002C, 0, 1, 0, 1, 31, 31, .wo, .l, .val 0⟩
  | .EVR_CLR_KEY => ⟨.evr, 0x40F00030, 0, 1, 0, 1, 15, 0, .wo, .l, .val 0⟩
  | .EVR_CLR_AREAS => ⟨.evr, 0x40F00030, 0, 1, 0, 1, 17, 16, .rw, .l, .val 0⟩
  | .EVR_CLR_RESULT => ⟨.evr, 0x40F00030, 0, 1, 0, 1, 29, 28, .ro, .none, .val 0⟩
  | .EVR_CLR_BUSY => ⟨.evr, 0x40F00030, 0, 1, 0, 1, 30, 30, .ro, .none, .val 0⟩
  | .EVR_CLR_GO => ⟨.evr, 0x40F00030, 0, 1, 0, 1, 31, 31, .wo, .l, .val 0⟩
  | .EVR_CODE_CODE => ⟨.evr, 0x40F00100, 4, 64, 0, 1, 15, 0, .rw, .l, .evrCode⟩
  | .EVR_CODE_LIMIT => ⟨.evr, 0x40F00100, 4, 64, 0, 1, 23, 16, .rw, .l, .evrLimit⟩
  | .EVR_CODE_KEEP => ⟨.evr, 0x40F00100, 4, 64, 0, 1, 24, 24, .rw, .l, .evrKeep⟩
  | .PLV_CTRL_EN => ⟨.plv, 0x41000000, 0, 1, 0, 1, 0, 0, .rw, .l, .val 0⟩
  | .PLV_CTRL_ERR_IE => ⟨.plv, 0x41000000, 0, 1, 0, 1, 1, 1, .rw, .l, .val 0⟩
  | .PLV_CTRL_EV_IE => ⟨.plv, 0x41000000, 0, 1, 0, 1, 2, 2, .rw, .l, .val 0⟩
  | .PLV_STATUS_CFG_ERR => ⟨.plv, 0x41000004, 0, 1, 0, 1, 0, 0, .w1c, .l, .val 0⟩
  | .PLV_STATUS_READY => ⟨.plv, 0x41000004, 0, 1, 0, 1, 1, 1, .ro, .none, .val 0⟩
  | .PLV_STATUS_ARMED => ⟨.plv, 0x41000004, 0, 1, 0, 1, 2, 2, .ro, .none, .val 0⟩
  | .PLV_STATUS_ENERGY_OK => ⟨.plv, 0x41000004, 0, 1, 0, 1, 3, 3, .ro, .none, .val 0⟩
  | .PLV_STATUS_IN_FORCE => ⟨.plv, 0x41000004, 0, 1, 0, 1, 4, 4, .ro, .none, .val 0⟩
  | .PLV_STATUS_FROZEN => ⟨.plv, 0x41000004, 0, 1, 0, 1, 5, 5, .ro, .none, .val 0⟩
  | .PLV_STATUS_NAND_EV => ⟨.plv, 0x41000004, 0, 1, 0, 1, 6, 6, .w1c, .l, .val 0⟩
  | .PLV_STATUS_FORCE_EV => ⟨.plv, 0x41000004, 0, 1, 0, 1, 7, 7, .w1c, .l, .val 0⟩
  | .PLV_CFG_PLD_THR => ⟨.plv, 0x41000008, 0, 1, 0, 1, 5, 0, .rw, .s, .val 0x2A⟩
  | .PLV_CFG_MIN_RPM => ⟨.plv, 0x41000008, 0, 1, 0, 1, 19, 8, .rw, .l, .val 0x15E⟩
  | .PLV_CFG_DIES => ⟨.plv, 0x41000008, 0, 1, 0, 1, 23, 20, .rw, .s, .val 8⟩
  | .PLV_NAND_MODE => ⟨.plv, 0x4100000C, 0, 1, 0, 1, 1, 0, .rw, .s, .val 2⟩
  | .PLV_NAND_SLC_CMD => ⟨.plv, 0x4100000C, 0, 1, 0, 1, 15, 8, .rw, .s, .val 0⟩
  | .PLV_NAND_AREA_BLKS => ⟨.plv, 0x4100000C, 0, 1, 0, 1, 23, 16, .rw, .s, .val 0xC⟩
  | .PLV_GEOM_PPB => ⟨.plv, 0x41000010, 0, 1, 0, 1, 15, 0, .ro, .none, .val 0⟩
  | .PLV_GEOM_BLOCKS => ⟨.plv, 0x41000010, 0, 1, 0, 1, 31, 16, .ro, .none, .val 0⟩
  | .PLV_PROT_LO_BASE_LO => ⟨.plv, 0x41000014, 0, 1, 0, 1, 31, 20, .rw, .s, .val 0⟩
  | .PLV_PROT_HI_BASE_HI => ⟨.plv, 0x41000018, 0, 1, 0, 1, 15, 0, .rw, .s, .val 0⟩
  | .PLV_PROT_SIZE_PROT_MIB => ⟨.plv, 0x4100001C, 0, 1, 0, 1, 9, 0, .rw, .s, .val 0x200⟩
  | .PLV_IDX_LO_BASE_LO => ⟨.plv, 0x41000020, 0, 1, 0, 1, 31, 20, .rw, .s, .val 0⟩
  | .PLV_IDX_HI_BASE_HI => ⟨.plv, 0x41000024, 0, 1, 0, 1, 15, 0, .rw, .s, .val 0⟩
  | .PLV_AREA_NEWEST => ⟨.plv, 0x41000028, 0, 1, 0, 1, 11, 0, .ro, .none, .val 0⟩
  | .PLV_AREA_NEXT => ⟨.plv, 0x41000028, 0, 1, 0, 1, 27, 16, .ro, .none, .val 0⟩
  | .PLV_IMG_LO_SEQ_LO => ⟨.plv, 0x4100002C, 0, 1, 0, 1, 31, 0, .ro, .none, .val 0⟩
  | .PLV_IMG_HI_SEQ_HI => ⟨.plv, 0x41000030, 0, 1, 0, 1, 31, 0, .ro, .none, .val 0⟩
  | .PLV_RES_KIND => ⟨.plv, 0x41000034, 0, 1, 0, 1, 0, 0, .ro, .none, .val 0⟩
  | .PLV_RES_CONSUMED => ⟨.plv, 0x41000034, 0, 1, 0, 1, 1, 1, .ro, .none, .val 0⟩
  | .PLV_RES_COMPLETE => ⟨.plv, 0x41000034, 0, 1, 0, 1, 2, 2, .ro, .none, .val 0⟩
  | .PLV_RES_UNCORR => ⟨.plv, 0x41000034, 0, 1, 0, 1, 31, 16, .ro, .none, .val 0⟩
  | .PLV_CNT_USABLE => ⟨.plv, 0x41000038, 0, 1, 0, 1, 11, 0, .ro, .none, .val 0⟩
  | .PLV_CNT_PFAIL => ⟨.plv, 0x41000038, 0, 1, 0, 1, 23, 16, .ro, .none, .val 0⟩
  | .PLV_BBM_BAD => ⟨.plv, 0x41001000, 4, 1024, 0, 1, 31, 0, .rw, .s, .val 0⟩
  | .MIR_CTRL_EN => ⟨.mir, 0x41100000, 0, 1, 0, 1, 0, 0, .rw, .l, .val 0⟩
  | .MIR_CTRL_ERR_IE => ⟨.mir, 0x41100000, 0, 1, 0, 1, 1, 1, .rw, .l, .val 0⟩
  | .MIR_CTRL_EV_IE => ⟨.mir, 0x41100000, 0, 1, 0, 1, 2, 2, .rw, .l, .val 0⟩
  | .MIR_CTRL_ALIVE => ⟨.mir, 0x41100000, 0, 1, 0, 1, 3, 3, .rw, .l, .val 0⟩
  | .MIR_CTRL_TAKE_AUTO => ⟨.mir, 0x41100000, 0, 1, 0, 1, 4, 4, .rw, .l, .val 0⟩
  | .MIR_CTRL_TAKE => ⟨.mir, 0x41100000, 0, 1, 0, 1, 5, 5, .wo, .l, .val 0⟩
  | .MIR_CTRL_FENCE => ⟨.mir, 0x41100000, 0, 1, 0, 1, 6, 6, .rw, .l, .val 0⟩
  | .MIR_CTRL_KX_OK => ⟨.mir, 0x41100000, 0, 1, 0, 1, 7, 7, .rw, .l, .val 0⟩
  | .MIR_STATUS_CFG_ERR => ⟨.mir, 0x41100004, 0, 1, 0, 1, 0, 0, .w1c, .l, .val 0⟩
  | .MIR_STATUS_LINK_UP => ⟨.mir, 0x41100004, 0, 1, 0, 1, 1, 1, .ro, .none, .val 0⟩
  | .MIR_STATUS_SYNCED => ⟨.mir, 0x41100004, 0, 1, 0, 1, 2, 2, .ro, .none, .val 0⟩
  | .MIR_STATUS_OWNER => ⟨.mir, 0x41100004, 0, 1, 0, 1, 3, 3, .ro, .none, .val 0⟩
  | .MIR_STATUS_PARTNER_ALIVE => ⟨.mir, 0x41100004, 0, 1, 0, 1, 4, 4, .ro, .none, .val 0⟩
  | .MIR_STATUS_FENCED => ⟨.mir, 0x41100004, 0, 1, 0, 1, 5, 5, .ro, .none, .val 0⟩
  | .MIR_STATUS_TAKE_EV => ⟨.mir, 0x41100004, 0, 1, 0, 1, 6, 6, .w1c, .l, .val 0⟩
  | .MIR_STATUS_LINK_EV => ⟨.mir, 0x41100004, 0, 1, 0, 1, 7, 7, .w1c, .l, .val 0⟩
  | .MIR_STATUS_OWN => ⟨.mir, 0x41100004, 0, 1, 0, 1, 12, 8, .ro, .none, .val 0⟩
  | .MIR_CFG_RETRY_MAX => ⟨.mir, 0x41100008, 0, 1, 0, 1, 3, 0, .rw, .s, .val 8⟩
  | .MIR_CFG_ACK_TO => ⟨.mir, 0x41100008, 0, 1, 0, 1, 11, 4, .rw, .s, .val 0x14⟩
  | .MIR_CFG_STATE_WORDS => ⟨.mir, 0x41100008, 0, 1, 0, 1, 16, 12, .rw, .s, .val 0x10⟩
  | .MIR_CFG_TK_WIN => ⟨.mir, 0x41100008, 0, 1, 0, 1, 23, 17, .rw, .s, .val 0x40⟩
  | .MIR_CFG_RESYNC_GBS => ⟨.mir, 0x41100008, 0, 1, 0, 1, 27, 24, .rw, .l, .val 4⟩
  | .MIR_TERM_TERM => ⟨.mir, 0x4110000C, 0, 1, 0, 1, 7, 0, .rw, .s, .val 0⟩
  | .MIR_CNT_RETRIES => ⟨.mir, 0x41100010, 0, 1, 0, 1, 15, 0, .ro, .none, .val 0⟩
  | .MIR_CNT_TERM_DROP => ⟨.mir, 0x41100010, 0, 1, 0, 1, 31, 16, .ro, .none, .val 0⟩
  | .MIR_RESYNC_BUSY => ⟨.mir, 0x41100014, 0, 1, 0, 1, 0, 0, .ro, .none, .val 0⟩
  | .MIR_RESYNC_GO => ⟨.mir, 0x41100014, 0, 1, 0, 1, 31, 31, .wo, .l, .val 0⟩
  | .MIR_KX_NSIDX => ⟨.mir, 0x41100018, 0, 1, 0, 1, 5, 0, .rw, .l, .val 0⟩
  | .MIR_KX_DONE => ⟨.mir, 0x41100018, 0, 1, 0, 1, 29, 29, .ro, .none, .val 0⟩
  | .MIR_KX_BUSY => ⟨.mir, 0x41100018, 0, 1, 0, 1, 30, 30, .ro, .none, .val 0⟩
  | .MIR_KX_GO => ⟨.mir, 0x41100018, 0, 1, 0, 1, 31, 31, .wo, .l, .val 0⟩

/-- Every field once, in the order of the tables: what a register access goes through. -/
def Fld.all : List Fld := (List.range 749).map Fld.ofNat

/-- The width of a field in bits. -/
def Fld.width (f : Fld) : Nat := f.info.hi + 1 - f.info.lo

/-- The number of copies of a field. -/
def Fld.copies (f : Fld) : Nat := f.info.count * f.info.count2

/-- The core address (BAR0 offset for the vendor area) of copy i of a field's register. -/
def Fld.addr (f : Fld) (i : Nat) : Nat :=
  f.info.base + (i % f.info.count) * f.info.stride + (i / f.info.count) * f.info.stride2

/-- The copy of the field that stands at an address, if any. -/
def Fld.indexAt (f : Fld) (a : Nat) : Option Nat :=
  let n := f.info
  if a < n.base then none else
  let d := a - n.base
  let o := if n.stride2 = 0 then 0 else d / n.stride2
  let r := if n.stride2 = 0 then d else d % n.stride2
  let j := if n.stride = 0 then 0 else r / n.stride
  if o < n.count2 ∧ j < n.count ∧ f.addr (o * n.count + j) = a then some (o * n.count + j) else none

/-- Reset values that differ between the copies of one register: EVR_CODE entries 0-15 (R396). -/
def evrCodeReset : List (Nat × Nat × Nat) :=
  [(0x4004, 0, 1), (0x4005, 0, 1), (0x400B, 0, 1), (0x400C, 0, 1), (0x9009, 0, 1), (0xA009, 0, 1), (0xB002, 0, 1),
   (0xB007, 0, 1), (0xB008, 0, 1), (0xB009, 0, 1), (0xC003, 0, 1), (0xC006, 0, 1), (0xD005, 0, 1), (0xD008, 0, 1),
   (0x7004, 16, 0), (0x3002, 4, 0)]

/-- The value copy i of a field holds at reset, as its table gives it; fuse and strap values are 0 (log entry 4). -/
def Fld.resetAt (f : Fld) (i : Nat) : Nat :=
  match f.info.reset with
  | .val v => v
  | .firstCore => if i = 0 then 1 else 0
  | .trigSrc => if i < 8 then 1 else if i = 8 then 2 else if i < 11 then 3 else 0
  | .loopAct => if i < 8 then i / 2 else 0
  | .evrCode => (evrCodeReset.getD i (0, 0, 0)).1
  | .evrLimit => (evrCodeReset.getD i (0, 0, 0)).2.1
  | .evrKeep => (evrCodeReset.getD i (0, 0, 0)).2.2
  | .port v => if i = 0 then v else 0

/-- The number of a field, its place in the tables. -/
def Fld.code (f : Fld) : Nat := f.ctorIdx

/-- The key under which State holds copy i of a field. -/
def Fld.key (f : Fld) (i : Nat) : Nat := f.code * 2048 + i

/-- The field of a key. -/
def keyFld (k : Nat) : Fld := Fld.ofNat (k / 2048)

end Sys2Proof.Machine
end

