-- ==== Sys2Proof/Machine/Tbl.lean ====
section
/-!
DEFINITION. Machine/Tbl.lean: sparse tables of numbered entries, the one form in which State holds everything that comes
in many copies (register fields, bytes of memory, queues, rings). An entry equal to its default is never listed, and the
keys rise strictly, so equal contents are equal data.
-/
namespace Sys2Proof.Machine

/-- A sparse table. -/
abbrev Tbl (α : Type) := List (Nat × α)

/-- The entry listed under a key. -/
def Tbl.look {α : Type} (t : Tbl α) (k : Nat) : Option α :=
  match t with
  | [] => none
  | (j, v) :: r => if j = k then some v else Tbl.look r k

/-- The entry of a key, the default where none is listed. -/
def Tbl.get {α : Type} (t : Tbl α) (d : α) (k : Nat) : α := (Tbl.look t k).getD d

/-- The table without the key. -/
def Tbl.erase {α : Type} (t : Tbl α) (k : Nat) : Tbl α :=
  match t with
  | [] => []
  | (j, v) :: r => if j = k then Tbl.erase r k else (j, v) :: Tbl.erase r k

/-- A new entry in its place by key. -/
def Tbl.ins {α : Type} (t : Tbl α) (k : Nat) (v : α) : Tbl α :=
  match t with
  | [] => [(k, v)]
  | (j, w) :: r => if k < j then (k, v) :: (j, w) :: r else (j, w) :: Tbl.ins r k v

/-- Setting the entry of a key; setting it to the default takes it off the list. -/
def Tbl.set {α : Type} [DecidableEq α] (t : Tbl α) (d : α) (k : Nat) (v : α) : Tbl α :=
  if v = d then Tbl.erase t k else Tbl.ins (Tbl.erase t k) k v

/-- Changing the entry of a key. -/
def Tbl.upd {α : Type} [DecidableEq α] (t : Tbl α) (d : α) (k : Nat) (g : α → α) : Tbl α :=
  Tbl.set t d k (g (Tbl.get t d k))

/-- The keys rise strictly. -/
def Tbl.sorted {α : Type} : Tbl α → Bool
  | [] => true
  | [_] => true
  | (j, _) :: (k, w) :: r => decide (j < k) && Tbl.sorted ((k, w) :: r)

/-- The canonical form: keys rise strictly and no entry equals its default. -/
def Tbl.wf {α : Type} [DecidableEq α] (d : Nat → α) (t : Tbl α) : Bool :=
  Tbl.sorted t && t.all (fun e => decide (e.2 ≠ d e.1))

/-- The first number from n on, within fuel, for which a test holds. -/
def firstFrom (fuel n : Nat) (p : Nat → Bool) : Option Nat :=
  match fuel with
  | 0 => none
  | k + 1 => if p n then some n else firstFrom k (n + 1) p

end Sys2Proof.Machine
end

