-- ==== Sys2Proof/Machine/State.lean ====
section
/-!
DEFINITION. Machine/State.lean: everything the manual gives the machine, as plain data. Register fields stand in one
table under their own names (Regs.lean); what the manual describes without a register stands in one record per block.
-/
namespace Sys2Proof.Machine

/-- Why a command faults. No command of this model ends in a fault: an access that the manual says has no target raises
an access fault on the issuing core, which is state (R17). -/
inductive Fault where
  /-- Raised by nothing; safe. -/
  | none
  deriving DecidableEq, Repr

/-- Why a command is refused. -/
inductive Refusal where
  /-- A command that has no meaning yet, by its mnemonic; raised by exec's arms only; safe. -/
  | notModelled (mnemonic : String)
  deriving DecidableEq, Repr

/-! ### What the device sends -/

/-- Something the device sends: to a host, a partner, a debugger. Appended to State.out in the order of sending; the model's
own record of effects that leave the block (log entry 5). -/
inductive Msg where
  /-- A completion entry (R91): port, queue, command identifier, status code type and code, dword 0. -/
  | cqe (port q cid sct sc dw0 : Nat)
  /-- An MSI-X message of a vector, with the address and data of its table entry (R26, R54). -/
  | msix (port vec addr data : Nat)
  /-- An asynchronous event: type, information, log page. -/
  | asyncEvent (port cid typ info page : Nat)
  /-- A completion TLP for a host's read or configuration request: data and EP; status 0 successful, 1 CRS, 2 Completer Abort. -/
  | cplTlp (port status : Nat) (data : List Byte) (ep : Bool)
  /-- A non-posted read of host memory. -/
  | memRead (port tag addr len : Nat)
  /-- A translation request and an Invalidate Completion (R49, R51). -/
  | xlateReq (port tag addr : Nat)
  | invalDone (port itag : Nat)
  /-- Data a command returns to the host (read data, log pages, Identify, reports), with EP (R47) and Relaxed Ordering (R31) on its TLPs. -/
  | hostData (port cid : Nat) (data : List Byte) (ep ro : Bool)
  /-- An error message upstream: 0 correctable (an advisory non-fatal error, R40), 1 non-fatal. -/
  | errMsg (port kind : Nat)
  /-- A word that a register or window read returns to the agent that made it. -/
  | readData (v : Nat)
  /-- A Medlar frame: type, sequence number, the sender's term, tag, address, payload, poison flag. -/
  | frame (typ seq term tag addr : Nat) (data : List Byte) (poison : Bool)
  /-- An IDLE frame: the sender's term, ACK and NAK. -/
  | idle (term ack : Nat) (nak : Bool)
  /-- An SPDM response. -/
  | spdm (data : List Byte)
  /-- A control frame to a preamp (R244, R454): actuator, head or mode frame, the 32 bits. -/
  | preamp (act : Nat) (setup : Bool) (data : Nat)
  /-- A word sent to a driver of the power die (R183 DRV): driver number, value. -/
  | driver (d v : Nat)
  /-- Drive angle and torque command of the spindle driver (R278, R281). -/
  | spindle (angle : Nat) (torque : Int)
  /-- A page of a vault die written: die, page, its 16,384 bytes followed by the 64 bytes of metadata (R416). -/
  | vaultPage (die page : Nat) (data : List Byte)
  /-- A sector sent to the preamp: head, track, physical position, the count at which it starts (R224), the 4,686 bytes of R220, assist code,
  bit periods by which assist leads the write gate, write current code, precompensation (R240). -/
  | sector (head track pos start : Nat) (data : List Byte) (assist lead wcur : Nat) (precomp : List Byte)
  deriving DecidableEq, Repr

/-! ### Device-wide -/

/-- Flags and latches that belong to no one block. -/
structure Dev where
  /-- Blocks whose first CFG_ERR since POR has been recorded (R29, R459), in AON, by block number. -/
  cfgSeen : Tbl Bool := []
  /-- Blocks whose first unstarted access since POR has been recorded (R18, R459), in AON. -/
  unstartSeen : Tbl Bool := []
  /-- One-time events since POR (R459): by event code, 0x2003 and the like. -/
  once : Tbl Bool := []
  /-- The latch of a split pair (R19, R98): the high half, none when no low read has loaded it since reset. -/
  latch : Tbl (Option Nat) := []
  /-- Operands of an operation under way, as its GO gave them, by Fld.key: a later write of their fields leaves it as it is (R28). -/
  opnd : Tbl Nat := []
  /-- Exception raised on a core by its last faulting access and not yet taken by it: 1 access fault (R1, R17, R168), 2 address
  misaligned (R166). -/
  accFault : Tbl Nat := []
  deriving DecidableEq, Repr

/-! ### Event recorder (R390-R405) -/

/-- A record of the recorder's queue (R390, R394). -/
structure EvRec where
  seq : Nat
  opMin : Nat
  cycles : Nat
  code : Nat
  flags : Nat
  secs : Nat
  a0 : Nat
  a1 : Nat
  a2 : Nat
  deriving DecidableEq, Repr

structure Evr where
  /-- The queue, oldest first, at most 64 (R394). -/
  queue : List EvRec := []
  /-- Entries into the queue this minute, and suppressions this minute, by code (R395). -/
  entered : Tbl Nat := []
  suppressed : Tbl Nat := []
  /-- Events dropped since the last 0xE005 (R394). -/
  dropPend : Nat := 0
  /-- SUP_AONT at the start of the operating minute (R390, R392). -/
  minuteAt : Nat := 0
  /-- Next record positions in the keep and circulating areas (R397). -/
  keepNext : Nat := 0
  circNext : Nat := 0
  /-- A scan is under way (R401). -/
  scanning : Bool := false
  /-- The AREAS of a clearing under way that waits for the flash (R399, R403, R404). -/
  clearing : Option Nat := none
  deriving DecidableEq, Repr

/-! ### Host endpoint (R30-R73) -/

/-- What a non-posted request serves (R35). -/
inductive ReqKind where
  /-- A submission entry of a queue for a sequencer, with its place in the order of arbitration (R85); refetched once after a poisoned
  completion (R44). -/
  | sqe (q cs order : Nat) (again : Bool)
  /-- Data of the command that holds a tag, to a core address, for a sequencer. -/
  | data (tag dst cs : Nat)
  /-- A translation of a page, with the ranges invalidated since its request (R50). -/
  | xlate (page : Nat) (inv : List (Nat × Nat))
  /-- A fetched entry whose command has ended with its controller (R92): what arrives is dropped. -/
  | dead
  /-- A fetched entry of a queue that has been deleted, with the completion queue it had: its command ends with 0/0x08 (R92). -/
  | ended (q cq : Nat)
  deriving DecidableEq, Repr

/-- An outstanding non-posted request. -/
structure HostReq where
  tag : Nat
  kind : ReqKind
  addr : Nat
  remaining : Nat
  got : List Byte
  /-- The timeout in force when it was issued, in microseconds (R36, R73). -/
  cto : Nat
  /-- The cached translation it used: first address and size (R51). -/
  via : Option (Nat × Nat)
  /-- Invalidations whose completion waits for it (R51). -/
  holds : List Nat
  deriving DecidableEq, Repr

/-- A read of host memory that has not left: it waits for a tag (R35), or for the translation of its page (R49). A read whose translation
failed goes out untranslated. -/
structure XWait where
  kind : ReqKind
  addr : Nat
  len : Nat
  plain : Bool
  deriving DecidableEq, Repr

/-- An entry of a port's AER log (R30, R38, R40, R44): 0 Completion Timeout, 1 Unexpected Completion, 2 Poisoned TLP Received; whether it is
handled as an advisory non-fatal error; the header logged with it. -/
structure Aer where
  kind : Nat
  advisory : Bool
  header : Nat
  deriving DecidableEq, Repr

/-- A quarantined tag (R39): bytes still due, and whether its completions pass without log or event (R43). -/
structure Quar where
  tag : Nat
  remaining : Nat
  quiet : Bool
  deriving DecidableEq, Repr

/-- One MSI-X table entry with its pending bit (R26, R54). -/
structure Msix where
  masked : Bool := true
  pending : Bool := false
  addr : Nat := 0
  data : Nat := 0
  /-- Completions whose message interrupt coalescing holds back (R56). -/
  held : Nat := 0
  deriving DecidableEq, Repr

/-- A peer message being assembled (R66): block offset in the window, bytes written so far. -/
structure Asm where
  block : Nat
  mask : Nat
  data : List Byte
  deriving DecidableEq, Repr

structure HepPort where
  /-- Configuration-space fields that the rules read (R31, R35, R36, R52, R54). -/
  tag10 : Bool := false
  ctoValue : Nat := 0
  relaxed : Bool := false
  ats : Bool := false
  fnMask : Bool := false
  /-- Further fields of R30's features, as PCIe codes them: Max Payload Size, Max Read Request Size, LTR, ECRC generation and checking,
  ASPM L1, D3hot. -/
  mps : Nat := 0
  mrrs : Nat := 2
  ltr : Bool := false
  ecrcGen : Bool := false
  ecrcChk : Bool := false
  aspmL1 : Bool := false
  d3hot : Bool := false
  reqs : List HostReq := []
  /-- Reads that have not left, oldest first (R35, R49). -/
  xwait : List XWait := []
  quar : List Quar := []
  /-- AER entries, oldest first, and the Advisory Non-Fatal Error status (R40). -/
  aer : List Aer := []
  advisory : Bool := false
  msix : Tbl Msix := []
  asm : Tbl (Option Asm) := []
  /-- Invalidations whose completions have not been sent, oldest first (R51). -/
  inval : List Nat := []
  /-- PERST of the port is asserted. -/
  perst : Bool := false
  /-- Async Event of R62 armed: cleared by its sending, set by reading page 0xC8. -/
  btnArmed : Bool := true
  /-- Deliveries since the last delivery interrupt (COAL), and the interrupt's level. -/
  delivered : Nat := 0
  msgIrq : Bool := false
  deriving DecidableEq, Repr

/-- A cached translation (R48). -/
structure Atc where
  port : Nat
  start : Nat
  size : Nat
  host : Nat
  rd : Bool
  wr : Bool
  deriving DecidableEq, Repr

structure Hep where
  port : Tbl HepPort := []
  /-- Least recently used first, at most 256. -/
  atc : List Atc := []
  /-- Indicator outputs, power and attention (R61), and presses since power-up (R62). -/
  indP : Nat := 1
  indA : Nat := 3
  presses : Nat := 0
  deriving DecidableEq, Repr

/-! ### Command intake and the Ledger (R74-R101) -/

/-- A submission queue (R76, R77): class 0 admin, 1 urgent, 2 high, 3 medium, 4 low. -/
structure SubQ where
  live : Bool := false
  size : Nat := 0
  base : Nat := 0
  tail : Nat := 0
  /-- Next entry to grant, and entries granted whose fetch has not ended. -/
  head : Nat := 0
  cls : Nat := 4
  cq : Nat := 0
  eligible : Bool := false
  /-- The queue lies in the CMB, at offset base (R45, R58). -/
  cmb : Bool := false
  deriving DecidableEq, Repr

/-- A completion queue (R53, R55). -/
structure CplQ where
  live : Bool := false
  size : Nat := 0
  base : Nat := 0
  vec : Nat := 0
  head : Nat := 0
  tail : Nat := 0
  deriving DecidableEq, Repr

/-- An entry that has left arbitration (R85): port, queue, entry index, and its place in order. -/
structure Grant where
  p : Nat
  q : Nat
  i : Nat
  order : Nat
  deriving DecidableEq, Repr

/-- Where a command in flight stands. -/
inductive Phase where
  /-- Waiting on the overlap table (R85). -/
  | overlap
  /-- Waiting for buffer slots (R87). -/
  | slots
  /-- Being served. -/
  | active
  /-- A write whose blocks are all in their slots (R88). -/
  | buffered
  /-- A read that moves its data from the slots as a hit (R89). -/
  | hit
  /-- Left to firmware. -/
  | firmware
  deriving DecidableEq, Repr

/-- The command that holds a slot (R80, R84). -/
structure Cmd where
  live : Bool := false
  port : Nat := 0
  sq : Nat := 0
  cid : Nat := 0
  opc : Nat := 0
  admin : Bool := false
  nsid : Nat := 0
  slba : Nat := 0
  /-- Blocks; 0 where there is no range. -/
  blocks : Nat := 0
  fua : Bool := false
  ranges : List (Nat × Nat) := []
  selectAll : Bool := false
  /-- Class of R84: 0 none, 1 read, 2 write. -/
  cls : Nat := 0
  /-- Place in the order of leaving arbitration (R85), and whether the overlap table has its entry. -/
  order : Nat := 0
  seen : Bool := false
  /-- Its completion entry has been posted: it is no longer in flight and waits for its tag's release (R78, R82). -/
  posted : Bool := false
  /-- PRACT and PRCHK (R134): the device generates and strips protection information; the fields checked. -/
  pract : Bool := false
  prchk : Nat := 0
  phase : Phase := .active
  /-- Data has moved between host memory and the device (R83). -/
  moved : Bool := false
  /-- New slots taken, in block order (R87). -/
  slots : List Nat := []
  /-- Slots a hit DMA reads (R87). -/
  reading : List Nat := []
  /-- Index of the Ledger entry. -/
  ledger : Option Nat := none
  deriving DecidableEq, Repr

/-- A namespace of the subsystem. -/
structure Nspc where
  live : Bool := false
  blocks : Nat := 0
  /-- Metadata format: 0, 1, 2 for 4096+0, +16, +64 (R75). -/
  fmt : Nat := 0
  zoned : Bool := false
  /-- Surface protection (R151, R153). -/
  prot : Bool := false
  att0 : Bool := false
  att1 : Bool := false
  deriving DecidableEq, Repr

/-- NVMe reservations of a namespace: registered keys by port (0 none), holder port + 1 (0 none), type, generation. -/
structure Resv where
  key0 : Nat := 0
  key1 : Nat := 0
  holder : Nat := 0
  rtype : Nat := 0
  gen : Nat := 0
  deriving DecidableEq, Repr

/-- NVMe ZNS zone states. -/
inductive ZState where
  | empty | implicitOpen | explicitOpen | closed | full | offline
  deriving DecidableEq, Repr

structure Zone where
  st : ZState := .empty
  /-- Write pointer, in blocks from the zone start. -/
  wp : Nat := 0
  deriving DecidableEq, Repr

/-- The NVMe controller of a port. -/
structure Ctrl where
  en : Bool := false
  /-- CC.AMS selects weighted round robin. -/
  wrr : Bool := false
  rdy : Bool := false
  cfs : Bool := false
  /-- CC as last written; AQA (ASQS, ACQS), ASQ and ACQ as last written (R26). -/
  cc : Nat := 0
  asqs : Nat := 0
  acqs : Nat := 0
  asq : Nat := 0
  acq : Nat := 0
  /-- Tag slots of the Asynchronous Event Requests outstanding, oldest first. -/
  aers : List Nat := []
  /-- Asynchronous events (dword 0) that no request waits for yet, oldest first. -/
  aenPend : List Nat := []
  /-- Feature values set (Set Features), by feature identifier. -/
  features : Tbl Nat := []
  deriving DecidableEq, Repr

structure Ciu where
  ctrl : Tbl Ctrl := []
  sq : Tbl SubQ := []
  cq : Tbl CplQ := []
  /-- Entries granted to be fetched, in the order of leaving arbitration (R85). -/
  grants : List Grant := []
  /-- Queue served last within each class (0-4; 5 the one class of round robin), port × 2048 + queue (R77). -/
  lastQ : Tbl Nat := []
  /-- Grants each weighted class has left in the round: high, medium, low; the burst AB of the round (R77, R99). -/
  credits : Tbl Nat := []
  ab : Nat := 0
  cmd : Tbl Cmd := []
  epoch : Tbl Nat := []
  /-- The free list of R80: slots never used, from this number on, then the released ones. -/
  fresh : Nat := 0
  released : List Nat := []
  nextOrder : Nat := 0
  ns : Tbl Nspc := []
  resv : Tbl Resv := []
  /-- Zones, by namespace index × 2^20 + zone. -/
  zone : Tbl Zone := []
  /-- Buffer index: namespace × 2^36 + LBA to slot + 1 (R87). -/
  bidx : Tbl Nat := []
  alloc : Tbl Bool := []
  /-- Releases held back until a hit DMA ends (R87). -/
  deferred : List Nat := []
  /-- A slot-exhaustion episode is under way (R87). -/
  starved : Bool := false
  /-- Completions held for the partner (R13), by tag slot. -/
  awaitMirror : Tbl Bool := []
  /-- Security Receive responses prepared by Security Send (R337), by port. -/
  spdm : Tbl (List Byte) := []
  /-- The self-test last asked for. -/
  selfTest : Nat := 0
  deriving DecidableEq, Repr

/-! ### Buffer memory (R102-R136) -/

/-- A copy of a 128-byte line with its poison, as DRAM holds it or as an eviction carries it. -/
structure Snap where
  data : List Byte
  p0 : Bool
  p1 : Bool
  deriving DecidableEq, Repr

/-- A copy in the Rind (R112): its line, whether its DRAM write has not ended, and its CE_SEEN mark. -/
structure Victim where
  addr : Nat
  dirty : Bool
  ceSeen : Bool
  deriving DecidableEq, Repr

/-- A line in Pip (R111): a prefetched line and its CE_SEEN mark. -/
structure Pip where
  addr : Nat
  ceSeen : Bool
  deriving DecidableEq, Repr

/-- An access that waits (R108, R112, R129): who made it, where, the bytes of a write, whether it names a whole line, and of an LR, SC or AMO its
operation, whether it is of a double word, its register and its operand. -/
structure Access where
  g : Agent
  a : Nat
  w : Option (List Byte)
  whole : Bool
  amo : Option (AmoOp × Bool × Nat × Nat) := none
  deriving DecidableEq, Repr

/-- A line of Bramble's main array. -/
structure Line where
  valid : Bool := false
  /-- Line address: core address ÷ 128. -/
  addr : Nat := 0
  dirty : Bool := false
  ceSeen : Bool := false
  deriving DecidableEq, Repr

/-- An eviction buffer entry (R112): what is being written, and whether the DRAM controller has accepted it. -/
structure Evict where
  addr : Nat
  snap : Snap
  issued : Bool
  deriving DecidableEq, Repr

structure Buf where
  /-- Poison of a granule (core address ÷ 64) in the newest copy (R104). -/
  poison : Tbl Bool := []
  /-- Error held by a granule in DRAM: mask over its first 8 bytes in bits 63:0, over its code in bits 71:64 (R104, R131). -/
  err : Tbl Nat := []
  /-- What DRAM itself holds of a line whose newest copy is elsewhere (Bramble, eviction buffer). -/
  dram : Tbl (Option Snap) := []
  /-- Bramble's main array by line number set × 16 + way (R110), and the way used last in each set. -/
  line : Tbl Line := []
  mru : Tbl Nat := []
  /-- Pip, Rind and the eviction buffer, oldest first (R111, R112). -/
  pip : List Pip := []
  rind : List Victim := []
  evq : List Evict := []
  /-- Writes in the DRAM controller's queue that come from no eviction-buffer entry (R113). -/
  wq : Nat := 0
  /-- Accesses that wait, oldest first: for the end of a repair, of an initialisation or of an eviction (R108, R112, R129). -/
  waiting : List Access := []
  /-- Sets a disable walk has passed (R123). -/
  walk : Nat := 0
  /-- Sequential core misses seen by the stream detector: last line and run, by core (R111). -/
  stream : Tbl (Nat × Nat) := []
  /-- Next granule of the patrol scrub, from the base of DRAM (R106). -/
  scrub : Nat := 0
  /-- DRAM training under way after EN := 1 (R136). -/
  training : Bool := false
  /-- Errors injected into SRAM words: array × 2^24 + word to mask, data in 63:0, check in 71:64 (R131). -/
  sramErr : Tbl Nat := []
  /-- Spare rows used, by array × 2^16 + 256 KiB of it (R130, R132; log entry 21). -/
  spares : Tbl Nat := []
  /-- The fuse map's entries: array, row (R132). -/
  fuseMap : List (Nat × Nat) := []
  /-- Soft-spared rows: array, row. -/
  soft : List (Nat × Nat) := []
  deriving DecidableEq, Repr

/-! ### Band translation (R137-R165) -/

structure Btl where
  /-- Records of the open group (R144), oldest first: 32-byte records whose effects wait. -/
  group : List (List Byte) := []
  /-- Refresh queue, oldest first, at most 256 (R157). -/
  rq : List Nat := []
  /-- A map-log-full episode is under way (R143). -/
  fullEpisode : Bool := false
  /-- Event 0x400D has been recorded (R163). -/
  noFree : Bool := false
  /-- HGEN of the last LOG OPEN of a chain, by ring × 2^20 + band (R141, R198). -/
  chainGen : Tbl Nat := []
  /-- Purpose and MSEQ of the last OPEN of a band, by band (R146). -/
  opened : Tbl (Nat × Nat) := []
  /-- DEGRADED as the restored image of the band table has it (R162). -/
  restored : Option Bool := none
  /-- Sectors written with bad data and marked so: head, track and data sector (R105). -/
  marked : List (Nat × Nat × Nat) := []
  deriving DecidableEq, Repr

/-! ### Engines (R166-R195) -/

/-- An Idquin core, as far as the commands reach it. -/
structure IqCore where
  /-- Stalled in WFI (R166). -/
  wfi : Bool := false
  /-- Integer registers 1 to 31 (R175). -/
  x : Tbl Nat := []
  pc : Nat := 0
  /-- mie: software, timer and external interrupt enables in bits 0 to 2, as the core's program had them at its last WFI. -/
  mie : Nat := 0
  /-- Reservation of LR: line address (R168). -/
  resv : Option Nat := none
  /-- Lines that the data cache holds (R167). -/
  dc : List Nat := []
  /-- mcycle, minstret and mhpmcounter3 to 6 (R166): instruction-cache misses, data-cache misses, load access faults, cycles stalled on
  register space. -/
  mcycle : Nat := 0
  minstret : Nat := 0
  hpm3 : Nat := 0
  hpm4 : Nat := 0
  hpm5 : Nat := 0
  hpm6 : Nat := 0
  /-- The 16 PMP entries: configuration byte and address register (R169). -/
  pmp : Tbl (Nat × Nat) := []
  /-- User mode, and mstatus.MIE (R166, R174, R175). -/
  user : Bool := false
  gie : Bool := false
  deriving DecidableEq, Repr

/-- A work item: 16 words, and where it came from: a ring with its index, or a tag slot (R176). -/
inductive ItemSrc where
  | ring (r i : Nat)
  | intake (slot : Nat)
  /-- A submission entry fetched and not yet given a tag: port, queue, place in the order of arbitration. -/
  | sqe (p q o : Nat)
  deriving DecidableEq, Repr

structure Item where
  words : List Nat
  src : ItemSrc
  deriving DecidableEq, Repr

/-- A Currant sequencer (R176-R189); STATE, FAULT, HELD, BOUND and UPC stand in ENG_CS_STAT. -/
structure Seq where
  s : Tbl Nat := []
  lc : Nat := 0
  stack : List Nat := []
  z : Bool := false
  n : Bool := false
  timeout : Bool := false
  stopReq : Bool := false
  abortReq : Bool := false
  /-- KILL has been written; the word in execution has not ended. -/
  killReq : Bool := false
  /-- DETAIL with which POST completes the item: of a refused LOG (R198). -/
  detail : Nat := 0
  item : Option Item := none
  /-- Ring and index of the descriptor posted in the word in execution: TAKE goes on from it (R199). -/
  prev : Option (Nat × Nat) := none
  /-- The completion entry of the untagged entry in hand has been posted: its command has ended (R78). -/
  posted : Bool := false
  /-- Done conditions of the class, 0x40-0x47 (R183). -/
  done : Tbl Bool := []
  /-- Words of the descriptor that a ring sequencer fetched last (R176). -/
  desc : List Nat := []
  /-- What of the word in execution comes next (R177): 0 its scratch operation, 1 its resource commands, then its wait, 2 its branch. -/
  part : Nat := 0
  /-- Lowest bits of the command fields already issued in the word, and the conditions as the end of the wait sampled them. -/
  issued : List Nat := []
  sampled : Nat := 0
  deriving DecidableEq, Repr

/-- A Quince engine (R190, R191, R268-R275); STATE, FAULT and BOUND stand in ENG_QE_CTRL. -/
structure Quince where
  prog : Tbl Nat := []
  /-- Coefficients, bank × 256 + index. -/
  coef : Tbl Nat := []
  st : Tbl Nat := []
  x : Tbl Nat := []
  aca : Int := 0
  acb : Int := 0
  z : Bool := false
  n : Bool := false
  sf : Bool := false
  cf : Bool := false
  pc : Nat := 0
  /-- Instructions executed in this run. -/
  count : Nat := 0
  inp : Tbl Nat := []
  outPend : Tbl Nat := []
  /-- Outputs published by the last END (R272). -/
  outp : Tbl Nat := []
  stopPend : Bool := false
  /-- Triggers since start of a divided trigger source (R274). -/
  trigs : Nat := 0
  /-- RUN_LIM as the run under way began (R28, R275). -/
  lim : Nat := 0
  deriving DecidableEq, Repr

structure Eng where
  core : Tbl IqCore := []
  /-- Cores (bit n) whose instruction cache agrees with memory: FENCE.I, or a release, since the last write to memory (R167). -/
  coherent : Nat := 0
  /-- The core (+1) that has claimed each interrupt source (R172). A claimed source is not offered, so a change of its ROUTE has no
  effect before its completion. -/
  claimed : Tbl Nat := []
  seq : Tbl Seq := []
  /-- Result and failing address of the control-store load under way (R185). -/
  loadRes : Nat := 0
  loadBad : Nat := 0
  /-- Control stores: class × 4096 + address to microword (R176). -/
  store : Tbl Nat := []
  qe : Tbl Quince := []
  deriving DecidableEq, Repr

/-! ### Media Work Rings (R196-R218, R460, R461) -/

/-- How far a fetched descriptor has come (R199, R213). -/
inductive DStat where
  | waiting
  /-- In its target's queue (R209). -/
  | queued
  /-- Taken by its target. -/
  | taken
  | done
  deriving DecidableEq, Repr

/-- A descriptor as the ring sequencer read it: ring index, 16 words. -/
structure Desc where
  idx : Nat
  words : List Nat
  st : DStat
  deriving DecidableEq, Repr

/-- A chain in progress (R199): its descriptors in ring order. -/
structure Chain where
  descs : List Desc
  deriving DecidableEq, Repr

structure RingSt where
  /-- Times HEAD has wrapped since enable, modulo 4,096 (R206). -/
  lap : Nat := 0
  chains : List Chain := []
  /-- Entries completed and not yet passed by HEAD: 1, or 2 where the descriptor has IRQ set (R206, R207). -/
  fin : Tbl Nat := []
  /-- Grants received in this round (R208). -/
  grants : Nat := 0
  /-- Tail latched by ABORT (R213). -/
  abortTail : Nat := 0
  /-- Fetching has stopped for a malformed chain of full mode: index, cause, fetch index of the chain (R211). -/
  stop : Option (Nat × Nat × Nat) := none
  deriving DecidableEq, Repr

/-- A withdrawal scan (R215). -/
structure Wd where
  ring : Nat
  tag : Nat
  tail : Nat
  count : Nat
  deriving DecidableEq, Repr

structure Mwr where
  ring : Tbl RingSt := []
  /-- Target queues (R209): 0-7 lanes, 8-11 actuators, 12 band copy pool, 13 CS40, 14 CS41, 15 map-log port; ring, index. -/
  queue : Tbl (List (Nat × Nat)) := []
  wd : Option Wd := none
  /-- Formatter of each lane that took the lane's last item: false CS(2n), true CS(2n+1) (R176). -/
  turn : Tbl Bool := []
  /-- Ring each ring sequencer served last, by sequencer 0-7, urgent and weighted (R208). -/
  last : Tbl Nat := []
  deriving DecidableEq, Repr

/-! ### Paired operation (R427-R445) -/

/-- A sequenced frame kept for replay (R433). -/
structure LinkFrame where
  typ : Nat
  seq : Nat
  addr : Nat
  data : List Byte
  poison : Nat
  /-- Internal tag where TAGGED is 1 (R432). -/
  tag : Option Nat
  deriving DecidableEq, Repr

/-- Servo state carried by a SERVO frame (R437). -/
structure ServoCopy where
  mode : Nat
  track : Nat
  prim : Nat
  mate : Nat
  out0 : Nat
  fine0 : Nat
  fine1 : Nat
  samInterval : Nat
  sinceSam : Nat
  deriving DecidableEq, Repr

structure Mir where
  /-- OWN line levels, bit per line A0-A3, S; pulled up (R427). -/
  own : Nat := 0x1F
  /-- PAIR_ALIVE_IN, PAIR_FENCE_IN_N low, and fenced until re-armed by ALIVE (R428). -/
  aliveIn : Bool := false
  fenceLow : Bool := false
  fenced : Bool := false
  /-- ALIVE has been written 0 since the fence input rose (R428). -/
  aliveCleared : Bool := false
  /-- The owner decided at HELLO is this device (R431). -/
  decided : Bool := false
  /-- A position-0 takeover waits for the lines (R440), and one has begun. -/
  takePend : Bool := false
  takeBegun : Bool := false
  /-- The term record in eFlash data: term, owner position 1 (R430). -/
  termRecord : Option (Nat × Bool) := none
  /-- Unacknowledged frames, oldest first, at most 128; next SEQ to send, last SEQ received in order, resends without progress. -/
  replay : List LinkFrame := []
  /-- Frames that wait for room in the replay buffer, oldest first (R433). -/
  backlog : List LinkFrame := []
  nextSeq : Nat := 1
  lastSeq : Nat := 0
  resends : Nat := 0
  /-- FENCE has been 1 for a microsecond (R439). -/
  fenceHeld : Bool := false
  /-- A stale-term episode is under way (R433). -/
  staleEpisode : Bool := false
  /-- SEQ of a KEY frame awaiting acknowledgement (R438). -/
  keySeq : Option Nat := none
  /-- Copies from SERVO frames by actuator, and the spindle's: θ, period and torque command (R437). -/
  servo : Tbl (Option ServoCopy) := []
  spindle : Option (Nat × Nat × Nat) := none
  deriving DecidableEq, Repr
/-! ### Boot, measurement and keys (R323-R345) -/

structure Sec where
  /-- Key slot of a namespace index: the 512-bit XTS key plus one, 0 with no key (R341). -/
  key : Tbl Nat := []
  /-- Generation of the key last made or loaded for a namespace index (R341). -/
  gen : Tbl Nat := []
  /-- eFlash pool row plus one that holds the wrapped key of a namespace index, 0 none (R342). -/
  row : Tbl Nat := []
  /-- The nonce drawn at the last reset and the one latched before it (R343). -/
  nonce : Nat := 0
  oldNonce : Nat := 0
  /-- The class 9 container written through the mailbox for a debug reset (R343). -/
  token : List Byte := []
  /-- Entries 0-11 of this boot's record, 64 bytes each (R335). -/
  entries : Tbl (List Byte) := []
  /-- Containers staged by Firmware Image Download, and received in recovery, by class (R330, R333). -/
  stage : Tbl (List Byte) := []
  recov : Tbl (List Byte) := []
  /-- The Boot ROM has ended in the recovery path and waits for images (R333). -/
  recovering : Bool := false
  /-- Read-out protection level 2 is fused (R364). -/
  rdpFuse : Bool := false
  deriving DecidableEq, Repr

/-! ### Embedded flash (R346-R367) -/

/-- A command under way in the eFlash controller (R353): code, array offset, units. -/
structure EflOp where
  code : Nat
  addr : Nat
  units : Nat
  deriving DecidableEq, Repr

structure Efl where
  /-- Array bytes; an erased byte reads 0xFF (R346). -/
  mem : Tbl Byte := []
  /-- Units programmed since their erase, and units read with an error: 1 corrected, 2 uncorrectable (R346, R349). -/
  prog : Tbl Bool := []
  unitErr : Tbl Nat := []
  /-- Steps of the unlock done: 0, 1 or 2 (R352). -/
  unlock : Nat := 0
  run : Option EflOp := none
  /-- The erase that is suspended, and a SUSPEND that has not taken effect (R357, R358). -/
  susp : Option EflOp := none
  suspReq : Bool := false
  /-- Event 0xC007 has been recorded in this boot (R364). -/
  c007 : Bool := false
  /-- Window reads that wait for the end of an operation, the oldest first (R351). -/
  wait : List (Agent × Nat) := []
  deriving DecidableEq, Repr

/-! ### The vault (R406-R426) -/

/-- A page of an image on a die (R416): its data and the poison of its granules. -/
structure VPage where
  data : List Byte := []
  poison : Nat := 0
  deriving DecidableEq, Repr

/-- An image in an area (R406, R416): sequence number, pages in it, kind (1 SAVE), consumed marker, the pages present, and the
buffer index and slots that its last MiB holds. -/
structure Img where
  seq : Nat := 0
  pages : Nat := 0
  kind : Nat := 0
  consumed : Bool := false
  /-- DEGRADED, which lies in the band table's protected image (R162). -/
  degraded : Bool := false
  page : Tbl (Option VPage) := []
  bidx : Tbl Nat := []
  deriving DecidableEq, Repr

/-- A dump or SAVE under way: its area, the next page, and the page position of each die (block times PPB plus page) at which that die's
next page goes (R417, R418). -/
structure Dump where
  area : Nat
  next : Nat
  save : Bool
  /-- A SAVE item that CS41 holds waits for its end; without one, the SAVE is R409's. -/
  item : Bool
  pos : Tbl Nat
  deriving DecidableEq, Repr

structure Plv where
  img : Tbl Img := []
  /-- A SCAN or RESTORE has been done since enable (R419). -/
  scanned : Bool := false
  /-- A loss is latched (R410). -/
  lost : Bool := false
  dump : Option Dump := none
  /-- A hold episode of R408 is under way. -/
  holding : Bool := false
  /-- TLPs that the endpoint does not send during a SAVE's freeze (R411, R419). -/
  tlps : List Msg := []
  deriving DecidableEq, Repr
/-! ### Recording channels (R219-R247) -/

/-- A sector of a read item that holds a sample slot (R234). -/
structure Sector where
  /-- Physical position on the track (R223). -/
  pos : Nat
  /-- Position of the primary mark less the expected one, and the displacement of the recovery mark (R232, R233). -/
  prim : Option Int := none
  recov : Option Int := none
  /-- 0 reading, 1 waiting for its first decode, 2 in its first decode, 3 waiting for a replay attempt, 4 in one, 5 accepted,
  6 not accepted. -/
  st : Nat := 0
  /-- Replay attempts made: offset and detector set, the last one first (R236). -/
  tried : List (Int × Nat) := []
  /-- Attempts and detector sets in force when the sector started; no attempts with REPLAY_EN 0 (R28, R236). -/
  tries : Nat := 0
  sets : Nat := 0
  field : List Byte := []
  deriving DecidableEq, Repr

/-- Whose item a lane performs: a ring's descriptor, or a command of a band copy sequencer (R183, R376). -/
inductive LaneOwner where
  | ring (r i : Nat)
  | copy (cs : Nat)
  deriving DecidableEq, Repr

/-- The item a lane's formatter performs. -/
structure LaneOp where
  owner : LaneOwner
  opc : Nat
  head : Nat
  track : Nat
  /-- First named data sector and their number. -/
  first : Nat
  count : Nat
  addr : Nat
  lba : Nat
  check : Bool
  /-- Next physical position to start; none before a zone is in force. -/
  next : Nat
  sectors : List Sector := []
  /-- Named sectors resolved, or written in full. -/
  done : Nat := 0
  replayed : Nat := 0
  unrec : Nat := 0
  firstUnrec : Nat := 0
  /-- A write's group accumulator (R225) and, for a stop, the completion code with which the item will end (R238, R241, R376). -/
  acc : List Byte := []
  stop : Option Nat := none
  /-- The code of an ASSIST command (R240). -/
  assist : Option Nat := none
  /-- The header with which the item begins an opened band (R146). -/
  header : Option (List Byte) := none
  deriving DecidableEq, Repr

structure LaneSt where
  op : Option LaneOp := none
  /-- Armed for a write (R242). -/
  armWrite : Bool := false
  track : Nat := 0
  /-- The zone entry in force, 64 bytes (R227, R243). -/
  zone : List Byte := []
  /-- Consecutive wedges within the lock bound (R228). -/
  goodWedges : Nat := 0
  /-- Taps adapt since the last ZONE; adapted taps wait for the next sector gap (R243). -/
  adapting : Bool := false
  adaptPend : Bool := false
  /-- The last data field a DMA brought in or a decode delivered (R183). -/
  buf : List Byte := []
  bufBad : Bool := false
  /-- Sector each decoder works on, position plus one; 0 free. -/
  dec : Tbl Nat := []
  /-- Times the preamp frame now being sent has been resent (R454). -/
  resent : Nat := 0
  /-- What THM last wrote to CHN_ASSIST.OK, plus one; 0 nothing yet (R377). -/
  assist : Nat := 0
  deriving DecidableEq, Repr

structure Chn where
  lane : Tbl LaneSt := []
  /-- Words of the two zone-table banks, bank × 16,384 + word (R226). -/
  zt : Tbl Nat := []
  /-- Work of the two spare decoders: lane × 2^16 + position + 1; 0 free (R239). -/
  spare : Tbl Nat := []
  deriving DecidableEq, Repr

/-! ### Servo (R248-R277) -/

/-- What is known of one head's wedges (R251, R253), in tracks and main-clock cycles. -/
structure HeadSt where
  /-- Positions of the last wedge and of the one before, their track numbers, and how many are known (at most 2). -/
  p : Rat := 0
  p1 : Rat := 0
  tid : Int := 0
  tid1 : Int := 0
  hist : Nat := 0
  /-- Time of the last found SAM, its interval to the one before, and how many have been found (at most 2). -/
  sam : Nat := 0
  dsam : Nat := 0
  found : Nat := 0
  wn : Nat := 0
  /-- Consecutive misses (R254). -/
  run : Nat := 0
  /-- Of this wedge: the SAM has been found, TID_OK, the wedge is missed. -/
  samNow : Bool := false
  tidOk : Bool := false
  missed : Bool := false
  /-- The error at the last PES command. -/
  e : Rat := 0
  /-- Consecutive wedges within the on-track bound (R255). -/
  inBound : Nat := 0
  deriving DecidableEq, Repr

/-- A target of an item (R254): primary and mate tracks, slots, WRITE_OT; and the opcode that set it. -/
structure Target where
  opc : Nat
  slot : Nat
  track : Nat
  mate : Option (Nat × Nat) := none
  writeOt : Bool := false
  deriving DecidableEq, Repr

structure ActSt where
  target : Target := { opc := 0, slot := 0, track := 0 }
  /-- A target taken that takes effect at the next PES command (R254). -/
  pend : Option Target := none
  slot : Tbl HeadSt := []
  /-- A search window is open (R251); DEMOD has been commanded for its wedge (R252); HEADSEL of either (R183). -/
  window : Bool := false
  demod : Bool := false
  windowSel : Nat := 0
  demodSel : Nat := 0
  /-- Wedges in SEEK and SETTLE since the last new target (R254), and wedges found in LOAD. -/
  seekCnt : Nat := 0
  loadCnt : Nat := 0
  /-- FOLLOW: wedges left and wedges spent on track (R257). -/
  left : Nat := 0
  spent : Nat := 0
  /-- A soft start waits for the next trigger, its index and the magnitudes of R262 for VCM, primary and mate. -/
  softPend : Bool := false
  softK : Nat := 0
  softM : List Nat := []
  /-- The outputs of a faulted coarse or fine engine are held (R264). -/
  hold : Bool := false
  /-- Ring and index of the item whose target has been taken (R258). -/
  taken : Option (Nat × Nat) := none
  /-- Drive commands in force (R261): VCM, primary and mate microactuator, signed Q15. -/
  vcm : Int := 0
  ma0 : Int := 0
  ma1 : Int := 0
  deriving DecidableEq, Repr

structure Srv where
  act : Tbl ActSt := []
  /-- Wedge number that triggered the engines of source 2 last, plus one (R274). -/
  stamped : Nat := 0
  deriving DecidableEq, Repr

/-! ### Drivers (R278-R295) -/

structure Mpd where
  /-- The tier whose speed the loop aims at (R281, R288). -/
  target : Nat := 0
  /-- A START or TIER is under way: 0 none, 1 START, 2 upward TIER, 3 downward TIER. -/
  moving : Nat := 0
  /-- What COAST waits for: 0 nothing, 1 a START's alignment, 2 a restart after a loss; 3 in MEASURE: a rotor fast enough, whose crossings
  synchronise (R283, R285, R287). -/
  coast : Nat := 0
  brakeAsk : Bool := false
  aligns : Nat := 0
  restarts : Nat := 0
  /-- Consecutive valid crossings, and the angle of the last one. -/
  crossings : Nat := 0
  angle : Nat := 0
  /-- Wedge angle θ at the last stamp (R278). -/
  theta : Nat := 0
  /-- By actuator: the wedge number last stamped plus one, its time, and consecutive stamps (R279, R281). -/
  wedge : Tbl Nat := []
  stamp : Tbl Nat := []
  runs : Tbl Nat := []
  /-- Time of the last stamp that triggered QE8, and the wedge period measured there in cycles, 0 before one (R278). -/
  lastAt : Nat := 0
  period : Nat := 0
  /-- Triggers within 0.05% in a row (R282), and the torque command in force, signed Q15. -/
  good : Nat := 0
  torque : Int := 0
  /-- First trigger after entering WEDGE or BEMF (R281). -/
  first : Bool := false
  residual : Nat := 0
  /-- A MEASURE item waits for its 20 ms. -/
  measItem : Bool := false
  boostLow : Bool := false
  spnTrip : Bool := false
  /-- A harvest has begun whose energy has not been reported (R292). -/
  harvest : Bool := false
  /-- Actuators that a RETRACT item still waits for. -/
  retWait : Nat := 0
  deriving DecidableEq, Repr

/-! ### Supplies, clocks and starts (R296-R322) -/

/-- A request in the Sloe queue. -/
structure SloeReq where
  dom : Nat
  on : Bool
  deriving DecidableEq, Repr

structure Sup where
  sloe : List SloeReq := []
  /-- A start step is under way at the head of the queue. -/
  step : Bool := false
  /-- Event 0xA003 has been recorded for the request at the head (R307). -/
  noted : Bool := false
  /-- SPIN's figure in 0.05 W units (R311). -/
  spinFig : Nat := 0
  /-- A governor episode is under way (R300). -/
  gov : Bool := false
  /-- Amount by which the governor lowers the spindle clamp, 10 mW units. -/
  spinCut : Nat := 0
  govMs : Nat := 0
  /-- The 25 MHz crystal runs; the BOOT step waits for it (R304). -/
  xtal : Bool := true
  bootWait : Bool := false
  /-- Watchdog n has had its first expiry (R315); the first half of a kick has been written (R316), core n, 8 for the system's. -/
  expired : Tbl Bool := []
  kickHalf : Tbl Bool := []
  /-- Causes of a reset that waits to be performed, its core, and whether a reset waits (R320). -/
  causes : Nat := 0
  causeCore : Nat := 0
  /-- RESET_N is low and the device is held (R452). -/
  held : Bool := false
  /-- Causes of the last reset, for event 0xA009 at the next boot (R320). -/
  report : Nat := 0
  /-- A debug reset waits for its token to be verified (R343). -/
  debugReset : Bool := false
  /-- Every rail but VAON is off (R414). -/
  railsOff : Bool := false
  /-- SUP_AONT when STANDBY was entered (R173). -/
  standAt : Nat := 0
  /-- A paired owner waits 2 µs before its retract (R429). -/
  retractWait : Bool := false
  deriving DecidableEq, Repr

/-! ### Thermal management and calibration (R368-R389) -/

structure Thm where
  /-- The pause gate, the slot of the window, the level the window runs at and its slot length (R374). -/
  gate : Bool := false
  slot : Nat := 0
  winLevel : Nat := 0
  /-- A trip waits for restart: seconds since it plus one, and cool readings in a row of sensors 12-15 (R381). -/
  off : Nat := 0
  cool : Tbl Nat := []
  deriving DecidableEq, Repr

structure CalItem where
  /-- Values of the set, first one first, and MAX at its first measurement (R385). -/
  vals : List Int := []
  startMax : Int := 0
  /-- A set has been accepted since VALID was set, and the operating minute of that, or of VALID (R384). -/
  accepted : Bool := false
  since : Nat := 0
  dueSince : Nat := 0
  starved : Bool := false
  /-- The hold of R387 waits for QE9 to sample and then publish: 0 no, 1 to sample, 2 to publish. -/
  wait : Nat := 0
  deriving DecidableEq, Repr

structure Cal where
  item : Tbl CalItem := []
  /-- Item plus one whose chain runs (R383), 0 none, and the ring index of its first descriptor. -/
  chain : Nat := 0
  chainAt : Nat := 0
  deriving DecidableEq, Repr


/-! ### The machine -/

structure State where
  /-- Register fields by Fld.key: what a read returns (R3, R10). A field at its reset value is not listed. -/
  regs : Tbl Nat := []
  /-- Class B fields by Fld.key: the values in force (R5). -/
  force : Tbl Nat := []
  /-- The newest contents of DRAM and Work SRAM by core address; an unlisted byte reads 0 (R16, R128; log entry 2). -/
  mem : List Host.Cell := []
  dev : Dev := {}
  hep : Hep := {}
  ciu : Ciu := {}
  buf : Buf := {}
  btl : Btl := {}
  eng : Eng := {}
  mwr : Mwr := {}
  chn : Chn := {}
  srv : Srv := {}
  mpd : Mpd := {}
  sup : Sup := {}
  sec : Sec := {}
  efl : Efl := {}
  thm : Thm := {}
  cal : Cal := {}
  plv : Plv := {}
  mir : Mir := {}
  evr : Evr := {}
  /-- What has been sent, oldest first (log entry 5). -/
  out : List Msg := []
  /-- The counter of free values (log entry 3). -/
  freeCtr : Nat := 0
  /-- The commands that wait, first in, first out. -/
  pending : List Instr := []
  deriving DecidableEq, Repr

/-- The machine right after a power-on reset: every register field at the value its table gives, BOOT and AON on
(R307), every other part empty, no command waiting. -/
def State.reset : State := {}

end Sys2Proof.Machine
end

