-- ==== Sys2Proof/Machine/Ops.lean ====
section
/-!
DEFINITION. Machine/Ops.lean: the named operations over State that the meanings share: register fields, byte orders and
checksums, events, configuration errors, domains and blocks, the memory map.
-/
namespace Sys2Proof.Machine

/-- What a meaning answers. -/
abbrev Outcome := Host.Outcome State Fault Refusal

/-! ### Register fields -/

/-- The value a register field reads (R3, R10). No field has 2,048 copies; one that would stand beyond holds its reset value. -/
def State.f (s : State) (x : Fld) (i : Nat) : Nat := if i < 2048 then Tbl.get s.regs (x.resetAt i) (x.key i) else x.resetAt i

/-- Whether a one-bit field reads 1. -/
def State.b (s : State) (x : Fld) (i : Nat) : Bool := s.f x i != 0

/-- Setting a register field, its value cut to the field's width. -/
def State.setF (s : State) (x : Fld) (i v : Nat) : State :=
  if i < 2048 then { s with regs := Tbl.set s.regs (x.resetAt i) (x.key i) (v % 2 ^ x.width) } else s

/-- Setting a one-bit field. -/
def State.setB (s : State) (x : Fld) (i : Nat) (v : Bool) : State := s.setF x i v.toNat

/-- A saturating counter (R73 and the like). -/
def State.inc (s : State) (x : Fld) (i n : Nat) : State := s.setF x i (min (2 ^ x.width - 1) (s.f x i + n))

/-- The value in force of a class B field (R5). -/
def State.g (s : State) (x : Fld) (i : Nat) : Nat := if i < 2048 then Tbl.get s.force (x.resetAt i) (x.key i) else x.resetAt i

/-- Setting the value in force of a class B field. -/
def State.setG (s : State) (x : Fld) (i v : Nat) : State :=
  if i < 2048 then { s with force := Tbl.set s.force (x.resetAt i) (x.key i) (v % 2 ^ x.width) } else s

/-- Applying a shadow: the value in force becomes the shadow (R7, R9). -/
def State.apply (s : State) (x : Fld) (i : Nat) : State := s.setG x i (s.f x i)

/-- Applying several shadows together (R7). -/
def State.applyAll (s : State) (xs : List Fld) (i : Nat) : State := xs.foldl (fun t x => t.apply x i) s

/-- Setting several fields of one copy. -/
def State.setFs (s : State) (i : Nat) (xs : List (Fld × Nat)) : State := xs.foldl (fun t x => t.setF x.1 i x.2) s

/-- Fields back at their reset values. -/
def State.resetFlds (s : State) (p : Nat → Bool) : State :=
  { s with regs := s.regs.filter (fun e => !p e.1), force := s.force.filter (fun e => !p e.1) }

/-- The operands of an operation are latched at its GO (R28). -/
def State.latch (s : State) (xs : List Fld) : State :=
  { s with dev := { s.dev with opnd := xs.foldl (fun t x => Tbl.set t 0 (x.key 0) (s.f x 0)) s.dev.opnd } }

/-- An operand as its GO gave it. -/
def State.opnd (s : State) (x : Fld) : Nat := Tbl.get s.dev.opnd 0 (x.key 0)

/-! ### Free values, outputs -/

/-- A free value and the state that has drawn it (log entry 3). -/
def State.free (s : State) : Nat × State := (Config.freeValue s.freeCtr, { s with freeCtr := s.freeCtr + 1 })

/-- What the endpoint sends as TLPs. -/
def Msg.tlp : Msg → Bool
  | .cqe .. => true
  | .msix .. => true
  | .asyncEvent .. => true
  | .cplTlp .. => true
  | .memRead .. => true
  | .xlateReq .. => true
  | .invalDone .. => true
  | .hostData .. => true
  | _ => false

/-- Sending. From a freeze cycle on the endpoint sends no TLP (R411); what a SAVE's freeze holds up leaves at its release. -/
def State.send (s : State) (m : Msg) : State :=
  if m.tlp && s.b .PLV_STATUS_FROZEN 0 then { s with plv := { s.plv with tlps := s.plv.tlps ++ [m] } }
  else { s with out := s.out ++ [m] }

/-! ### Bytes, byte order, checksums -/

/-- The n low bytes of a number, least significant first. -/
def leBytes : Nat → Nat → List Byte
  | 0, _ => []
  | n + 1, v => BitVec.ofNat 8 v :: leBytes n (v / 256)

/-- The number little-endian bytes spell. -/
def ofLe : List Byte → Nat
  | [] => 0
  | b :: r => b.toNat + 256 * ofLe r

/-- Bytes i to i + n - 1 of a list as a little-endian number. -/
def leAt (l : List Byte) (i n : Nat) : Nat := ofLe ((l.drop i).take n)

/-- Overwriting bytes of a list from place i on. -/
def patch (l : List Byte) (i : Nat) (d : List Byte) : List Byte := l.take i ++ d ++ l.drop (i + d.length)

/-- The XOR of two byte strings, as long as the first. -/
def xorBytes : List Byte → List Byte → List Byte
  | [], _ => []
  | a :: r, [] => a :: r
  | a :: r, b :: t => (a ^^^ b) :: xorBytes r t

/-- One bit of the CRC-8 register, polynomial 0x07 (R93). -/
def crc8Bit (c : Nat) : Nat := if c / 128 % 2 = 1 then (c * 2 % 256) ^^^ 7 else c * 2 % 256

/-- Applying a function n times. -/
def times {α : Type} (n : Nat) (g : α → α) (x : α) : α :=
  match n with
  | 0 => x
  | k + 1 => times k g (g x)

/-- CRC-8, polynomial 0x07, initial value 0x00 (R93, R140, R227). -/
def crc8 (l : List Byte) : Nat := l.foldl (fun c b => times 8 crc8Bit (c ^^^ b.toNat)) 0

/-- One bit of the reflected CRC-32C register. -/
def crc32cBit (c : Nat) : Nat := if c % 2 = 1 then (c / 2) ^^^ 0x82F63B78 else c / 2

/-- CRC-32C, initial value and final XOR 0xFFFF_FFFF (R65, R133, R145, R390). -/
def crc32c (l : List Byte) : Nat :=
  (l.foldl (fun c b => times 8 crc32cBit (c ^^^ b.toNat)) 0xFFFFFFFF) ^^^ 0xFFFFFFFF

/-- The block check of R133 over a block's data and its LBA. -/
def blockCheck (data : List Byte) (lba : Nat) : Nat := crc32c (data.take 4096 ++ leBytes 8 lba)

/-- Bits hi to lo of a number. -/
def bits (v hi lo : Nat) : Nat := v / 2 ^ lo % 2 ^ (hi + 1 - lo)

/-- Whether bit n of a number is 1. -/
def bit (v n : Nat) : Bool := v / 2 ^ n % 2 = 1

/-- Bit n of a number set to a value. -/
def setBit (v n : Nat) (x : Bool) : Nat := (if bit v n then v - 2 ^ n else v) + (if x then 2 ^ n else 0)

/-- A number of w bits in two's complement. -/
def signed (w v : Nat) : Int := if v % 2 ^ w < 2 ^ (w - 1) then (v % 2 ^ w : Nat) else (v % 2 ^ w : Nat) - (2 ^ w : Nat)

/-- The w-bit two's complement code of an integer. -/
def unsigned (w : Nat) (v : Int) : Nat := (v % (2 ^ w : Nat)).toNat

/-- The number of ones among the low n bits. -/
def popcount : Nat → Nat → Nat
  | 0, _ => 0
  | n + 1, v => v % 2 + popcount n (v / 2)

/-! ### Events (R394, R395, R405) -/

/-- The EVR_CODE entry that names a code (R396). -/
def State.evrEntry (s : State) (code : Nat) : Option Nat := firstFrom 64 0 (fun i => s.f .EVR_CODE_CODE i == code)

/-- The rate limit of a code (R395); 0 is no limit. -/
def State.evrLimit (s : State) (code : Nat) : Nat :=
  if code = 0xE003 ∨ code = 0xE004 then 0 else
  match s.evrEntry code with
  | some i => s.f .EVR_CODE_LIMIT i
  | none => s.f .EVR_CFG_DEF_LIMIT 0

/-- Whether a code is muted (R405). -/
def State.evrMuted (s : State) (code : Nat) : Bool :=
  match s.evrEntry code with
  | some i => s.f .EVR_CODE_LIMIT i == 0xFF
  | none => false

/-- Whether a code makes a keep record (R396). -/
def State.evrKeep (s : State) (code : Nat) : Bool :=
  (code == 0xE003) || (match s.evrEntry code with | some i => s.b .EVR_CODE_KEEP i | none => false)

/-- Putting a record in the queue, or counting it as dropped where the queue is full (R394). -/
def State.evrPush (s : State) (r : EvRec) : State :=
  if s.evr.queue.length < 64 then
    ({ s with evr := { s.evr with queue := s.evr.queue ++ [r] } }).setF .EVR_STATUS_QDEPTH 0 (s.evr.queue.length + 1)
  else
    (({ s with evr := { s.evr with dropPend := s.evr.dropPend + 1 } }).inc .EVR_CNT_DROPPED 0 1).setB
      .EVR_STATUS_DROP_EV 0 true

/-- The microseconds of SUP_AONT (R303). -/
def State.aont (s : State) : Nat := s.f .SUP_AONT_LO_T_LO 0 + 2 ^ 32 * s.f .SUP_AONT_HI_T_HI 0

/-- The record of an event that enters now. FLAGS: KEEP in bit 0, FW in bit 1 (R390). -/
def State.evrRecord (s : State) (code a0 a1 a2 : Nat) (fw keep : Bool) : EvRec :=
  { seq := s.f .EVR_SEQ_NEXT 0, opMin := s.f .EVR_OPMIN_OP_MIN 0, cycles := s.f .EVR_CYCLES_CYCLES 0, code := code
    flags := (keep || s.evrKeep code).toNat + 2 * fw.toNat, secs := min 59 ((s.aont - s.evr.minuteAt) / 10 ^ 6)
    a0 := a0 % 2 ^ 32, a1 := a1 % 2 ^ 32, a2 := a2 % 2 ^ 32 }

/-- Counting a suppressed event (R395). -/
def State.evrSuppress (s : State) (code : Nat) : State :=
  ({ s with evr := { s.evr with suppressed := Tbl.upd s.evr.suppressed 0 code (· + 1) } }).inc .EVR_CNT_SUPPRESSED 0 1

/-- An event meets the queue: mute, rate limit, full queue (R394, R395, R405). SEQ is used up only by an event that enters. -/
def State.evrEnter (s : State) (code a0 a1 a2 : Nat) (fw keep : Bool) : State :=
  if s.evrMuted code then s else
  let r := s.evrRecord code a0 a1 a2 fw keep
  if s.b .EVR_STATUS_READY 0 then
    if s.evrLimit code ≠ 0 ∧ s.evrLimit code ≤ Tbl.get s.evr.entered 0 code then s.evrSuppress code
    else if s.evr.queue.length < 64 then
      (({ s with evr := { s.evr with entered := Tbl.upd s.evr.entered 0 code (· + 1) } }).evrPush r).setF
        .EVR_SEQ_NEXT 0 (r.seq + 1)
    else s.evrPush r
  else s.evrPush r

/-- A hardware event with its arguments (R391). -/
def State.event (s : State) (code a0 a1 a2 : Nat) : State := s.evrEnter code a0 a1 a2 false false

/-- An event whose argument is a core address: bits 31:0 in ARG0, 47:32 in ARG1 (R391). -/
def State.eventAddr (s : State) (code a : Nat) : State := s.event code (a % 2 ^ 32) (a / 2 ^ 32 % 2 ^ 16) 0

/-- An event recorded only once per power-up (R459), under a key of its own. -/
def State.eventOnce (s : State) (key code a0 a1 a2 : Nat) : State :=
  if Tbl.get s.dev.once false key then s
  else ({ s with dev := { s.dev with once := Tbl.set s.dev.once false key true } }).event code a0 a1 a2

/-! ### CFG_ERR (R29) -/

/-- The blocks that have a CFG_ERR bit; CHN has one per lane and one for the common block. -/
inductive CfgBlk where
  | hep (p : Nat) | ciu | ldg | buf | btl | eng | mwr | lane (n : Nat) | chnCom | srv | mpd | sup | sec | efl | thm
  | cal | evr | plv | mir
  deriving DecidableEq, Repr

/-- The CFG_ERR bit of a block. -/
def CfgBlk.fld : CfgBlk → Fld
  | .hep _ => .HEP_STATUS_CFG_ERR
  | .ciu => .CIU_STATUS_CFG_ERR
  | .ldg => .LDG_STATUS_CFG_ERR
  | .buf => .BUF_STATUS_CFG_ERR
  | .btl => .BTL_STATUS_CFG_ERR
  | .eng => .ENG_STATUS_CFG_ERR
  | .mwr => .MWR_STATUS_CFG_ERR
  | .lane _ => .CHN_STATUS_CFG_ERR
  | .chnCom => .CHN_COM_STATUS_CFG_ERR
  | .srv => .SRV_STATUS_CFG_ERR
  | .mpd => .MPD_STATUS_CFG_ERR
  | .sup => .SUP_STATUS_CFG_ERR
  | .sec => .SEC_STATUS_CFG_ERR
  | .efl => .EFL_STATUS_CFG_ERR
  | .thm => .THM_STATUS_CFG_ERR
  | .cal => .CAL_STATUS_CFG_ERR
  | .evr => .EVR_STATUS_CFG_ERR
  | .plv => .PLV_STATUS_CFG_ERR
  | .mir => .MIR_STATUS_CFG_ERR

/-- The copy of the CFG_ERR bit. -/
def CfgBlk.idx : CfgBlk → Nat
  | .hep p => p
  | .lane n => n
  | _ => 0

/-- The subsystem ID of a block (R12). -/
def CfgBlk.sub : CfgBlk → Nat
  | .hep _ => 0x1
  | .ciu => 0x2
  | .ldg => 0x2
  | .buf => 0x3
  | .btl => 0x4
  | .eng => 0x5
  | .mwr => 0x6
  | .lane _ => 0x7
  | .chnCom => 0x7
  | .srv => 0x8
  | .mpd => 0x9
  | .sup => 0xA
  | .sec => 0xB
  | .efl => 0xC
  | .thm => 0xD
  | .cal => 0xD
  | .evr => 0xE
  | .plv => 0x3
  | .mir => 0xF

/-- A rejected configuration write: CFG_ERR is set, and event 0x001 of the subsystem is recorded for the block's first
since power-up, with the address of the register written (R29, R459). Each CFG_ERR bit counts as a block (log entry 7). -/
def State.cfgErr (s : State) (b : CfgBlk) (addr : Nat) : State :=
  let k := b.fld.key b.idx
  let t := s.setB b.fld b.idx true
  if Tbl.get t.dev.cfgSeen false k then t
  else ({ t with dev := { t.dev with cfgSeen := Tbl.set t.dev.cfgSeen false k true } }).event
    (b.sub * 0x1000 + 1) addr 0 0

/-- CFG_ERR for the register in which a field stands. -/
def State.cfgErrAt (s : State) (b : CfgBlk) (x : Fld) (i : Nat) : State := s.cfgErr b (x.addr i)

/-! ### Power domains and blocks (R16, R18, R306) -/

/-- Whether a power domain is ON. -/
def State.dom (s : State) (d : Nat) : Bool := bit (s.f .SUP_DOM_ON_ON 0) d

/-- The domain whose start brings up a block (R306). A lane's domain is its actuator's; the common channel block counts as
started with the first of them (log entry 8). -/
def State.blkOn (s : State) (b : Blk) (i : Nat) : Bool :=
  match b with
  | .hep => s.dom 3
  | .ciu => s.dom 3
  | .ldg => s.dom 3
  | .va => s.dom 3
  | .buf => s.dom 2
  | .btl => s.dom 4
  | .eng => s.dom 4
  | .mwr => s.dom 4
  | .chn => if i < 8 then s.dom (7 + i / 2) else s.dom 7 || s.dom 8 || s.dom 9 || s.dom 10
  | .srv => s.dom 6
  | .mpd => s.dom 13
  | .sup => s.dom 1
  | .sec => s.dom 1
  | .efl => s.dom 1
  | .thm => s.dom 1
  | .cal => s.dom 1
  | .evr => s.dom 1
  | .plv => s.dom 11
  | .mir => s.dom 12

/-- The place of a register block in base order (SUP_UNSTART). -/
def Blk.num (b : Blk) : Nat := b.ctorIdx

/-- SUP records an access to a block whose domain is not started, once per block per power-up (R18, R310). -/
def State.unstarted (s : State) (b : Blk) : State :=
  if Tbl.get s.dev.unstartSeen false b.num then s else
  let t := { s with dev := { s.dev with unstartSeen := Tbl.set s.dev.unstartSeen false b.num true } }
  (t.setF .SUP_UNSTART_BLK 0 (setBit (t.f .SUP_UNSTART_BLK 0) b.num true)).event 0xA00C 0 0 0

/-- What happens inside a block while its domain is started; nothing otherwise. No access is made, so SUP records none. -/
def State.inBlk (s : State) (b : Blk) (i : Nat) (g : State → State) : State := if s.blkOn b i then g s else s

/-- A write to a register of a block: discarded, and recorded by SUP, while the block's domain is not started (R18). -/
def State.onBlk (s : State) (b : Blk) (i : Nat) (g : State → State) : State :=
  if s.blkOn b i then g s else s.unstarted b

/-- An access fault raised on a core (R1, R17); other agents take none. -/
def State.accFault (s : State) (a : Agent) : State :=
  match a with
  | .core n => { s with dev := { s.dev with accFault := Tbl.set s.dev.accFault 0 n.val 1 } }
  | _ => s

/-! ### Memory map (R16, R17) -/

def workBase : Nat := 0x10000000
def workSize : Nat := 0x400000
def dramBase : Nat := 0x100000000

/-- The fitted capacity in bytes, two channels of SIZE (R102, R136). -/
def State.fitted (s : State) : Nat := 2 * 2 ^ (30 + s.f .BUF_DDR_CFG_SIZE 0)

/-- The end of the DRAM region: 15/16 of the fitted capacity above its base (R16). -/
def State.dramEnd (s : State) : Nat := dramBase + s.fitted / 16 * 15

/-- Whether n bytes at a lie within Work SRAM. -/
def inWork (a n : Nat) : Bool := workBase ≤ a ∧ a + n ≤ workBase + workSize

/-- Whether n bytes at a lie within fitted DRAM. -/
def State.inDram (s : State) (a n : Nat) : Bool := dramBase ≤ a ∧ a + n ≤ s.dramEnd

/-- Whether n bytes at a lie within Work SRAM or fitted DRAM. -/
def State.inMem (s : State) (a n : Nat) : Bool := inWork a n || s.inDram a n

end Sys2Proof.Machine
end

