-- ==== Sys2Proof/Machine/Mem.lean ====
section
/-!
DEFINITION. Machine/Mem.lean: memory as every agent of the device reaches it: bytes, SRAM codes, inline ECC, Bramble and its side
structures, the cores' own caches and protection, the mirror (R16, R103-R118, R126-R131, R167-R169, R434).
-/
namespace Sys2Proof.Machine

/-! ### Bytes of memory -/

/-- One byte of memory, in its newest copy; a byte never written reads 0 (log entry 2). -/
def State.byteAt (s : State) (a : Nat) : Byte := Tbl.get s.mem 0 a

/-- n bytes from an address on, as they stand: no access is made. -/
def State.rd (s : State) (a n : Nat) : List Byte := (List.range n).map (fun i => s.byteAt (a + i))

/-- n bytes as a little-endian number. -/
def State.rdN (s : State) (a n : Nat) : Nat := ofLe (s.rd a n)

/-- Bytes stored from an address on, with no cache or code effect. -/
def setBytes (m : List Host.Cell) (a : Nat) : List Byte → List Host.Cell
  | [] => m
  | b :: r => setBytes (Tbl.set m 0 a b) (a + 1) r

/-- Whether any granule of a range is poisoned in its newest copy. -/
def State.poisoned (s : State) (a n : Nat) : Bool :=
  s.buf.poison.any (fun e => decide (a / 64 ≤ e.1) && decide (e.1 * 64 < a + n) && e.2 && decide (0 < n))

def State.updBuf (s : State) (g : Buf → Buf) : State := { s with buf := g s.buf }

/-- Marking a granule. -/
def State.setPoison (s : State) (gr : Nat) (p : Bool) : State :=
  s.updBuf (fun b => { b with poison := Tbl.set b.poison false gr p })

/-- The lines, granules and 8-byte words a range touches, in order. -/
def linesOf (a n : Nat) : List Nat := if n = 0 then [] else (List.range ((a + n - 1) / 128 - a / 128 + 1)).map (· + a / 128)
def granulesOf (a n : Nat) : List Nat := if n = 0 then [] else (List.range ((a + n - 1) / 64 - a / 64 + 1)).map (· + a / 64)
def wordsOf (a n : Nat) : List Nat := if n = 0 then [] else (List.range ((a + n - 1) / 8 - a / 8 + 1)).map (· + a / 8)

/-- Whether the range a, n holds all k bytes of unit u. -/
def holdsAll (a n k u : Nat) : Bool := decide (a ≤ u * k) && decide (u * k + k ≤ a + n)

/-- An SRAM array is being initialised: accesses to it wait (R129). -/
def State.initBusy (s : State) (array : Nat) : Bool := s.b .BUF_SRAM_INIT_BUSY 0 && s.opnd .BUF_SRAM_INIT_ARRAY == array

/-! ### Where inline ECC puts a line (R103) -/

/-- The chunk of a core DRAM address, its position in the chunk, its channel and its address in that channel. -/
def chunkOf (a : Nat) : Nat := (a - dramBase) / 128 / 15
def chunkPos (a : Nat) : Nat := (a - dramBase) / 128 % 15
def channelOf (a : Nat) : Nat := chunkOf a % 2
def channelAddr (a : Nat) : Nat := chunkOf a / 2 * 2048 + chunkPos a * 128 + a % 128

/-- Where in its channel the 4-byte code of a granule stands: the check line ends the chunk, 8 bytes to a position. -/
def codeAddr (gr : Nat) : Nat := chunkOf (gr * 64) / 2 * 2048 + 1920 + chunkPos (gr * 64) * 8 + gr % 2 * 4

/-- The core line address at position p of a chunk of a channel; p < 15. -/
def lineAt (ch i p : Nat) : Nat := dramBase / 128 + (2 * i + ch) * 15 + p

/-! ### On-chip SRAM words (R126, R127, R131) -/

/-- Bits of data that a flip mask reaches in a word of an array, and bits of its code (R126, R131). -/
def sramWidth (array : Nat) : Nat × Nat :=
  match array with
  | 0x0C => (32, 7)
  | 0x0D => (16, 6)
  | 0x0E => (40, 7)
  | _ => (64, 8)

/-- The flip that the next write to an array takes, without the bits beyond its word, and the state in which it has been used up (R131). -/
def State.flipMask (s : State) (array : Nat) : Nat × State :=
  if s.b .BUF_FLIP_CTRL_ARM 0 && s.f .BUF_FLIP_CTRL_ARRAY 0 == array then
    ((s.f .BUF_FLIP_LO_MASK_LO 0 + 2 ^ 32 * s.f .BUF_FLIP_HI_MASK_HI 0) % 2 ^ (sramWidth array).1
      + 2 ^ 64 * (s.f .BUF_FLIP_CTRL_CHECK 0 % 2 ^ (sramWidth array).2), s.setB .BUF_FLIP_CTRL_ARM 0 false)
  else (0, s)

/-- A word of an SRAM array is written: fresh code, or the armed flip (R131). -/
def State.sramWritten (s : State) (array word : Nat) : State :=
  let (m, t) := s.flipMask array
  t.updBuf (fun b => { b with sramErr := Tbl.set b.sramErr 0 (array * 2 ^ 24 + word) m })

/-- A word of an SRAM array is read (R127): 0 good, 1 corrected (and rewritten), 2 uncorrectable, with the counts, the log and the
event. One wrong bit is corrected; two or more are uncorrectable (SEC-DED, R126). -/
def State.sramRead (s : State) (array word : Nat) : Nat × State :=
  let m := Tbl.get s.buf.sramErr 0 (array * 2 ^ 24 + word)
  let k := min 2 (popcount 72 m)
  if k = 0 then (0, s) else
  let t := (s.setF .BUF_SRAM_ERR_ARRAY 0 array).setF .BUF_SRAM_WORD_WORD 0 word
  if k = 1 then
    let t := t.updBuf (fun b => { b with sramErr := Tbl.set b.sramErr 0 (array * 2 ^ 24 + word) 0 })
    (1, (t.inc .BUF_SRAM_CNT_CE 0 1).event 0x3004 0 0 0)
  else
    (2, ((t.setB .BUF_SRAM_ERR_UE 0 true).inc .BUF_SRAM_CNT_UE 0 1).event 0x3005 0 0 0)

/-- A store to a word of an array: of the whole word, or of a part, which reads the word first (R128). A word whose read is
uncorrectable keeps its error (log entry 97). -/
def State.sramStore (s : State) (array word : Nat) (whole : Bool) : State :=
  if whole then s.sramWritten array word
  else
    let (k, t) := s.sramRead array word
    if k = 2 then t else t.sramWritten array word

/-- The 256 KiB of its array in which a row's spare is taken (R130), as a key of Buf.spares. -/
def spareKey (r : Nat × Nat) : Nat := r.1 * 2 ^ 16 + Config.rowUnit r.1 r.2 % 2 ^ 16

/-- CSTS.CFS of a controller (R44, R127). -/
def State.fatal (s : State) (p : Nat) : State :=
  { s with ciu := { s.ciu with ctrl := Tbl.upd s.ciu.ctrl {} p (fun c => { c with cfs := true }) } }

/-- A use of a hardware table or buffer by the device: it reads and writes words of its own choice (free values, log entry 50); the answer
says whether an uncorrectable word was read. A write takes the armed flip (R131). -/
def State.arrayUse (s : State) (array : Nat) : Bool × State :=
  let (bad, s) := match s.buf.sramErr.find? (fun e => e.1 / 2 ^ 24 == array) with
    | none => (false, s)
    | some e =>
      let (v, s) := s.free
      if v % 2 = 0 then (false, s)
      else
        let (k, s) := s.sramRead array (e.1 % 2 ^ 24)
        (k == 2, s)
  if s.b .BUF_FLIP_CTRL_ARM 0 && s.f .BUF_FLIP_CTRL_ARRAY 0 == array then
    let (v, s) := s.free
    (bad, s.sramWritten array (v % 2 ^ 23))
  else (bad, s)

/-- The same of a hardware table: an uncorrectable word sets CSTS.CFS on both controllers (R127). -/
def State.tableUse (s : State) (array : Nat) : State :=
  let (bad, s) := s.arrayUse array
  if bad then (s.fatal 0).fatal 1 else s

/-- The word of Bramble's data array in which byte a of line number n stands (R110, R126). -/
def lineWord (n a : Nat) : Nat := n * 16 + a % 128 / 8

/-- Whether a word of Work SRAM in a range is uncorrectable (R127). -/
def State.workBad (s : State) (a n : Nat) : Bool :=
  inWork a n && (wordsOf (a - workBase) n).any (fun w => decide (2 ≤ popcount 72 (Tbl.get s.buf.sramErr 0 w)))

/-- Whether data at an address is unusable to its reader: poisoned (R104), or uncorrectable in Work SRAM (R127). -/
def State.bad (s : State) (a n : Nat) : Bool := s.poisoned a n || s.workBad a n

/-! ### DRAM behind its code (R104-R107, R113) -/

/-- The contents of a line in its newest copy, with its poison. -/
def State.snap (s : State) (la : Nat) : Snap :=
  { data := s.rd (la * 128) 128, p0 := Tbl.get s.buf.poison false (2 * la), p1 := Tbl.get s.buf.poison false (2 * la + 1) }

/-- What DRAM itself holds of a line. -/
def State.dramSnap (s : State) (la : Nat) : Snap := (Tbl.get s.buf.dram none la).getD (s.snap la)

/-- The line's newest copy becomes what a snapshot holds. -/
def State.restoreSnap (s : State) (la : Nat) (x : Snap) : State :=
  (({ s with mem := setBytes s.mem (la * 128) x.data }).setPoison (2 * la) x.p0).setPoison (2 * la + 1) x.p1

/-- The bytes of a granule and its code that an error mask changes, as the decoder counts them. -/
def errBytes (m : Nat) : Nat := ((List.range 9).filter (fun i => bits m (8 * i + 7) (8 * i) != 0)).length

/-- The kind of an error mask over a granule (R104): 0 none, 1 corrected, 2 poison, 3 uncorrectable. -/
def errKind (m : Nat) : Nat :=
  let n := errBytes m
  if n = 0 then 0 else if n = 1 then 1 else if n < 4 then 3 else
  if Config.wideSyndrome m = 1 then 1 else if Config.wideSyndrome m = 2 then 2 else 3

/-- A decoder takes an error over several bytes for one of a single byte (R104). -/
def errWrong (m : Nat) : Bool := errKind m == 1 && decide (1 < errBytes m)

/-- The data a miscorrecting decoder delivers: the error in the granule's first 8 bytes, and the byte it changes (R104). -/
def miscorrected (m : Nat) (d : List Byte) : List Byte :=
  let x := xorBytes d (leBytes 8 (m % 2 ^ 64))
  let (i, v) := Config.wideByte m
  patch x (i % 64) [(x.getD (i % 64) 0) ^^^ BitVec.ofNat 8 v]

/-- A granule is written to DRAM: a fresh code, or the armed flip (R104, R131). -/
def State.granuleCode (s : State) (gr : Nat) : State :=
  let (m, t) := s.flipMask 0x20
  t.updBuf (fun b => { b with err := Tbl.set b.err 0 gr m })

/-- BUF_ECC_LOG shows a granule's address, and whether it was uncorrectable or poisoned. -/
def State.eccLog (s : State) (gr : Nat) (ue : Bool) : State :=
  s.setFs 0 [(.BUF_ECC_LOG_LO_ADDR_LO, gr % 2 ^ 26), (.BUF_ECC_LOG_HI_ADDR_HI, gr / 2 ^ 26), (.BUF_ECC_LOG_HI_UE, ue.toNat)]

/-- A granule is read from DRAM and decoded: its kind (R104: 1 corrected, 2 poisoned, 3 uncorrectable) and the state with the
report, and with the poison of R105, written back where the granule was uncorrectable. -/
def State.decodeGranule (s : State) (gr : Nat) : Nat × State :=
  match errKind (Tbl.get s.buf.err 0 gr) with
  | 0 => if Tbl.get s.buf.poison false gr then (2, s.eccLog gr true) else (0, s)
  | 1 => (1, ((s.inc .BUF_ECC_STAT_CE 0 1).eccLog gr false).event 0x3002 0 0 0)
  | 2 => (2, (s.setPoison gr true).eccLog gr true)
  | _ => (3, ((((s.inc .BUF_ECC_STAT_UE 0 1).eccLog gr true).eventAddr 0x3003 (gr * 64)).setPoison gr true).granuleCode gr)

/-- The newest copy of a granule takes what a miscorrecting decoder delivers. -/
def State.putWrong (s : State) (gr m : Nat) : State :=
  if errWrong m then { s with mem := setBytes s.mem (gr * 64) (miscorrected m (s.rd (gr * 64) 64)) } else s

/-- A line is read from DRAM: both granules decoded; answers whether an error was corrected. A line whose write still waits is read as
written (R107). A miscorrected granule delivers wrong data, which the reader's copy then holds. -/
def State.fill (s : State) (la : Nat) : Bool × State :=
  if s.buf.evq.any (fun e => e.addr == la) then (false, s) else
  let x := s.snap la
  let m0 := Tbl.get s.buf.err 0 (2 * la)
  let m1 := Tbl.get s.buf.err 0 (2 * la + 1)
  let (k0, t) := s.decodeGranule (2 * la)
  let (k1, t) := t.decodeGranule (2 * la + 1)
  let t := if errWrong m0 || errWrong m1 then t.updBuf (fun b => { b with dram := Tbl.set b.dram none la (some x) }) else t
  (k0 == 1 || k1 == 1, (t.putWrong (2 * la) m0).putWrong (2 * la + 1) m1)

/-- DRAM takes a line: both granules with fresh codes, the first with the armed flip (R104, R106, R131). -/
def State.dramWrite (s : State) (la : Nat) (x : Snap) : State :=
  let t := (s.granuleCode (2 * la)).granuleCode (2 * la + 1)
  t.updBuf (fun b => { b with dram := Tbl.set b.dram none la (if x = t.snap la then none else some x) })

/-- Entries in use in the DRAM controller's write queue, of 64 (R113): accepted evictions, and other writes. -/
def State.wqLevel (s : State) : Nat := s.buf.wq + (s.buf.evq.filter (fun e => e.issued)).length

/-- A write that comes from no eviction-buffer entry takes a place in the write queue; while none is free, it waits for one. -/
def State.enqueue (s : State) : State := s.updBuf (fun b => { b with wq := min 64 (b.wq + 1) })

/-! ### Bramble (R110-R118) -/

/-- A line of the main array is read out: bad words are corrected, or its granule is marked poisoned (R127). -/
def State.readLine (s : State) (n : Nat) : State :=
  let la := (Tbl.get s.buf.line {} n).addr
  (List.range 16).foldl (fun u i =>
    let (k, u) := u.sramRead 1 (n * 16 + i)
    if k = 2 then u.setPoison (2 * la + i / 8) true else u) s

/-- The line number (set × 16 + way) of a line in the main array. -/
def State.findLine (s : State) (la : Nat) : Option Nat :=
  (firstFrom 16 (la % 4096 * 16) (fun n => (Tbl.get s.buf.line {} n).valid && (Tbl.get s.buf.line {} n).addr == la))

/-- Bramble serves accesses while BUF_BRM_CTRL.EN reads 1, a disable walk included (R110, R123). -/
def State.brmOn (s : State) : Bool := s.b .BUF_BRM_CTRL_EN 0

def State.inPip (s : State) (la : Nat) : Bool := s.buf.pip.any (fun p => p.addr == la)
def State.inRind (s : State) (la : Nat) : Bool := s.buf.rind.any (fun r => r.addr == la)
def State.inEvq (s : State) (la : Nat) : Bool := s.buf.evq.any (fun e => e.addr == la)

/-- A line is in none of Bramble's structures. -/
def State.absent (s : State) (la : Nat) : Bool := (s.findLine la).isNone && !s.inPip la && !s.inRind la && !s.inEvq la

/-- Setting a line of the main array, its DIRTY count kept (R136). -/
def State.setLine (s : State) (n : Nat) (l : Line) : State :=
  let o := Tbl.get s.buf.line {} n
  let t := s.updBuf (fun b => { b with line := Tbl.set b.line {} n l, mru := Tbl.set b.mru 0 (n / 16) (n % 16 + 1) })
  t.setF .BUF_BRM_STAT_DIRTY 0 (t.f .BUF_BRM_STAT_DIRTY 0 + (l.valid && l.dirty).toNat - (o.valid && o.dirty).toNat)

def State.setEvq (s : State) (q : List Evict) : State :=
  (s.updBuf (fun b => { b with evq := q })).setF .BUF_BRM_STAT_EVQ 0 q.length

def State.dropRind (s : State) (la : Nat) : State := s.updBuf (fun b => { b with rind := b.rind.filter (fun r => r.addr != la) })
def State.dropPip (s : State) (la : Nat) : State := s.updBuf (fun b => { b with pip := b.pip.filter (fun p => p.addr != la) })

/-- Dropping a copy that DRAM does not share: the newest copy becomes DRAM's again. -/
def State.dropCopy (s : State) (la : Nat) : State :=
  match Tbl.get s.buf.dram none la with
  | some x => (s.restoreSnap la x).updBuf (fun b => { b with dram := Tbl.set b.dram none la none })
  | none => s

/-- The Rind copy of a line becomes clean when no write of it is left (R112). -/
def State.rindDone (s : State) (la : Nat) : State :=
  s.updBuf (fun b => { b with rind := b.rind.map (fun r => if r.addr = la ∧ !b.evq.any (fun e => e.addr == la) then { r with dirty := false } else r) })

/-- The oldest eviction ends: its line is written and its Rind copy marked clean (R112). -/
def State.evictionDone (s : State) : State :=
  match s.buf.evq with
  | [] => s
  | e :: r => ((s.dramWrite e.addr e.snap).setEvq r).rindDone e.addr

/-- The writes of a line that wait in the eviction buffer end, in their order (R107). -/
def State.evictNow (s : State) (la : Nat) : State :=
  if !s.inEvq la then s else
  let t := (s.buf.evq.filter (fun e => e.addr == la)).foldl (fun u e => u.dramWrite la e.snap) s
  (t.setEvq (s.buf.evq.filter (fun e => e.addr != la))).rindDone la

/-- A line enters the Rind, the oldest of 32 dropping out; one that drops out and is not in the eviction buffer stands in DRAM alone. -/
def State.enterRind (s : State) (v : Victim) : State :=
  let r := s.buf.rind.filter (fun x => x.addr != v.addr) ++ [v]
  let t := s.updBuf (fun b => { b with rind := r.drop (r.length - 32) })
  (r.take (r.length - 32)).foldl (fun u x => if u.inEvq x.addr then u else u.dropCopy x.addr) t

/-- A line leaves the main array (R112, R113): into the Rind, and into the eviction buffer when dirty, once that has room. A clean line
with CE_SEEN is accepted by the DRAM controller when fewer than 48 entries of its write queue are in use. -/
def State.evict (s : State) (n : Nat) : State :=
  let l := Tbl.get s.buf.line {} n
  if !l.valid then s else
  let s := s.readLine n
  let x := s.snap l.addr
  let s := if l.dirty && decide (16 ≤ s.buf.evq.length) then s.evictionDone else s
  let s := if l.dirty then s.setEvq (s.buf.evq ++ [{ addr := l.addr, snap := x, issued := false }]) else s
  let accept := !l.dirty && l.ceSeen && decide (s.wqLevel < 48)
  let s := if accept then (s.dramWrite l.addr x).enqueue else s
  (s.setLine n {}).enterRind { addr := l.addr, dirty := l.dirty, ceSeen := l.ceSeen && !l.dirty && !accept }

/-- The line number a new line takes in its set: an invalid way first, otherwise a way that pseudo-LRU picks, which is
any but the one used last (R110; a free value, log entry 9). -/
def State.victim (s : State) (set : Nat) : Nat × State :=
  match firstFrom 16 (set * 16) (fun n => !(Tbl.get s.buf.line {} n).valid) with
  | some n => (n, s)
  | none =>
    let (v, t) := s.free
    let m := Tbl.get t.buf.mru 0 set - 1
    (set * 16 + (if v % 15 < m then v % 15 else v % 15 + 1), t)

/-- Bringing a line into the main array, a victim making room (R112, R114). -/
def State.allocLine (s : State) (la : Nat) (dirty ceSeen : Bool) : State :=
  let (n, t) := (s.tableUse 2).victim (la % 4096)
  let t := (t.evict n).setLine n { valid := true, addr := la, dirty := dirty, ceSeen := ceSeen }
  (List.range 16).foldl (fun u i => u.sramWritten 1 (n * 16 + i)) t

/-- A line is prefetched into Pip unless Bramble, Pip or the Rind holds it; the oldest of 64 is dropped (R111). -/
def State.prefetch (s : State) (la : Nat) : State :=
  if !s.brmOn || !s.b .BUF_BRM_CTRL_PIP_EN 0 || !s.inDram (la * 128) 128 || (s.findLine la).isSome || s.inPip la || s.inRind la then s
  else
    let (ce, s) := s.fill la
    let q := s.buf.pip ++ [{ addr := la, ceSeen := ce }]
    (q.take (q.length - 64)).foldl (fun u x => if u.inEvq x.addr then u else u.dropCopy x.addr) (s.updBuf (fun b => { b with pip := q.drop (q.length - 64) }))

/-- Prefetching the lines of a range (R111). -/
def State.prefetchAll (s : State) (a n : Nat) : State :=
  if dramBase ≤ a ∧ s.b .BUF_STATUS_READY 0 then (linesOf a n).foldl (fun u la => u.prefetch la) s else s

/-- The stream detector counts sequential core misses, core by core (log entry 98); after three it prefetches the next two lines (R111). -/
def State.streamMiss (s : State) (c la : Nat) : State :=
  let (last, run) := Tbl.get s.buf.stream (0, 0) c
  let run := if la = last + 1 then min 3 (run + 1) else 1
  let s := s.updBuf (fun b => { b with stream := Tbl.set b.stream (0, 0) c (la, run) })
  if 3 ≤ run ∧ s.b .BUF_BRM_CTRL_STREAM_EN 0 then (s.prefetch (la + 1)).prefetch (la + 2) else s

/-- The lookup of an access while Bramble is on (R110, R111, R114, R115): a hit in the main array, a move from Pip, a recall, or a fill;
no fill for a write of a whole line. A line whose own write is still queued, or is not done, comes back clean. -/
def State.lookup (s : State) (g : Agent) (la : Nat) (noFill : Bool) : State :=
  match s.findLine la with
  | some n => s.setLine n (Tbl.get s.buf.line {} n)
  | none =>
    match s.buf.pip.find? (fun p => p.addr == la) with
    | some p => (s.dropPip la).allocLine la false p.ceSeen
    | none =>
      if s.inRind la || s.inEvq la then
        let ce := (s.buf.rind.find? (fun r => r.addr == la)).any (fun r => r.ceSeen)
        (s.dropRind la).allocLine la false ce
      else
        let (ce, s) := if noFill then (false, s) else s.fill la
        let s := s.allocLine la false ce
        match g with
        | .core n => if noFill then s else s.streamMiss n la
        | _ => s

/-- A set that the disable walk has passed (R123). -/
def State.walked (s : State) (la : Nat) : Bool :=
  s.b .BUF_BRM_CTRL_DISABLE_PENDING 0 && decide (la % 4096 < s.buf.walk)

/-- Words of Bramble's data array that a read of a range uses; an uncorrectable one poisons its granule (R127). -/
def State.readWords (s : State) (a n : Nat) : State :=
  (wordsOf a n).foldl (fun u w =>
    match u.findLine (w / 16) with
    | some k =>
      let (e, u) := u.sramRead 1 (lineWord k (w * 8))
      if e = 2 then u.setPoison (w / 8) true else u
    | none => u) s

/-- A read by an agent reaches memory (R104-R106, R110-R115, R127): in DRAM every line it touches is looked up in Bramble, or decoded where
Bramble is off; in Work SRAM every word is checked. -/
def State.touch (s : State) (g : Agent) (a n : Nat) : State :=
  if dramBase ≤ a then
    if s.brmOn then ((linesOf a n).foldl (fun u la => u.lookup g la false) s).readWords a n
    else (granulesOf a n).foldl (fun u gr => (u.decodeGranule gr).2) s
  else if inWork a n then (wordsOf (a - workBase) n).foldl (fun u w => (u.sramRead 0 w).2) s
  else s

/-- The bytes a read gets, and the state after it. With Bramble off a miscorrected granule is wrong for this read alone. -/
def State.fetch (s : State) (g : Agent) (a n : Nat) : List Byte × State :=
  let t := s.touch g a n
  if dramBase ≤ a ∧ !s.brmOn then
    (((granulesOf a n).foldl (fun u gr => u.putWrong gr (Tbl.get s.buf.err 0 gr)) s).rd a n, t)
  else (t.rd a n, t)

/-- The number a read gets. -/
def State.fetchN (s : State) (g : Agent) (a n : Nat) : Nat × State :=
  let (d, t) := s.fetch g a n
  (ofLe d, t)

/-! ### Writes (R104, R110, R116, R117, R123, R128) -/

/-- A queued eviction of a line is cancelled by a write (R116): its entry and its Rind copy go, and the write makes the line dirty. -/
def State.cancelEvict (s : State) (la : Nat) : State :=
  if s.buf.evq.any (fun e => e.addr == la && !e.issued) then
    let s := (s.setEvq (s.buf.evq.filter (fun e => !(e.addr == la && !e.issued)))).dropRind la
    match s.findLine la with
    | some _ => s
    | none => s.allocLine la true false
  else s

/-- A line of the main array that a write is about to change: dirty from now on, with what DRAM holds kept apart. In a set that the disable
walk has passed, it stays clean (R123). -/
def State.markDirty (s : State) (la : Nat) : State :=
  if s.walked la then s else
  match s.findLine la with
  | some n =>
    let l := Tbl.get s.buf.line {} n
    let x := s.dramSnap la
    let s := if l.dirty then s else s.setLine n { l with dirty := true, ceSeen := false }
    s.updBuf (fun b => { b with dram := Tbl.set b.dram none la (some x) })
  | none => s

/-- Part of a granule is about to be written with Bramble off: it is read, corrected and merged; uncorrectable or poisoned, it stays
poisoned (R104). -/
def State.mergeGranule (s : State) (gr : Nat) : State :=
  let m := Tbl.get s.buf.err 0 gr
  (s.decodeGranule gr).2.putWrong gr m

/-- Bytes within one line of DRAM are written. -/
def State.writeLine (s : State) (g : Agent) (a : Nat) (d : List Byte) : State :=
  let la := a / 128
  let n := d.length
  if n = 0 then s
  else if s.brmOn then
    let s := ((s.cancelEvict la).lookup g la (n == 128)).markDirty la
    let s := (granulesOf a n).foldl (fun u gr => if holdsAll a n 64 gr then u.setPoison gr false else u) s
    let s := (wordsOf a n).foldl (fun u w =>
      match u.findLine la with
      | some k => u.sramStore 1 (lineWord k (w * 8)) (holdsAll a n 8 w)
      | none => u) s
    let s := { s with mem := setBytes s.mem a d }
    if s.walked la then ((s.evictNow la).dramWrite la (s.snap la)).enqueue else s
  else
    let s := (granulesOf a n).foldl (fun u gr => if holdsAll a n 64 gr then u.setPoison gr false else u.mergeGranule gr) s
    let s := { s with mem := setBytes s.mem a d }
    ((granulesOf a n).foldl (fun u gr => u.granuleCode gr) s).enqueue

/-- The part of a byte string that falls in a line, and where it starts. -/
def linePart (a : Nat) (d : List Byte) (la : Nat) : Nat × List Byte :=
  if la * 128 ≤ a then (a, d.take (la * 128 + 128 - a)) else (la * 128, (d.drop (la * 128 - a)).take 128)

/-- What the cores lose when another agent writes lines: a reservation on them, and their lines of the data cache; no instruction cache is
known to agree any longer (R167, R168). -/
def State.coresSee (s : State) (a n : Nat) : State :=
  let l := linesOf a n
  let see := fun (c : IqCore) => { c with dc := c.dc.filter (fun x => !l.contains x), resv := c.resv.filter (fun x => !l.contains x) }
  let core := (s.eng.core.map (fun e => (e.1, see e.2))).filter (fun e => decide (e.2 ≠ {}))
  { s with eng := { s.eng with coherent := 0, core := core } }

/-- Bytes land in memory. -/
def State.wrBy (s : State) (g : Agent) (a : Nat) (d : List Byte) : State :=
  let n := d.length
  let t :=
    if dramBase ≤ a then (linesOf a n).foldl (fun t la => t.writeLine g (linePart a d la).1 (linePart a d la).2) s
    else
      let t := if inWork a n then (wordsOf (a - workBase) n).foldl (fun t w => t.sramStore 0 w (holdsAll (a - workBase) n 8 w)) s else s
      { t with mem := setBytes t.mem a d }
  t.coresSee a n

/-- The same by one of the device's own agents that is no core. -/
def State.wrRaw (s : State) (a : Nat) (d : List Byte) : State := s.wrBy .link a d

/-! ### A core's own view (R167-R169) -/

def State.updEng (s : State) (g : Eng → Eng) : State := { s with eng := g s.eng }
def State.core (s : State) (n : Nat) : IqCore := Tbl.get s.eng.core {} n
def State.setCore (s : State) (n : Nat) (c : IqCore) : State := s.updEng (fun e => { e with core := Tbl.set e.core {} n c })

/-- A core's integer register; register 0 discards. -/
def State.setX (s : State) (n r v : Nat) : State :=
  if r = 0 then s else s.setCore n { s.core n with x := Tbl.set (s.core n).x 0 r (v % 2 ^ 64) }

/-- A core's own access leaves its reservation and its data cache (R167, R168). -/
def State.asCore (s : State) (n : Nat) (g : State → State) : State :=
  let c := Tbl.get s.eng.core {} n
  let t := g s
  { t with eng := { t.eng with core := Tbl.upd t.eng.core {} n (fun x => { x with resv := c.resv, dc := c.dc }) } }

/-- A line enters a core's data cache of 64 KiB, 512 lines (R167): the victim among 512 is a free value (log entry 99). -/
def State.cacheLine (s : State) (n la : Nat) : State :=
  let c := Tbl.get s.eng.core {} n
  if c.dc.contains la then s else
  let (q, s) := if c.dc.length < 512 then (c.dc, s) else
    let (v, s) := s.free
    (c.dc.eraseIdx (v % 512), s)
  { s with eng := { s.eng with core := Tbl.upd s.eng.core {} n (fun x => { x with dc := q ++ [la] }) } }

/-- Trailing ones of a number, within fuel. -/
def ones (fuel v : Nat) : Nat :=
  match fuel with
  | 0 => 0
  | k + 1 => if v % 2 = 1 then ones k (v / 2) + 1 else 0

/-- The region of PMP entry i of a core: first byte and size (R169): TOR and NAPOT at a granularity of 4 KiB; OFF, and NA4, which is not
selectable, have none. -/
def pmpRegion (t : Tbl (Nat × Nat)) (i : Nat) : Option (Nat × Nat) :=
  let (c, a) := Tbl.get t (0, 0) i
  match bits c 4 3 with
  | 1 =>
    let lo := if i = 0 then 0 else (Tbl.get t (0, 0) (i - 1)).2 / 1024 * 4096
    let hi := a / 1024 * 4096
    if lo < hi then some (lo, hi - lo) else none
  | 3 =>
    let k := ones 54 (a ||| 0x1FF)
    some (a / 2 ^ (k + 1) * 2 ^ (k + 1) * 4, 2 ^ (k + 3))
  | _ => none

/-- Whether PMP lets a core access k bytes at a (R169): 0 read, 1 write, 2 execute. The first entry that touches the range decides; machine
mode passes an entry that is not locked, and what no entry touches. -/
def State.pmpAllows (s : State) (n a k x : Nat) : Bool :=
  let c := Tbl.get s.eng.core {} n
  match firstFrom 16 0 (fun i => (pmpRegion c.pmp i).any (fun r => decide (a < r.1 + r.2) && decide (r.1 < a + k))) with
  | none => !c.user
  | some i =>
    let cfg := (Tbl.get c.pmp (0, 0) i).1
    (pmpRegion c.pmp i).any (fun r => decide (r.1 ≤ a) && decide (a + k ≤ r.1 + r.2)) && (bit cfg x || (!c.user && !bit cfg 7))

/-- Whether an agent may access k bytes at a: PMP checks a core's own accesses alone (R169). -/
def State.pmpOk (s : State) (g : Agent) (a k x : Nat) : Bool :=
  match g with
  | .core n => s.pmpAllows n a k x
  | _ => true

/-- A load access fault: the exception, and mhpmcounter5 (R166). -/
def State.loadFault (s : State) (g : Agent) : State :=
  match g with
  | .core n => { s.accFault g with eng := { s.eng with core := Tbl.upd s.eng.core {} n.val (fun c => { c with hpm5 := (c.hpm5 + 1) % 2 ^ 64 }) } }
  | _ => s

/-- A misaligned load, store or AMO (R166). -/
def State.misaligned (s : State) (g : Agent) : State :=
  match g with
  | .core n => { s with dev := { s.dev with accFault := Tbl.set s.dev.accFault 0 n.val 2 } }
  | _ => s

/-! ### The protected state (R406, R415) -/

/-- The base of the protected region (R99, R415). -/
def State.protBase (s : State) : Nat := s.f .PLV_PROT_LO_BASE_LO 0 * 2 ^ 20 + s.f .PLV_PROT_HI_BASE_HI 0 * 2 ^ 32

/-- Whether n bytes at a lie within the protected region. -/
def State.inProt (s : State) (a n : Nat) : Bool :=
  s.protBase ≤ a ∧ a + n ≤ s.protBase + s.f .PLV_PROT_SIZE_PROT_MIB 0 * 2 ^ 20

/-- The base of the buffer index (R406). -/
def State.idxBase (s : State) : Nat := s.f .PLV_IDX_LO_BASE_LO 0 * 2 ^ 20 + s.f .PLV_IDX_HI_BASE_HI 0 * 2 ^ 32

def State.protSize (s : State) : Nat := s.f .PLV_PROT_SIZE_PROT_MIB 0 * 2 ^ 20

/-- The offset of an address in the protected state (R406): the protected region, then the buffer index (log entry 11). -/
def State.protOffset (s : State) (a : Nat) : Option Nat :=
  if s.protBase ≤ a ∧ a < s.protBase + s.protSize ∧ s.protBase ≠ 0 then some (a - s.protBase)
  else if s.idxBase ≤ a ∧ a < s.idxBase + 2 ^ 20 ∧ s.idxBase ≠ 0 then some (s.protSize + (a - s.idxBase))
  else none

/-- The address at an offset of the protected state. -/
def State.protAddr (s : State) (o : Nat) : Nat :=
  if o < s.protSize then s.protBase + o else s.idxBase + (o - s.protSize)

/-! ### Ownership and the mirror (R427, R430, R433, R434) -/

/-- The device is paired by strap: position 0 or 1 (R321). -/
def State.paired (s : State) : Bool := s.f .SUP_STRAP_PAIR 0 == 1 || s.f .SUP_STRAP_PAIR 0 == 2

/-- Its position. -/
def State.pos (s : State) : Nat := if s.f .SUP_STRAP_PAIR 0 = 2 then 1 else 0

/-- Whether a line (0-3 actuators, 4 spindle) grants its resource to this device: high to position 0, low to position 1 (R427). -/
def State.owns (s : State) (line : Nat) : Bool := !s.paired || (bit s.mir.own line == (s.pos == 0))

/-- The power die drives the outputs of a resource (R427, R440): a device at position 0 only once it has been decided owner or has begun a
takeover. -/
def State.drives (s : State) (line : Nat) : Bool := s.owns line && (!s.paired || s.pos == 1 || s.mir.decided || s.mir.takeBegun)

/-- The role is owner while OWN_S grants the spindle to this position (R430); an unpaired device is its drive's owner. -/
def State.owner (s : State) : Bool := s.owns 4

/-- A frame leaves with the term in force. -/
def State.frameOut (s : State) (f : LinkFrame) : State :=
  s.send (.frame f.typ f.seq (s.f .MIR_TERM_TERM 0) (f.tag.getD 0) f.addr f.data (f.poison != 0))

/-- Frames that wait enter the replay buffer of 128, and leave (R433). -/
def State.frameFlush (s : State) : State :=
  let k := 128 - s.mir.replay.length
  let l := s.mir.backlog.take k
  l.foldl State.frameOut { s with mir := { s.mir with replay := s.mir.replay ++ l, backlog := s.mir.backlog.drop k } }

/-- A sequenced frame leaves, once the replay buffer has room, and is kept for replay (R433). -/
def State.sendFrame (s : State) (typ addr : Nat) (d : List Byte) (poison : Nat) (tag : Option Nat) : State :=
  let n := s.mir.nextSeq
  let fr : LinkFrame := { typ := typ, seq := n, addr := addr, data := d, poison := poison, tag := tag }
  State.frameFlush { s with mir := { s.mir with backlog := s.mir.backlog ++ [fr], nextSeq := (n + 1) % 65536 } }

/-- The WRITE frames of one write to the protected state (R434): the 32-byte units touched, split at 256-byte spans. -/
def State.mirrorWrite (s : State) (a n : Nat) (tag : Option Nat) : State :=
  match s.protOffset a with
  | none => s
  | some o =>
    let lo := o / 32 * 32
    let hi := (o + n + 31) / 32 * 32
    (List.range ((hi - 1) / 256 - lo / 256 + 1)).foldl (fun t i =>
      let b := max lo ((lo / 256 + i) * 256)
      let e := min hi ((lo / 256 + i + 1) * 256)
      let pa := t.protAddr b
      let pz := (granulesOf pa (e - b)).foldr (fun gr z => 2 * z + (Tbl.get t.buf.poison false gr).toNat) 0
      t.sendFrame 2 b (t.rd pa (e - b)) pz tag) s

/-- A write of bytes by one of the device's own agents. While the device is owner, a write to the protected state is mirrored where mir says so;
while it is standby, it is discarded (R434); from the freeze on it is discarded (R411). The tag is that of the command the write belongs to (R436). -/
def State.wrMir (s : State) (g : Agent) (a : Nat) (d : List Byte) (tag : Option Nat) (mir : Bool) : State :=
  if (s.protOffset a).isSome && s.b .PLV_STATUS_FROZEN 0 then s
  else if (s.protOffset a).isNone || !s.paired then s.wrBy g a d
  else if !s.owner then s.eventOnce 0xF009 0xF009 0 0 0
  else
    let t := s.wrBy g a d
    if mir && d.length != 0 then t.mirrorWrite a d.length tag else t

/-- A write that is mirrored while the link is up (R434). -/
def State.wrTagBy (s : State) (g : Agent) (a : Nat) (d : List Byte) (tag : Option Nat) : State :=
  s.wrMir g a d tag (s.b .MIR_STATUS_LINK_UP 0)

/-- Whether a change of a Ledger entry is sent singly (R95, R435): with MIRROR, while SYNCED reads 1; a resync under way takes it along, as every
new write (log entry 96). -/
def State.ledgerMirrors (s : State) : Bool :=
  s.b .MIR_STATUS_LINK_UP 0 && ((s.b .LDG_CTRL_MIRROR 0 && s.b .MIR_STATUS_SYNCED 0) || s.b .MIR_RESYNC_BUSY 0)

/-- A write of Ledger entries. -/
def State.wrLedger (s : State) (a : Nat) (d : List Byte) (tag : Option Nat) : State := s.wrMir .link a d tag s.ledgerMirrors

def State.wrTag (s : State) (a : Nat) (d : List Byte) (tag : Option Nat) : State := s.wrTagBy .link a d tag

/-- A write with no command behind it. -/
def State.wr (s : State) (a : Nat) (d : List Byte) : State := s.wrTag a d none

/-- A write of a little-endian number. -/
def State.wrN (s : State) (a n v : Nat) : State := s.wr a (leBytes n v)

/-- A write of data carrying poison: every granule touched is marked (R45, R237). -/
def State.wrPoison (s : State) (a : Nat) (d : List Byte) : State :=
  if (s.protOffset a).isSome && (s.b .PLV_STATUS_FROZEN 0 || !s.owner) then s.wr a d else
  if dramBase ≤ a then (granulesOf a d.length).foldl (fun t gr => t.setPoison gr true) (s.wr a d) else s.wr a d

end Sys2Proof.Machine
end

