-- ==== Sys2Proof/Machine/Intake.lean ====
section
/-!
DEFINITION. Machine/Intake.lean: what the command rows share: tags and epochs (R80, R81), the Ledger (R93-R95), completion
entries and interrupts (R53-R56), the overlap rules (R84, R85), buffer slots and the buffer index (R87, R88).
-/
namespace Sys2Proof.Machine

/-! ### Accessors -/

def State.updCiu (s : State) (g : Ciu → Ciu) : State := { s with ciu := g s.ciu }
def State.updHep (s : State) (g : Hep → Hep) : State := { s with hep := g s.hep }
def State.updDev (s : State) (g : Dev → Dev) : State := { s with dev := g s.dev }

def State.hp (s : State) (p : Nat) : HepPort := Tbl.get s.hep.port {} p

def State.setHp (s : State) (p : Nat) (x : HepPort) : State := s.updHep (fun h => { h with port := Tbl.set h.port {} p x })
def State.ctrl (s : State) (p : Nat) : Ctrl := Tbl.get s.ciu.ctrl {} p
def State.setCtrl (s : State) (p : Nat) (x : Ctrl) : State := s.updCiu (fun c => { c with ctrl := Tbl.set c.ctrl {} p x })
/-- The key of queue q of port p. -/
def qkey (p q : Nat) : Nat := p * 2048 + q
def State.sq (s : State) (p q : Nat) : SubQ := Tbl.get s.ciu.sq {} (qkey p q)
def State.setSq (s : State) (p q : Nat) (x : SubQ) : State := s.updCiu (fun c => { c with sq := Tbl.set c.sq {} (qkey p q) x })
def State.cq (s : State) (p q : Nat) : CplQ := Tbl.get s.ciu.cq {} (qkey p q)
def State.setCq (s : State) (p q : Nat) (x : CplQ) : State := s.updCiu (fun c => { c with cq := Tbl.set c.cq {} (qkey p q) x })
def State.cmd (s : State) (t : Nat) : Cmd := Tbl.get s.ciu.cmd {} t
def State.setCmd (s : State) (t : Nat) (x : Cmd) : State := s.updCiu (fun c => { c with cmd := Tbl.set c.cmd {} t x })
def State.nsp (s : State) (n : Nat) : Nspc := Tbl.get s.ciu.ns {} n
def State.setNs (s : State) (n : Nat) (x : Nspc) : State := s.updCiu (fun c => { c with ns := Tbl.set c.ns {} n x })
def zkey (n z : Nat) : Nat := n * 2 ^ 20 + z
def State.zone (s : State) (n z : Nat) : Zone := Tbl.get s.ciu.zone {} (zkey n z)
def State.setZone (s : State) (n z : Nat) (x : Zone) : State := s.updCiu (fun c => { c with zone := Tbl.set c.zone {} (zkey n z) x })

/-! ### Requests and tags (R35-R43) -/

/-- The tags a port may use (R35): first, and how many. -/
def HepPort.tagRange (h : HepPort) : Nat × Nat := if h.tag10 then (0x100, 768) else (0, 256)

/-- Whether a tag is outstanding or quarantined. -/
def HepPort.tagUsed (h : HepPort) (t : Nat) : Bool := h.reqs.any (fun r => r.tag == t) || h.quar.any (fun q => q.tag == t)

/-- A tag is free. -/
def State.tagFree (s : State) (p : Nat) : Bool :=
  (firstFrom (s.hp p).tagRange.2 (s.hp p).tagRange.1 (fun t => !(s.hp p).tagUsed t)).isSome

/-- The timeout in force, in microseconds (R36). -/
def State.ctoUs (s : State) (p : Nat) : Nat :=
  if (s.hp p).ctoValue = 1 then 100 else if (s.hp p).ctoValue = 2 then 10000
  else 50 * max 1 (min 1280 (s.f .HEP_CTO_CTO_TIME p))

/-- The lowest tag a port may use (R35) that is neither outstanding nor quarantined; which one is taken is open (log entry 14). -/
def State.nextTag (s : State) (p : Nat) : Option Nat :=
  firstFrom (s.hp p).tagRange.2 (s.hp p).tagRange.1 (fun t => !(s.hp p).tagUsed t)

/-- The page of an address, the Smallest Translation Unit (R48). -/
def pageOf (a : Nat) : Nat := a / 4096 * 4096

/-- The cached translation of an address for a read or a write (R48). One without the permission does not serve (log entry 103). -/
def State.atcFind (s : State) (p a : Nat) (write : Bool) : Option Atc :=
  s.hep.atc.find? (fun e => e.port == p && decide (e.start ≤ a) && decide (a < e.start + e.size) && (if write then e.wr else e.rd))

/-- An access uses a translation: it is now the most recently used one (R48). -/
def State.atcUse (s : State) (e : Atc) : State := s.updHep (fun h => { h with atc := h.atc.filter (· != e) ++ [e] })

/-- A non-posted request leaves with a tag, with the timeout now in force (R36, R37), and at the address a translation gives. -/
def State.issue (s : State) (p t : Nat) (k : ReqKind) (addr len : Nat) (e : Option Atc) : State :=
  let h := s.hp p
  let s := s.setHp p { h with
    reqs := h.reqs ++ [{ tag := t, kind := k, addr := addr, remaining := len, got := [], cto := s.ctoUs p
                         via := e.map (fun x => (x.start, x.size)), holds := [] }] }
  match k with
  | .xlate _ _ => s.send (.xlateReq p t addr)
  | _ => s.send (.memRead p t (match e with
      | some x => x.host + (addr - x.start)
      | none => addr) len)

/-- A translation of a page is being requested. -/
def State.xlating (s : State) (p page : Nat) : Bool := (s.hp p).reqs.any (fun r => match r.kind with
  | .xlate q _ => q == page
  | _ => false)

/-- A page's translation is requested, with a tag of R35, unless it is already or no tag is free (R49). -/
def State.askPage (s : State) (p page : Nat) : State :=
  if s.xlating p page then s else
  match s.nextTag p with
  | some t => s.issue p t (.xlate page []) page 8 none
  | none => s

/-- A read that waits leaves if it can: with a free tag (R35), and while ATS is enabled with the translation of its page, which is asked for
(R49). -/
def State.tryRead (s : State) (p : Nat) (w : XWait) : State :=
  let wait := fun (s : State) => s.setHp p { s.hp p with xwait := (s.hp p).xwait ++ [w] }
  match s.nextTag p with
  | none => wait s
  | some t =>
    if !(s.hp p).ats || w.plain then s.issue p t w.kind w.addr w.len none
    else
      match s.atcFind p w.addr false with
      | some e => (s.atcUse e).issue p t w.kind w.addr w.len (some e)
      | none => wait (s.askPage p (pageOf w.addr))

/-- The reads that wait are tried again, in order. -/
def State.pump (s : State) (p : Nat) : State :=
  let l := (s.hp p).xwait
  l.foldl (fun u w => u.tryRead p w) (s.setHp p { s.hp p with xwait := [] })

/-- A non-posted read of host memory: it leaves, or waits (R35, R49). -/
def State.request (s : State) (p : Nat) (k : ReqKind) (addr len : Nat) : State :=
  s.tryRead p { kind := k, addr := addr, len := len, plain := false }

/-- A posted write to host memory meets the address-translation cache (R48, R49): a hit is used; on a miss the translation is requested. When the
write itself leaves is timing, which the model leaves out (log entry 104). -/
def State.writeXlate (s : State) (p a : Nat) : State :=
  if !(s.hp p).ats then s else
  match s.atcFind p a true with
  | some e => s.atcUse e
  | none => s.askPage p (pageOf a)

/-- Data writes to host memory of a command's port and identifier; Relaxed Ordering as the port's Device Control enables it (R31). Where they go
is the command's data pointer's: while ATS is enabled, a free address meets the translation cache. -/
def State.sendData (s : State) (p cid : Nat) (d : List Byte) (ep : Bool) : State :=
  let s := if (s.hp p).ats then
      let (a, s) := s.free
      s.writeXlate p a
    else s
  (s.tableUse 0x11).send (.hostData p cid d ep (s.hp p).relaxed)

/-- Whether any granule that bytes i to i + n - 1 of some data lie in is marked: one mark for each 64 bytes. -/
def marked (bad : List Bool) (i n : Nat) : Bool := ((bad.drop (i / 64)).take ((i + n + 63) / 64 - i / 64)).any id

/-- The payload of a TLP, as Device Control sets it, at most 512 bytes (R30). -/
def State.payload (s : State) (p : Nat) : Nat := min 512 (128 * 2 ^ (s.hp p).mps)

/-- Data of which some bytes are bad: memory-write TLPs of the payload's size, EP set on those that carry affected bytes (R30, R47). -/
def State.sendMarked (s : State) (p cid : Nat) (d : List Byte) (bad : List Bool) : State :=
  let n := s.payload p
  if !bad.any id then s.sendData p cid d false
  else (List.range ((d.length + n - 1) / n)).foldl (fun u i => u.sendData p cid ((d.drop (n * i)).take n) (marked bad (n * i) n)) s

/-- n bytes that an agent reads, with a mark for each granule of 64 bytes from the first on: poisoned, or uncorrectable (R47, R104, R127). -/
def State.fetchMarked (s : State) (g : Agent) (a n : Nat) : List Byte × List Bool × State :=
  let (d, s) := s.fetch g a n
  (d, (List.range ((n + 63) / 64)).map (fun i => s.bad (a + 64 * i) (min 64 (n - 64 * i))), s)

/-! ### MSI-X (R53-R56) -/

def State.vec (s : State) (p v : Nat) : Msix := Tbl.get (s.hp p).msix {} v
def State.setVec (s : State) (p v : Nat) (m : Msix) : State :=
  s.setHp p { s.hp p with msix := Tbl.set (s.hp p).msix {} v m }

/-- The message of a vector leaves, with the entry's contents as they stand (R26). -/
def State.sendMsix (s : State) (p v : Nat) : State :=
  let m := s.vec p v
  (s.setVec p v { m with pending := false, held := 0 }).send (.msix p v m.addr m.data)

/-- Every completion queue of a vector is empty. -/
def State.vecIdle (s : State) (p v : Nat) : Bool :=
  s.ciu.cq.all (fun e => !(e.1 / 2048 == p && e.2.live && e.2.vec == v) || e.2.head == e.2.tail)

/-- A vector is masked by its own bit or by Function Mask. -/
def State.vecMasked (s : State) (p v : Nat) : Bool := (s.vec p v).masked || (s.hp p).fnMask

/-- While a vector is masked, its pending bit clears once all its completion queues are empty (R55). -/
def State.settleVec (s : State) (p v : Nat) : State :=
  if s.vecMasked p v && s.vecIdle p v then s.setVec p v { s.vec p v with pending := false } else s

/-- An interrupt condition arises on a vector (R54): pending while masked, unless all its queues are empty (R55), otherwise a message.
Coalescing, the NVMe feature 0x08 with its aggregation threshold and time, holds the messages of I/O vectors back (R56; PRESUMED,
log entry 12). -/
def State.raiseVec (s : State) (p v : Nat) : State :=
  let m := s.vec p v
  if s.vecMasked p v then (s.setVec p v { m with pending := true }).settleVec p v
  else
    let c := Tbl.get (s.ctrl p).features 0 8
    if v ≠ 0 ∧ c / 256 % 256 ≠ 0 ∧ m.held < c % 256 then s.setVec p v { m with held := m.held + 1 }
    else s.sendMsix p v

/-- A completion entry is written to completion queue k, at its tail (R31, R91). -/
def State.putCqe (s : State) (p k sq cid sct sc dw0 : Nat) : State :=
  let c := s.cq p k
  let s := s.writeXlate p (c.base + 16 * c.tail)
  (s.setCq p k { c with tail := if c.size = 0 then 0 else (c.tail + 1) % c.size }).send (.cqe p sq cid sct sc dw0)

/-- The same, and the interrupt follows it (R56). -/
def State.postCqeTo (s : State) (p k sq cid sct sc dw0 : Nat) : State :=
  (s.putCqe p k sq cid sct sc dw0).raiseVec p (s.cq p k).vec

/-- A completion entry of a command of a submission queue. -/
def State.postCqe (s : State) (p sq cid sct sc dw0 : Nat) : State := s.postCqeTo p (s.sq p sq).cq sq cid sct sc dw0

/-! ### The Ledger (R93-R96) -/

def State.ldgBase (s : State) : Nat := s.f .LDG_BASE_LO_BASE_LO 0 * 2 ^ 19 + s.f .LDG_BASE_HI_BASE_HI 0 * 2 ^ 32

/-- The 32 bytes of an entry, CHK included (R93). -/
def ledgerBytes (seq status sqid cid tag opc st nsid slba nlb flags : Nat) : List Byte :=
  let b := leBytes 6 seq ++ leBytes 2 status ++ leBytes 2 sqid ++ leBytes 2 cid ++ leBytes 2 tag ++ leBytes 1 opc
    ++ leBytes 1 st ++ leBytes 4 nsid ++ leBytes 8 slba ++ leBytes 2 nlb ++ leBytes 1 flags
  b ++ leBytes 1 (crc8 b)

/-- The entry at an index, as memory holds it. -/
def State.ledgerAt (s : State) (i : Nat) : List Byte := s.rd (s.ldgBase + 32 * i) 32

/-- Reading it. -/
def State.ledgerRead (s : State) (i : Nat) : List Byte × State := s.fetch .link (s.ldgBase + 32 * i) 32

/-- ACCEPTED and BUFFERED entries are not final (R93). -/
def entryOpen (b : List Byte) : Bool := leAt b 15 1 == 1 || leAt b 15 1 == 2
def State.ledgerOpen (s : State) (i : Nat) : Bool := entryOpen (s.ledgerAt i)

def State.tagOf (s : State) (t : Nat) : Nat := t * 8 + Tbl.get s.ciu.epoch 0 t

/-- Counting entries that are not final; each controller shows the count (R100, R101). -/
def State.setNonfinal (s : State) (n : Nat) : State :=
  ((s.setF .LDG_STATUS_NONFINAL 0 n).setF .LDG_HSTAT_NONFINAL 0 n).setF .LDG_HSTAT_NONFINAL 1 n

/-- Entries that an append leaves in place: SKIPS and event 0x2005 for each (R94). -/
def State.ledgerSkip (s : State) (fuel : Nat) : State :=
  match fuel with
  | 0 => s
  | k + 1 =>
    let i := s.f .LDG_APPEND_INDEX 0
    let (b, s) := s.ledgerRead i
    if entryOpen b then
      (((s.inc .LDG_APPEND_SKIPS 0 1).event 0x2005 0 0 0).setF .LDG_APPEND_INDEX 0 ((i + 1) % 16384)).ledgerSkip k
    else s

def State.ldgSeq (s : State) : Nat := s.f .LDG_SEQ_LO_SEQ_LO 0 + 2 ^ 32 * s.f .LDG_SEQ_HI_SEQ_HI 0

/-- Appending the ACCEPTED entry of a command (R93, R94). A Zone Management Receive has no range; a Zone Management Send, whose entry names no
number of blocks, shows NLB 0 (log entry 101). -/
def State.ledgerAppend (s : State) (t : Nat) : State :=
  let c := s.cmd t
  let s := s.ledgerSkip 16384
  let i := s.f .LDG_APPEND_INDEX 0
  let seq := s.ldgSeq
  let e := ledgerBytes seq 0 c.sq c.cid (s.tagOf t) (if c.admin then c.opc ||| 0x80 else c.opc) 1 c.nsid
    (if c.opc = 0x7A ∧ !c.admin then 0 else c.slba) (c.blocks - 1)
    (c.port % 2 + (if c.fua then 8 else 0) + if c.opc = 0x7D ∧ !c.admin then 16 else 0)
  let s := s.wrLedger (s.ldgBase + 32 * i) e (some (s.tagOf t))
  let s := s.setFs 0 [(.LDG_APPEND_INDEX, (i + 1) % 16384), (.LDG_SEQ_LO_SEQ_LO, seq + 1), (.LDG_SEQ_HI_SEQ_HI, (seq + 1) / 2 ^ 32)]
  let s := [0, 1].foldl (fun u p => u.setFs p [(.LDG_HINFO_LO_NEWEST_LO, seq), (.LDG_HINFO_HI_NEWEST_HI, seq / 2 ^ 32)]) s
  (s.setNonfinal (s.f .LDG_STATUS_NONFINAL 0 + 1)).setCmd t { s.cmd t with ledger := some i }

/-- Rewriting an entry whole, with a new CHK (R93). -/
def State.ledgerPut (s : State) (i : Nat) (b : List Byte) (tag : Option Nat) : State :=
  s.wrLedger (s.ldgBase + 32 * i) (b.take 31 ++ leBytes 1 (crc8 (b.take 31))) tag

/-- A change of STATE with its STATUS (R93). -/
def State.ledgerState (s : State) (i st status : Nat) (tag : Option Nat) : State :=
  let (b, s) := s.ledgerRead i
  let s := s.ledgerPut i (patch (patch b 15 (leBytes 1 st)) 6 (leBytes 2 status)) tag
  if entryOpen b && !(st == 1 || st == 2) then s.setNonfinal (s.f .LDG_STATUS_NONFINAL 0 - 1) else s

/-- FLAGS OR a value. -/
def State.ledgerFlags (s : State) (i v : Nat) (tag : Option Nat) : State :=
  let (b, s) := s.ledgerRead i
  s.ledgerPut i (patch b 30 (leBytes 1 ((leAt b 30 1) ||| v))) tag

/-! ### Tags (R80, R81) -/

def State.setInflight (s : State) (n : Nat) : State :=
  ((s.setF .CIU_OVL_STAT_INFLIGHT 0 n).setB .CIU_STATUS_IDLE 0 (decide (n = 0) && s.ciu.grants.isEmpty)).setB
    .CIU_STATUS_LIMIT 0 (decide (s.f .CIU_CFG_MAX_INFLIGHT 0 - s.f .CIU_CFG_ADMIN_RSV 0 ≤ n))

/-- A fetched entry's command has ended without a tag (R78). -/
def State.fetchEnd (s : State) : State := s.setInflight (s.f .CIU_OVL_STAT_INFLIGHT 0 - 1)

/-- The head of the free list (R80). -/
def State.nextSlot (s : State) : Option Nat := if s.ciu.fresh < 8192 then some s.ciu.fresh else s.ciu.released.head?

/-- Taking it. -/
def State.takeSlot (s : State) : State :=
  s.updCiu (fun c => if c.fresh < 8192 then { c with fresh := c.fresh + 1 } else { c with released := c.released.tail })

/-- A release of a buffer slot (R87): the index entry that names it goes too. -/
def State.freeSlot (s : State) (n : Nat) : State :=
  let s := s.updCiu (fun c => { c with alloc := Tbl.set c.alloc false n false
                                       bidx := c.bidx.filter (fun e => e.2 != n + 1)
                                       deferred := c.deferred.filter (· != n) })
  s.setF .CIU_BUF_STAT_USED 0 (s.f .CIU_BUF_STAT_USED 0 - 1)

/-- Whether a hit DMA reads a slot. -/
def State.slotRead (s : State) (n : Nat) : Bool := s.ciu.cmd.any (fun e => e.2.live && e.2.reading.contains n)

/-- A command leaves its tag (R80): its epoch rises, its slot joins the tail of the free list, and releases held back for its reads take
effect (R87). A command whose completion entry was posted before has left flight with it (R78). -/
def State.leave (s : State) (t : Nat) : State :=
  let r := (s.cmd t).reading
  let ended := (s.cmd t).posted
  let s := (s.setCmd t {}).updCiu (fun c => { c with
    epoch := Tbl.upd c.epoch 0 t (fun e => (e + 1) % 8), released := c.released ++ [t]
    awaitMirror := Tbl.set c.awaitMirror false t false
    starved := c.starved && c.cmd.any (fun e => e.2.live && e.2.phase == .slots) })
  let s := if ended then s else s.setInflight (s.f .CIU_OVL_STAT_INFLIGHT 0 - 1)
  r.foldl (fun u n => if u.ciu.deferred.contains n && !u.slotRead n then u.freeSlot n else u) s

/-- Whether a 16-bit tag carries its slot's current epoch; it is stale when the epochs differ (R81, R202). -/
def State.tagLive (s : State) (tag : Nat) : Bool := Tbl.get s.ciu.epoch 0 (tag / 8) == tag % 8

/-- A message or result with a stale epoch (R81). -/
def State.stale (s : State) : State := (s.inc .CIU_TAG_STAT_STALE 0 1).event 0x2002 0 0 0

/-- What is done for the command that a tag names: a result with a stale epoch is discarded (R81); a slot that no command holds has nothing
to be done for. -/
def State.onTag (s : State) (tag : Nat) (g : State → State) : State :=
  if !s.tagLive tag then s.stale else if (s.cmd (tag / 8)).live then g s else s

/-! ### Completion (R91) -/

/-- The Ledger state of a completed command by its status: COMPLETED, FAILED, or ABORTED for 0/0x07 and 0/0x08 (R83, R92, R93). -/
def finalState (sct sc : Nat) : Nat := if sct = 0 ∧ sc = 0 then 3 else if sct = 0 ∧ (sc = 7 ∨ sc = 8) then 5 else 4

/-- A command completes with its status: Ledger entry final, completion entry posted, POSTED set, tag released. A fenced device posts no
completion entry for a write-class command (R428). -/
def State.finish (s : State) (t sct sc dw0 : Nat) : State :=
  let c := s.cmd t
  let tag := some (s.tagOf t)
  let s := match c.ledger with
    | some i => s.ledgerState i (finalState sct sc) (sct * 256 + sc) tag
    | none => s
  if s.mir.fenced && c.cls == 2 then s.leave t else
  let s := s.postCqe c.port c.sq c.cid sct sc dw0
  let s := match c.ledger with
    | some i => s.ledgerFlags i 2 tag
    | none => s
  s.leave t

/-- A command ends without a completion entry (R92): a write already BUFFERED is COMPLETED with POSTED clear, anything else
ABORTED with status 0/0x08. -/
def State.endUnposted (s : State) (t : Nat) : State :=
  let c := s.cmd t
  let s := match c.ledger with
    | some i => if c.phase == Phase.buffered then s.ledgerState i 3 0 (some (s.tagOf t)) else s.ledgerState i 5 8 (some (s.tagOf t))
    | none => s
  s.leave t

/-- A step of the command in a slot, for the opcode it is a step of; without such a command nothing happens (log entry 13). -/
def State.onCmd (s : State) (t : Nat) (admin : Bool) (opc : Nat) (g : Cmd → State) : State :=
  let c := s.cmd t
  if c.live && !c.posted && c.admin == admin && c.opc == opc && (c.phase == .active || c.phase == .firmware || c.phase == .hit) then g c else s

/-! ### Overlap (R84, R85) -/

/-- Zones are 65,536 blocks (R138). -/
def zoneSize : Nat := 65536

/-- The ranges a command's entry in the overlap table holds (R84): first block and blocks. -/
def Cmd.span (c : Cmd) : List (Nat × Nat) := if c.selectAll then [(0, 2 ^ 64)] else if c.ranges.isEmpty then [(c.slba, c.blocks)] else c.ranges

def rangesMeet (x y : Nat × Nat) : Bool := decide (x.1 < y.1 + y.2) && decide (y.1 < x.1 + x.2)

/-- Two commands conflict (R84). -/
def conflict (c d : Cmd) : Bool :=
  (c.nsid == d.nsid || c.nsid == 0xFFFFFFFF || d.nsid == 0xFFFFFFFF) && c.cls != 0 && d.cls != 0
    && (c.cls == 2 || d.cls == 2) && c.span.any (fun x => d.span.any (fun y => rangesMeet x y))

/-- The place in order of an entry that a request fetches. -/
def ReqKind.order? : ReqKind → Option Nat
  | .sqe _ _ o _ => some o
  | _ => none

/-- An entry that left arbitration before place o is not in the overlap table yet: it has not been fetched, a sequencer holds it without a tag,
or its tag has no entry there. -/
def State.earlierUnseen (s : State) (o : Nat) : Bool :=
  let before := fun (k : ReqKind) => k.order?.any (fun x => decide (x < o))
  s.ciu.grants.any (fun g => decide (g.order < o))
    || s.hep.port.any (fun h => h.2.reqs.any (fun r => before r.kind) || h.2.xwait.any (fun r => before r.kind))
    || s.eng.seq.any (fun q => !q.2.posted && (match q.2.item with
        | some { src := .sqe _ _ x, .. } => decide (x < o)
        | _ => false))
    || s.ciu.cmd.any (fun e => e.2.live && !e.2.seen && decide (e.2.order < o))

/-- An earlier conflicting command still holds this one (R85): a write until BUFFERED, a read until its data has moved. A command that has a
range waits as well while an earlier entry, which may conflict, has not come to the table (DEDUCED, log entry 102). -/
def State.blocked (s : State) (t : Nat) : Bool :=
  let c := s.cmd t
  (c.cls != 0 && s.earlierUnseen c.order) ||
  s.ciu.cmd.any (fun e => e.1 != t && e.2.live && !e.2.posted && decide (e.2.order < c.order) && conflict c e.2
    && (e.2.cls == 1 || e.2.phase != .buffered))

/-! ### Buffer slots (R87, R88, R133) -/

def State.slotAddr (s : State) (n : Nat) : Nat :=
  s.f .CIU_DATA_LO_BASE_LO 0 * 64 + s.f .CIU_DATA_HI_BASE_HI 0 * 2 ^ 32 + n * 4160

/-- Slots not allocated. -/
def State.slotsFree (s : State) : Nat := s.f .CIU_SLOTS_COUNT 0 - s.f .CIU_BUF_STAT_USED 0

/-- The lowest slot from n on that is not allocated; which free slot a write takes is open (log entry 14). -/
def State.findSlot (s : State) (n : Nat) : Nat :=
  (firstFrom (s.ciu.alloc.length + 1) n (fun k => !Tbl.get s.ciu.alloc false k)).getD n

def State.takeBuf (s : State) (n : Nat) : State :=
  (s.updCiu (fun c => { c with alloc := Tbl.set c.alloc false n true })).setF .CIU_BUF_STAT_USED 0 (s.f .CIU_BUF_STAT_USED 0 + 1)

/-- The 4,160 bytes of a slot for a block with its metadata (R133). -/
def slotBytes (fmt lba : Nat) (d : List Byte) : List Byte :=
  let data := (d ++ List.replicate 4096 0).take 4096
  let md := d.drop 4096
  if fmt = 0 then data ++ List.replicate 60 0 ++ leBytes 4 (blockCheck data lba)
  else if fmt = 1 then data ++ (md ++ List.replicate 16 0).take 16 ++ List.replicate 44 0 ++ leBytes 4 (blockCheck data lba)
  else data ++ (md ++ List.replicate 64 0).take 64

/-- Whether a slot's block check matches (R135); format 4096+64 has none (R133). -/
def checkSlot (fmt lba : Nat) (b : List Byte) : Bool := fmt == 2 || leAt b 4156 4 == blockCheck (b.take 4096) lba

/-- The host's view of a slot: data and metadata (R133). -/
def slotData (fmt : Nat) (b : List Byte) : List Byte :=
  b.take (if fmt = 0 then 4096 else if fmt = 1 then 4112 else 4160)

def bkey (ns lba : Nat) : Nat := ns * 2 ^ 36 + lba

/-- The slot that holds a block's newest data, if any. -/
def State.bufIdx (s : State) (ns lba : Nat) : Option Nat :=
  match Tbl.get s.ciu.bidx 0 (bkey ns lba) with
  | 0 => none
  | n + 1 => some n

/-- The key slot of a namespace index holds a key (R341). -/
def State.hasKey (s : State) (ns : Nat) : Bool := Tbl.get s.sec.key 0 ns != 0

/-- The 4,096 data bytes of a block as its slot holds them, and back (R340); metadata stays as it is. -/
def State.encrypt (s : State) (ns lba : Nat) (d : List Byte) : List Byte :=
  (Config.xtsEncrypt (Tbl.get s.sec.key 0 ns - 1) lba ((d ++ List.replicate 4096 0).take 4096) ++ List.replicate 4096 0).take 4096
    ++ d.drop 4096
def State.decrypt (s : State) (ns lba : Nat) (d : List Byte) : List Byte :=
  (Config.xtsDecrypt (Tbl.get s.sec.key 0 ns - 1) lba (d.take 4096) ++ List.replicate 4096 0).take 4096 ++ d.drop 4096

/-- A block as it is stored: with PRACT 1 and format 4096+16 the device generates the 16 bytes of protection information (R134). -/
def withPi (pract : Bool) (fmt lba : Nat) (d : List Byte) : List Byte :=
  if pract && fmt == 1 then
    let data := (d ++ List.replicate 4096 0).take 4096
    data ++ (Config.piOf data lba ++ List.replicate 16 0).take 16
  else d

/-- Blocks of a write land in new slots, one each (R87), in block order, encrypted before the block check (R134, R340). -/
def State.storeBlocks (s : State) (t : Nat) (ns fmt lba : Nat) : List (List Byte) → State
  | [] => s
  | d :: r =>
    let n := s.findSlot 0
    let d := withPi (s.cmd t).pract fmt lba d
    let s := (s.takeBuf n).wrTag (s.slotAddr n) (slotBytes fmt lba (s.encrypt ns lba d)) (some (s.tagOf t))
    let s := s.setCmd t { s.cmd t with slots := (s.cmd t).slots ++ [n] }
    s.storeBlocks t ns fmt (lba + 1) r

/-- The index moves to a write's new slots in one step (R88). -/
def publishSlots (ns lba : Nat) (m : Tbl Nat) : List Nat → Tbl Nat
  | [] => m
  | n :: r => publishSlots ns (lba + 1) (Tbl.set m 0 (bkey ns lba) (n + 1)) r

/-- A write that fails before BUFFERED: the index moves to none of its slots any more, so none of its blocks changes (R88). The slots stay
allocated until firmware releases them (R87); the pieces of a write of more than 64 blocks that the index has already moved to stay. -/
def State.dropBlocks (s : State) (t : Nat) : State := s.setCmd t { s.cmd t with slots := [] }

/-- Protection is in force while ARMED and ENERGY_OK read 1 (R407). -/
def State.protected (s : State) : Bool := s.b .PLV_STATUS_ARMED 0 && s.b .PLV_STATUS_ENERGY_OK 0

/-- Whether a failed check is one that PRCHK selects (R134): guard in bit 2, application tag in bit 1, reference tag in bit 0. Only format
4096+16 has protection information (R75). -/
def Cmd.piBad (c : Cmd) (fmt : Nat) : PiResult → Bool
  | .ok => false
  | .guard => fmt == 1 && bit c.prchk 2
  | .app => fmt == 1 && bit c.prchk 1
  | .ref => fmt == 1 && bit c.prchk 0

/-- The status of a protection-information mismatch (R91). -/
def piCode : PiResult → Nat
  | .ok => 0
  | .guard => 0x82
  | .app => 0x83
  | .ref => 0x84

end Sys2Proof.Machine
end

