-- ==== Sys2Proof/Machine/Btl.lean ====
section
/-!
DEFINITION. Machine/Btl.lean: the band translation layer (R137-R165): the band table and the map log in memory, the state
interlocks of R141, the record commands, exposure, parity accumulators and spares.
-/
namespace Sys2Proof.Machine

def State.updBtl (s : State) (g : Btl → Btl) : State := { s with btl := g s.btl }

/-! ### The band table (R140) -/

def State.btBase (s : State) : Nat := s.f .BTL_BT_LO_BASE_LO 0 * 2 ^ 12 + s.f .BTL_BT_HI_BASE_HI 0 * 2 ^ 32
def State.accBase (s : State) : Nat := s.f .BTL_ACC_LO_BASE_LO 0 * 2 ^ 22 + s.f .BTL_ACC_HI_BASE_HI 0 * 2 ^ 32
def State.mlogBase (s : State) : Nat := s.f .BTL_MLOG_LO_BASE_LO 0 * 2 ^ 15 + s.f .BTL_MLOG_HI_BASE_HI 0 * 2 ^ 32
def State.mlogSize (s : State) : Nat := 2 ^ s.f .BTL_MLOG_SIZE_LOG2 0

/-- The 32 bytes of entry p. -/
def State.band (s : State) (p : Nat) : List Byte := s.rd (s.btBase + 32 * p) 32
def bandState (b : List Byte) : Nat := leAt b 0 1 % 8
def bandRole (b : List Byte) : Nat := leAt b 0 1 / 8 % 8
def bandHead (b : List Byte) : Nat := leAt b 4 1
def bandHgen (b : List Byte) : Nat := leAt b 16 6

/-- An entry is rewritten with its CHK (R140). -/
def State.setBand (s : State) (p : Nat) (b : List Byte) : State :=
  s.wr (s.btBase + 32 * p) (b.take 31 ++ leBytes 1 (crc8 (b.take 31)))

/-- Whether an accumulator is bound: to the OPEN entry that names it (R141, R152). -/
def State.accBound (s : State) (acc : Nat) : Bool :=
  (firstFrom (s.f .BTL_BT_COUNT_COUNT 0) 0 (fun p => bandState (s.band p) == 1 && leAt (s.band p) 1 1 == acc)).isSome

/-- An entry's state changes; leaving OPEN unbinds its accumulator (R141). -/
def State.bandTo (s : State) (p st : Nat) : State :=
  let b := s.band p
  let b' := patch b 0 (leBytes 1 (leAt b 0 1 / 8 * 8 + st))
  if bandState b = 1 ∧ st ≠ 1 then s.setBand p (patch b' 1 [0xFF]) else s.setBand p b'

/-- Whether an entry of the table is as a test asks. -/
def State.anyBand (s : State) (g : List Byte → Bool) : Bool := (List.range (s.f .BTL_BT_COUNT_COUNT 0)).any (fun p => g (s.band p))

/-- The numbers R159 counts: FREE entries and USABLE entries, of every role but MC. -/
def State.bandCounts (s : State) : Nat × Nat :=
  (List.range (s.f .BTL_BT_COUNT_COUNT 0)).foldl (fun (x : Nat × Nat) p =>
    let b := s.band p
    if bandRole b = 3 then x
    else (x.1 + (bandState b == 0).toNat, x.2 + (bandState b != 4 && bandState b != 5).toNat)) (0, 0)

/-- FREE and SPARE as counted (R159); event 0x400D once when FREE is 0 while a band is RETIRING (R163). -/
def State.recount (s : State) : State :=
  let (fr, us) := s.bandCounts
  let s := s.setFs 0 [(.BTL_POOL_FREE, fr), (.BTL_SPARE_SPARE, us - s.f .BTL_COMMITTED_COUNT 0 - s.f .BTL_RESERVE_RESERVE 0)]
  if fr = 0 && !s.btl.noFree && s.anyBand (fun b => bandState b == 4) then
    (s.updBtl (fun x => { x with noFree := true })).event 0x400D 0 0 0
  else s

/-- Lines of a range that hold something other than zeros, or poison. -/
def State.heldLines (s : State) (a n : Nat) : List Nat :=
  ((s.mem.filter (fun (c : Host.Cell) => decide (a ≤ c.1) && decide (c.1 < a + n))).map (fun (c : Host.Cell) => c.1 / 128)
    ++ (s.buf.poison.filter (fun (e : Nat × Bool) => decide (a ≤ e.1 * 64) && decide (e.1 * 64 < a + n))).map (fun (e : Nat × Bool) => e.1 / 2)).dedup

/-- An accumulator is cleared when an OPEN binds it (R152): every line of it that does not hold zeros is written. -/
def State.clearAcc (s : State) (acc : Nat) : State :=
  (s.heldLines (s.accBase + acc * 2 ^ 22) (2 ^ 22)).foldl (fun u la => u.wr (la * 128) (List.replicate 128 0)) s

/-- The band table's hardware reads the entry a record names (R104-R106). -/
def State.touchBand (s : State) (p : Nat) : State :=
  if p < s.f .BTL_BT_COUNT_COUNT 0 then s.touch .link (s.btBase + 32 * p) 32 else s

/-! ### Records (R145) -/

def recBytes (mseq typ flags : Nat) (body : List Byte) : List Byte :=
  let b := leBytes 6 mseq ++ leBytes 1 typ ++ leBytes 1 flags ++ (body ++ List.replicate 20 0).take 20
  b ++ leBytes 4 (crc32c b)

def recType (r : List Byte) : Nat := leAt r 6 1
def recFlags (r : List Byte) : Nat := leAt r 7 1

/-- The role an OPEN gives a band: zone and parity purposes name theirs, MC keeps its own; a refresh, relocation or rebuild takes
the role of the band it replaces, the one of the same owner and namespace that is in use (log entry 15). -/
def State.openRole (s : State) (purpose owner nsidx : Nat) : Nat :=
  if purpose = 3 then 1 else if purpose = 4 then 2 else if purpose = 6 then 3 else if purpose = 0 then 0 else
  match firstFrom (s.f .BTL_BT_COUNT_COUNT 0) 0 (fun p =>
      let b := s.band p
      leAt b 12 4 == owner && leAt b 5 1 == nsidx && (bandState b == 2 || bandState b == 4) && bandRole b != 3) with
  | some p => bandRole (s.band p)
  | none => 0

/-- Whether the interlocks of R141 allow a record's transition. -/
def State.recLegal (s : State) (r : List Byte) : Bool :=
  let n := s.f .BTL_BT_COUNT_COUNT 0
  let p := leAt r 8 4
  let b := s.band p
  let st := bandState b
  let role := bandRole b
  match recType r with
  | 1 => decide (p < n) && st == 0 && !bit (leAt b 30 1) 1 && ((leAt r 16 1 == 6) == (role == 3))
      && decide (leAt r 18 1 < s.f .BTL_CFG_ACC_COUNT 0) && !s.accBound (leAt r 18 1)
  | 2 =>
    let o := leAt r 12 4
    let ob := s.band o
    decide (p < n) && st == 1 && leAt b 24 2 == leAt b 6 2 && leAt r 27 1 == bandHgen b % 256 && leAt b 12 4 == leAt r 16 4
      && leAt b 5 1 == leAt r 26 1
      && (o == 0xFFFFFFFF || (decide (o < n) && o != p && bandState ob == (if bit (recFlags r) 1 then 4 else 2)))
  | 3 => decide (p < n) && leAt r 12 6 == bandHgen b && (st == 1 || st == 3 || (st == 2 && (role == 1 || role == 3)))
  | 4 => decide (p < n) && (st != 5) && (st != 4 || bit (recFlags r) 2)
  | 7 => decide (p < n) && leAt r 12 6 == bandHgen b && st == 1 && (role == 1 || role == 3) && leAt b 24 2 == leAt b 22 2
  | _ => true

/-- An entry enters RETIRING: RETIRE_EV. -/
def State.retiring (s : State) (p : Nat) : State := (s.bandTo p 4).setB .BTL_STATUS_RETIRE_EV 0 true

/-- An entry enters RETIRED. -/
def State.retired (s : State) (p : Nat) : State := (s.bandTo p 5).inc .BTL_CNT_RETIRED 0 1

/-- Every entry on a failed head (R155). -/
def State.headFailed (s : State) (head : Nat) : State :=
  ((List.range (s.f .BTL_BT_COUNT_COUNT 0)).foldl (fun u p =>
    let b := u.band p
    if bandHead b ≠ head then u else
    let u := u.setBand p (patch b 30 (leBytes 1 (setBit (leAt b 30 1) 1 true)))
    match bandState b with
    | 0 => u.retired p
    | 3 => u.retired p
    | 1 => u.retiring p
    | 2 => u.retiring p
    | _ => u) s).event 0x400C 0 0 0

/-- A zone's band has been relocated: while SPARE is 0 the zone is finished at its write pointer, with event 0x4006 (R161). -/
def State.zoneMoved (s : State) (role ns zone : Nat) : State :=
  if role = 1 ∧ s.f .BTL_SPARE_SPARE 0 = 0 then
    let z := s.zone ns zone
    (s.setZone ns zone { z with st := if z.st = .offline then .offline else .full }).event 0x4006 0 0 0
  else s

/-- An entry whose stripe rebuilds it (R155): head failed, and a member of a protected namespace or a parity band. -/
def awaitsRebuild (b : List Byte) : Bool := bandState b == 4 && bit (leAt b 30 1) 1 && (bit (leAt b 30 1) 2 || bandRole b == 2)

/-- Event 0x400E when the rebuild that has just committed was the last (R155). -/
def State.rebuilt (s : State) (old : List Byte) : State :=
  if awaitsRebuild old && !s.anyBand awaitsRebuild then s.event 0x400E 0 0 0 else s

/-- The band-table effects of one record (R141). -/
def State.recApply (s : State) (r : List Byte) : State :=
  let p := leAt r 8 4
  match recType r with
  | 1 =>
    let b := s.band p
    let acc := leAt r 18 1
    let role := s.openRole (leAt r 16 1) (leAt r 12 4) (leAt r 17 1)
    let prot := (s.nsp (leAt r 17 1)).prot
    let b := leBytes 1 (1 + 8 * role) ++ leBytes 1 acc ++ leBytes 2 0 ++ leBytes 1 (bandHead b) ++ leBytes 1 (leAt r 17 1)
      ++ (b.drop 6).take 6 ++ (r.drop 12).take 4 ++ (r.drop 20).take 6 ++ leBytes 2 0 ++ leBytes 2 0 ++ leBytes 4 0
      ++ leBytes 1 (setBit (setBit (leAt b 30 1) 0 false) 2 prot) ++ [0]
    ((s.setBand p b).clearAcc acc).updBtl (fun x => { x with opened := Tbl.set x.opened (0, 0) p (leAt r 16 1, leAt r 0 6) })
  | 2 =>
    let o := leAt r 12 4
    if o = 0xFFFFFFFF then s.bandTo p 2
    else if bit (recFlags r) 1 then
      (((s.bandTo p 2).retired o).zoneMoved (bandRole (s.band o)) (leAt r 26 1) (leAt r 16 4)).rebuilt (s.band o)
    else (s.bandTo p 2).bandTo o 3
  | 3 => s.bandTo p 0
  | 4 =>
    match bandState (s.band p) with
    | 1 => (s.retiring p).event 0x4002 0 0 0
    | 2 => (s.retiring p).event 0x4002 0 0 0
    | _ => s.retired p
  | 7 => s.bandTo p 2
  | 10 => s.headFailed (leAt r 8 1)
  | _ => s

/-- The result of an append: 0 OK, 1 FULL, 2 STATE, 3 MALFORMED (BTL_APP_CTRL.RESULT). -/
abbrev AppResult := Nat

def State.refuse (s : State) (r : AppResult) : AppResult × List Byte × State := (r, [], s.inc .BTL_CNT_REFUSED 0 1)

/-- The state with the effects of the open group applied: what a further record of the group is checked against (R144). -/
def State.groupView (s : State) : State := s.btl.group.foldl (fun u r => u.recApply r) s

/-- MLOG_FULL follows TAIL and TRIM; event 0x4007 once per episode (R143). -/
def State.mlogShow (s : State) : State :=
  let full := (s.f .BTL_MLOG_TAIL_INDEX 0 + 1) % s.mlogSize == s.f .BTL_MLOG_TRIM_INDEX 0
  let s := if full && !s.btl.fullEpisode then s.event 0x4007 0 0 0 else s
  (s.updBtl (fun x => { x with fullEpisode := full })).setB .BTL_STATUS_MLOG_FULL 0 full

/-- One append (R141-R145): the whole record and its band-table effects in one step; refused with a result otherwise. -/
def State.append0 (s : State) (typ flags : Nat) (body : List Byte) : AppResult × List Byte × State :=
  let body := (body ++ List.replicate 20 0).take 20
  let tail := s.f .BTL_MLOG_TAIL_INDEX 0
  let gen := s.f .BTL_GEN_LO_NEXT_LO 0 + 2 ^ 32 * s.f .BTL_GEN_HI_NEXT_HI 0
  let mseq := s.f .BTL_MSEQ_LO_NEXT_LO 0 + 2 ^ 32 * s.f .BTL_MSEQ_HI_NEXT_HI 0
  if !s.b .BTL_CTRL_EN 0 then s.refuse 2
  else if typ = 0 ∨ 10 < typ ∨ (typ = 5 ∧ 63 < leAt body 1 1) ∨ (typ = 1 ∧ 6 < leAt body 8 1) then s.refuse 3
  else if (tail + 1) % s.mlogSize = s.f .BTL_MLOG_TRIM_INDEX 0 then
    s.mlogShow.refuse 1
  else
    let body := if typ = 1 then patch body 12 (leBytes 6 gen) else body
    let r := recBytes mseq typ flags body
    let s := if [1, 2, 3, 4, 7].contains typ then s.touchBand (leAt r 8 4) else s
    let s := if typ = 2 then s.touchBand (leAt r 12 4) else s
    if !(s.groupView.recLegal r) then (s.event 0x4008 0 0 0).refuse 2
    else
      let s := s.wr (s.mlogBase + 32 * tail) r
      let s := s.setFs 0 [(.BTL_MLOG_TAIL_INDEX, (tail + 1) % s.mlogSize), (.BTL_MSEQ_LO_NEXT_LO, mseq + 1),
        (.BTL_MSEQ_HI_NEXT_HI, (mseq + 1) / 2 ^ 32)]
      let s := if typ = 1 then s.setFs 0 [(.BTL_GEN_LO_NEXT_LO, gen + 1), (.BTL_GEN_HI_NEXT_HI, (gen + 1) / 2 ^ 32)] else s
      let s := if bit flags 0 then s.updBtl (fun x => { x with group := x.group ++ [r] })
               else ((s.groupView.recApply r).updBtl (fun x => { x with group := [] }))
      (0, r, s.recount.mlogShow)

/-- SPARE has been counted: DEGRADED sets when it is 0 and clears when it reaches BTL_RESERVE (above 0), MODE being appended (R160, R162). -/
def State.degrade (s : State) : State :=
  let now := s.f .BTL_SPARE_SPARE 0
  if now = 0 ∧ !s.b .BTL_STATUS_DEGRADED 0 then
    let s := (s.setB .BTL_STATUS_DEGRADED 0 true).setB .BTL_STATUS_DEG_EV 0 true
    (s.append0 9 0 [1]).2.2.event 0x4004 0 0 0
  else if 0 < now ∧ s.f .BTL_RESERVE_RESERVE 0 ≤ now ∧ s.b .BTL_STATUS_DEGRADED 0 then
    let s := (s.setB .BTL_STATUS_DEGRADED 0 false).setB .BTL_STATUS_DEG_EV 0 true
    (s.append0 9 0 [0]).2.2.event 0x4005 0 0 0
  else s

/-- An append with its consequence for DEGRADED. -/
def State.append (s : State) (typ flags : Nat) (body : List Byte) : AppResult × List Byte × State :=
  let (r, b, t) := s.append0 typ flags body
  (r, b, if r = 0 then t.degrade else t)

/-! ### The append port of the registers (R165) -/

/-- An append through BTL_APP_CTRL: BODY, TYPE and FLAGS as written, RESULT, and the MSEQ and HGEN assigned. -/
def State.appendReg (s : State) (typ : Nat) (flags : Byte) (body : List Byte) : State :=
  s.onBlk .btl 0 (fun s =>
    let body := (body ++ List.replicate 20 0).take 20
    let s := (List.range 5).foldl (fun u i => u.setF .BTL_APP_B_BODY i (leAt body (4 * i) 4)) s
    let s := s.setFs 0 [(.BTL_APP_CTRL_TYPE, typ), (.BTL_APP_CTRL_FLAGS, flags.toNat)]
    let (r, b, s) := s.append typ flags.toNat body
    let s := s.setF .BTL_APP_CTRL_RESULT 0 r
    if r ≠ 0 then s else
    let s := s.setFs 0 [(.BTL_APP_MSEQ_LO_MSEQ_LO, leAt b 0 4), (.BTL_APP_MSEQ_HI_MSEQ_HI, leAt b 4 2)]
    if typ = 1 then s.setFs 0 [(.BTL_APP_GEN_LO_GEN_LO, leAt b 20 4), (.BTL_APP_GEN_HI_GEN_HI, leAt b 24 2)] else s)

/-- OPEN_RECORD (R141). -/
def execOpenRecord (flags : Byte) (band owner : BitVec 32) (purpose nsidx acc : Byte) (s : State) : Outcome :=
  .next (s.appendReg 1 flags (leBytes 4 band.toNat ++ leBytes 4 owner.toNat ++ [purpose, nsidx, acc]))

/-- COMMIT_RECORD (R141, R144, R154). -/
def execCommitRecord (flags : Byte) (new old owner : BitVec 32) (upto : BitVec 48) (nsidx hgen8 : Byte) (s : State) : Outcome :=
  .next (s.appendReg 2 flags (leBytes 4 new.toNat ++ leBytes 4 old.toNat ++ leBytes 4 owner.toNat ++ leBytes 6 upto.toNat
    ++ [nsidx, hgen8]))

/-- RESET_RECORD (R141, R148). -/
def execResetRecord (flags : Byte) (band : BitVec 32) (hgen : BitVec 48) (s : State) : Outcome :=
  .next (s.appendReg 3 flags (leBytes 4 band.toNat ++ leBytes 6 hgen.toNat))

/-- RETIRE_RECORD (R141, R159, R163). -/
def execRetireRecord (flags : Byte) (band : BitVec 32) (cause : Byte) (s : State) : Outcome :=
  .next (s.appendReg 4 flags (leBytes 4 band.toNat ++ [cause]))

/-- MC_PUT_RECORD (R147). -/
def execMcPutRecord (flags : Byte) (nsidx len : Byte) (lba pma : BitVec 64) (s : State) : Outcome :=
  .next (s.appendReg 5 flags ([nsidx, len, 0, 0] ++ leBytes 8 lba.toNat ++ leBytes 8 pma.toNat))

/-- ZONE_WP_RECORD (R149). -/
def execZoneWpRecord (flags : Byte) (nsidx : Byte) (zone wp : BitVec 32) (s : State) : Outcome :=
  .next (s.appendReg 6 flags ([nsidx, 0, 0, 0] ++ leBytes 4 zone.toNat ++ leBytes 4 wp.toNat))

/-- SEAL_RECORD (R141, R149). -/
def execSealRecord (flags : Byte) (band : BitVec 32) (hgen : BitVec 48) (s : State) : Outcome :=
  .next (s.appendReg 7 flags (leBytes 4 band.toNat ++ leBytes 6 hgen.toNat))

/-- CHECKPOINT_RECORD (R143). -/
def execCheckpointRecord (flags : Byte) (pma : BitVec 64) (covers : BitVec 48) (s : State) : Outcome :=
  .next (s.appendReg 8 flags (leBytes 8 pma.toNat ++ leBytes 6 covers.toNat))

/-- MODE_RECORD (R160): the port appends it itself at a change of DEGRADED; appended by firmware it only enters the log. -/
def execModeRecord (flags : Byte) (degraded : Bool) (s : State) : Outcome :=
  .next (s.appendReg 9 flags (leBytes 1 degraded.toNat))

/-- HEAD_FAIL_RECORD (R155): through BTL_HEAD_FAIL; a head above 23 sets CFG_ERR. -/
def execHeadFailRecord (head : BitVec 5) (s : State) : Outcome :=
  .next (s.onBlk .btl 0 (fun s =>
    let s := s.setF .BTL_HEAD_FAIL_HEAD 0 head.toNat
    if 23 < head.toNat then s.cfgErrAt .btl .BTL_HEAD_FAIL_HEAD 0 else (s.append 10 0 (leBytes 4 head.toNat)).2.2))

/-- Two ranges of bytes are disjoint. -/
def apart (x y : Nat × Nat) : Bool := !rangesMeet x y

/-- Actuators fitted: those with a head that SRV reports as fitted. -/
def State.actuators (s : State) : Nat :=
  ((List.range 4).filter (fun a => (List.range 6).any (fun k => s.b .SRV_HEAD_FITTED (a * 6 + k)))).length

/-- The checks of R165 at enable. -/
def State.btlOk (s : State) : Bool :=
  let bt := (s.btBase, 32 * s.f .BTL_BT_COUNT_COUNT 0)
  let ml := (s.mlogBase, 32 * s.mlogSize)
  let ac := (s.accBase, s.f .BTL_CFG_ACC_COUNT 0 * 2 ^ 22)
  [bt, ml, ac].all (fun x => s.inProt x.1 x.2) && apart bt ml && apart bt ac && apart ml ac
    && decide (s.f .BTL_CFG_ZONE_ACC 0 + 2 * s.actuators ≤ s.f .BTL_CFG_ACC_COUNT 0)
    && (s.f .BTL_MSEQ_LO_NEXT_LO 0 + s.f .BTL_MSEQ_HI_NEXT_HI 0 != 0)

/-- The records of the map log with a correct CRC, with their indices, in the order of the ring. -/
def State.mlogRecords (s : State) : List (Nat × List Byte) :=
  let l := (s.mem.filter (fun c => decide (s.mlogBase ≤ c.1) && decide (c.1 < s.mlogBase + 32 * s.mlogSize))).map
    (fun c => (c.1 - s.mlogBase) / 32)
  let l := l.foldr (fun x r => if r.head? = some x then r else x :: r) []
  (l.map (fun i => (i, s.rd (s.mlogBase + 32 * i) 32))).filter (fun e => recType e.2 != 0 && leAt e.2 28 4 == crc32c (e.2.take 28))

/-- At enable TAIL follows the record whose MSEQ is one below the next, where the log holds it, and DEGRADED is what the newest MODE record
says (R143), or what a restored image holds (R162: both lie in the protected image; log entry 51). -/
def State.mlogResume (s : State) : State :=
  let l := s.mlogRecords
  let next := s.f .BTL_MSEQ_LO_NEXT_LO 0 + 2 ^ 32 * s.f .BTL_MSEQ_HI_NEXT_HI 0
  let s := match l.find? (fun e => leAt e.2 0 6 + 1 == next) with
    | some e => s.setF .BTL_MLOG_TAIL_INDEX 0 ((e.1 + 1) % s.mlogSize)
    | none => s
  match l.foldl (fun (m : Option (Nat × Nat)) e =>
      let q := leAt e.2 0 6
      if recType e.2 = 9 ∧ q < next ∧ (m.all (fun x => decide (x.1 < q))) then some (q, leAt e.2 8 1 % 2) else m) none with
  | some (_, d) => s.setF .BTL_STATUS_DEGRADED 0 d
  | none => s

/-- DEGRADED as the restored image has it is taken at the first enable after the restore (R162). -/
def State.degradedResume (s : State) : State :=
  match s.btl.restored with
  | some d => (s.setB .BTL_STATUS_DEGRADED 0 d).updBtl (fun x => { x with restored := none })
  | none => s

/-- BTL_COMMITTED or BTL_RESERVE has changed, while BTL runs: SPARE is counted again and DEGRADED follows (R159, R160, R162). -/
def State.spareChanged (s : State) : State := if s.b .BTL_CTRL_EN 0 then s.recount.degrade else s

/-- BTL_EN (R24, R165). -/
def execBtlEn (v : Bool) (s : State) : Outcome :=
  .next (s.onBlk .btl 0 (fun s =>
    if v then
      if s.b .BTL_CTRL_EN 0 then s
      else if s.btlOk then (s.setB .BTL_CTRL_EN 0 true).mlogResume.degradedResume.recount.mlogShow.degrade else s.cfgErrAt .btl .BTL_CTRL_EN 0
    else if s.b .BTL_CTRL_EN 0 && !s.btl.group.isEmpty then s.cfgErrAt .btl .BTL_CTRL_EN 0
    else s.setB .BTL_CTRL_EN 0 false))

/-! ### The refresh queue (R157) -/

def State.setRq (s : State) (q : List Nat) : State :=
  (s.updBtl (fun x => { x with rq := q })).setFs 0 [(.BTL_RQ_BAND, q.headD 0), (.BTL_RQ_VALID, (!q.isEmpty).toNat),
    (.BTL_RQ_STAT_DEPTH, q.length), (.BTL_STATUS_RQ_NE, (!q.isEmpty).toNat)]

/-- REFRESH_QUEUE_READ: a read of BTL_RQ with VALID = 1 removes the oldest band (R157, R165). -/
def execRefreshQueueRead (s : State) : Outcome :=
  .next (s.onBlk .btl 0 (fun s =>
    (s.send (.readData (s.f .BTL_RQ_BAND 0 + 2 ^ 31 * s.f .BTL_RQ_VALID 0))).setRq s.btl.rq.tail))

/-! ### Exposure and open-band parity (R152, R156, R157) -/

/-- Whether a track lies in an entry's tracks. -/
def bandHas (b : List Byte) (head track : Nat) : Bool :=
  bandHead b == head && decide (leAt b 8 3 ≤ track) && decide (track < leAt b 8 3 + leAt b 6 2)

/-- The entry that holds a track of a head. -/
def State.bandAt (s : State) (head track : Nat) : Option Nat :=
  firstFrom (s.f .BTL_BT_COUNT_COUNT 0) 0 (fun p => bandHas (s.band p) head track)

/-- One more track written near an entry: EXPO + 1, and at the threshold a refresh is queued (R156, R157). -/
def State.expose (s : State) (p : Nat) : State :=
  let b := s.band p
  let e := min 0xFFFF (leAt b 2 2 + 1)
  let reach := leAt b 2 2 < max 1 (s.f .BTL_EXPO_THRESH 0) ∧ max 1 (s.f .BTL_EXPO_THRESH 0) ≤ e
  let fl := leAt b 30 1
  let s := s.setBand p (patch (patch b 2 (leBytes 2 e)) 30 (leBytes 1 (if reach then setBit fl 0 true else fl)))
  if ¬ reach then s
  else
    let s := if s.btl.rq.length < 256 then s.setRq (s.btl.rq ++ [p]) else s.setB .BTL_RQ_STAT_OVF 0 true
    s.event 0x4003 0 0 0

/-- A track has been written (R156): EXPO of every other entry near it, and WRITTEN of its own entry while OPEN (R140). -/
def State.trackWritten (s : State) (head track : Nat) : State :=
  if !s.b .BTL_CTRL_EN 0 then s else
  let rad := max 1 (s.f .BTL_CFG_RADIUS 0)
  let own := s.bandAt head track
  let s := (List.range (s.f .BTL_BT_COUNT_COUNT 0)).foldl (fun u p =>
    let b := u.band p
    if some p = own ∨ bandHead b ≠ head ∨ leAt b 6 2 = 0 then u
    else if leAt b 8 3 ≤ track + rad ∧ track ≤ leAt b 8 3 + leAt b 6 2 - 1 + rad then u.expose p else u) s
  match own with
  | none => s
  | some p =>
    let b := s.band p
    if bandState b = 1 then s.setBand p (patch b 22 (leBytes 2 (min 0xFFFF (leAt b 22 2 + 1)))) else s

/-- A sector's data field is XORed into the accumulator of its OPEN band, at its position within the track (R152). -/
def State.bandParity (s : State) (head track pos : Nat) (d : List Byte) : State :=
  if !s.b .BTL_CTRL_EN 0 then s else
  match s.bandAt head track with
  | none => s
  | some p =>
    let b := s.band p
    if bandState b ≠ 1 ∨ leAt b 1 1 = 0xFF then s else
    let a := s.accBase + leAt b 1 1 * 2 ^ 22 + pos * 4160
    let (old, s) := s.fetch .link a 4160
    s.wr a (xorBytes old d)

/-- A data sector is written: with bad data it is marked for the band translation layer, with good data no longer (R105). -/
def State.markSector (s : State) (head track d : Nat) (bad : Bool) : State :=
  let m := s.btl.marked.filter (fun x => x != (head, track, d))
  { s with btl := { s.btl with marked := if bad then (head, track, d) :: m else m } }

/-! ### LOG descriptors (R142, R198) -/

/-- An append from a LOG descriptor's ARGS (record bytes 0-31 at bytes 32-63): its result and the ARGS to write back. Byte 27 of a
COMMIT is filled from an OPEN that the same chain appended for the same band (R141). -/
def State.logAppend (s : State) (chain : Nat) (args : List Byte) : AppResult × List Byte × State :=
  let typ := leAt args 6 1
  let body := (args.drop 8).take 20
  let band := leAt body 0 4
  let key := chain * 2 ^ 20 + band
  let body := match Tbl.look s.btl.chainGen key with
    | some g => if typ = 2 then patch body 19 (leBytes 1 (g % 256)) else body
    | none => body
  let (r, b, s) := s.append typ (leAt args 7 1) body
  if r ≠ 0 then (r, args, s)
  else if typ = 1 then (r, b, s.updBtl (fun x => { x with chainGen := Tbl.ins (Tbl.erase x.chainGen key) key (leAt b 20 6) }))
  else (r, b, s)

/-- A chain has ended: what its OPENs returned is forgotten. -/
def State.forgetChain (s : State) (chain : Nat) : State :=
  s.updBtl (fun x => { x with chainGen := x.chainGen.filter (fun e => e.1 / 2 ^ 20 != chain) })

/-! ### Verification (R158) -/

/-- A VERIFY fails on a track: RETIRE with cause 0 is appended, which takes an OPEN or SEALED entry to RETIRING, with event 0x4002. Where the log
takes no record, such an entry goes to RETIRING all the same; no other transition follows from a verification (R141, R158). -/
def State.verifyFailed (s : State) (p : Nat) : State :=
  let st := bandState (s.band p)
  let (r, _, t) := s.append 4 0 (leBytes 4 p ++ [0])
  if r ≠ 0 ∧ (st = 1 ∨ st = 2) then ((t.retiring p).event 0x4002 0 0 0).recount.degrade else t

/-- Tracks verified, one more (R140, R158). -/
def State.trackVerified (s : State) (p : Nat) : State :=
  let b := s.band p
  s.setBand p (patch b 24 (leBytes 2 (leAt b 24 2 + 1)))

end Sys2Proof.Machine
end

