-- ==== Sys2Proof/Machine/Link.lean ====
section
/-!
DEFINITION. Machine/Link.lean: what the host endpoint's rows share: ports (R33, R34), requests to host memory and their tags
(R35-R43), asynchronous events, and the end of a controller's commands (R92).
-/
namespace Sys2Proof.Machine

/-- Port 1 exists in two-port mode only (R33); in one-port mode its registers discard writes. -/
def State.portOk (s : State) (p : Nat) : Bool := p == 0 || s.b .SUP_STRAP_PORT 0

/-- The ports that exist. -/
def State.ports (s : State) : List Nat := if s.b .SUP_STRAP_PORT 0 then [0, 1] else [0]

/-- A command of a port: nothing where the port does not exist (R33). -/
def State.onPort (s : State) (p : Nat) (g : State → State) : State := if s.portOk p then g s else s

/-- An entry in a port's AER log: 0 Completion Timeout, 1 Unexpected Completion, 2 Poisoned TLP Received. An Unexpected Completion is handled as
an advisory non-fatal error, with its status and a correctable message (R40, R41). The header logged is not given: a free value. -/
def State.aer (s : State) (p k : Nat) : State :=
  let (h, s) := s.free
  let s := s.setHp p { s.hp p with
    aer := (s.hp p).aer ++ [{ kind := k, advisory := k == 1, header := h % 2 ^ 128 }], advisory := (s.hp p).advisory || k == 1 }
  if k = 1 then s.send (.errMsg p 0) else s

/-- A poisoned TLP arrives: AER and event 0x1005 (R44-R47). -/
def State.poisonedTlp (s : State) (p : Nat) : State := (s.aer p 2).event 0x1005 0 0 0

/-! ### Asynchronous events -/

/-- Dword 0 of an asynchronous event's completion. -/
def aenDw (typ info page : Nat) : Nat := typ + info * 2 ^ 8 + page * 2 ^ 16

/-- Posting an asynchronous event: it completes the oldest outstanding request, or waits for one (NVMe; PRESUMED, log entry 12). -/
def State.asyncEvent (s : State) (p typ info page : Nat) : State :=
  let c := s.ctrl p
  match c.aers with
  | t :: r => ((s.setCtrl p { c with aers := r }).finish t 0 0 (aenDw typ info page)).send (.asyncEvent p t typ info page)
  | [] => s.setCtrl p { c with aenPend := c.aenPend ++ [aenDw typ info page] }

/-! ### The end of a request (R38, R39, R43) -/

/-- Quarantine entries change: QUAR shows their number (R39, R73). -/
def State.setQuar (s : State) (p : Nat) (q : List Quar) : State :=
  (s.setHp p { s.hp p with quar := q }).setF .HEP_TAG_STAT_QUAR p q.length

/-- A request is no longer outstanding. -/
def State.dropReq (s : State) (p tag : Nat) : State :=
  s.setHp p { s.hp p with reqs := (s.hp p).reqs.filter (fun r => r.tag != tag) }

/-- A condition of the done conditions at a sequencer (R183). -/
def State.raiseDone (s : State) (cs c : Nat) : State :=
  { s with eng := { s.eng with seq := Tbl.upd s.eng.seq {} cs (fun q => { q with done := Tbl.set q.done false c true }) } }

/-- DMA_ERR rises at the sequencer that issued a request. -/
def State.dmaErr (s : State) (k : ReqKind) : State :=
  match k with
  | .data _ _ cs => s.raiseDone cs 0x46
  | .sqe _ cs _ _ => s.raiseDone cs 0x46
  | _ => s

/-- A translation fails: the reads of its page go out untranslated (R49). -/
def State.plainReads (s : State) (p page : Nat) : State :=
  (s.setHp p { s.hp p with xwait := (s.hp p).xwait.map (fun w => if pageOf w.addr = page then { w with plain := true } else w) }).pump p

/-- The DMA of a request fails (R38): DMA_ERR at its sequencer; the owning command completes with Data Transfer Error, and a command whose
entry was being fetched has ended; a failed translation caches nothing (R49). -/
def State.failDma (s : State) (p : Nat) (k : ReqKind) : State :=
  match k with
  | .data tag _ _ =>
    let s := s.dmaErr k
    s.onTag tag (fun s => (s.dropBlocks (tag / 8)).finish (tag / 8) 0 4 0)
  | .sqe .. => (s.dmaErr k).fetchEnd
  | .xlate page _ => s.plainReads p page
  | .dead => s
  | .ended .. => s

/-- A request fetches a submission entry of a command in flight. -/
def ReqKind.fetches : ReqKind → Bool
  | .sqe .. => true
  | _ => false

/-- A sequencer holds an entry of a port that has no tag and no completion yet. -/
def Seq.untagged (q : Seq) (p : Nat) : Bool := match q.item with
  | some { src := .sqe p' _ _, .. } => p' == p && !q.posted
  | _ => false

/-- A controller reset, FLR or link-down ends every command of a controller (R92), and its queues. -/
def State.endController (s : State) (p : Nat) : State :=
  let l := (s.ciu.cmd.filter (fun e => e.2.live && e.2.port == p)).map Prod.fst
  let s := l.foldl (fun u t => if (u.cmd t).posted then u.leave t
    else (if (u.cmd t).phase == .buffered then u else u.dropBlocks t).endUnposted t) s
  let s := s.updCiu (fun c => { c with
    grants := c.grants.filter (fun g => g.p != p)
    sq := c.sq.filter (fun e => e.1 / 2048 != p), cq := c.cq.filter (fun e => e.1 / 2048 != p) })
  let n := ((s.hp p).reqs.filter (fun r => r.kind.fetches)).length + ((s.hp p).xwait.filter (fun w => w.kind.fetches)).length
    + (s.eng.seq.filter (fun e => e.2.untagged p)).length
  let s := s.setHp p { s.hp p with reqs := (s.hp p).reqs.map (fun r => if r.kind.fetches then { r with kind := .dead } else r)
                                   xwait := (s.hp p).xwait.filter (fun w => !w.kind.fetches) }
  let s : State := { s with eng := { s.eng with seq := s.eng.seq.map (fun e => (e.1, if e.2.untagged p then { e.2 with posted := true } else e.2)) } }
  let s := s.setInflight (s.f .CIU_OVL_STAT_INFLIGHT 0 - n)
  let s := ((s.hp p).msix.map Prod.fst).foldl (fun u v => u.settleVec p v) s
  let c := s.ctrl p
  s.setCtrl p { c with en := false, rdy := false, cfs := false, aers := [], aenPend := [], features := [] }

/-- An FLR or link-down ends every outstanding request: DMAs fail without completion, tags go into quarantine whose completions
pass without log or event (R43). -/
def State.endRequests (s : State) (p : Nat) : State :=
  let h := s.hp p
  let q := h.quar ++ h.reqs.map (fun r => { tag := r.tag, remaining := r.remaining, quiet := true })
  let l := h.reqs.map (fun r => r.kind) ++ h.xwait.map (fun w => w.kind)
  let s := l.foldl State.dmaErr s
  let s := s.setInflight (s.f .CIU_OVL_STAT_INFLIGHT 0 - (l.filter ReqKind.fetches).length)
  (s.setHp p { s.hp p with reqs := [], xwait := [], inval := [] }).setQuar p q

/-- Every cached translation of a port is dropped (R52). -/
def State.dropAtc (s : State) (p : Nat) : State := s.updHep (fun h => { h with atc := h.atc.filter (fun e => e.port != p) })

/-- Configuration space, MSI-X table and controller registers at their reset values, as PCIe resets them. The assemblies of the peer window are
dropped uncounted: DESIGN CHOICE, the manual does not say what becomes of them (R66; log entry 105). -/
def State.resetFunction (s : State) (p : Nat) : State :=
  let h := s.hp p
  let s := s.setCtrl p {}
  s.setHp p { h with tag10 := false, ctoValue := 0, relaxed := false, ats := false, fnMask := false, mps := 0, mrrs := 2, ltr := false
                     ecrcGen := false, ecrcChk := false, aspmL1 := false, d3hot := false, msix := [], asm := [] }

/-- An invalid doorbell write: the Invalid Doorbell Write asynchronous event of NVMe (error status, information 1) and event
0x2008 (R76). -/
def State.badDoorbell (s : State) (p : Nat) : State := (s.asyncEvent p 0 1 1).event 0x2008 0 0 0

end Sys2Proof.Machine
end

