-- ==== Sys2Proof/Machine/Nvme.lean ====
section
/-!
DEFINITION. Machine/Nvme.lean: command intake, arbitration, the enables of CIU and LDG, and the admin commands (R74-R101).
Opcodes, feature identifiers and data layouts that the manual takes from NVMe are NVMe's (PRESUMED, log entry 12).
-/
namespace Sys2Proof.Machine

/-! ### Submission and arbitration (R76-R78) -/

/-- SQ_DOORBELL (R46, R76). -/
def execSqDoorbell (p : Port) (q : Fin 1025) (tail : BitVec 16) (poisoned : Bool) (s : State) : Outcome :=
  .next (
    if !s.portOk p then s else
    if poisoned then s.poisonedTlp p else
    let x := s.sq p q
    if tail.toNat = x.tail then s
    else if x.size ≤ tail.toNat then s.badDoorbell p
    else s.setSq p q { x with tail := tail.toNat, eligible := true })

/-- Entries a queue holds that have not been granted. -/
def SubQ.waiting (x : SubQ) : Nat := if x.size = 0 then 0 else (x.tail + x.size - x.head) % x.size

/-- Commands in flight or being fetched. -/
def State.inFlight (s : State) : Nat := s.f .CIU_OVL_STAT_INFLIGHT 0 + s.ciu.grants.length

/-- Entries a queue may still be granted under R78. -/
def State.grantRoom (s : State) (q : Nat) : Nat :=
  s.f .CIU_CFG_MAX_INFLIGHT 0 - (if q = 0 then 0 else s.f .CIU_CFG_ADMIN_RSV 0) - s.inFlight

/-- The strict rank of a queue (R77): admin, urgent, then everything weighted; in round robin all queues form one class. -/
def State.rank (s : State) (k : Nat) (x : SubQ) : Nat := if (s.ctrl (k / 2048)).wrr then min 2 x.cls else 2

/-- The class within which a queue takes its round-robin turn (R77): 5 for a controller in round robin. -/
def State.turnOf (s : State) (k : Nat) (x : SubQ) : Nat := if (s.ctrl (k / 2048)).wrr then x.cls else 5

/-- The weight of a weighted class, in grants of a round (R77; log entry 16). -/
def State.weight (s : State) (cls : Nat) : Nat :=
  (if cls = 2 then s.f .CIU_ARB_HPW 0 else if cls = 3 then s.f .CIU_ARB_MPW 0 else s.f .CIU_ARB_LPW 0) + 1

/-- Queues that could be granted now. -/
def State.candidates (s : State) : List (Nat × SubQ) :=
  s.ciu.sq.filter (fun e => e.2.live && e.2.eligible && (s.ctrl (e.1 / 2048)).rdy && decide (0 < e.2.waiting)
    && decide (0 < s.grantRoom (e.1 % 2048)))

/-- The first queue after the one served last, in round-robin order. -/
def nextQueue (last : Nat) (l : List (Nat × SubQ)) : Option (Nat × SubQ) :=
  match l.find? (fun e => decide (last < e.1)) with
  | some e => some e
  | none => l.head?

/-- A queue is granted: up to 2^AB of its entries, contiguous, leave arbitration, which gives them their places in order (R77, R85). -/
def State.grant (s : State) (k : Nat) (x : SubQ) : State :=
  let turn := s.turnOf k x
  let ab := s.ciu.ab
  let n := min (min x.waiting (s.grantRoom (k % 2048))) (if ab = 7 then x.waiting else 2 ^ ab)
  let o := s.ciu.nextOrder
  let g := (List.range n).map (fun i => ({ p := k / 2048, q := k % 2048, i := (x.head + i) % x.size, order := o + i } : Grant))
  let y := { x with head := (x.head + n) % x.size }
  let s := (s.updCiu (fun c => { c with grants := c.grants ++ g, nextOrder := o + n, lastQ := Tbl.set c.lastQ 0 turn k })).setSq
    (k / 2048) (k % 2048) { y with eligible := decide (0 < y.waiting) }
  s.setB .CIU_STATUS_IDLE 0 false

/-- Whether a weighted class with a queue waiting has a grant left in the round. -/
def State.hasCredit (s : State) (l : List (Nat × SubQ)) (c : Nat) : Bool := decide (0 < Tbl.get s.ciu.credits 0 c) && l.any (fun e => e.2.cls == c)

/-- A round begins when no weighted class that has a queue waiting has a grant left: the weights and the burst are CIU_ARB's as they then stand
(R77, R99). While no weighted class has a queue waiting, each grant is a round of its own (DEDUCED, log entry 16). -/
def State.newRound (s : State) (weighted : List (Nat × SubQ)) : State :=
  if [2, 3, 4].any (s.hasCredit weighted) then s
  else s.updCiu (fun x => { x with credits := [2, 3, 4].map (fun c => (c, s.weight c)), ab := s.f .CIU_ARB_AB 0 })

/-- ARBITRATION_GRANT (R77, R78, R99). The weighted classes share each round by their weights. -/
def execArbitrationGrant (s : State) : Outcome :=
  .next (
    if !s.b .CIU_CTRL_EN 0 || s.b .CIU_CTRL_FETCH_HOLD 0 then s else
    let all := s.candidates
    let top := (List.range 3).find? (fun r => all.any (fun e => s.rank e.1 e.2 == r))
    match top with
    | none => s
    | some r =>
      let s := s.newRound (all.filter (fun e => s.rank e.1 e.2 == 2 && (s.ctrl (e.1 / 2048)).wrr))
      let l := all.filter (fun e => s.rank e.1 e.2 == r)
      let weighted := l.filter (fun e => (s.ctrl (e.1 / 2048)).wrr)
      if r = 2 ∧ !weighted.isEmpty then
        match [2, 3, 4].find? (s.hasCredit weighted) with
        | none => s
        | some c =>
          let s := s.updCiu (fun x => { x with credits := Tbl.upd x.credits 0 c (· - 1) })
          match nextQueue (Tbl.get s.ciu.lastQ 0 c) (weighted.filter (fun e => e.2.cls == c)) with
          | some e => s.grant e.1 e.2
          | none => s
      else
        match nextQueue (Tbl.get s.ciu.lastQ 0 (if weighted.isEmpty then 5 else r)) l with
        | some e => s.grant e.1 e.2
        | none => s)

/-! ### Intake (R74, R78-R80, R84, R85, R91, R160, R341, R443) -/

def adminOpcodes : List Nat :=
  [0x00, 0x01, 0x02, 0x04, 0x05, 0x06, 0x08, 0x09, 0x0A, 0x0C, 0x0D, 0x10, 0x11, 0x14, 0x15, 0x80, 0x81, 0x82, 0x84]
def nvmOpcodes : List Nat := [0x00, 0x01, 0x02, 0x05, 0x08, 0x09, 0x0C, 0x0D, 0x0E, 0x11, 0x15, 0x79, 0x7A, 0x7D]

/-- Class of a command (R84): 0 none, 1 read, 2 write. -/
def cmdClass (admin : Bool) (opc : Nat) (dealloc : Bool) : Nat :=
  if admin then (if opc = 0x80 ∨ opc = 0x84 then 2 else 0)
  else if opc = 0x01 ∨ opc = 0x08 ∨ opc = 0x79 ∨ opc = 0x7D ∨ (opc = 0x09 ∧ dealloc) then 2
  else if opc = 0x02 ∨ opc = 0x05 ∨ opc = 0x0C then 1 else 0

/-- Whether a command carries SLBA and NLB. -/
def hasRange (admin : Bool) (opc : Nat) : Bool := !admin && [0x01, 0x02, 0x05, 0x08, 0x0C, 0x7D].contains opc

/-- The command in a tag slot that an entry asks for, with the range of R84. -/
def sqeCmd (e : Sqe) (p q order : Nat) : Cmd :=
  let admin := q == 0
  let opc := e.opc.toNat
  let z := e.slba.toNat / zoneSize * zoneSize
  let zonal := !admin && (opc == 0x79 || opc == 0x7D)
  { live := true, port := p, sq := q, cid := e.cid.toNat, opc := opc, admin := admin
    nsid := if admin ∧ opc = 0x84 then 0xFFFFFFFF else e.nsid.toNat
    slba := if hasRange admin opc || zonal || (!admin && opc == 0x7A) then e.slba.toNat else 0
    blocks := if hasRange admin opc then e.nlb.toNat + 1 else 0, fua := e.fua
    ranges := if zonal then [(z, zoneSize)] else e.ranges
    selectAll := (zonal && e.selectAll) || (admin && (opc == 0x80 || opc == 0x84))
    cls := cmdClass admin opc e.deallocate, order := order, seen := true, pract := e.pract, prchk := e.prchk.toNat }

/-- A reservation bars a command of a class from a port (NVMe types 1-6). -/
def Resv.bars (r : Resv) (p cls : Nat) : Bool :=
  r.holder != 0 && r.holder != p + 1
    && !(decide (3 ≤ r.rtype) && (if p = 0 then r.key0 else r.key1) != 0)
    && (cls == 2 || (cls == 1 && r.rtype % 2 == 0))

/-- The status with which intake completes an entry before it takes a tag, if any. DESIGN CHOICE: where several causes of R91's table apply, the
first of this order decides; the manual gives none (log entry 18). -/
def State.intakeStatus (s : State) (p : Nat) (e : Sqe) (c : Cmd) : Option (Nat × Nat) :=
  if c.admin then if !adminOpcodes.contains c.opc then some (0, 0x01) else if e.reserved then some (0, 0x02) else none
  else if !s.owner then some (3, 0x02)
  else if !nvmOpcodes.contains c.opc then some (0, 0x01)
  else if e.reserved then some (0, 0x02)
  else if c.opc = 0 ∧ c.nsid = 0xFFFFFFFF then none
  else
    let i := c.nsid - 1
    let n := s.nsp i
    if c.nsid = 0 ∨ 64 < c.nsid ∨ !n.live ∨ !(if p = 0 then n.att0 else n.att1) then some (0, 0x0B)
    else if (c.opc = 0x79 ∨ c.opc = 0x7A ∨ c.opc = 0x7D) ∧ !n.zoned then some (0, 0x01)
    else if (c.opc = 0x01 ∨ c.opc = 0x02 ∨ c.opc = 0x05 ∨ c.opc = 0x7D) ∧ 512 < c.blocks then some (0, 0x02)
    else if hasRange false c.opc ∧ n.blocks < c.slba + c.blocks then some (0, 0x80)
    else if e.ranges.any (fun r => decide (n.blocks < r.1 + r.2)) then some (0, 0x80)
    else if (c.opc = 0x79 ∨ c.opc = 0x7A) ∧ !c.selectAll ∧ n.blocks ≤ c.slba then some (0, 0x80)
    else if !s.hasKey i then some (0, 0x82)
    else if c.cls = 2 ∧ !n.zoned ∧ s.b .BTL_STATUS_DEGRADED 0 then some (0, 0x20)
    else if (Tbl.get s.ciu.resv {} i).bars p c.cls then some (0, 0x83)
    else none

/-- Commands that take a Ledger entry: I/O, Format NVM, Sanitize, Namespace Management. -/
def Cmd.journalled (c : Cmd) : Bool := !c.admin || c.opc == 0x80 || c.opc == 0x84 || c.opc == 0x0D

/-- Service starts once nothing earlier holds the command: a read that hits (R89) takes its slots, a write takes its data, anything
else is firmware's. -/
def State.startCmd (s : State) (t : Nat) : State :=
  let c := s.cmd t
  let idx := (List.range c.blocks).map (fun i => s.bufIdx (c.nsid - 1) (c.slba + i))
  if !c.admin && c.opc == 0x02 && s.b .CIU_CTRL_HIT_EN 0 && decide (c.blocks ≤ 32) && idx.all Option.isSome then
    s.setCmd t { c with phase := .hit, reading := idx.filterMap id }
  else if !c.admin && (c.opc == 0x01 || c.opc == 0x08 || c.opc == 0x7D) then s.setCmd t { c with phase := .active }
  else s.setCmd t { c with phase := .firmware }

/-- A command takes a tag, enters the overlap table and the Ledger, and starts or waits (R80, R85, R93). -/
def State.enterFlight (s : State) (t : Nat) (c : Cmd) : State :=
  let s := (s.tableUse 0x10).takeSlot.setCmd t c
  let s := s.setInflight (s.f .CIU_OVL_STAT_INFLIGHT 0 + 1)
  let s := if s.b .CIU_STATUS_LIMIT 0 then s.eventOnce 0x2003 0x2003 0 0 0 else s
  let s := if c.journalled && s.b .LDG_CTRL_EN 0 then s.ledgerAppend t else s
  if s.blocked t then (s.setCmd t { s.cmd t with phase := .overlap }).inc .CIU_OVL_STAT_WAITS 0 1 else s.startCmd t

/-- A command in flight of a queue carries an identifier, or a sequencer holds an entry of it that does and that left arbitration before place
o (R79). -/
def State.cidUsed (s : State) (p q cid o : Nat) : Bool :=
  s.ciu.cmd.any (fun x => x.2.live && !x.2.posted && x.2.port == p && x.2.sq == q && x.2.cid == cid)
    || s.eng.seq.any (fun x => !x.2.posted && (match x.2.item with
        | some { words := w, src := .sqe p' q' o' } => p' == p && q' == q && decide (o' < o) && w.getD 0 0 / 2 ^ 16 % 2 ^ 16 == cid
        | _ => false))

/-- The later of two commands with one identifier (R79): Command ID Conflict, counted, with event 0x2007. -/
def State.cidConflict (s : State) (p q cid : Nat) : State :=
  ((s.inc .CIU_TAG_STAT_IDCONF 0 1).event 0x2007 0 0 0).postCqe p q cid 0 0x03 0

/-- A fetched entry is taken in, with its place in order. -/
def State.takeIn (s : State) (p q o : Nat) (e : Sqe) : State :=
  let c := sqeCmd e p q o
  if s.cidUsed p q c.cid o then s.cidConflict p q c.cid
  else
    match s.intakeStatus p e c with
    | some (sct, sc) => s.postCqe p q c.cid sct sc 0
    | none =>
      match s.nextSlot with
      | some t => s.enterFlight t c
      | none => s

/-- COMMAND_INTAKE: the oldest entry granted to the queue has been fetched. -/
def execCommandIntake (p : Port) (q : Fin 1025) (e : Sqe) (s : State) : Outcome :=
  .next (
    match s.ciu.grants.find? (fun g => g.p == p.val && g.q == q.val) with
    | none => s
    | some g =>
      let s := s.updCiu (fun c => { c with grants := c.grants.erase g })
      let s := s.takeIn p q g.order e
      s.setInflight (s.f .CIU_OVL_STAT_INFLIGHT 0))

/-- OVERLAP_WAIT_END (R85, R86): nothing earlier holds the command any longer. -/
def execOverlapWaitEnd (t : Slot) (s : State) : Outcome :=
  .next (if (s.cmd t).live && (s.cmd t).phase == .overlap && !s.blocked t then s.startCmd t else s)

/-- BUFFER_SLOT_WAIT_END (R87): slots have been released and the write goes on. -/
def execBufferSlotWaitEnd (t : Slot) (s : State) : Outcome :=
  .next (
    let c := s.cmd t
    if c.live && c.phase == .slots && decide (0 < s.slotsFree) then
      let s := s.setCmd t { c with phase := .active }
      s.updCiu (fun x => { x with starved := x.cmd.any (fun e => e.2.live && e.2.phase == .slots) })
    else s)

/-! ### Enables (R99, R100) -/

/-- CIU_EN (R24, R99, R100). -/
def execCiuEn (v : Bool) (s : State) : Outcome :=
  .next (s.onBlk .ciu 0 (fun s =>
    let m := s.f .CIU_CFG_MAX_INFLIGHT 0
    let r := s.f .CIU_CFG_ADMIN_RSV 0
    let bidx := s.f .CIU_BIDX_LO_BASE_LO 0 * 2 ^ 20 + s.f .CIU_BIDX_HI_BASE_HI 0 * 2 ^ 32
    if v then
      if s.b .CIU_CTRL_EN 0 then s
      else if 64 ≤ m ∧ m ≤ 8192 ∧ 8 ≤ r ∧ r ≤ m - 1 ∧ s.inDram bidx (2 ^ 20)
          ∧ s.inProt (s.slotAddr 0) (4160 * s.f .CIU_SLOTS_COUNT 0) ∧ s.b .LDG_CTRL_EN 0 then s.setB .CIU_CTRL_EN 0 true
      else s.cfgErrAt .ciu .CIU_CTRL_EN 0
    else if s.b .CIU_STATUS_IDLE 0 then s.setB .CIU_CTRL_EN 0 false
    else s.cfgErrAt .ciu .CIU_CTRL_EN 0))

/-- LDG_EN (R24, R100). -/
def execLdgEn (v mirror : Bool) (s : State) : Outcome :=
  .next (s.onBlk .ldg 0 (fun s =>
    if v then
      if s.b .LDG_CTRL_EN 0 then s
      else
        let s := s.setB .LDG_CTRL_MIRROR 0 mirror
        if s.inProt s.ldgBase (2 ^ 19) && s.ldgSeq != 0 && (!mirror || s.paired) then s.setB .LDG_CTRL_EN 0 true
        else s.cfgErrAt .ldg .LDG_CTRL_EN 0
    else if s.b .CIU_CTRL_EN 0 then s.cfgErrAt .ldg .LDG_CTRL_EN 0
    else s.setB .LDG_CTRL_EN 0 false))

/-- BUFFER_SLOT_RELEASE (R87, R99). -/
def execBufferSlotRelease (n : BitVec 17) (s : State) : Outcome :=
  .next (s.onBlk .ciu 0 (fun s =>
    if !Tbl.get s.ciu.alloc false n.toNat then s.cfgErrAt .ciu .CIU_BUF_REL_SLOT 0
    else if s.slotRead n.toNat then s.updCiu (fun c => { c with deferred := c.deferred ++ [n.toNat] })
    else s.freeSlot n.toNat))

/-! ### Abort (R82, R83) -/

/-- The I/O command that holds an identifier on a queue, of one controller or of any. -/
def State.findCid (s : State) (p : Option Nat) (q cid : Nat) : Option Nat :=
  (s.ciu.cmd.find? (fun e => e.2.live && !e.2.posted && !e.2.admin && e.2.sq == q && e.2.cid == cid
    && (match p with | some p => e.2.port == p | none => true))).map Prod.fst

/-- ABORT_REQ rises at the sequencer that holds the item of a tag slot (R180). -/
def State.askAbort (s : State) (t : Nat) : State :=
  { s with eng := { s.eng with seq := s.eng.seq.map (fun e => (e.1, match e.2.item with
      | some { src := .intake k, .. } => if k = t then { e.2 with abortReq := true } else e.2
      | _ => e.2)) } }

/-- Looking up and acting: 0 aborted, 1 no command, 2 found but data has moved; with the tag found. -/
def State.abortFind (s : State) (p : Option Nat) (q cid : Nat) : Nat × Nat × State :=
  match s.findCid p q cid with
  | none => (1, 0, s)
  | some t =>
    let tag := s.tagOf t
    let c := s.cmd t
    if c.moved || c.phase == .buffered then (2, tag, s)
    else (0, tag, (((s.askAbort t).dropBlocks t).finish t 0 0x07 0).event 0x2004 0 0 0)

/-- ABORT_LOOKUP: CIU_ABT_REQ with GO. The register names no controller; the lowest tag slot that matches is found (log entry 14). -/
def execAbortLookup (q : BitVec 11) (cid : BitVec 16) (s : State) : Outcome :=
  .next (s.onBlk .ciu 0 (fun s =>
    let s := s.setFs 0 [(.CIU_ABT_REQ_CID, cid.toNat), (.CIU_ABT_REQ_SQID, q.toNat)]
    let (r, tag, s) := s.abortFind none q.toNat cid.toNat
    s.setFs 0 [(.CIU_ABT_RES_DONE, 1), (.CIU_ABT_RES_RESULT, r), (.CIU_ABT_RES_TAG, tag)]))

/-- ABORT: the admin command; dword 0 bit 0 is 0 when the command was aborted. -/
def execAbort (t : Slot) (q : Fin 1025) (cid : BitVec 16) (s : State) : Outcome :=
  .next (s.onCmd t true 0x08 (fun c =>
    let (r, tag, s) := s.abortFind (some c.port) q cid.toNat
    let s := s.setFs 0 [(.CIU_ABT_REQ_CID, cid.toNat), (.CIU_ABT_REQ_SQID, q), (.CIU_ABT_RES_DONE, 1), (.CIU_ABT_RES_RESULT, r),
      (.CIU_ABT_RES_TAG, tag)]
    s.finish t 0 0 (if r = 0 then 0 else 1)))

/-! ### Controller and queues -/

/-- CONTROLLER_ENABLE (R26, R32): CC.EN 0 to 1 takes CC.AMS, AQA, ASQ and ACQ into force; HEP_CTRL.EN does not matter to it. -/
def execControllerEnable (p : Port) (s : State) : Outcome :=
  .next (s.inBlk .hep p (fun s =>
    let c := s.ctrl p
    if !s.portOk p || c.en then s
    else
      let s := s.setCtrl p { c with en := true, rdy := true, cfs := false }
      let s := s.setSq p 0 { live := true, size := c.asqs + 1, base := c.asq, cls := 0, cq := 0 }
      s.setCq p 0 { live := true, size := c.acqs + 1, base := c.acq, vec := 0 }))

/-- CONTROLLER_RESET (R92): CC.EN 1 to 0. -/
def execControllerReset (p : Port) (s : State) : Outcome :=
  .next (s.inBlk .hep p (fun s => if (s.ctrl p).en then s.endController p else s))

/-- CREATE_IO_SUBMISSION_QUEUE: in host memory, or in the CMB (R57, R58), where base is an offset. -/
def execCreateIoSubmissionQueue (t : Slot) (q cq : Fin 1025) (size : BitVec 16) (base : QueuePlace) (prio : Fin 4) (s : State) : Outcome :=
  .next (s.onCmd t true 0x01 (fun c =>
    if q.val = 0 ∨ (s.sq c.port q).live then s.finish t 1 0x01 0
    else if cq.val = 0 ∨ !(s.cq c.port cq).live then s.finish t 1 0x00 0
    else if size.toNat = 0 ∨ 4095 < size.toNat then s.finish t 1 0x02 0
    else
      let x : SubQ := { live := true, size := size.toNat + 1, base := base.base.toNat, cls := prio.val + 1, cq := cq, cmb := base.inCmb }
      (s.setSq c.port q x).finish t 0 0 0))

/-- CREATE_IO_COMPLETION_QUEUE (R53, R57). -/
def execCreateIoCompletionQueue (t : Slot) (q : Fin 1025) (size : BitVec 16) (base : BitVec 64) (vec : Fin 1025) (inCmb : Bool)
    (s : State) : Outcome :=
  .next (s.onCmd t true 0x05 (fun c =>
    if q.val = 0 ∨ (s.cq c.port q).live then s.finish t 1 0x01 0
    else if size.toNat = 0 ∨ 4095 < size.toNat then s.finish t 1 0x02 0
    else if inCmb then s.finish t 0 0x12 0
    else (s.setCq c.port q { live := true, size := size.toNat + 1, base := base.toNat, vec := vec }).finish t 0 0 0))

/-- The entries of a queue being deleted that have no tag (R92): those that sequencers hold complete now with 0/0x08, those being fetched as
they arrive; entries granted and not fetched are in flight no longer. -/
def State.endFetches (s : State) (p q : Nat) : State :=
  let mine := fun (x : Seq) => match x.item with
    | some { src := .sqe p' q' _, .. } => p' == p && q' == q && !x.posted
    | _ => false
  let held := s.eng.seq.filter (fun e => mine e.2)
  let s := held.foldl (fun u e => (u.postCqe p q ((e.2.item.map (fun i => i.words.getD 0 0)).getD 0 / 2 ^ 16 % 2 ^ 16) 0 0x08 0).fetchEnd) s
  let s : State := { s with eng := { s.eng with seq := s.eng.seq.map (fun e => (e.1, if mine e.2 then { e.2 with posted := true } else e.2)) } }
  let cq := (s.sq p q).cq
  let h := s.hp p
  let of := fun (k : ReqKind) => match k with
    | .sqe q' _ _ _ => q' == q
    | _ => false
  let n := (h.reqs.filter (fun r => of r.kind)).length + (h.xwait.filter (fun w => of w.kind)).length
  let s := s.setHp p { h with reqs := h.reqs.map (fun r => if of r.kind then { r with kind := .ended q cq } else r)
                              xwait := h.xwait.map (fun w => if of w.kind then { w with kind := .ended q cq } else w) }
  let s := s.updCiu (fun x => { x with grants := x.grants.filter (fun g => !(g.p == p && g.q == q)) })
  s.setInflight (s.f .CIU_OVL_STAT_INFLIGHT 0 - n)

/-- DELETE_IO_SUBMISSION_QUEUE (R92): BUFFERED writes complete successfully, every other command of the queue with 0/0x08. -/
def execDeleteIoSubmissionQueue (t : Slot) (q : Fin 1025) (s : State) : Outcome :=
  .next (s.onCmd t true 0x00 (fun c =>
    if q.val = 0 ∨ !(s.sq c.port q).live then s.finish t 1 0x01 0
    else
      let l := (s.ciu.cmd.filter (fun e => e.2.live && e.2.port == c.port && e.2.sq == q.val)).map Prod.fst
      let s := l.foldl (fun u k => if (u.cmd k).posted then u.leave k
        else if (u.cmd k).phase == .buffered then u.finish k 0 0 0 else (u.dropBlocks k).finish k 0 0x08 0) s
      ((s.endFetches c.port q).setSq c.port q {}).finish t 0 0 0))

/-- DELETE_IO_COMPLETION_QUEUE. -/
def execDeleteIoCompletionQueue (t : Slot) (q : Fin 1025) (s : State) : Outcome :=
  .next (s.onCmd t true 0x04 (fun c =>
    if q.val = 0 ∨ !(s.cq c.port q).live then s.finish t 1 0x01 0
    else if s.ciu.sq.any (fun e => e.1 / 2048 == c.port && e.2.live && e.2.cq == q.val) then s.finish t 1 0x0C 0
    else ((s.setCq c.port q {}).settleVec c.port (s.cq c.port q).vec).finish t 0 0 0))

/-! ### Log pages, Identify, features -/

/-- n bytes that the manual leaves to NVMe or to firmware: a free value. -/
def State.freeBytes (s : State) (n : Nat) : List Byte × State :=
  let (v, s) := s.free
  (leBytes n v, s)

/-- Data returned to the host, then a successful completion. -/
def State.answer (s : State) (t : Nat) (d : List Byte) : State :=
  ((s.sendData (s.cmd t).port (s.cmd t).cid d false).setCmd t { s.cmd t with moved := true }).finish t 0 0 0

/-- Data that stands in memory, returned to the host: what is bad of it goes out with EP set, with event 0x1006, and the command completes with
Data Transfer Error (R47). -/
def State.answerFrom (s : State) (t a n : Nat) : State :=
  let (d, bad, s) := s.fetchMarked .link a n
  if bad.any id then
    (((s.sendMarked (s.cmd t).port (s.cmd t).cid d bad).event 0x1006 0 0 0).setCmd t { s.cmd t with moved := true }).finish t 0 0x04 0
  else s.answer t d

/-- Log pages that are not rows of their own: the pages of NVMe for these command sets. Their contents are firmware's. -/
def logPages : List Nat := [0x00, 0x01, 0x02, 0x03, 0x04, 0x05, 0x06, 0x0C, 0x80, 0x81, 0xBF]

/-- GET_LOG_PAGE. -/
def execGetLogPage (t : Slot) (lid : Byte) (_off len : Nat) (s : State) : Outcome :=
  .next (s.onCmd t true 0x02 (fun _ =>
    if logPages.contains lid.toNat then
      let (d, s) := s.freeBytes len
      s.answer t d
    else s.finish t 1 0x09 0))

/-- A page of a given size, offset and length multiples of a unit, else Invalid Field in Command (R97, R339, R402). DESIGN CHOICE: offset and
length that pass the end of the page are refused too, of which the manual says nothing (log entry 110). -/
def pageOk (unit size off len : Nat) : Bool := off % unit == 0 && len % unit == 0 && decide (off + len ≤ size)

/-- LEDGER_LOG_PAGE (R97). -/
def execLedgerLogPage (t : Slot) (off len : Nat) (s : State) : Outcome :=
  .next (s.onCmd t true 0x02 (fun _ =>
    if pageOk 32 524288 off len then s.answerFrom t (s.ldgBase + off) len else s.finish t 0 0x02 0))

/-- CNTLID (R33, R443). -/
def State.cntlid (s : State) (p : Nat) : Nat := p + 1 + (if s.paired then 0x10 * s.pos else 0)

/-- Fields laid over a data structure: byte, width, value. -/
def patchAll (d : List Byte) (l : List (Nat × Nat × Nat)) : List Byte := l.foldl (fun d x => patch d x.1 (leBytes x.2.1 x.2.2)) d

/-- The power state descriptors of R314, 32 bytes apart from byte 2,048: maximum power in 0.01 W, Non-Operational State, entry and exit
latency in µs. -/
def powerStates : List (Nat × Nat × Nat) :=
  ([(4200, 0, 0, 0), (2500, 0, 0, 0), (1800, 0, 2500000, 2500000), (900, 2, 500000, 500000), (350, 2, 2000000, 15000000)].zipIdx.map
    (fun ((mp, nops, en, ex), i) =>
      [(2048 + 32 * i, 2, mp), (2048 + 32 * i + 3, 1, nops), (2048 + 32 * i + 4, 4, en), (2048 + 32 * i + 8, 4, ex)])).flatten

/-- Identify Controller: the fields that R75, R314 (NPSS, APSTA and the power states), R330 and R342 give, the rest free. SGLS says SGLs
without Bit Bucket and without keyed descriptors. -/
def State.identifyCtrl (s : State) (p : Nat) (d : List Byte) : List Byte :=
  patchAll d <| powerStates ++ [(263, 1, 4), (265, 1, 1), (77, 1, 9), (78, 2, s.cntlid p), (258, 1, 7), (260, 1, 4), (328, 4, 3), (516, 4, 64), (524, 1, 4), (525, 1, 0), (526, 2, 63),
   (528, 2, 63), (536, 4, 1)]

/-- Identify Namespace: size, formats, and the atomicity fields of R75 (NAWUN, NAWUPF, NABSN, NABSPF). -/
def State.identifyNs (s : State) (i : Nat) (d : List Byte) : List Byte :=
  let n := s.nsp i
  patchAll d [(0, 8, n.blocks), (8, 8, n.blocks), (25, 1, 2), (26, 1, n.fmt), (34, 2, 63), (36, 2, 63), (40, 2, 0), (44, 2, 0),
   (128, 4, 0x0C0000), (132, 4, 0x0C0010), (136, 4, 0x0C0040)]

/-- Identify Namespace of the Zoned command set: Maximum Active and Open Resources are ZONE_ACC - 1 (R150), coded zero-based, and each format's
zone size is 65,536 blocks (R138). -/
def State.identifyZns (s : State) (d : List Byte) : List Byte :=
  let r := s.f .BTL_CFG_ZONE_ACC 0 - 2
  patchAll d [(4, 4, r), (8, 4, r), (2816, 8, zoneSize), (2832, 8, zoneSize), (2848, 8, zoneSize)]

/-- IDENTIFY (R75, R138, R150): CNS 0 and 0x11 the namespace, 1 the controller, 5 the namespace as its command set has it. -/
def execIdentify (t : Slot) (cns : Byte) (s : State) : Outcome :=
  .next (s.onCmd t true 0x06 (fun c =>
    let (d, s) := s.freeBytes 4096
    if cns = 1 then s.answer t (s.identifyCtrl c.port d)
    else if cns = 0 ∨ cns = 0x11 ∨ cns = 5 then
      if c.nsid = 0 ∨ 64 < c.nsid then s.finish t 0 0x0B 0
      else if !(s.nsp (c.nsid - 1)).live then s.answer t (List.replicate 4096 0)
      else if cns = 5 then s.answer t (if (s.nsp (c.nsid - 1)).zoned then s.identifyZns d else d)
      else s.answer t (s.identifyNs (c.nsid - 1) d)
    else s.answer t d))

/-- The maximum power of power states 0-4 in units of 0.25 W (R314). -/
def powerUnits : List Nat := [168, 100, 72, 36, 14]

/-- SET_FEATURES (R56, R77, R314). -/
def execSetFeatures (t : Slot) (fid : Byte) (v : Word) (s : State) : Outcome :=
  .next (s.onCmd t true 0x09 (fun c =>
    let n := v.toNat
    let keep := fun (s : State) =>
      let x := s.ctrl c.port
      s.setCtrl c.port { x with features := Tbl.set x.features 0 fid.toNat n }
    if fid = 0x01 then
      (((keep s).setFs 0 [(.CIU_ARB_AB, n), (.CIU_ARB_LPW, n / 2 ^ 8), (.CIU_ARB_MPW, n / 2 ^ 16), (.CIU_ARB_HPW, n / 2 ^ 24)])).finish
        t 0 0 0
    else if fid = 0x02 then
      match powerUnits[n % 32]? with
      | some u => ((keep s).setF .SUP_PLIM_PIN_MAX 0 u).finish t 0 0 0
      | none => s.finish t 0 0x02 0
    else if fid = 0x07 then (keep s).finish t 0 0 (1023 + 1023 * 2 ^ 16)
    else if [0x04, 0x05, 0x08, 0x09, 0x0A, 0x0B, 0x0C, 0x0E, 0x0F, 0x10, 0x16, 0x81, 0x82, 0x83].contains fid.toNat then
      (keep s).finish t 0 0 0
    else s.finish t 0 0x02 0))

/-- GET_FEATURES. -/
def execGetFeatures (t : Slot) (fid : Byte) (s : State) : Outcome :=
  .next (s.onCmd t true 0x0A (fun c =>
    if fid = 0x01 then
      s.finish t 0 0 (s.f .CIU_ARB_AB 0 + 2 ^ 8 * s.f .CIU_ARB_LPW 0 + 2 ^ 16 * s.f .CIU_ARB_MPW 0 + 2 ^ 24 * s.f .CIU_ARB_HPW 0)
    else if fid = 0x07 then s.finish t 0 0 (1023 + 1023 * 2 ^ 16)
    else if [0x02, 0x04, 0x05, 0x08, 0x09, 0x0A, 0x0B, 0x0C, 0x0E, 0x0F, 0x10, 0x16, 0x81, 0x82, 0x83].contains fid.toNat then
      s.finish t 0 0 (Tbl.get (s.ctrl c.port).features 0 fid.toNat)
    else s.finish t 0 0x02 0))

/-- ASYNCHRONOUS_EVENT_REQUEST: it waits for an event, or completes with the oldest that waits. -/
def execAsynchronousEventRequest (t : Slot) (s : State) : Outcome :=
  .next (s.onCmd t true 0x0C (fun c =>
    let x := s.ctrl c.port
    if x.aers.contains t.val then s else
    match x.aenPend with
    | [] => s.setCtrl c.port { x with aers := x.aers ++ [t.val] }
    | d :: r => (s.setCtrl c.port { x with aenPend := r }).finish t 0 0 d))

/-! ### Namespaces (R151, R153, R159) -/

/-- Bands a namespace needs at full capacity, stripe parity included (R153, R159). -/
def State.bandsFor (s : State) (blocks : Nat) (prot : Bool) : Nat :=
  let n := (blocks + zoneSize - 1) / zoneSize
  let w := s.actuators - 1
  if prot then n + (n + w - 1) / max 1 w else n

/-- BTL_COMMITTED changes, FREE and SPARE are counted again, and DEGRADED follows (R159, R160, R162). -/
def State.commitBands (s : State) (n : Nat) : State :=
  (s.setF .BTL_COMMITTED_COUNT 0 n).spareChanged

/-- NAMESPACE_CREATE. -/
def execNamespaceCreate (t : Slot) (blocks : Nat) (msize : Fin 3) (zoned prot : Bool) (s : State) : Outcome :=
  .next (s.onCmd t true 0x0D (fun _ =>
    let need := s.bandsFor blocks prot
    if prot ∧ (zoned ∨ s.actuators ≤ 1) then s.finish t 0 0x02 0
    else if s.f .BTL_SPARE_SPARE 0 < need then s.finish t 1 0x15 0
    else
      match firstFrom 64 0 (fun i => !(s.nsp i).live) with
      | none => s.finish t 1 0x16 0
      | some i =>
        let s := s.setNs i { live := true, blocks := blocks, fmt := msize, zoned := zoned, prot := prot, att0 := false, att1 := false }
        (s.commitBands (s.f .BTL_COMMITTED_COUNT 0 + need)).finish t 0 0 (i + 1)))

/-- NAMESPACE_ATTACHMENT. -/
def execNamespaceAttachment (t : Slot) (ns : Fin 64) (p : Port) (attach : Bool) (s : State) : Outcome :=
  .next (s.onCmd t true 0x15 (fun _ =>
    let n := s.nsp ns
    let on := if p.val = 0 then n.att0 else n.att1
    if !n.live then s.finish t 0 0x0B 0
    else if !s.portOk p then s.finish t 1 0x1C 0
    else if attach && on then s.finish t 1 0x18 0
    else if !attach && !on then s.finish t 1 0x1A 0
    else (s.setNs ns (if p.val = 0 then { n with att0 := attach } else { n with att1 := attach })).finish t 0 0 0))

/-- DEVICE_SELF_TEST: short and extended tests run in firmware, whose result is not given; 0xF ends one. -/
def execDeviceSelfTest (t : Slot) (code : Fin 16) (s : State) : Outcome :=
  .next (s.onCmd t true 0x14 (fun _ =>
    if code.val = 1 ∨ code.val = 2 ∨ code.val = 15 then (s.updCiu (fun c => { c with selfTest := if code.val = 15 then 0 else code.val })).finish t 0 0 0
    else s.finish t 0 0x02 0))

end Sys2Proof.Machine
end

