-- ==== Sys2Proof/Machine/Nvm.lean ====
section
/-!
DEFINITION. Machine/Nvm.lean: the NVM and Zoned command sets: writes through the buffer (R87, R88, R408), reads hit and miss
(R89, R135), zones (R149, R150, R161) and reservations.
-/
namespace Sys2Proof.Machine

/-- A step of an I/O command of one of several opcodes that is being served. -/
def State.onIo (s : State) (t : Nat) (opcs : List Nat) (g : Cmd → State) : State :=
  let c := s.cmd t
  if c.live && !c.posted && !c.admin && opcs.contains c.opc && (c.phase == .active || c.phase == .firmware || c.phase == .hit) then g c else s

/-! ### Zones -/

/-- Zones a namespace holds that are active: open or closed. -/
def State.activeZones (s : State) : Nat :=
  (s.ciu.zone.filter (fun e => e.2.st == .implicitOpen || e.2.st == .explicitOpen || e.2.st == .closed)).length

/-- Whether an Empty zone may leave Empty: the status that stops it, if any (R150, R161). -/
def State.activate (s : State) : Option (Nat × Nat) :=
  if s.f .BTL_POOL_FREE 0 ≤ s.f .BTL_RESERVE_RESERVE 0 then some (0, 0x81)
  else if s.f .BTL_CFG_ZONE_ACC 0 - 1 ≤ s.activeZones then some (1, 0xBD)
  else none

/-- The status that stops a write or append to a zone before it takes data, if any. -/
def State.zoneWriteStatus (s : State) (c : Cmd) : Option (Nat × Nat) :=
  let z := s.zone (c.nsid - 1) (c.slba / zoneSize)
  let off := c.slba % zoneSize
  if z.st = .full then some (1, 0xB9)
  else if z.st = .offline then some (1, 0xBB)
  else if c.opc = 0x7D then
    if off ≠ 0 then some (0, 0x02)
    else if zoneSize < z.wp + c.blocks then some (1, 0xB8)
    else if z.st = .empty then s.activate else none
  else if zoneSize < off + c.blocks then some (1, 0xB8)
  else if off ≠ z.wp then some (1, 0xBC)
  else if z.st = .empty then s.activate else none

/-- The first LBA a write or append lands at. -/
def State.landing (s : State) (c : Cmd) : Nat :=
  if c.opc = 0x7D then c.slba / zoneSize * zoneSize + (s.zone (c.nsid - 1) (c.slba / zoneSize)).wp else c.slba

/-- The write pointer passes the blocks written; the zone opens implicitly, and is Full at its end. -/
def State.zoneAdvance (s : State) (c : Cmd) : State :=
  let i := c.nsid - 1
  if !(s.nsp i).zoned then s else
  let n := c.slba / zoneSize
  let z := s.zone i n
  let wp := min zoneSize (z.wp + c.blocks)
  s.setZone i n { st := if wp = zoneSize then .full else if z.st = .explicitOpen then .explicitOpen else .implicitOpen, wp := wp }

/-! ### Writes (R87, R88, R134) -/

/-- Pieces of a write of more than 64 blocks that are all in their slots are published as they fill; the last piece, and any write of
up to 64 blocks, is published when the write becomes BUFFERED (R88). -/
def State.publishPieces (s : State) (t : Nat) (was : Nat) : State :=
  let c := s.cmd t
  let done := c.slots.length
  if c.blocks ≤ 64 ∨ c.blocks ≤ done then s
  else
    let a := was / 64 * 64
    let b := done / 64 * 64
    s.updCiu (fun x => { x with bidx := publishSlots (c.nsid - 1) (s.landing c + a) x.bidx ((c.slots.drop a).take (b - a)) })

/-- The status of a failed piece of work on the media (R91): a malformed ring completion or a servo fault, Internal Error; a write fault. -/
def mediaStatus : MediaEnd → Option (Nat × Nat)
  | .ok => none
  | .malformed => some (0, 0x06)
  | .servoFault => some (0, 0x06)
  | .writeFault => some (2, 0x80)

/-- Data of a write arrives (R87, R134). A block that finds no slot free makes the write wait; its data comes again when the write goes on, and
has not moved (R83). Write Zeroes moves no data. -/
def State.writeData (s : State) (t : Nat) (blocks : List (List Byte)) (pi : PiResult) : State :=
  let c := s.cmd t
  let i := c.nsid - 1
  let n := s.nsp i
  let was := c.slots.length
  let d := blocks.take (c.blocks - was)
  match (if n.zoned ∧ was = 0 then s.zoneWriteStatus c else none) with
  | some (sct, sc) => s.finish t sct sc 0
  | none =>
    if c.piBad n.fmt pi && !c.pract then ((s.setCmd t { c with moved := true }).dropBlocks t).finish t 2 (piCode pi) 0
    else
      let free := s.slotsFree
      let moved := c.moved || (c.opc != 0x08 && !(d.take free).isEmpty)
      let s := ((s.setCmd t { c with moved := moved }).storeBlocks t i n.fmt (s.landing c + was) (d.take free)).publishPieces t was
      if d.length ≤ free then s
      else
        let s := s.setCmd t { s.cmd t with phase := .slots }
        if s.ciu.starved then s else (s.updCiu (fun x => { x with starved := true })).event 0x2009 0 0 0

/-- The bytes of a block as the host sends it (R133, R134): with PRACT 1 and format 4096+16, no protection information comes with it. -/
def hostBlock (pract : Bool) (fmt : Nat) : Nat := if fmt = 0 then 4096 else if fmt = 1 then (if pract then 4096 else 4112) else 4160

/-- The blocks that a write takes from the CMB, from an offset on (R45, R59): none where a granule of them is poisoned. -/
def State.cmbBlocks (s : State) (p off n k : Nat) : Option (List (List Byte)) × State :=
  let (d, bad, s) := s.fetchMarked (.hepDma (Fin.ofNat 2 p)) (s.f .HEP_CMB_BASE_LO_BASE_LO p * 2 ^ 26 + s.f .HEP_CMB_BASE_HI_BASE_HI p * 2 ^ 32 + off) (n * k)
  (if bad.any id then none else some ((List.range k).map (fun i => (d.drop (n * i)).take n)), s)

/-- Blocks taken from the CMB go on as a write's data; poison among them ends the write with Data Transfer Error (R45). -/
def takeBlocks (t : Nat) (pi : PiResult) : Option (List (List Byte)) × State → State
  | (some l, s) => s.writeData t l pi
  | (none, s) => (s.dropBlocks t).finish t 0 0x04 0

/-- A write's data, brought by the command or taken from the CMB; or the end that firmware's work on the media gave it (R91). -/
def State.writeFrom (s : State) (t : Nat) (blocks : List (List Byte)) (src : Option (BitVec 26)) (pi : PiResult) (fin : MediaEnd) : State :=
  match mediaStatus fin with
  | some (sct, sc) => (s.dropBlocks t).finish t sct sc 0
  | none =>
    match src with
    | none => s.writeData t blocks pi
    | some off => takeBlocks t pi (s.cmbBlocks (s.cmd t).port off.toNat (hostBlock (s.cmd t).pract (s.nsp ((s.cmd t).nsid - 1)).fmt)
        ((s.cmd t).blocks - (s.cmd t).slots.length))

/-- WRITE (R87, R88, R134): blocks of data arrive, in order, with the outcome of their protection-information check. -/
def execWrite (t : Slot) (blocks : List (List Byte)) (e : WriteEnd) (s : State) : Outcome :=
  .next (s.onIo t [0x01] (fun _ => s.writeFrom t blocks e.src e.pi e.fin))

/-- WRITE_ZEROES: as a write of blocks of zeros, with zero metadata. -/
def execWriteZeroes (t : Slot) (s : State) : Outcome :=
  .next (s.onIo t [0x08] (fun c =>
    s.writeData t (List.replicate c.blocks (List.replicate (hostBlock false (s.nsp (c.nsid - 1)).fmt) 0)) .ok))

/-- ZONE_APPEND (R86, R93): the data lands at the write pointer of the zone. -/
def execZoneAppend (t : Slot) (blocks : List (List Byte)) (e : WriteEnd) (s : State) : Outcome :=
  .next (s.onIo t [0x7D] (fun _ => s.writeFrom t blocks e.src e.pi e.fin))

/-- The index names a write's slots (R88). -/
def State.publishAll (s : State) (t : Nat) : State :=
  let c := s.cmd t
  let a := if c.blocks ≤ 64 then 0 else (c.blocks - 1) / 64 * 64
  s.updCiu (fun x => { x with bidx := publishSlots (c.nsid - 1) (s.landing c + a) x.bidx (c.slots.drop a) })

/-- A write with every block in its slot becomes BUFFERED (R13, R88, R93, R408). -/
def State.becomeBuffered (s : State) (t : Nat) : State :=
  let c := s.cmd t
  let lba := s.landing c
  let s := s.publishAll t
  let s := match c.ledger with
    | none => s
    | some i =>
      let (was, s) := s.ledgerRead i
      let e := patch (if c.opc = 0x7D then patch was 20 (leBytes 8 lba) else was) 15 [2]
      s.ledgerPut i e (some (s.tagOf t))
  let s := s.zoneAdvance c
  let wait := s.paired && s.owner && s.b .LDG_CTRL_MIRROR 0 && s.b .MIR_STATUS_SYNCED 0
  let s := (s.setCmd t { c with phase := .buffered, slba := lba }).updCiu
    (fun x => { x with awaitMirror := Tbl.set x.awaitMirror false t wait })
  if s.protected || s.plv.holding then s
  else ({ s with plv := { s.plv with holding := true } }).event 0x3049 0 0 0

/-- WRITE_DATA_BUFFERED (R88). -/
def execWriteDataBuffered (t : Slot) (s : State) : Outcome :=
  .next (s.onIo t [0x01, 0x08, 0x7D] (fun c => if c.slots.length = c.blocks then s.becomeBuffered t else s))

/-- WRITE_COMPLETION_RELEASE (R13, R408): once protection is in force and the partner has acknowledged, the completion is posted; a
Zone Append's carries the LBA written. -/
def execWriteCompletionRelease (t : Slot) (s : State) : Outcome :=
  .next (
    let c := s.cmd t
    if c.live && c.phase == .buffered && s.protected && !s.mir.fenced && !Tbl.get s.ciu.awaitMirror false t then
      s.finish t 0 0 (if c.opc = 0x7D then c.slba else 0)
    else s)

/-! ### Reads (R89, R135) -/

/-- The newest copy of block i of a command: from its slot, or what firmware found on the media in slot form (an empty string for a block
never written, none for one it could not read). Answers its bytes, the granules of them that are bad, whether the block check does not
match, and the state after the reading. A block whose check fails is bad throughout (R135). -/
def State.newest (s : State) (c : Cmd) (media : List (List Byte)) (i : Nat) : Option (List Byte × List Bool × Bool) × State :=
  let fmt := (s.nsp (c.nsid - 1)).fmt
  let judge := fun (b : List Byte) (bad : List Bool) =>
    let wrong := !bad.any id && !checkSlot fmt (c.slba + i) b
    some (b, if wrong then List.replicate 65 true else bad, wrong)
  match s.bufIdx (c.nsid - 1) (c.slba + i) with
  | some n =>
    let (b, bad, s) := s.fetchMarked (.hepDma (Fin.ofNat 2 c.port)) (s.slotAddr n) 4160
    (judge b bad, s)
  | none =>
    match media[i]? with
    | none => (none, s)
    | some [] => (some ([], [], false), s)
    | some b => (judge b [], s)

/-- What the host gets of a block (R133, R134, R340): its data and metadata, without protection information that PRACT strips. -/
def State.plainOf (s : State) (c : Cmd) (i : Nat) (b : List Byte) : List Byte :=
  let fmt := (s.nsp (c.nsid - 1)).fmt
  if b.isEmpty then List.replicate (hostBlock c.pract fmt) 0
  else (s.decrypt (c.nsid - 1) (c.slba + i) (slotData fmt b)).take (hostBlock c.pract fmt)

/-- The blocks of a command from number i on: their bytes with a mark for every 64 of them, whether one is bad, whether one cannot be read.
Event 0x3009 for each block check that does not match (R135). -/
def State.fetchFrom (s : State) (c : Cmd) (media : List (List Byte)) : Nat → Nat → List (List Byte × List Bool) × Bool × Bool × State
  | _, 0 => ([], false, false, s)
  | i, k + 1 =>
    match s.newest c media i with
    | (none, s) =>
      let (l, bad, _, s) := s.fetchFrom c media (i + 1) k
      (l, bad, true, s)
    | (some (b, m, wrong), s) =>
      let s := if wrong then s.event 0x3009 0 0 0 else s
      let d := s.plainOf c i b
      let (l, bad, gone, s) := s.fetchFrom c media (i + 1) k
      ((d, m) :: l, m.any id || bad, gone, s)

/-- The blocks of a command, or the status that ends it: poison, or a block check that does not match, 0/0x04 (R47, R135); an unreadable block
2/0x81. -/
def State.fetchBlocks (s : State) (c : Cmd) (media : List (List Byte)) : Option (Nat × Nat) × List (List Byte × List Bool) × State :=
  let (l, bad, gone, s) := s.fetchFrom c media 0 c.blocks
  (if bad then some (0, 0x04) else if gone then some (2, 0x81) else none, l, s)

/-- Blocks go to the host: each with EP set on the TLPs that carry bad bytes of it (R47). -/
def State.sendBlocks (s : State) (p cid : Nat) (l : List (List Byte × List Bool)) : State :=
  if l.any (fun x => x.2.any id) then l.foldl (fun u x => u.sendMarked p cid x.1 x.2) s
  else s.sendData p cid (l.map Prod.fst).flatten false

/-- A read of a command's blocks for a use that moves no data to the host: its status, or what the use makes of the blocks. The block check
comes before protection information (R135). -/
def State.useBlocks (s : State) (t : Nat) (c : Cmd) (media : List (List Byte)) (pi : PiResult) (fin : MediaEnd)
    (g : State → List Byte → State) : State :=
  match mediaStatus fin with
  | some (sct, sc) => s.finish t sct sc 0
  | none =>
    let (st, l, s) := s.fetchBlocks c media
    match st with
    | some (sct, sc) => s.finish t sct sc 0
    | none => if c.piBad (s.nsp (c.nsid - 1)).fmt pi then s.finish t 2 (piCode pi) 0 else g s (l.map Prod.fst).flatten

/-- READ (R89, R91, R135, R47). -/
def execRead (t : Slot) (media : List (List Byte)) (e : ReadEnd) (s : State) : Outcome :=
  .next (s.onIo t [0x02] (fun c =>
    match mediaStatus e.fin with
    | some (sct, sc) => s.finish t sct sc 0
    | none =>
      let (st, l, s) := s.fetchBlocks c media
      match st with
      | some (0, sc) => (((s.sendBlocks c.port c.cid l).event 0x1006 0 0 0).setCmd t { s.cmd t with moved := true }).finish t 0 sc 0
      | some (sct, sc) => s.finish t sct sc 0
      | none => if c.piBad (s.nsp (c.nsid - 1)).fmt e.pi then s.finish t 2 (piCode e.pi) 0 else s.answer t (l.map Prod.fst).flatten))

/-- COMPARE: Compare Failure when the data differ. -/
def execCompare (t : Slot) (host media : List (List Byte)) (e : ReadEnd) (s : State) : Outcome :=
  .next (s.onIo t [0x05] (fun c =>
    s.useBlocks t c media e.pi e.fin (fun s d => if d = host.flatten then s.finish t 0 0 0 else s.finish t 2 0x85 0)))

/-- VERIFY: the checks of a read, with no data transferred. -/
def execVerify (t : Slot) (media : List (List Byte)) (e : ReadEnd) (s : State) : Outcome :=
  .next (s.onIo t [0x0C] (fun c => s.useBlocks t c media e.pi e.fin (fun s _ => s.finish t 0 0 0)))

/-- FLUSH (R75): VWC is 0, so it completes at once. -/
def execFlush (t : Slot) (s : State) : Outcome := .next (s.onIo t [0x00] (fun _ => s.finish t 0 0 0))

/-- MC_PUT records with DEALLOC for a range, one for each run of up to 64 blocks. -/
def State.deallocate (s : State) (ns : Nat) (r : Nat × Nat) : State :=
  (List.range ((r.2 + 63) / 64)).foldl (fun u i =>
    (u.append 5 8 ([BitVec.ofNat 8 ns, BitVec.ofNat 8 (min 64 (r.2 - 64 * i) - 1), 0, 0] ++ leBytes 8 (r.1 + 64 * i)
      ++ leBytes 8 0)).2.2) s

/-- DATASET_MANAGEMENT: Deallocate appends MC_PUT with DEALLOC; other attributes are hints. -/
def execDatasetManagement (t : Slot) (s : State) : Outcome :=
  .next (s.onIo t [0x09] (fun c =>
    (if c.cls = 2 then c.ranges.foldl (fun u r => u.deallocate (c.nsid - 1) r) s else s).finish t 0 0 0))

/-! ### Zone Management (Send 0x79, Receive 0x7A) -/

/-- An action on the zones a command names: each zone answers its new state or the status that stops it; with Select All the zones
that cannot take the action are passed over. -/
def State.onZones (s : State) (t : Nat) (g : State → Zone → (Nat × Nat) ⊕ Zone) : State :=
  s.onIo t [0x79] (fun c =>
    let i := c.nsid - 1
    if c.selectAll then
      ((List.range (((s.nsp i).blocks + zoneSize - 1) / zoneSize)).foldl (fun u n =>
        match g u (u.zone i n) with
        | .inr z => u.setZone i n z
        | .inl _ => u) s).finish t 0 0 0
    else
      match g s (s.zone i (c.slba / zoneSize)) with
      | .inr z => (s.setZone i (c.slba / zoneSize) z).finish t 0 0 0
      | .inl (sct, sc) => s.finish t sct sc 0)

/-- ZONE_CLOSE. -/
def execZoneClose (t : Slot) (s : State) : Outcome :=
  .next (s.onZones t (fun _ z =>
    match z.st with
    | .implicitOpen => .inr { z with st := if z.wp = 0 then .empty else .closed }
    | .explicitOpen => .inr { z with st := if z.wp = 0 then .empty else .closed }
    | .closed => .inr z
    | _ => .inl (1, 0xBF)))

/-- ZONE_FINISH (R149, R161). -/
def execZoneFinish (t : Slot) (s : State) : Outcome :=
  .next (s.onZones t (fun u z =>
    match z.st with
    | .offline => .inl (1, 0xBF)
    | .empty => if u.f .BTL_POOL_FREE 0 ≤ u.f .BTL_RESERVE_RESERVE 0 then .inl (0, 0x81) else .inr { z with st := .full }
    | _ => .inr { z with st := .full }))

/-- ZONE_OPEN (R149, R150, R161). -/
def execZoneOpen (t : Slot) (s : State) : Outcome :=
  .next (s.onZones t (fun u z =>
    match z.st with
    | .empty => match u.activate with
      | some x => .inl x
      | none => .inr { z with st := .explicitOpen }
    | .full => .inl (1, 0xBF)
    | .offline => .inl (1, 0xBF)
    | _ => .inr { z with st := .explicitOpen }))

/-- ZONE_RESET (R149). -/
def execZoneReset (t : Slot) (s : State) : Outcome :=
  .next (s.onZones t (fun _ z => if z.st = .offline then .inl (1, 0xBF) else .inr {}))

/-- ZONE_OFFLINE: only a read-only zone may go offline, and the device makes none. -/
def execZoneOffline (t : Slot) (s : State) : Outcome :=
  .next (s.onZones t (fun _ z => if z.st = .offline then .inr z else .inl (1, 0xBF)))

/-- NVMe's code of a zone state. -/
def ZState.code : ZState → Nat
  | .empty => 1
  | .implicitOpen => 2
  | .explicitOpen => 3
  | .closed => 4
  | .full => 14
  | .offline => 15

/-- ZONE_MANAGEMENT_RECEIVE: the zone report, 64 bytes of header with the number of zones, then 64 bytes for each from SLBA on. -/
def execZoneManagementReceive (t : Slot) (s : State) : Outcome :=
  .next (s.onIo t [0x7A] (fun c =>
    let i := c.nsid - 1
    let n := ((s.nsp i).blocks + zoneSize - 1) / zoneSize
    let first := c.slba / zoneSize
    let one := fun k =>
      let z := s.zone i k
      [0x02] ++ leBytes 1 (z.st.code * 16) ++ leBytes 6 0 ++ leBytes 8 zoneSize ++ leBytes 8 (k * zoneSize)
        ++ leBytes 8 (k * zoneSize + z.wp) ++ leBytes 32 0
    s.answer t (leBytes 8 (n - first) ++ leBytes 56 0 ++ ((List.range (n - first)).map (fun k => one (first + k))).flatten)))

/-! ### Reservations -/

def State.resv (s : State) (i : Nat) : Resv := Tbl.get s.ciu.resv {} i
def State.setResv (s : State) (i : Nat) (r : Resv) : State := s.updCiu (fun c => { c with resv := Tbl.set c.resv {} i r })
def Resv.key (r : Resv) (p : Nat) : Nat := if p = 0 then r.key0 else r.key1
def Resv.setKey (r : Resv) (p k : Nat) : Resv := if p = 0 then { r with key0 := k } else { r with key1 := k }
/-- The holder loses its reservation when it is no longer registered. -/
def Resv.tidy (r : Resv) : Resv := if r.holder ≠ 0 ∧ r.key (r.holder - 1) = 0 then { r with holder := 0, rtype := 0 } else r

/-- RESERVATION_REGISTER: 0 register, 1 unregister, 2 replace. -/
def execReservationRegister (t : Slot) (action : Fin 3) (cur new : BitVec 64) (s : State) : Outcome :=
  .next (s.onIo t [0x0D] (fun c =>
    let i := c.nsid - 1
    let r := s.resv i
    let k := r.key c.port
    if action.val = 0 then
      if k ≠ 0 ∧ k ≠ new.toNat then s.finish t 0 0x83 0
      else (s.setResv i { r.setKey c.port new.toNat with gen := r.gen + 1 }).finish t 0 0 0
    else if k = 0 ∨ k ≠ cur.toNat then s.finish t 0 0x83 0
    else (s.setResv i { (r.setKey c.port (if action.val = 1 then 0 else new.toNat)).tidy with gen := r.gen + 1 }).finish t 0 0 0))

/-- RESERVATION_REPORT. -/
def execReservationReport (t : Slot) (s : State) : Outcome :=
  .next (s.onIo t [0x0E] (fun c =>
    let r := s.resv (c.nsid - 1)
    let who := [0, 1].filter (fun p => r.key p != 0)
    let one := fun p => leBytes 2 (s.cntlid p) ++ leBytes 1 (if r.holder = p + 1 then 1 else 0) ++ leBytes 5 0
      ++ leBytes 8 (Tbl.get (s.ctrl p).features 0 0x81) ++ leBytes 8 (r.key p)
    s.answer t (leBytes 4 r.gen ++ leBytes 1 r.rtype ++ leBytes 2 who.length ++ leBytes 17 0 ++ (who.map one).flatten)))

/-- RESERVATION_ACQUIRE: 0 acquire, 1 preempt, 2 preempt and abort. -/
def execReservationAcquire (t : Slot) (action : Fin 3) (rtype : Fin 8) (cur preempt : BitVec 64) (s : State) : Outcome :=
  .next (s.onIo t [0x11] (fun c =>
    let i := c.nsid - 1
    let r := s.resv i
    let p := c.port
    if r.key p = 0 ∨ r.key p ≠ cur.toNat then s.finish t 0 0x83 0
    else if rtype.val = 0 ∨ rtype.val = 7 then s.finish t 0 0x02 0
    else if action.val = 0 then
      if r.holder = 0 then (s.setResv i { r with holder := p + 1, rtype := rtype }).finish t 0 0 0
      else if r.holder = p + 1 ∧ r.rtype = rtype.val then s.finish t 0 0 0
      else s.finish t 0 0x83 0
    else
      let o := 1 - p
      let hit := r.key o ≠ 0 ∧ r.key o = preempt.toNat
      let took := hit ∧ r.holder = o + 1
      let s := if action.val = 2 ∧ hit then
          ((s.ciu.cmd.filter (fun e => e.2.live && !e.2.admin && e.2.port == o && e.2.nsid == c.nsid)).map Prod.fst).foldl
            (fun u k => (u.abortFind (some o) (u.cmd k).sq (u.cmd k).cid).2.2) s
        else s
      let r := if hit then r.setKey o 0 else r
      let r := if took ∨ r.holder = p + 1 then { r with holder := p + 1, rtype := rtype } else r
      (s.setResv i { r with gen := r.gen + 1 }).finish t 0 0 0))

/-- RESERVATION_RELEASE: release, or clear. -/
def execReservationRelease (t : Slot) (clear : Bool) (cur : BitVec 64) (s : State) : Outcome :=
  .next (s.onIo t [0x15] (fun c =>
    let i := c.nsid - 1
    let r := s.resv i
    if r.key c.port = 0 ∨ r.key c.port ≠ cur.toNat then s.finish t 0 0x83 0
    else if clear then (s.setResv i { gen := r.gen + 1 }).finish t 0 0 0
    else if r.holder = c.port + 1 then (s.setResv i { r with holder := 0, rtype := 0 }).finish t 0 0 0
    else s.finish t 0 0 0))

end Sys2Proof.Machine
end

