-- ==== Sys2Proof/Machine/Buf.lean ====
section
/-!
DEFINITION. Machine/Buf.lean: the LPDDR5 controller, Bramble and its side structures, cache maintenance, on-chip SRAM (R102-R136).
-/
namespace Sys2Proof.Machine

/-! ### DRAM in and out of service (R102, R136) -/

/-- BUF_DDR_EN (R24, R136). The check and the training end at DDR_TRAINING_END, and EN reads 1 from then. -/
def execBufDdrEn (v : Bool) (s : State) : Outcome :=
  .next (s.onBlk .buf 0 (fun s =>
    if v then
      if s.b .BUF_DDR_CTRL_EN 0 then s else s.updBuf (fun b => { b with training := true })
    else if s.b .BUF_BRM_CTRL_EN 0 || s.b .BUF_BRM_CTRL_DISABLE_PENDING 0 || s.b .BUF_PPR_BUSY 0 || s.b .HEP_CTRL_EN 0
        || s.b .HEP_CTRL_EN 1 || s.b .CIU_CTRL_EN 0 || s.b .LDG_CTRL_EN 0 || s.b .BTL_CTRL_EN 0 || s.b .MWR_CTRL_EN 0
        || s.b .PLV_CTRL_EN 0 || s.b .MIR_CTRL_EN 0 || s.b .CAL_CTRL_EN 0 then s.cfgErrAt .buf .BUF_DDR_CTRL_EN 0
    else (s.updBuf (fun b => { b with training := false })).setFs 0 [(.BUF_DDR_CTRL_EN, 0), (.BUF_STATUS_READY, 0)]))

/-- DDR_TRAINING_END (R102, R136): good when SIZE matches the fitted devices and training succeeds. -/
def execDdrTrainingEnd (good : Bool) (s : State) : Outcome :=
  .next (
    if !s.buf.training then s else
    let s := s.updBuf (fun b => { b with training := false })
    if good then s.setFs 0 [(.BUF_DDR_CTRL_EN, 1), (.BUF_STATUS_READY, 1)] else s.cfgErrAt .buf .BUF_DDR_CTRL_EN 0)

/-! ### The patrol scrub (R106) -/

/-- A repair under way on the channel of an address (R108). -/
def State.repairing (s : State) (a : Nat) : Bool := s.b .BUF_PPR_BUSY 0 && s.opnd .BUF_PPR_CH == channelOf a

/-- What DRAM holds of a line becomes a snapshot; where no newer copy is held it is the newest. -/
def State.putDram (s : State) (la : Nat) (x : Snap) : State :=
  if !s.absent la || (Tbl.get s.buf.dram none la).isSome then
    s.updBuf (fun b => { b with dram := Tbl.set b.dram none la (if x = s.snap la then none else some x) })
  else s.restoreSnap la x

/-- The scrub reads a granule that holds an error and writes it back: corrected (wrongly, where the decoder miscorrects), or poisoned when it
is uncorrectable. -/
def State.scrubGranule (s : State) (gr : Nat) : State :=
  let la := gr / 2
  let m := Tbl.get s.buf.err 0 gr
  let x := s.dramSnap la
  let o := gr % 2 * 64
  let y : Snap := match errKind m with
    | 0 => x
    | 1 => if errWrong m then { x with data := patch x.data o (miscorrected m ((x.data.drop o).take 64)) } else x
    | _ => if gr % 2 = 0 then { x with p0 := true } else { x with p1 := true }
  if errKind m = 0 then s else
  let (k, t) := s.decodeGranule gr
  let t := { t with buf := { t.buf with poison := s.buf.poison } }
  let t := if k = 3 then t else t.granuleCode gr
  (t.putDram la y).enqueue

/-- PATROL_SCRUB (R106): the next granule in turn; event 0x300A at the end of a pass. -/
def execPatrolScrub (s : State) : Outcome :=
  .next (
    if !s.b .BUF_STATUS_READY 0 ∨ s.f .BUF_DDR_CFG_SCRUB_HRS 0 = 0 then s else
    let gr := dramBase / 64 + s.buf.scrub
    let s := s.scrubGranule gr
    let n := (s.dramEnd - dramBase) / 64
    if n ≤ s.buf.scrub + 1 then (s.updBuf (fun b => { b with scrub := 0 })).event 0x300A 0 0 0
    else s.updBuf (fun b => { b with scrub := b.scrub + 1 }))

/-! ### Accesses (R104-R118) -/

/-- A read reaches its consumer: poison and an SRAM error fault a core, with BUF_ECC_LOG holding the address (R105, R127); any other agent gets
the 8 bytes around the address. -/
def State.deliver (s : State) (g : Agent) (a : Nat) (d : List Byte) : State :=
  match g with
  | .core n =>
    let (e, s) := s.arrayUse (3 + n.val)
    if s.poisoned a 1 then ((s.eccLog (a / 64) true).loadFault g).send (.readData 0)
    else if e || s.workBad (a / 8 * 8) 8 then (s.loadFault g).send (.readData 0)
    else (s.cacheLine n (a / 128)).send (.readData (ofLe d))
  | _ => s.send (.readData (ofLe d))

/-- A read of the 8 bytes around an address. A core's read of a line that its data cache holds goes no further; its misses count (R166, R167). -/
def State.readAccess (s : State) (g : Agent) (a : Nat) : State :=
  let go := fun (s : State) =>
    let (d, s) := s.fetch g (a / 8 * 8) 8
    s.deliver g a d
  match g with
  | .core n =>
    if (Tbl.get s.eng.core {} n.val).dc.contains (a / 128) then s.deliver g a (s.rd (a / 8 * 8) 8)
    else go { s with eng := { s.eng with core := Tbl.upd s.eng.core {} n.val (fun c => { c with hpm4 := (c.hpm4 + 1) % 2 ^ 64 }) } }
  | _ => go s

/-- A write within one line: bytes from an address on, or a whole line. -/
def State.writeAccess (s : State) (g : Agent) (a : Nat) (d : List Byte) (whole : Bool) : State :=
  let at0 := if whole then a / 128 * 128 else a
  let d := if whole then (d ++ List.replicate 128 0).take 128 else d.take (128 - a % 128)
  match g with
  | .core n => s.asCore n.val (fun s => s.wrTagBy g at0 d none)
  | _ => s.wrTagBy g at0 d none

/-- Whether an access has to wait: behind an older one to its line (R110), for its channel's repair unless Bramble holds the line (R108), for
the initialisation of Work SRAM (R129), or, a miss, for room in the eviction buffer (R112). -/
def State.mustWait (s : State) (a : Nat) : Bool :=
  let la := a / 128
  s.buf.waiting.any (fun x => x.a / 128 == la)
    || (decide (dramBase ≤ a) && s.repairing a && !(s.brmOn && !s.absent la))
    || (inWork a 1 && s.initBusy 0)
    || (decide (dramBase ≤ a) && s.brmOn && (s.findLine la).isNone && s.buf.evq.length == 16
        && (firstFrom 16 (la % 4096 * 16) (fun n => !(Tbl.get s.buf.line {} n).valid)).isNone)

/-- A line is filled from DRAM into the main array (R104-R106), unless Bramble or a side structure holds it; with Bramble off it is only read. -/
def State.fillLine (s : State) (la : Nat) : State :=
  if !s.brmOn then ((s.decodeGranule (2 * la)).2.decodeGranule (2 * la + 1)).2
  else if !s.absent la then s
  else
    let (ce, s) := s.fill la
    s.allocLine la false ce

/-- The value an AMO writes. -/
def amoValue (op : AmoOp) (w old v : Nat) : Nat :=
  match op with
  | .lr => old
  | .sc => v
  | .swap => v
  | .add => (old + v) % 2 ^ w
  | .xor => old ^^^ v
  | .and => old &&& v
  | .or => old ||| v
  | .min => if signed w old ≤ signed w v then old else v
  | .max => if signed w old ≤ signed w v then v else old
  | .minu => min old v
  | .maxu => max old v

/-- A loaded value as a register holds it: a word is sign-extended (RV64). -/
def loaded (dword : Bool) (v : Nat) : Nat := if dword then v else unsigned 64 (signed 32 v)

/-- An LR, SC or AMO is performed (R168). A core's own write leaves its reservation to the operation: LR sets it, SC ends it, an AMO keeps it.
Data that is poisoned or uncorrectable faults the core (R105, R127). -/
def State.amoAccess (s : State) (g : Agent) (n a : Nat) (op : AmoOp) (dword : Bool) (rd v : Nat) : State :=
  let k := if dword then 8 else 4
  let val := v % 2 ^ (8 * k)
  let put := fun (s : State) (x : Nat) => s.asCore n (fun s => s.wrTagBy g a (leBytes k x) none)
  let hold := fun (s : State) (r : Option Nat) => s.setCore n { s.core n with resv := r }
  if op = .sc then
    if (s.core n).resv = some (a / 128) then (hold (put s val) none).setX n rd 0 else (hold s none).setX n rd 1
  else
    let (d, s) := s.fetch g a k
    if s.bad a k then
      let s := if s.poisoned a k then s.eccLog (a / 64) true else s
      if op = .lr then s.loadFault g else s.accFault g
    else if op = .lr then hold (s.setX n rd (loaded dword (ofLe d))) (some (a / 128))
    else (put s (amoValue op (8 * k) (ofLe d) val)).setX n rd (loaded dword (ofLe d))

/-- An access is performed: an LR, SC or AMO, a write, a read, or, of a whole line, a fill. -/
def State.perform (s : State) (x : Access) : State :=
  match x.amo, x.g, x.w with
  | some (op, dword, rd, v), .core n, _ => s.amoAccess x.g n x.a op dword rd v
  | _, _, none => if x.whole then s.fillLine (x.a / 128) else s.readAccess x.g x.a
  | _, _, some d => s.writeAccess x.g x.a d x.whole

/-- An access is performed or waits. -/
def State.access (s : State) (x : Access) : State :=
  if s.mustWait x.a then s.updBuf (fun b => { b with waiting := b.waiting ++ [x] }) else s.perform x

/-- The accesses that wait are tried again, in their order. -/
def State.retry (s : State) : State :=
  s.buf.waiting.foldl (fun u x => u.access x) (s.updBuf (fun b => { b with waiting := [] }))

/-- A resource command of a sequencer that names DRAM while DRAM is out of service: fault 0x5 (R136, R188). -/
def State.seqDramFault (s : State) (n : Nat) : State :=
  (s.setFs n [(.ENG_CS_STAT_STATE, 3), (.ENG_CS_STAT_FAULT, 5)] |>.setB .ENG_STATUS_FAULT_EV 0 true).event 0x5002 n 5 0

/-- Whether an agent is a core. -/
def isCore (g : Agent) : Bool :=
  match g with
  | .core _ => true
  | _ => false

/-- BRAMBLE_ACCESS: one access by an agent within one line of DRAM, a read of the 8 bytes around an address or a write. An access that has no
target, or meets the DRAM out of service, faults a core and a sequencer as R17, R136 and R188 give, and a core's read then returns 0; the debug
port needs LEVELS bit 3 (R343). A core's store is aligned to its size (R166), and PMP checks it (R169). -/
def execBrambleAccess (g : Agent) (a : Addr) (w : Option (List Byte)) (whole : Bool) (s : State) : Outcome :=
  .next (
    let a := a.toNat
    let k := (w.map List.length).getD 1
    if g = .debug ∧ !bit (s.f .SEC_BOOT_DBG_LV 0) 3 then s
    else if !s.b .BUF_STATUS_READY 0 ∨ !s.inDram a 1 then
      match g with
      | .seq n => s.seqDramFault n
      | _ => if w.isSome then s.accFault g else (s.loadFault g).send (.readData 0)
    else if !s.pmpOk g a k w.isSome.toNat then (if w.isSome then s.accFault g else (s.loadFault g).send (.readData 0))
    else if w.isSome ∧ !whole ∧ [2, 4, 8].contains k ∧ a % k ≠ 0 ∧ isCore g then s.misaligned g
    else s.access { g := g, a := a, w := w, whole := whole })

/-- DRAM_FILL (R104-R106): a line is read from DRAM; while its channel is being repaired, the fill waits (R108). -/
def execDramFill (a : Addr) (s : State) : Outcome :=
  .next (if s.b .BUF_STATUS_READY 0 && s.inDram a.toNat 1 then s.access { g := .link, a := a.toNat, w := none, whole := true } else s)

/-- PIP_PREFETCH (R111). -/
def execPipPrefetch (a : Addr) (s : State) : Outcome :=
  .next (if s.b .BUF_STATUS_READY 0 then s.prefetch (a.toNat / 128) else s)

/-! ### Post-package repair (R108, R109) -/

/-- POST_PACKAGE_REPAIR. -/
def execPostPackageRepair (bank : BitVec 4) (row : BitVec 18) (ch : Bool) (s : State) : Outcome :=
  .next (s.onBlk .buf 0 (fun s =>
    if s.b .BUF_PPR_BUSY 0 then s.cfgErrAt .buf .BUF_PPR_GO 0
    else (s.setFs 0 [(.BUF_PPR_BANK, bank.toNat), (.BUF_PPR_ROW, row.toNat), (.BUF_PPR_CH, ch.toNat), (.BUF_PPR_BUSY, 1)]).latch
      [.BUF_PPR_BANK, .BUF_PPR_ROW, .BUF_PPR_CH]))

/-- A granule of the repaired row is written back as the copy held it: an error that the code corrects is gone, with what a miscorrection
delivers; any other stays (R108). -/
def State.granuleBack (s : State) (gr : Nat) : State :=
  let la := gr / 2
  let m := Tbl.get s.buf.err 0 gr
  if errKind m ≠ 1 then s else
  let x := s.dramSnap la
  let o := gr % 2 * 64
  let y : Snap := if errWrong m then { x with data := patch x.data o (miscorrected m ((x.data.drop o).take 64)) } else x
  (s.updBuf (fun b => { b with err := Tbl.set b.err 0 gr 0 })).putDram la y

/-- The row of a repair is written back from the holding buffer (R108, R109): the 15 lines of the chunk that the row holds (log entry 100). -/
def State.rowBack (s : State) : State :=
  let i := Config.rowChunk (s.opnd .BUF_PPR_BANK) (s.opnd .BUF_PPR_ROW)
  (List.range 15).foldl (fun u p =>
    let la := lineAt (u.opnd .BUF_PPR_CH) i p
    if u.inDram (la * 128) 128 then (u.granuleBack (2 * la)).granuleBack (2 * la + 1) else u) s

/-- A repair ends with a result: the row is back, and what waited for the channel goes on. -/
def State.repairEnd (s : State) (r : Nat) : State :=
  ((s.rowBack.setFs 0 [(.BUF_PPR_BUSY, 0), (.BUF_PPR_RESULT, r)]).event 0x3006 r 0 0).retry

/-- REPAIR_END: DONE, or DRAM_REFUSED. -/
def execRepairEnd (good : Bool) (s : State) : Outcome :=
  .next (if s.b .BUF_PPR_BUSY 0 then s.repairEnd (if good then 1 else 2) else s)

/-! ### Evictions (R112, R113, R117) -/

/-- EVICTION_ACCEPT (R112): the controller accepts the oldest queued eviction while its write queue of 64 has room (R113). -/
def acceptFirst : List Evict → List Evict
  | [] => []
  | e :: r => if e.issued then e :: acceptFirst r else { e with issued := true } :: r

def execEvictionAccept (s : State) : Outcome :=
  .next (if s.wqLevel < 64 then s.setEvq (acceptFirst s.buf.evq) else s)

/-- EVICTION_DONE (R112, R117): the oldest issued eviction's write ends, and a miss that waited for room goes on. -/
def execEvictionDone (s : State) : Outcome :=
  .next (if s.buf.evq.head?.any (fun e => e.issued) then s.evictionDone.retry else s)

/-! ### Maintenance (R119-R122, R124) -/

/-- A dirty line of the main array is written to DRAM, behind the writes of the line that the controller has accepted (R107), and stays, clean. -/
def State.cleanWay (s : State) (n : Nat) : State :=
  let l := Tbl.get s.buf.line {} n
  if l.valid && l.dirty then
    let s := (s.evictNow l.addr).readLine n
    ((s.dramWrite l.addr (s.snap l.addr)).enqueue).setLine n { l with dirty := false, ceSeen := false }
  else s

/-- A line of the main array is discarded; what the eviction buffer or DRAM holds becomes the newest copy. -/
def State.dropWay (s : State) (n : Nat) : State :=
  let l := Tbl.get s.buf.line {} n
  if !l.valid then s else
  let s := s.setLine n {}
  match (s.buf.evq.filter (fun e => e.addr == l.addr)).getLast? with
  | some e => s.restoreSnap l.addr e.snap
  | none => s.dropCopy l.addr

/-- One line of a maintenance operation in address mode: 1 clean, 2 invalidate, 3 both. -/
def State.cmoAddr (s : State) (op la : Nat) : State :=
  let s := if op = 1 ∨ op = 3 then
      let s := s.evictNow la
      match s.findLine la with
      | some n => s.cleanWay n
      | none => s
    else s
  if op = 1 then s
  else
    let s := s.setEvq (s.buf.evq.filter (fun e => !(e.addr == la && !e.issued)))
    let s := ((s.evictNow la).dropPip la).dropRind la
    match s.findLine la with
    | some n => s.dropWay n
    | none => s.dropCopy la

/-- One line in set-and-way mode. -/
def State.cmoWay (s : State) (op n : Nat) : State :=
  let s := if op = 1 ∨ op = 3 then s.cleanWay n else s
  if op = 1 then s else s.dropWay n

/-- A maintenance GO: the lines are worked on at once, and BUSY reads 1 until MAINTENANCE_END (R120; log entry 20). -/
def State.maintain (s : State) (op count : Nat) (setWay : Bool) : State :=
  s.onBlk .buf 0 (fun s =>
    let line := s.f .BUF_CMO_LINE_LINE 0
    let la := s.f .BUF_CMO_ADDR_LO_ADDR_LO 0 + s.f .BUF_CMO_ADDR_HI_ADDR_HI 0 * 2 ^ 25
    if s.b .BUF_CMO_CTRL_BUSY 0 ∨ count = 0 ∨ 65536 < count ∨ (setWay ∧ 65536 < line + count)
        ∨ s.b .BUF_BRM_CTRL_DISABLE_PENDING 0 then s.cfgErrAt .buf .BUF_CMO_CTRL_GO 0
    else
      let s := s.setFs 0 [(.BUF_CMO_CTRL_COUNT, count), (.BUF_CMO_CTRL_OP, op), (.BUF_CMO_CTRL_MODE, setWay.toNat),
        (.BUF_CMO_CTRL_BUSY, 1)]
      if !s.brmOn then s
      else if setWay then (List.range count).foldl (fun u i => u.cmoWay op (line + i)) s
      else (List.range count).foldl (fun u i => u.cmoAddr op (la + i)) s)

/-- CLEAN. -/
def execClean (count : BitVec 17) (setWay : Bool) (s : State) : Outcome := .next (s.maintain 1 count.toNat setWay)

/-- INVALIDATE. -/
def execInvalidate (count : BitVec 17) (setWay : Bool) (s : State) : Outcome := .next (s.maintain 2 count.toNat setWay)

/-- CLEAN_AND_INVALIDATE. -/
def execCleanAndInvalidate (count : BitVec 17) (setWay : Bool) (s : State) : Outcome := .next (s.maintain 3 count.toNat setWay)

/-- MAINTENANCE_END (R120). -/
def execMaintenanceEnd (s : State) : Outcome := .next (s.setB .BUF_CMO_CTRL_BUSY 0 false)

/-! ### Disabling and enabling (R123-R125) -/

/-- BRAMBLE_DISABLE: the walk starts. -/
def execBrambleDisable (s : State) : Outcome :=
  .next (s.onBlk .buf 0 (fun s =>
    if s.b .BUF_BRM_CTRL_EN 0 && !s.b .BUF_BRM_CTRL_DISABLE_PENDING 0 then
      (s.updBuf (fun b => { b with walk := 0 })).setB .BUF_BRM_CTRL_DISABLE_PENDING 0 true
    else s))

/-- The walk passes one set: its dirty lines are written and stay clean, to be discarded with all others at its end (R123). -/
def State.walkSet (s : State) : State :=
  if s.b .BUF_BRM_CTRL_DISABLE_PENDING 0 && decide (s.buf.walk < 4096) then
    ((List.range 16).foldl (fun u i => u.cleanWay (s.buf.walk * 16 + i)) s).updBuf (fun b => { b with walk := b.walk + 1 })
  else s

/-- DISABLE_WALK_END: every dirty line and eviction is in DRAM, and Bramble holds nothing; event 0x3008. -/
def execDisableWalkEnd (s : State) : Outcome :=
  .next (
    if !s.b .BUF_BRM_CTRL_DISABLE_PENDING 0 then s else
    let s := (s.buf.evq.map (fun e => e.addr)).foldl (fun u la => u.evictNow la) s
    let s := (s.buf.line.map Prod.fst).foldl (fun u n => u.cleanWay n) s
    let s := s.updBuf (fun b => { b with line := [], mru := [], pip := [], rind := [], evq := [], stream := [], walk := 0 })
    let s := (s.buf.dram.map Prod.fst).foldl (fun u la => u.dropCopy la) s
    (s.setFs 0 [(.BUF_BRM_CTRL_EN, 0), (.BUF_BRM_CTRL_DISABLE_PENDING, 0), (.BUF_BRM_STAT_DIRTY, 0), (.BUF_BRM_STAT_EVQ, 0)]).event
      0x3008 0 0 0)

/-- BRAMBLE_ENABLE: every line starts invalid. -/
def execBrambleEnable (s : State) : Outcome :=
  .next (s.onBlk .buf 0 (fun s =>
    if s.b .BUF_BRM_CTRL_DISABLE_PENDING 0 then s.cfgErrAt .buf .BUF_BRM_CTRL_EN 0
    else if s.b .BUF_BRM_CTRL_EN 0 then s
    else
      (s.updBuf (fun b => { b with line := [], mru := [], pip := [], rind := [], evq := [], stream := [] })).setFs 0
        [(.BUF_BRM_CTRL_EN, 1), (.BUF_BRM_STAT_DIRTY, 0), (.BUF_BRM_STAT_EVQ, 0)]))

/-! ### On-chip SRAM (R126-R132) -/

/-- The array identifiers of R126. -/
def arrayId (a : Nat) : Bool := decide (a ≤ 0x12) || a == 0x20

/-- The ARRAY fields take these identifiers, 0x20 in BUF_FLIP_CTRL alone; any other sets CFG_ERR and is not stored (R126). -/
def State.setArray (s : State) (x : Fld) (v : Nat) : State :=
  if (if x = .BUF_FLIP_CTRL_ARRAY then arrayId v else decide (v ≤ 0x12)) then s.setF x 0 v else s.cfgErrAt .buf x 0

/-- SRAM_INIT (R129). -/
def execSramInit (array : Byte) (s : State) : Outcome :=
  .next (s.onBlk .buf 0 (fun s =>
    if s.b .BUF_SRAM_INIT_BUSY 0 ∨ !(array = 0 ∨ array = 0x0D ∨ array = 0x0E) then s.cfgErrAt .buf .BUF_SRAM_INIT_GO 0
    else (s.setFs 0 [(.BUF_SRAM_INIT_ARRAY, array.toNat), (.BUF_SRAM_INIT_BUSY, 1)]).latch [.BUF_SRAM_INIT_ARRAY]))

/-- SRAM_INIT_END: every word of the array is zero with a valid code. -/
def execSramInitEnd (s : State) : Outcome :=
  .next (
    if !s.b .BUF_SRAM_INIT_BUSY 0 then s else
    let a := s.opnd .BUF_SRAM_INIT_ARRAY
    let s := (s.setB .BUF_SRAM_INIT_BUSY 0 false).updBuf (fun b => { b with
      sramErr := b.sramErr.filter (fun e => e.1 / 2 ^ 24 != a) })
    if a = 0 then
      (({ s with mem := s.mem.filter (fun c => !(decide (workBase ≤ c.1) && decide (c.1 < workBase + workSize))) }).coresSee workBase workSize).retry
    else
      { s with eng := { s.eng with qe := (s.eng.qe.map (fun e =>
          (e.1, if a = 0x0D then { e.2 with coef := [] } else { e.2 with st := [] }))).filter (fun e => decide (e.2 ≠ {})) } })

/-- SPARE_ROW (R132). -/
def execSpareRow (array : Byte) (row : BitVec 16) (perm : Bool) (s : State) : Outcome :=
  .next (s.onBlk .buf 0 (fun s =>
    if s.b .BUF_SPARE_BUSY 0 ∨ 0x12 < array.toNat then s.cfgErrAt .buf .BUF_SPARE_GO 0
    else (s.setFs 0 [(.BUF_SPARE_ARRAY, array.toNat), (.BUF_SPARE_ROW, row.toNat), (.BUF_SPARE_PERM, perm.toNat), (.BUF_SPARE_BUSY, 1)]).latch
      [.BUF_SPARE_ARRAY, .BUF_SPARE_ROW, .BUF_SPARE_PERM]))

/-- The words of a row are copied, a word that ECC can correct being corrected (R132). -/
def State.rowCopy (s : State) (a row : Nat) : State :=
  s.updBuf (fun b => { b with sramErr := b.sramErr.filter (fun e =>
    !(e.1 / 2 ^ 24 == a && Config.wordRow a (e.1 % 2 ^ 24) == row && popcount 72 e.2 == 1)) })

/-- SPARE_ROW_END (R132): 1 DONE, 2 NO_SPARE, 3 FUSES_FULL. Each 256 KiB of an array has four spares (R130); which of them a row lies in, and
which words, is not given (log entry 21). -/
def execSpareRowEnd (s : State) : Outcome :=
  .next (
    if !s.b .BUF_SPARE_BUSY 0 then s else
    let a := s.opnd .BUF_SPARE_ARRAY
    let row := s.opnd .BUF_SPARE_ROW
    let perm := s.opnd .BUF_SPARE_PERM == 1
    let s := s.setB .BUF_SPARE_BUSY 0 false
    let k := spareKey (a, row)
    let used := Tbl.get s.buf.spares 0 k
    if 4 ≤ used then (s.setF .BUF_SPARE_STAT_RESULT 0 2).event 0x3007 2 0 0
    else
      let s := ((s.rowCopy a row).updBuf (fun b => { b with spares := Tbl.set b.spares 0 k (used + 1), soft := b.soft ++ [(a, row)] })).setF
        .BUF_SPARE_STAT_SOFT 0 (min 255 (s.f .BUF_SPARE_STAT_SOFT 0 + 1))
      let r := if perm && decide (128 ≤ s.buf.fuseMap.length) then 3 else 1
      let s := if perm && r == 1 then
          (s.updBuf (fun b => { b with fuseMap := b.fuseMap ++ [(a, row)] })).setF .BUF_SPARE_STAT_FUSED 0 (s.buf.fuseMap.length + 1)
        else s
      (s.setF .BUF_SPARE_STAT_RESULT 0 r).event 0x3007 r 0 0)

/-- FLIP_ARM (R131). -/
def execFlipArm (array check : Byte) (s : State) : Outcome :=
  .next (s.onBlk .buf 0 (fun s =>
    if !arrayId array.toNat then s.cfgErrAt .buf .BUF_FLIP_CTRL_ARM 0
    else s.setFs 0 [(.BUF_FLIP_CTRL_ARRAY, array.toNat), (.BUF_FLIP_CTRL_CHECK, check.toNat), (.BUF_FLIP_CTRL_ARM, 1)]))

end Sys2Proof.Machine
end

