-- ==== Sys2Proof/Machine/Operands.lean ====
section
/-!
DEFINITION. Machine/Operands.lean: the operands a descriptor carries in its 16 words, and the fields of a physical media
address, as R196, R197 and R460 lay them out.
-/
namespace Sys2Proof.Machine

/-! ### Descriptors (R196, R197, R460) -/

/-- Word i of a descriptor. -/
def dw (w : List Nat) (i : Nat) : Nat := w.getD i 0
def dOpc (w : List Nat) : Nat := dw w 0 % 256
def dFlags (w : List Nat) : Nat := dw w 0 / 2 ^ 8 % 256
def dTag (w : List Nat) : Nat := dw w 0 / 2 ^ 16
def dUnit (w : List Nat) : Nat := dw w 2 % 256
def dCount (w : List Nat) : Nat := dw w 3
def dPma (w : List Nat) : Nat := dw w 4 + 2 ^ 32 * dw w 5
def dAddr (w : List Nat) : Nat := (dw w 6 + 2 ^ 32 * dw w 7) % 2 ^ 48
/-- ARGS bytes 32-39. -/
def dArg (w : List Nat) : Nat := dw w 8 + 2 ^ 32 * dw w 9
/-- ARGS byte 32. -/
def dArg0 (w : List Nat) : Nat := dw w 8 % 256
def dFirst (w : List Nat) : Bool := bit (dFlags w) 0
def dLast (w : List Nat) : Bool := bit (dFlags w) 1
def dTagged (w : List Nat) : Bool := bit (dFlags w) 2
def dIrq (w : List Nat) : Bool := bit (dFlags w) 3
def dFence (w : List Nat) : Bool := bit (dFlags w) 4

/-- Fields of a PMA (R460). -/
def pmaHead (p : Nat) : Nat := p % 32
def pmaSector (p : Nat) : Nat := p / 2 ^ 16 % 2 ^ 16
def pmaTrack (p : Nat) : Nat := p / 2 ^ 32 % 2 ^ 24
def pmaReserved (p : Nat) : Bool := p / 2 ^ 5 % 2 ^ 11 != 0 || p / 2 ^ 56 % 256 != 0

/-- The assigned opcodes (R197, R294, R419). -/
def assigned : List Nat :=
  [0x01, 0x02, 0x03, 0x04, 0x10, 0x11, 0x12, 0x13, 0x14, 0x21, 0x22, 0x23, 0x24, 0x30, 0x31, 0x32, 0x33, 0x34, 0x40, 0x41,
   0x42, 0x43, 0x50]

/-- The opcodes with a PMA, an ADDR and a COUNT (R197). -/
def hasPma (o : Nat) : Bool := [0x01, 0x02, 0x03, 0x04, 0x10, 0x11, 0x12, 0x21].contains o
def hasAddr (w : List Nat) : Bool := [0x01, 0x02, 0x04, 0x23].contains (dOpc w) || (dOpc w == 0x21 && dArg w == 0)
def hasCount (o : Nat) : Bool := [0x01, 0x02, 0x03, 0x04, 0x11, 0x21, 0x22, 0x23].contains o

/-- The target queue of a descriptor: 15 is the map-log port (R209). -/
def dTarget (w : List Nat) : Nat :=
  match dOpc w / 16 with
  | 0 => dUnit w
  | 1 => 8 + dUnit w
  | 2 => 12
  | 3 => 13
  | 4 => 14
  | _ => 15

/-- How many descriptors a target's queue holds (R209). -/
def queueLimit (tgt : Nat) : Nat := if tgt ≤ 12 then 8 else 4

/-- LOG, TIER, SAVE and RESTORE are not withdrawn once dispatched (R213). -/
def steadfast (w : List Nat) : Bool := [0x24, 0x50, 0x32, 0x41, 0x42].contains (dOpc w)

end Sys2Proof.Machine
end

