-- ==== Sys2Proof/Machine/Rings.lean ====
section
/-!
DEFINITION. Machine/Rings.lean: what the rows of rings and sequencers share: sequencers and spares (R176, R187-R193),
chains (R196-R202), completion and the head (R206, R207, R217), hand-over to a target (R209, R176).
-/
namespace Sys2Proof.Machine

/-! ### Sequencers (R176, R187, R188, R192) -/

def State.cs (s : State) (n : Nat) : Seq := Tbl.get s.eng.seq {} n
def State.setCs (s : State) (n : Nat) (x : Seq) : State := s.updEng (fun e => { e with seq := Tbl.set e.seq {} n x })
def State.updCs (s : State) (n : Nat) (g : Seq → Seq) : State := s.setCs n (g (s.cs n))

/-- CSn is fused off (R195). -/
def State.csFused (s : State) (n : Nat) : Bool :=
  if n < 32 then bit (s.f .ENG_FUSED_LO_CS_LO 0) n else bit (s.f .ENG_FUSED_HI_CS_HI 0) (n - 32)

/-- RUNNING or WAITING. -/
def State.csRuns (s : State) (n : Nat) : Bool := s.f .ENG_CS_STAT_STATE n == 1 || s.f .ENG_CS_STAT_STATE n == 2

/-- STOPPED or FAULT. -/
def State.csStill (s : State) (n : Nat) : Bool := !s.csRuns n

/-- The class of CS0-CS41 by number (R176). -/
def baseClass (n : Nat) : Nat := if n < 16 then 0 else if n < 24 then 1 else if n < 32 then 2 else if n < 36 then 3 else if n < 40 then 4 else 5

/-- The class a sequencer belongs to: a spare's while it is bound (R192). -/
def State.csClass (s : State) (n : Nat) : Option Nat :=
  if n < 42 then some (baseClass n)
  else if s.b .ENG_SPARE_CS_BIND (n - 42) then some (s.f .ENG_SPARE_CS_CLASS (n - 42)) else none

/-- The sequencer whose connections a sequencer has: its own, unless a spare has them; a spare's, those of the one it
replaces; 0x3F for a further member of a pool (R192). -/
def State.csAs (s : State) (n : Nat) : Option Nat :=
  if n < 42 then (if s.b .ENG_CS_STAT_BOUND n then none else some n)
  else if s.b .ENG_SPARE_CS_BIND (n - 42) then some (s.f .ENG_SPARE_CS_REPLACES (n - 42)) else none

/-- The target queue a sequencer takes items from: 0-7 lanes, 8-11 actuators, 12 band copy pool, 13 CS40, 14 CS41 (R176). -/
def State.csTarget (s : State) (n : Nat) : Option Nat :=
  match s.csClass n, s.csAs n with
  | some 0, some m => some (m / 2)
  | some 3, some m => some (m - 24)
  | some 4, some _ => some 12
  | some 5, some m => some (m - 27)
  | _, _ => none

/-- The sequencers of a target, in order of number. -/
def State.seqsOf (s : State) (tgt : Nat) : List Nat := (List.range 44).filter (fun n => s.csTarget n == some tgt)

/-- A sequencer fault: it stops, FAULT_EV is set and event 0x5002 carries number and code (R188). -/
def State.csFault (s : State) (n code : Nat) : State :=
  (((s.updCs n (fun q => { q with killReq := false })).setFs n [(.ENG_CS_STAT_STATE, 3), (.ENG_CS_STAT_FAULT, code)]).setB
    .ENG_STATUS_FAULT_EV 0 true).event 0x5002 n code 0

/-- A scratch register of a sequencer. -/
def State.sreg (s : State) (n r : Nat) : Nat := Tbl.get (s.cs n).s 0 r
def State.setSreg (s : State) (n r v : Nat) : State := s.updCs n (fun q => { q with s := Tbl.set q.s 0 r (v % 2 ^ 32) })

/-- The 48-bit core address in Sk, Sk + 1 (R182). -/
def State.spair (s : State) (n k : Nat) : Nat := s.sreg n k + s.sreg n (k + 1) % 2 ^ 16 * 2 ^ 32

/-- A done condition of the class (R183). -/
def State.doneC (s : State) (n c : Nat) : Bool := Tbl.get (s.cs n).done false c
def State.setDone (s : State) (n c : Nat) (v : Bool) : State := s.updCs n (fun q => { q with done := Tbl.set q.done false c v })

/-! ### Rings -/

def State.updMwr (s : State) (g : Mwr → Mwr) : State := { s with mwr := g s.mwr }
def State.ring (s : State) (r : Nat) : RingSt := Tbl.get s.mwr.ring {} r
def State.setRing (s : State) (r : Nat) (x : RingSt) : State := s.updMwr (fun m => { m with ring := Tbl.set m.ring {} r x })
def State.ringSize (s : State) (r : Nat) : Nat := 2 ^ s.f .MWR_RING_CFG_LOG2 r
def State.ringBase (s : State) (r : Nat) : Nat := s.f .MWR_RING_BASE_LO_BASE_LO r * 64 + s.f .MWR_RING_BASE_HI_BASE_HI r * 2 ^ 32
def State.ringState (s : State) (r : Nat) : Nat := s.f .MWR_RING_STAT_STATE r
def State.ringHead (s : State) (r : Nat) : Nat := s.f .MWR_RING_PTR_HEAD r
def State.ringTail (s : State) (r : Nat) : Nat := s.f .MWR_RING_PTR_TAIL r
def State.ringFetch (s : State) (r : Nat) : Nat := s.f .MWR_RING_FETCH_FETCH r

/-- The 16 words of entry i, as they stand. -/
def State.entryWords (s : State) (r i : Nat) : List Nat := (List.range 16).map (fun k => s.rdN (s.ringBase r + 64 * i + 4 * k) 4)

/-- A ring sequencer reads entries, in order: index, words, and whether what was read is uncorrectable or poisoned (R199, R210). -/
def State.readEntries (s : State) (r : Nat) : List Nat → List (Nat × List Nat × Bool) × State
  | [] => ([], s)
  | i :: l =>
    let a := s.ringBase r + 64 * i
    let (d, s) := s.fetch .link a 64
    let (x, t) := s.readEntries r l
    ((i, (List.range 16).map (fun k => leAt d (4 * k) 4), s.bad a 64) :: x, t)

def State.hwBase (s : State) : Nat := s.f .MWR_HW_LO_BASE_LO 0 * 2 ^ 12 + s.f .MWR_HW_HI_BASE_HI 0 * 2 ^ 32

/-- The head word (R206). -/
def State.headWord (s : State) (r : Nat) : Nat :=
  s.ringHead r + 2 ^ 16 * s.ringState r + 2 ^ 20 * ((s.ring r).lap % 4096)

def State.publishHead (s : State) (r : Nat) : State := s.wrN (s.hwBase + 4 * r) 4 (s.headWord r)

/-- A ring changes state: EN, RINGS_ON, COMPACT and its ERR_PEND bit follow, and the head word is written (R206, R207, R211, R461). -/
def State.setRingState (s : State) (r st : Nat) : State :=
  let was := s.ringState r
  let on := s.f .MWR_STATUS_RINGS_ON 0 + (was == 0 && st != 0).toNat - (was != 0 && st == 0).toNat
  let s := s.setFs r [(.MWR_RING_STAT_STATE, st), (.MWR_RING_CTRL_EN, (st == 1 || st == 2 || st == 3).toNat)]
  let s := s.setFs 0 [(.MWR_STATUS_RINGS_ON, on), (.MWR_STATUS_COMPACT, (decide (on ≤ 64)).toNat)]
  let s := s.setF .MWR_ERR_PEND_ERR (r / 32) (setBit (s.f .MWR_ERR_PEND_ERR (r / 32)) (r % 32) (st == 2 || st == 3))
  s.publishHead r

/-- The chains in progress change. -/
def State.setChains (s : State) (r : Nat) (l : List Chain) : State :=
  (s.setRing r { s.ring r with chains := l }).setFs r [(.MWR_RING_STAT_INPROG, l.length), (.MWR_RING_STAT_IDLE, l.isEmpty.toNat)]

/-- An entry completes: bytes 4-7 in one write (R206), and it waits for HEAD to pass. -/
def State.entryDone (s : State) (r i : Nat) (irq : Bool) (code detail units : Nat) : State :=
  let s := s.wrN (s.ringBase r + 64 * i + 4) 4 (code % 256 + 2 ^ 8 * (detail % 256) + 2 ^ 16 * (units % 65536))
  s.setRing r { s.ring r with fin := Tbl.set (s.ring r).fin 0 i (if irq then 2 else 1) }

/-- HEAD passes every consecutive completed entry; an IRQ entry sets the ring's PEND bit (R206, R207). -/
def State.headPass (s : State) (r fuel : Nat) : State :=
  match fuel with
  | 0 => s
  | k + 1 =>
    let h := s.ringHead r
    let v := Tbl.get (s.ring r).fin 0 h
    if v = 0 then s else
    let x := s.ring r
    let h' := if h + 1 < s.ringSize r then h + 1 else 0
    let s := s.setRing r { x with fin := Tbl.set x.fin 0 h 0, lap := if h' = 0 then (x.lap + 1) % 4096 else x.lap }
    let s := s.setF .MWR_RING_PTR_HEAD r h'
    let s := if v = 2 then s.setF .MWR_IRQ_PEND_PEND (r / 32) (setBit (s.f .MWR_IRQ_PEND_PEND (r / 32)) (r % 32) true) else s
    s.headPass r k

/-- HEAD advances and the head word is written, when the entry at HEAD has completed. -/
def State.headAdvance (s : State) (r : Nat) : State :=
  if Tbl.get (s.ring r).fin 0 (s.ringHead r) = 0 then s
  else (s.headPass r ((s.ring r).fin.length)).publishHead r

/-- The fetch index passes entries already completed, as a withdrawal leaves them. -/
def State.fetchSkip (s : State) (r fuel : Nat) : State :=
  match fuel with
  | 0 => s
  | k + 1 =>
    let f := s.ringFetch r
    if f ≠ s.ringTail r ∧ Tbl.get (s.ring r).fin 0 f ≠ 0 then
      (s.setF .MWR_RING_FETCH_FETCH r ((f + 1) % s.ringSize r)).fetchSkip r k
    else s

/-- The chain in progress that holds entry i, not completed. -/
def State.chainOf (s : State) (r i : Nat) : Option Chain :=
  (s.ring r).chains.find? (fun c => c.descs.any (fun d => d.idx == i && d.st != .done))

/-- The descriptor in progress at entry i. -/
def State.descOf (s : State) (r i : Nat) : Option Desc :=
  (s.chainOf r i).bind (fun c => c.descs.find? (fun d => d.idx == i))

/-- A change of the state of one descriptor in progress. -/
def State.setDesc (s : State) (r i : Nat) (st : DStat) : State :=
  s.setRing r { s.ring r with chains := (s.ring r).chains.map (fun c =>
    { c with descs := c.descs.map (fun d => if d.idx = i then { d with st := st } else d) }) }

/-- What names a chain in progress: its ring and the index of its first descriptor. -/
def chainKey (r : Nat) (c : Chain) : Nat := r * 65536 + (c.descs.head?.map (·.idx)).getD 0

def Chain.ended (c : Chain) : Bool := !c.descs.any (fun d => d.st != .done)

/-- Chains whose descriptors have all completed leave; what their LOG OPENs returned is forgotten. -/
def State.sweep (s : State) (r : Nat) : State :=
  let gone := (s.ring r).chains.filter Chain.ended
  gone.foldl (fun u c => u.forgetChain (chainKey r c)) (s.setChains r ((s.ring r).chains.filter (fun c => !c.ended)))

/-- A descriptor completes with its code; a code other than OK and RECOVERED_WITH_REPLAY breaks its chain, whose later
descriptors complete CHAIN_SKIPPED; HEAD follows (R200, R206). -/
def State.descDone (s : State) (r i code detail units : Nat) : State :=
  match s.chainOf r i with
  | none => s
  | some c =>
    let rest := (c.descs.dropWhile (fun d => d.idx != i)).filter (fun d => d.st != .done)
    let bad := code != 0 && code != 4
    let s := rest.take 1 |>.foldl (fun u d => (u.entryDone r i (dIrq d.words) code detail units).setDesc r i .done) s
    let s := if bad then (rest.drop 1).foldl (fun u d => (u.entryDone r d.idx (dIrq d.words) 9 0 0).setDesc r d.idx .done) s else s
    (s.sweep r).headAdvance r

/-- The queue of a target. -/
def State.tq (s : State) (tgt : Nat) : List (Nat × Nat) := Tbl.get s.mwr.queue [] tgt
def State.setTq (s : State) (tgt : Nat) (q : List (Nat × Nat)) : State := s.updMwr (fun m => { m with queue := Tbl.set m.queue [] tgt q })

/-- A descriptor leaves the queue it waits in. -/
def State.unqueue (s : State) (r i : Nat) : State :=
  s.updMwr (fun m => { m with queue := (m.queue.map (fun e => (e.1, e.2.filter (fun x => x != (r, i))))).filter (fun e => !e.2.isEmpty) })

/-! ### Items (R176, R199, R209) -/

/-- A sequencer takes a descriptor into its item buffer. -/
def State.takeDesc (s : State) (n r i : Nat) (w : List Nat) : State :=
  ((s.setDesc r i .taken).updCs n (fun q => { q with item := some { words := w, src := .ring r i }, abortReq := false, prev := none, detail := 0 })).setB
    .ENG_CS_STAT_HELD n true

/-- A sequencer of a target that runs and holds no item. Of a lane's two, the one whose turn it is goes first (R176). -/
def State.freeSeq (s : State) (tgt : Nat) : Option Nat :=
  let l := (s.seqsOf tgt).filter (fun n => s.csRuns n && (s.cs n).item.isNone)
  if tgt < 8 then
    let odd := !Tbl.get s.mwr.turn false tgt
    match l.find? (fun n => (((s.csAs n).getD 0) % 2 == 1) == odd) with
    | some n => some n
    | none => l.head?
  else l.head?

/-- A lane accepts items while its EN is 1 (R246). -/
def State.accepts (s : State) (tgt : Nat) : Bool := if tgt < 8 then s.b .CHN_CTRL_EN tgt else true

/-- The oldest descriptor of a target's queue goes to a sequencer that is free (log entry 22). -/
def State.handOver (s : State) (tgt : Nat) : State :=
  if !s.accepts tgt then s else
  match s.tq tgt, s.freeSeq tgt with
  | (r, i) :: q, some n =>
    match s.descOf r i with
    | some d =>
      let s := (s.setTq tgt q).takeDesc n r i d.words
      if tgt < 8 then s.updMwr (fun m => { m with turn := Tbl.set m.turn false tgt (((s.csAs n).getD 0) % 2 == 1) }) else s
    | none => s.setTq tgt q
  | _, _ => s

/-! ### Lanes that stop (R22, R226, R247) -/

def State.updChn (s : State) (g : Chn → Chn) : State := { s with chn := g s.chn }
def State.lane (s : State) (l : Nat) : LaneSt := Tbl.get s.chn.lane {} l
def State.setLane (s : State) (l : Nat) (x : LaneSt) : State := s.updChn (fun c => { c with lane := Tbl.set c.lane {} l x })
def State.updLane (s : State) (l : Nat) (g : LaneSt → LaneSt) : State := s.setLane l (g (s.lane l))

/-- No lane is armed: the boundary of the zone-table group (R226). -/
def State.noneArmed (s : State) : Bool := (List.range 8).all (fun l => !s.b .CHN_STATUS_ARMED l)

/-- The zone-table group takes force; each lane then has to select its zone again (R226). -/
def State.ztApply (s : State) : State :=
  let s := (s.applyAll [.CHN_ZT_BANK_SEL, .CHN_ZT_TIER] 0).setB .CHN_ZT_COMMIT_PEND 0 false
  let s := s.setFs 0 [(.CHN_ZT_ACTIVE, s.g .CHN_ZT_BANK_SEL 0), (.CHN_ZT_TIER_NOW, s.g .CHN_ZT_TIER 0)]
  (List.range 8).foldl (fun u l => (u.updLane l (fun x => { x with zone := [], adapting := false })).setB .CHN_ZONE_VALID l false) s

/-- A committed zone-table group meets its boundary. -/
def State.ztBoundary (s : State) : State := if s.b .CHN_ZT_COMMIT_PEND 0 && s.noneArmed then s.ztApply else s

/-- The CHN_SYNC group takes force. -/
def State.syncApply (s : State) (l : Nat) : State :=
  (s.applyAll [.CHN_SYNC_SYNC_WIN, .CHN_SYNC_RSYNC_WIN, .CHN_SYNC_SM_TOL] l).setB .CHN_SYNC_COMMIT_PEND l false

/-- A lane is stopped: EN reads 0, no item is held, begun or not, and it is not armed (R226). -/
def State.laneStopped (s : State) (l : Nat) : Bool :=
  !s.b .CHN_CTRL_EN l && (s.lane l).op.isNone && !s.b .CHN_STATUS_ARMED l && (s.seqsOf l).all (fun n => (s.cs n).item.isNone)

/-- What a stop takes into force: a pending CHN_SYNC group of the lane (R22), and the zone-table group at its boundary. -/
def State.laneStop0 (s : State) (l : Nat) : State :=
  (if s.laneStopped l && s.b .CHN_SYNC_COMMIT_PEND l then s.syncApply l else s).ztBoundary

/-- A lane's sequencer has let go of its item: the lane may have stopped. -/
def State.laneFreed (s : State) (n : Nat) : State :=
  match s.csTarget n with
  | some t => if t < 8 then s.laneStop0 t else s
  | none => s

/-- The item of a ring that a sequencer holds: its words, ring and index. -/
def State.ringItem (s : State) (n : Nat) : Option (List Nat × Nat × Nat) :=
  match (s.cs n).item with
  | some { words := w, src := .ring r i } => some (w, r, i)
  | _ => none

/-- A sequencer lets go of its item. -/
def State.dropItem (s : State) (n : Nat) : State :=
  let p := (s.ringItem n).map Prod.snd
  ((s.updCs n (fun q => { q with item := none, abortReq := false, prev := p })).setB .ENG_CS_STAT_HELD n false).laneFreed n

/-- RESULT_BACK becomes true at the sequencer that serves a ring (R183). -/
def State.resultBack (s : State) (r : Nat) : State :=
  match (List.range 44).find? (fun n => s.csClass n == some 1 && s.csAs n == some (16 + r % 8)) with
  | some n => s.setDone n 0x43 true
  | none => s

/-- A ring completion that names a tag gone stale (R81): it is counted, and has no effect on the slot's holder; the descriptor's completion
stands (R202; log entry 111). -/
def State.ringStale (s : State) (w : List Nat) : State := if dTagged w && !s.tagLive (dTag w) then s.stale else s

/-- A sequencer completes the ring item it holds (R183 POST, R199). -/
def State.post (s : State) (n code detail units : Nat) : State :=
  (s.ringItem n).elim s (fun e => (((s.dropItem n).descDone e.2.1 e.2.2 code detail units).ringStale e.1).resultBack e.2.1)

/-- The sequencer of a target that holds a ring item of one of these opcodes; a waiting one is handed over first. -/
def State.heldBy (s : State) (tgt : Nat) (opcs : List Nat) : Option (Nat × List Nat) :=
  (s.seqsOf tgt).findSome? (fun n => (s.ringItem n).bind (fun e => if opcs.contains (dOpc e.1) && s.csRuns n then some (n, e.1) else none))

/-- A step of the item of a target: with its sequencer and its words; none, nothing happens (log entry 13). -/
def State.onItem (s : State) (tgt : Nat) (opcs : List Nat) (g : State → Nat → List Nat → State) : State :=
  let s := s.handOver tgt
  (s.heldBy tgt opcs).elim s (fun e => g s e.1 e.2)

/-! ### Withdrawal (R213, R215) -/

/-- What a withdrawal does to one descriptor of a chain in progress: waiting or queued, it completes ABORTED; taken, its target has
ABORT_REQ raised, which LOG, TIER, SAVE and RESTORE do not follow. -/
def State.withdrawDesc (s : State) (r : Nat) (d : Desc) : State :=
  match d.st with
  | .waiting => (s.entryDone r d.idx (dIrq d.words) 1 0 0).setDesc r d.idx .done
  | .queued =>
    if steadfast d.words then s else
    ((s.unqueue r d.idx).entryDone r d.idx (dIrq d.words) 1 0 0).setDesc r d.idx .done
  | .taken =>
    (List.range 44).foldl (fun u n =>
      match (u.cs n).item with
      | some { src := .ring r' i', .. } => if r' = r ∧ i' = d.idx then u.updCs n (fun q => { q with abortReq := true }) else u
      | _ => u) s
  | .done => s

/-- A chain in progress is withdrawn. -/
def State.withdrawChain (s : State) (r : Nat) (c : Chain) : State := c.descs.foldl (fun u d => u.withdrawDesc r d) s

end Sys2Proof.Machine
end

