-- ==== Sys2Proof/Machine/Flags.lean ====
section
/-!
DEFINITION. Machine/Flags.lean: interrupt sources as levels of the status and enable fields (R170-R173, R207, R313, R315).
-/
namespace Sys2Proof.Machine

/-- Whether copy i of any of a list of fields reads 1. -/
def State.anyF (s : State) (l : List Fld) (i : Nat) : Bool := l.any (fun x => s.b x i)

/-- The error interrupts of a subsystem's blocks, each gated by its ERR_IE (index 0 of R170). -/
def State.errLevel (s : State) (sub : Nat) : Bool :=
  match sub with
  | 1 => (List.range 2).any (fun p => s.b .HEP_STATUS_CFG_ERR p && s.b .HEP_CTRL_ERR_IE p)
  | 2 => (s.b .CIU_STATUS_CFG_ERR 0 && s.b .CIU_CTRL_ERR_IE 0) || (s.b .LDG_STATUS_CFG_ERR 0 && s.b .LDG_CTRL_ERR_IE 0)
  | 3 => (s.b .BUF_STATUS_CFG_ERR 0 && s.b .BUF_DDR_CTRL_ERR_IE 0) || (s.b .PLV_STATUS_CFG_ERR 0 && s.b .PLV_CTRL_ERR_IE 0)
  | 4 => s.b .BTL_STATUS_CFG_ERR 0 && s.b .BTL_CTRL_ERR_IE 0
  | 5 => s.b .ENG_STATUS_CFG_ERR 0 && s.b .ENG_CTRL_ERR_IE 0
  | 6 => (s.b .MWR_STATUS_CFG_ERR 0 || (List.range 32).any (fun n => s.f .MWR_ERR_PEND_ERR n != 0)) && s.b .MWR_CTRL_ERR_IE 0
  | 7 => (List.range 8).any (fun l => s.b .CHN_STATUS_CFG_ERR l && s.b .CHN_CTRL_ERR_IE l)
      || (s.b .CHN_COM_STATUS_CFG_ERR 0 && s.b .CHN_COM_CTRL_ERR_IE 0)
  | 8 => s.b .SRV_STATUS_CFG_ERR 0 && s.b .SRV_CTRL_ERR_IE 0
  | 9 => s.b .MPD_STATUS_CFG_ERR 0 && s.b .MPD_CTRL_ERR_IE 0
  | 10 => s.b .SUP_STATUS_CFG_ERR 0 && s.b .SUP_CTRL_ERR_IE 0
  | 11 => s.b .SEC_STATUS_CFG_ERR 0 && s.b .SEC_CTRL_ERR_IE 0
  | 12 => s.b .EFL_STATUS_CFG_ERR 0 && s.b .EFL_CTRL_ERR_IE 0
  | 13 => (s.b .THM_STATUS_CFG_ERR 0 && s.b .THM_CTRL_ERR_IE 0) || (s.b .CAL_STATUS_CFG_ERR 0 && s.b .CAL_CTRL_ERR_IE 0)
  | 14 => s.b .EVR_STATUS_CFG_ERR 0 && s.b .EVR_CTRL_ERR_IE 0
  | 15 => s.b .MIR_STATUS_CFG_ERR 0 && s.b .MIR_CTRL_ERR_IE 0
  | _ => false

/-- The other interrupts of a subsystem's blocks, each gated by its own enable (index 1 of R170). -/
def State.evLevel (s : State) (sub : Nat) : Bool :=
  match sub with
  | 1 => (List.range 2).any (fun p => (s.b .HEP_SLOT_BTN_EV p && s.b .HEP_SLOT_BTN_IE p)
      || ((Tbl.get s.hep.port {} p).msgIrq && s.b .HEP_PW_CTRL_MSG_IE p))
  | 3 => s.b .PLV_CTRL_EV_IE 0 && s.anyF [.PLV_STATUS_NAND_EV, .PLV_STATUS_FORCE_EV] 0
  | 4 => s.b .BTL_CTRL_EV_IE 0 && s.anyF [.BTL_STATUS_RQ_NE, .BTL_STATUS_RETIRE_EV, .BTL_STATUS_DEG_EV] 0
  | 5 => s.b .ENG_CTRL_EV_IE 0 && s.anyF [.ENG_STATUS_FAULT_EV, .ENG_STATUS_LOAD_EV] 0
  | 6 => s.b .MWR_CTRL_EV_IE 0 && (List.range 32).any (fun n => s.f .MWR_IRQ_PEND_PEND n != 0)
  | 7 => (List.range 8).any (fun l => s.b .CHN_CTRL_EV_IE l && s.anyF [.CHN_STATUS_DEC_EV, .CHN_STATUS_STALL_EV] l)
  | 8 => s.b .SRV_CTRL_EV_IE 0 && s.anyF [.SRV_STATUS_FAULT_EV, .SRV_STATUS_LATE_EV, .SRV_STATUS_SIG_EV, .SRV_STATUS_MATE_EV] 0
  | 9 => s.b .MPD_CTRL_EV_IE 0 && s.anyF [.MPD_STATUS_DRV_EV, .MPD_STATUS_SPN_EV, .MPD_STATUS_RET_EV] 0
  | 10 => (s.b .SUP_CTRL_EV_IE 0 && s.anyF [.SUP_STATUS_LOWV_EV, .SUP_STATUS_GOV_EV, .SUP_STATUS_SLOE_EV, .SUP_STATUS_RAIL_EV] 0)
      || s.f .SUP_WAKE_STAT 0 != 0
  | 11 => s.b .SEC_CTRL_EV_IE 0 && s.anyF [.SEC_STATUS_VFY_EV, .SEC_STATUS_KEY_EV] 0
  | 12 => s.b .EFL_CTRL_EV_IE 0 && s.b .EFL_STATUS_OP_EV 0
  | 13 => (s.b .THM_CTRL_EV_IE 0 && s.anyF [.THM_STATUS_WARN_EV, .THM_STATUS_LVL_EV, .THM_STATUS_SENS_EV] 0)
      || (s.b .CAL_CTRL_EV_IE 0 && s.anyF [.CAL_STATUS_FW_EV, .CAL_STATUS_REJ_EV, .CAL_STATUS_STARVE_EV] 0)
  | 14 => s.b .EVR_CTRL_EV_IE 0 && s.anyF [.EVR_STATUS_DROP_EV, .EVR_STATUS_CLR_EV] 0
  | 15 => s.b .MIR_CTRL_EV_IE 0 && s.anyF [.MIR_STATUS_TAKE_EV, .MIR_STATUS_LINK_EV] 0
  | _ => false

/-- Whether interrupt source ID × 16 + index asserts (R170); 0xA2 + n is the first expiry of core watchdog n (R315). -/
def State.irqLevel (s : State) (src : Nat) : Bool :=
  if src % 16 = 0 then s.errLevel (src / 16)
  else if src % 16 = 1 then s.evLevel (src / 16)
  else if 0xA2 ≤ src ∧ src < 0xAA then Tbl.get s.sup.expired false (src - 0xA2)
  else false

/-- A source is pending for a core (R171, R172). -/
def State.irqPending (s : State) (n src : Nat) : Bool :=
  s.irqLevel src && Tbl.get s.eng.claimed 0 src == 0 && s.f .ENG_IRQ_ROUTE_CORE src == n
    && decide (s.f .ENG_IRQ_THR_THR n < s.f .ENG_IRQ_ROUTE_PRIO src)

/-- The highest-priority pending source of a core, the lowest number among equals; 0 when there is none (R172). -/
def State.irqBest (s : State) (n : Nat) : Nat :=
  (List.range 256).foldl (fun b src =>
    if s.irqPending n src && (b == 0 || decide (s.f .ENG_IRQ_ROUTE_PRIO b < s.f .ENG_IRQ_ROUTE_PRIO src)) then src else b) 0

def State.mtime (s : State) : Nat := s.f .ENG_MTIME_LO_MTIME_LO 0 + 2 ^ 32 * s.f .ENG_MTIME_HI_MTIME_HI 0
def State.mtimeCmp (s : State) (n : Nat) : Nat := s.f .ENG_MTIMECMP_LO_CMP_LO n + 2 ^ 32 * s.f .ENG_MTIMECMP_HI_CMP_HI n
def State.setMtime (s : State) (v : Nat) : State := s.setFs 0 [(.ENG_MTIME_LO_MTIME_LO, v), (.ENG_MTIME_HI_MTIME_HI, v / 2 ^ 32)]
def State.setAont (s : State) (v : Nat) : State := s.setFs 0 [(.SUP_AONT_LO_T_LO, v), (.SUP_AONT_HI_T_HI, v / 2 ^ 32)]

/-- The pending interrupts of a core: software, timer and external in bits 0 to 2 (R171, R173). -/
def State.mip (s : State) (n : Nat) : Nat :=
  (bit (s.f .ENG_IPI_PEND 0) n).toNat + 2 * (decide (s.mtimeCmp n ≤ s.mtime)).toNat + 4 * (s.irqBest n != 0).toNat

/-- Main-clock cycles pass for the cores that run: mcycle counts them (R166). -/
def State.cyclesPass (s : State) (c : Nat) : State :=
  (List.range 8).foldl (fun u n =>
    if u.b .ENG_IQ_CTRL_RUN n then u.setCore n { u.core n with mcycle := ((u.core n).mcycle + c) % 2 ^ 64 } else u) s

/-- Cores stalled in WFI go on when an interrupt enabled in mie is pending (R166). -/
def State.wakeCores (s : State) : State :=
  (List.range 8).foldl (fun u n =>
    if (u.core n).wfi && (u.mip n &&& (u.core n).mie) != 0 then u.setCore n { u.core n with wfi := false } else u) s

end Sys2Proof.Machine
end

