-- ==== Sys2Proof/Machine/Mwr.lean ====
section
/-!
DEFINITION. Machine/Mwr.lean: the Media Work Rings (R196-R218, R460, R461): eligibility, fetching and forwarding, doorbells,
malformed chains, shutdown and withdrawal.
-/
namespace Sys2Proof.Machine

/-! ### Chains at the fetch index (R199, R208, R210) -/

/-- The extent of the chain at the fetch index, once enough descriptors lie before the tail: its length, and the place and
cause (0x02-0x04) of a fault in its boundaries. -/
def State.chainScan (s : State) (r k fuel : Nat) : Option (Nat × Option (Nat × Nat)) :=
  match fuel with
  | 0 => none
  | m + 1 =>
    let i := (s.ringFetch r + k) % s.ringSize r
    let fl := (s.byteAt (s.ringBase r + 64 * i + 1)).toNat
    if i = s.ringTail r then none
    else if k = 0 ∧ !bit fl 0 then some (1, some (0, 2))
    else if k ≠ 0 ∧ bit fl 0 then some (k, some (k - 1, 3))
    else if bit fl 1 then some (k + 1, none)
    else if k = 15 then some (16, some (15, 4))
    else s.chainScan r (k + 1) m

/-- The FENCE flag of the chain at the fetch index. -/
def State.fenced (s : State) (r : Nat) : Bool := bit (s.byteAt (s.ringBase r + 64 * s.ringFetch r + 1)).toNat 4

/-- R208. -/
def State.eligible (s : State) (r : Nat) : Bool :=
  (s.ringState r == 1 || s.ringState r == 2) && (s.ring r).stop.isNone
    && decide ((s.ring r).chains.length ≤ s.f .MWR_RING_CFG_BURST r) && (s.chainScan r 0 17).isSome
    && (!s.fenced r || (s.ring r).chains.isEmpty)

/-- Grants of the round that a ring has left (R208). -/
def State.grantsLeft (s : State) (r : Nat) : Nat := s.f .MWR_RING_CFG_WEIGHT r + 1 - (s.ring r).grants

/-- The rings of ring sequencer k, in turn after one of them. -/
def ringsAfter (k last : Nat) : List Nat := (List.range 128).map (fun j => k + 8 * ((last / 8 + 1 + j) % 128))

/-- The weighted round of ring sequencer k ends when no eligible ring of it has grants left: each of its rings has its allotment again. -/
def State.roundEnd (s : State) (k : Nat) : State :=
  if (ringsAfter k 0).any (fun r => !s.b .MWR_RING_CFG_PRIO r && decide (0 < s.grantsLeft r) && s.eligible r) then s
  else (ringsAfter k 0).foldl (fun u q => u.setRing q { u.ring q with grants := 0 }) s

/-- The next ring by weight (R208): urgent rings round robin, then the weighted round. Within a round the rings take turns (log entry 23). -/
def State.selectRing (s : State) (k : Nat) : Option Nat × State :=
  let urgent := (ringsAfter k (Tbl.get s.mwr.last 0 (2 * k))).filter (fun r => s.b .MWR_RING_CFG_PRIO r && s.eligible r)
  match urgent with
  | r :: _ => (some r, s)
  | [] =>
    let s := s.roundEnd k
    ((ringsAfter k (Tbl.get s.mwr.last 0 (2 * k + 1))).find? (fun r => decide (0 < s.grantsLeft r) && s.eligible r), s)

/-- Cause 0x09 for one address. -/
def State.badAddr (s : State) (a : Nat) : Bool := a % 64 != 0 || !s.inMem (a % 2 ^ 48) 1 || a / 2 ^ 48 != 0

/-- The lowest cause that applies to one descriptor as read, 0 when none does (R210); edge is the cause of the chain's boundaries
found at it. -/
def State.malformed (s : State) (w : List Nat) (edge : Nat) (bad : Bool) : Nat :=
  let o := dOpc w
  if bad then 0x0A
  else if !assigned.contains o then 0x01
  else if edge ≠ 0 then edge
  else if dFlags w / 32 ≠ 0 ∨ dw w 2 / 256 ≠ 0 then 0x05
  else if (o / 16 = 0 ∧ 7 < dUnit w) ∨ (o / 16 = 1 ∧ 3 < dUnit w) ∨ (2 ≤ o / 16 ∧ dUnit w ≠ 0) then 0x06
  else if hasCount o ∧ dCount w = 0 then 0x07
  else if (hasPma o ∧ pmaReserved (dPma w)) ∨ (!hasPma o ∧ dPma w ≠ 0) ∨ ((o = 0x12 ∨ o = 0x21) ∧ pmaReserved (dArg w)) then 0x08
  else if dw w 7 / 2 ^ 16 ≠ 0 ∨ (hasAddr w ∧ s.badAddr (dAddr w)) ∨ (!hasAddr w ∧ dAddr w ≠ 0) ∨ (o = 0x23 ∧ s.badAddr (dArg w)) then 0x09
  else 0

/-- Compact mode (R211). -/
def State.compact (s : State) : Bool := s.b .MWR_STATUS_COMPACT 0

/-- The chain at the fetch index is fetched as one burst and checked (R199, R210, R211), and the next descriptors are prefetched (R111). -/
def State.fetchChain (s : State) (r : Nat) : State :=
  let s := s.tableUse 0x12
  match s.chainScan r 0 17 with
  | none => s
  | some (len, edge) =>
    let f := s.ringFetch r
    let n := s.ringSize r
    let (es, s) := s.readEntries r ((List.range len).map (fun k => (f + k) % n))
    let next := (f + len) % n
    let s := if next = s.ringTail r then s else s.prefetchAll (s.ringBase r + 64 * next) 64
    let ds := es.mapIdx (fun k e =>
      (e.1, e.2.1, s.malformed e.2.1 (match edge with
        | some (p, c) => if p = k then c else 0
        | none => 0) e.2.2))
    let s := s.setRing r { s.ring r with grants := (s.ring r).grants + 1 }
    let stopAt := fun (s : State) (i c : Nat) =>
      (s.setRing r { s.ring r with stop := some (i, c, f) }).setFs r [(.MWR_RING_ERR_ERR_INDEX, i), (.MWR_RING_FETCH_ERR_DETAIL, c)]
    match ds.find? (fun d => d.2.2 == 0x0A), ds.find? (fun d => d.2.2 != 0) with
    | some d, _ => stopAt s d.1 0x0A
    | none, some d =>
      if s.compact then
        let s := s.setF .MWR_RING_FETCH_FETCH r next
        let s := ds.foldl (fun u d =>
          if d.2.2 = 0 then u.entryDone r d.1 (dIrq d.2.1) 9 0 0 else u.entryDone r d.1 (dIrq d.2.1) 2 d.2.2 0) s
        (s.eventOnce (0x60040000 + r) 0x6004 0 0 0).headAdvance r
      else stopAt s d.1 d.2.2
    | none, none =>
      let c : Chain := { descs := ds.map (fun d => { idx := d.1, words := d.2.1, st := .waiting }) }
      let s := s.setChains r ((s.ring r).chains ++ [c])
      s.setF .MWR_RING_FETCH_FETCH r next

/-- The calibration ring, whose descriptors are exempt from holds (R376, R389). -/
def State.calRing (s : State) (r : Nat) : Bool := s.b .CAL_CTRL_EN 0 && s.f .CAL_CFG_RING 0 == r

/-- A head is held (R375). -/
def State.headHeld (s : State) (h : Nat) : Bool := bit (s.f .THM_HOLD_HELD 0) h

/-- The pause gate keeps a descriptor back (R374). -/
def State.gated (s : State) (w : List Nat) : Bool :=
  s.thm.gate && (dOpc w / 16 == 0 || dOpc w / 16 == 2 || dOpc w == 0x10 || dOpc w == 0x12)

/-- A descriptor is forwarded to the queue of a target (R199, R202, R209, R374, R376). -/
def State.forward (s : State) (n r i t : Nat) : State :=
  match s.chainOf r i with
  | none => s
  | some c =>
    match c.descs.find? (fun d => d.st != .done) with
    | none => s
    | some d =>
      if d.idx ≠ i ∨ d.st ≠ .waiting then s
      else if dTagged d.words ∧ !s.tagLive (dTag d.words) then (s.setDone n 0x45 true).stale.descDone r i 8 0 0
      else if (dOpc d.words = 0x02 ∨ dOpc d.words = 0x21) ∧ s.headHeld (pmaHead (dPma d.words)) ∧ !s.calRing r then
        s.descDone r i 6 0 0
      else
        if s.gated d.words then s
        else if queueLimit t ≤ (s.tq t).length then s.setDone n 0x42 true
        else (((s.setDone n 0x42 false).setDesc r i .queued).setTq t (s.tq t ++ [(r, i)])).handOver t

/-! ### The block and its rings (R218, R461) -/

/-- MWR_EN (R24, R218). -/
def execMwrEn (v : Bool) (s : State) : Outcome :=
  .next (s.onBlk .mwr 0 (fun s =>
    if v then
      if s.b .MWR_CTRL_EN 0 then s
      else if s.inMem s.hwBase 4096 then s.setB .MWR_CTRL_EN 0 true else s.cfgErrAt .mwr .MWR_CTRL_EN 0
    else if s.f .MWR_STATUS_RINGS_ON 0 ≠ 0 then s.cfgErrAt .mwr .MWR_CTRL_EN 0
    else s.setB .MWR_CTRL_EN 0 false))

/-- The doorbell's acceptance (R204). -/
def accepted (n head t t' : Nat) : Bool := decide (t' < n) && decide ((t' + n - t) % n ≤ (head + 2 * n - t - 1) % n)

/-- A doorbell that a ring does not take (R212, R216). -/
def State.discardBell (s : State) : State := (s.inc .MWR_DB_STAT_DISCARDED 0 1).eventOnce 0x6005 0x6005 0 0 0

/-- A DISABLED ring whose place, size, head or tail has been rewritten holds new entries: what had completed in it is forgotten (R206). -/
def State.ringRewritten (s : State) (r : Nat) : State := s.setRing r { s.ring r with fin := [] }

/-- A doorbell (R203-R205, R212, R216). -/
def State.doorbell (s : State) (r tail : Nat) : State :=
  let st := s.ringState r
  if st = 1 then
    if tail = s.ringTail r then s
    else if accepted (s.ringSize r) (s.ringHead r) (s.ringTail r) tail then s.setF .MWR_RING_PTR_TAIL r tail
    else (((s.setF .MWR_RING_ERR_OVR_TAIL r tail).inc .MWR_DB_STAT_REJECTED 0 1).setRingState r 2).event 0x6002 0 0 0
  else if st = 2 then s.inc .MWR_DB_STAT_REJECTED 0 1
  else s.discardBell

/-- DOORBELL. -/
def execDoorbell (r : Ring) (tail : BitVec 16) (s : State) : Outcome := .next (s.onBlk .mwr 0 (fun s => s.doorbell r tail.toNat))

/-- ERROR_ENTRY (R210, R211): with its chains in progress ended, the ring enters ERROR with HEAD at the chain's FIRST. -/
def execErrorEntry (r : Ring) (s : State) : Outcome :=
  .next (
    match (s.ring r).stop with
    | some (_, _, f) =>
      if (s.ringState r == 1 || s.ringState r == 2) && (s.ring r).chains.isEmpty then
        ((s.setFs r [(.MWR_RING_PTR_HEAD, f), (.MWR_RING_FETCH_FETCH, f)]).setRingState r 3).event 0x6003 0 0 0
      else s
    | none => s)

/-- EN = 1 written to a ring (R218, R461). Entries that a withdrawal completed while they waited are not performed; the ring's part of the
round under way stays as it is (R208). -/
def State.ringEnable (s : State) (r : Nat) : State :=
  let st := s.ringState r
  if st = 1 ∨ st = 2 ∨ st = 3 then s
  else if st ≠ 0 then s.cfgErrAt .mwr .MWR_RING_CTRL_EN r
  else if s.b .MWR_CTRL_EN 0 ∧ 2 ≤ s.f .MWR_RING_CFG_LOG2 r ∧ s.f .MWR_RING_CFG_LOG2 r ≤ 16
      ∧ s.inMem (s.ringBase r) (64 * s.ringSize r) ∧ s.ringHead r < s.ringSize r ∧ s.ringTail r < s.ringSize r then
    let s := s.setRing r { fin := (s.ring r).fin, grants := (s.ring r).grants }
    let s := s.setF .MWR_RING_FETCH_FETCH r (s.ringHead r)
    (s.fetchSkip r (s.ring r).fin.length).setRingState r 1
  else s.cfgErrAt .mwr .MWR_RING_CTRL_EN r

def execRingEnable (r : Ring) (s : State) : Outcome := .next (s.onBlk .mwr 0 (fun s => s.ringEnable r))

/-- EN = 0 written to a ring (R214, R461). -/
def State.ringDisable (s : State) (r : Nat) : State :=
  let st := s.ringState r
  if st = 1 ∨ st = 2 ∨ st = 3 then (s.setRingState r 4).roundEnd (r % 8) else s

def execRingDisable (r : Ring) (s : State) : Outcome := .next (s.onBlk .mwr 0 (fun s => s.ringDisable r))

/-- DRAIN_END (R214): the ring is DISABLED with HEAD at the first chain not started. -/
def execDrainEnd (r : Ring) (s : State) : Outcome :=
  .next (
    if s.ringState r = 4 ∧ (s.ring r).chains.isEmpty then (s.setF .MWR_RING_PTR_HEAD r (s.ringFetch r)).setRingState r 0 else s)

/-- Entries never fetched, from the fetch index to a tail, complete ABORTED. -/
def State.abortUnfetched (s : State) (r fuel : Nat) : State :=
  match fuel with
  | 0 => s
  | k + 1 =>
    let f := s.ringFetch r
    if f = s.ringTail r then s else
    let s := if Tbl.get (s.ring r).fin 0 f = 0 then s.entryDone r f (bit (s.byteAt (s.ringBase r + 64 * f + 1)).toNat 3) 1 0 0 else s
    (s.setF .MWR_RING_FETCH_FETCH r ((f + 1) % s.ringSize r)).abortUnfetched r k

/-- ABORT written to a ring (R213). -/
def State.ringAbort (s : State) (r : Nat) : State :=
  let st := s.ringState r
  if st = 1 ∨ st = 2 ∨ st = 3 then
    let s := s.setRing r { s.ring r with abortTail := s.ringTail r, stop := none }
    let s := (s.ring r).chains.foldl (fun u c => u.withdrawChain r c) s
    let s := s.abortUnfetched r (s.ringSize r)
    (((s.sweep r).headAdvance r).setRingState r 5).roundEnd (r % 8)
  else s

def execAbortComplete (r : Ring) (s : State) : Outcome := .next (s.onBlk .mwr 0 (fun s => s.ringAbort r))

/-- ABORT_COMPLETE_END (R213). -/
def execAbortCompleteEnd (r : Ring) (s : State) : Outcome :=
  .next (if s.ringState r = 5 ∧ s.ringHead r = (s.ring r).abortTail then (s.setRingState r 0).event 0x6006 0 0 0 else s)

/-- RESUME (R212). -/
def State.ringResume (s : State) (r : Nat) : State :=
  if s.ringState r = 3 then
    let s := (s.setRing r { s.ring r with stop := none }).setF .MWR_RING_FETCH_FETCH r (s.ringHead r)
    (s.fetchSkip r (s.ring r).fin.length).setRingState r 1
  else s

def execResume (r : Ring) (s : State) : Outcome := .next (s.onBlk .mwr 0 (fun s => s.ringResume r))

/-- CLR_OVR (R205). -/
def State.ringClrOvr (s : State) (r : Nat) : State := if s.ringState r = 2 then s.setRingState r 1 else s

def execClrOvr (r : Ring) (s : State) : Outcome := .next (s.onBlk .mwr 0 (fun s => s.ringClrOvr r))

/-! ### Withdrawal (R215) -/

/-- A FIRST descriptor is that of a chain with the tag. -/
def tagMatch (w : List Nat) (tag : Nat) : Bool := dFirst w && dTagged w && dTag w == tag

/-- Entries not fetched are scanned to the tail; those of a matching chain complete ABORTED. Carries whether the entry belongs to a
matching chain, and counts chains. -/
def State.scanUnfetched (s : State) (r tag tail i : Nat) (inside : Bool) (count fuel : Nat) : Nat × State :=
  match fuel with
  | 0 => (count, s)
  | k + 1 =>
    if i = tail then (count, s) else
    let w := s.entryWords r i
    let starts := tagMatch w tag && Tbl.get (s.ring r).fin 0 i == 0
    let inside := if dFirst w then starts else inside
    let s := if inside && Tbl.get (s.ring r).fin 0 i == 0 then s.entryDone r i (dIrq w) 1 0 0 else s
    s.scanUnfetched r tag tail ((i + 1) % s.ringSize r) (inside && !dLast w) (count + starts.toNat) k

/-- WITHDRAW: the tail is latched and the scan withdraws every chain whose FIRST descriptor carries the tag. -/
def execWithdraw (r : Ring) (tag : Tag) (s : State) : Outcome :=
  .next (s.onBlk .mwr 0 (fun s =>
    if s.b .MWR_WD_RES_BUSY 0 then s.cfgErrAt .mwr .MWR_WITHDRAW_WD_GO 0 else
    let s := s.setFs 0 [(.MWR_WITHDRAW_WD_TAG, tag.toNat), (.MWR_WITHDRAW_WD_RING, r), (.MWR_WD_RES_DONE, 0), (.MWR_WD_RES_BUSY, 1)]
    let l := (s.ring r).chains.filter (fun c => match c.descs.head? with
      | some d => tagMatch d.words tag.toNat
      | none => false)
    let s := l.foldl (fun u c => u.withdrawChain r c) s
    let s := if s.ringState r = 0 then s.setF .MWR_RING_FETCH_FETCH r (s.ringHead r) else s
    let (n, s) := s.scanUnfetched r tag.toNat (s.ringTail r) (s.ringFetch r) false 0 (s.ringSize r)
    let s := (s.sweep r).fetchSkip r (s.ring r).fin.length
    (s.headAdvance r).updMwr (fun m => { m with wd := some { ring := r, tag := tag.toNat, tail := s.ringTail r, count := l.length + n } })))

/-- WITHDRAW_SCAN_END: DONE with the count, and event 0x6007. -/
def execWithdrawScanEnd (s : State) : Outcome :=
  .next (
    match s.mwr.wd with
    | some w =>
      (((s.updMwr (fun m => { m with wd := none })).setFs 0
        [(.MWR_WD_RES_DONE, 1), (.MWR_WD_RES_BUSY, 0), (.MWR_WD_RES_CHAINS, w.count)])).event 0x6007 0 0 0
    | none => s)

end Sys2Proof.Machine
end

