-- ==== Sys2Proof/Machine/Micro.lean ====
section
/-!
DEFINITION. Machine/Micro.lean: microwords in execution (R177-R183, R186, R187): the parts of a word in their order, the conditions, and the
guards by which a row acts only where the stored word spells it.
-/
namespace Sys2Proof.Machine

/-! ### The word (R178, R182, R183) -/

/-- A microword of a class's store. -/
def State.word (s : State) (cls a : Nat) : Nat := Tbl.get s.eng.store 0 (cls * 4096 + a)

/-- The word at a sequencer's address, in the store of its class. -/
def State.curWord (s : State) (n : Nat) : Nat := s.word ((s.csClass n).getD 0) (s.f .ENG_CS_STAT_UPC n)

/-- Fields common to all classes (R178, R182): WSEL, WTO, A_OP, NEXT, IMM16, CSEL0 to CSEL3. -/
def wSel (w : Nat) : Nat := bits w 95 88
def wTimeout (w : Nat) : Nat := bits w 87 76
def wOp (w : Nat) : Nat := bits w 75 72
def wNext (w : Nat) : Nat := bits w 143 132
def wImm (w : Nat) : Nat := bits w 63 48
def wCsel (w i : Nat) : Nat := bits w (103 + 8 * i) (96 + 8 * i)

/-- Command fields of the class resource fields, highest and lowest bit (R183). -/
def laneCmd : Nat × Nat := (47, 42)
def dmaCmd : Nat × Nat := (41, 38)
def unitCmd : Nat × Nat := (47, 44)
def tagCmd : Nat × Nat := (43, 41)
def ovlCmd : Nat × Nat := (40, 38)
def ldgCmd : Nat × Nat := (37, 35)
def idxCmd : Nat × Nat := (34, 33)

/-- The POST bit of a class with its CODE, and its TAKE bit; a class without them has none. -/
def postBit (cls : Nat) : Nat × Nat := if cls = 0 then (29, 29) else if cls = 3 then (31, 31) else (35, 35)
def postCode (cls w : Nat) : Nat := if cls = 0 then bits w 37 30 else if cls = 3 then bits w 39 32 else bits w 43 36
def takeBit (cls : Nat) : Nat × Nat := if cls = 0 then (28, 28) else (34, 34)

/-- The command fields of a class. -/
def cmdFields (cls : Nat) : List (Nat × Nat) :=
  match cls with
  | 0 => [laneCmd, dmaCmd, postBit 0, takeBit 0]
  | 1 => [unitCmd]
  | 2 => [unitCmd, tagCmd, ovlCmd, ldgCmd, idxCmd]
  | 3 => [unitCmd, postBit 3]
  | 4 => [unitCmd, postBit 4, takeBit 4]
  | _ => [unitCmd, postBit 5]

/-- A command of the word has not been issued yet. -/
def State.toIssue (s : State) (n : Nat) : Bool :=
  (cmdFields ((s.csClass n).getD 0)).any (fun e => bits (s.curWord n) e.1 e.2 != 0 && !(s.cs n).issued.contains e.2)

/-- The word of an item. A ring sequencer's item is the descriptor it fetched last (R176). -/
def State.itemWord (s : State) (n i : Nat) : Nat :=
  match (s.cs n).item with
  | some it => it.words.getD i 0
  | none => (s.cs n).desc.getD i 0

/-! ### Conditions (R180, R183) -/

/-- The state of a condition at a sequencer. -/
def State.cond (s : State) (n c : Nat) : Bool :=
  let q := s.cs n
  let has := q.item.isSome
  match c with
  | 0 => true
  | 1 => q.timeout
  | 2 => q.lc == 0
  | 3 => q.stopReq
  | 4 => q.abortReq
  | 5 => q.z
  | 6 => q.n
  | _ =>
    match s.csClass n, c with
    | some 0, 0x40 => s.b .CHN_STATUS_LANE_READY ((s.csTarget n).getD 0)
    | some 0, 0x46 => has && dLast [s.itemWord n 0]
    | some 0, 0x47 => has
    | some 1, 0x40 => (ringsAfter (((s.csAs n).getD 16) - 16) 0).any (fun r => s.eligible r)
    | some 1, 0x46 => s.compact
    | some 2, 0x40 => !s.ciu.grants.isEmpty
    | some 2, 0x47 => match q.item with
      | some { src := .sqe _ qn _, .. } => qn == 0
      | some { src := .intake t, .. } => (s.cmd t).admin
      | _ => false
    | some 3, 0x42 => let a := ((s.csTarget n).getD 8) - 8
      bit (s.f .SRV_ACT_STAT_ONT a) (s.f .SRV_ACT_STAT_PRI a)
    | some 3, 0x44 => has
    | some 4, 0x45 => has
    | some 5, 0x40 => s.plv.lost
    | some 5, 0x45 => has
    | _, _ => s.doneC n c

/-! ### The parts of a word, in order (R177, R181) -/

/-- The wait of a word ends, or there is none: the conditions are sampled, and the branch comes next. -/
def State.sample (s : State) (n : Nat) : State :=
  let v := (List.range 4).foldr (fun i z => 2 * z + (s.cond n (wCsel (s.curWord n) i)).toNat) 0
  (s.updCs n (fun q => { q with part := 2, sampled := v })).setF .ENG_CS_STAT_STATE n 1

/-- What of a word in execution comes next: its scratch operation, its commands, then the wait, which clears TIMEOUT and ends at once where its
condition is true. -/
def State.advance (s : State) (n : Nat) : State :=
  let w := s.curWord n
  if s.f .ENG_CS_STAT_STATE n ≠ 1 ∨ (s.cs n).part = 2 ∨ ((s.cs n).part = 0 ∧ wOp w ≠ 0) then s
  else if s.toIssue n then s.updCs n (fun q => { q with part := 1 })
  else if wSel w = 0 then s.sample n
  else
    let s := s.updCs n (fun q => { q with part := 1, timeout := false })
    if s.cond n (wSel w) then s.sample n else s.setF .ENG_CS_STAT_STATE n 2

/-- The last word has ended; a sequencer that holds no item is free to take the next of its target's queue. -/
def State.wordEnd (s : State) (n : Nat) : State :=
  let s := s.updCs n (fun q => { q with prev := none, part := 0, issued := [] })
  match s.csTarget n with
  | some t => if (s.cs n).item.isNone then s.handOver t else s
  | none => s

/-- A sequencer comes to a word: an uncorrectable one faults it (R186). -/
def State.arrive (s : State) (n a : Nat) : State :=
  let a := a % 4096
  let cls := (s.csClass n).getD 0
  let s := (s.wordEnd n).setF .ENG_CS_STAT_UPC n a
  let (k0, s) := s.sramRead 0x0B (2 * (cls * 4096 + a))
  let (k1, s) := s.sramRead 0x0B (2 * (cls * 4096 + a) + 1)
  if k0 = 2 ∨ k1 = 2 then s.csFault n 1 else (s.setF .ENG_CS_STAT_STATE n 1).advance n

/-- A branch ends the word: the sequencer goes on at an address, or stops if KILL has been written (R187). -/
def State.branch (s : State) (n a : Nat) : State := if (s.cs n).killReq then s.csFault n 4 else s.arrive n a

/-! ### Guards (R177, R178): a row acts where the word in execution spells it and its turn in the word has come (log entry 13) -/

/-- The scratch operation: its A_OP, and the operand fields it uses. -/
def State.onScratch (s : State) (n op : Nat) (ok : Nat → Bool) (g : State → State) : State :=
  let w := s.curWord n
  if s.f .ENG_CS_STAT_STATE n = 1 ∧ (s.cs n).part = 0 ∧ wOp w = op ∧ ok w then
    ((g s).updCs n (fun q => { q with part := 1 })).advance n
  else s

/-- A resource command: its class, its field's value, and the operand fields it uses. -/
def State.onSeq (s : State) (n cls : Nat) (e : Nat × Nat) (v : Nat) (ok : Nat → Bool) (g : State → State) : State :=
  let w := s.curWord n
  if s.f .ENG_CS_STAT_STATE n = 1 ∧ (s.cs n).part = 1 ∧ s.csClass n = some cls ∧ bits w e.1 e.2 = v ∧ !(s.cs n).issued.contains e.2 ∧ ok w then
    (g (s.updCs n (fun q => { q with issued := e.2 :: q.issued }))).advance n
  else s

/-- A branch: its BMODE, and the fields its mode uses. -/
def State.onBranch (s : State) (n mode : Nat) (ok : Nat → Bool) (g : State → State) : State :=
  let w := s.curWord n
  if s.f .ENG_CS_STAT_STATE n = 1 ∧ (s.cs n).part = 2 ∧ bits w 131 128 = mode ∧ ok w then g s else s

/-- No operand field is used. -/
def anyWord (_ : Nat) : Bool := true

end Sys2Proof.Machine
end

