-- ==== Sys2Proof/Machine/Eng.lean ====
section
/-!
DEFINITION. Machine/Eng.lean: Idquin cores and their interrupts (R166-R175), control stores (R184-R186), sequencer control
(R187-R193), branch modes and scratch operations (R177-R182).
-/
namespace Sys2Proof.Machine

/-! ### Cores and interrupts -/

/-- CORE_RUN (R175). -/
def execCoreRun (n : Core) (v : Bool) (s : State) : Outcome :=
  .next (s.onBlk .eng 0 (fun s =>
    if bit (s.f .ENG_FUSED_HI_IQ 0) n then s.cfgErrAt .eng .ENG_IQ_CTRL_RUN n
    else if v then
      if s.b .ENG_IQ_CTRL_RUN n then s
      else
        let e := s.f .ENG_IQ_ENTRY_LO_ENTRY_LO n * 2 + s.f .ENG_IQ_ENTRY_HI_ENTRY_HI n * 2 ^ 32
        ((s.setCore n { pc := e }).updEng (fun x => { x with coherent := setBit x.coherent n true })).setB .ENG_IQ_CTRL_RUN n true
    else
      ((s.setCore n {}).updDev (fun d => { d with accFault := Tbl.set d.accFault 0 n.val 0 })).setB .ENG_IQ_CTRL_RUN n false))

/-- MTIME_COMPARE (R173, R26): the timer has come to a core's compare value; a stalled core goes on if it may. -/
def execMtimeCompare (n : Core) (s : State) : Outcome :=
  .next (
    if s.f .SUP_DSTATE_NOW 0 = 2 then s else
    let d := s.mtimeCmp n - s.mtime
    (((s.setMtime (s.mtime + d)).setAont (s.aont + d / 100)).cyclesPass (16 * d)).wakeCores)

/-- IPI_SET (R173). -/
def execIpiSet (m : Byte) (s : State) : Outcome :=
  .next (s.onBlk .eng 0 (fun s => (s.setF .ENG_IPI_PEND 0 (s.f .ENG_IPI_PEND 0 ||| m.toNat)).wakeCores))

/-- IPI_CLEAR (R173). -/
def execIpiClear (m : Byte) (s : State) : Outcome :=
  .next (s.onBlk .eng 0 (fun s => s.setF .ENG_IPI_PEND 0 (s.f .ENG_IPI_PEND 0 &&& (255 - m.toNat))))

/-- INTERRUPT_CLAIM (R172): the read's value, and the claim. -/
def execInterruptClaim (n : Core) (s : State) : Outcome :=
  .next (s.onBlk .eng 0 (fun s =>
    let src := s.irqBest n
    let s := s.send (.readData src)
    if src = 0 then s
    else (s.updEng (fun e => { e with claimed := Tbl.set e.claimed 0 src (n.val + 1) })).setB .ENG_IRQ_ROUTE_CLAIMED src true))

/-- INTERRUPT_COMPLETE (R172): ignored from a core that did not claim the source. -/
def execInterruptComplete (n : Core) (src : Byte) (s : State) : Outcome :=
  .next (s.onBlk .eng 0 (fun s =>
    if Tbl.get s.eng.claimed 0 src.toNat = n.val + 1 then
      ((s.updEng (fun e => { e with claimed := Tbl.set e.claimed 0 src.toNat 0 })).setB .ENG_IRQ_ROUTE_CLAIMED src.toNat false).wakeCores
    else s))

/-- An instruction of a core: its RUN reads 1, WFI does not stall it (R166), and the main clock runs (R312); minstret counts it. -/
def State.onCore (s : State) (n : Nat) (g : State → State) : State :=
  let s := s.wakeCores
  if s.b .ENG_IQ_CTRL_RUN n && !(s.core n).wfi && s.f .SUP_DSTATE_NOW 0 != 2 then
    g (s.setCore n { s.core n with minstret := ((s.core n).minstret + 1) % 2 ^ 64 })
  else s

/-- WFI (R166): the core stalls until an interrupt enabled in its mie is pending. -/
def execWfi (n : Core) (mie : BitVec 3) (s : State) : Outcome :=
  .next (s.onCore n (fun s => (s.setCore n { s.core n with wfi := true, mie := mie.toNat }).wakeCores))

/-- FENCE_I (R167). -/
def execFenceI (n : Core) (s : State) : Outcome :=
  .next (s.onCore n (fun s => s.updEng (fun e => { e with coherent := setBit e.coherent n true })))

/-- LR_SC_AMO (R168): at Bramble for DRAM, at the Work SRAM controller for Work SRAM; an access fault elsewhere, or where PMP does not let it
(R169); an address-misaligned exception where the address is not a multiple of the size (R166). -/
def execLrScAmo (n : Core) (op : AmoOp) (dword : Bool) (a : Addr) (rd : Fin 32) (v : BitVec 64) (s : State) : Outcome :=
  .next (s.onCore n (fun s =>
    let a := a.toNat
    let k := if dword then 8 else 4
    let g : Agent := .core n
    let read := op != .sc
    if a % k ≠ 0 then s.misaligned g
    else if (!inWork a k && !(s.inDram a k && s.b .BUF_STATUS_READY 0)) || (read && !s.pmpOk g a k 0) || (op != .lr && !s.pmpOk g a k 1) then
      if op = .lr then s.loadFault g else s.accFault g
    else s.access { g := g, a := a, w := none, whole := false, amo := some (op, dword, rd.val, v.toNat) }))

/-! ### Control stores (R178, R179, R183-R186) -/

/-- A condition code that a class knows (R180, R183). -/
def condCode (cls c : Nat) : Bool :=
  decide (c ≤ 6) || (decide (0x40 ≤ c) && decide (c ≤ (match cls with | 0 => 0x47 | 1 => 0x46 | 2 => 0x47 | 3 => 0x44 | _ => 0x45)))

/-- The class resource fields hold no reserved value, and no bit outside the fields (R183, R185). -/
def classOk (cls f imm : Nat) : Bool :=
  match cls with
  | 0 => decide (bits f 47 42 ≤ 7) && decide (bits f 41 38 ≤ 3) && bits f 27 0 == 0
      && (bits f 47 42 != 4 || decide (-8 ≤ signed 5 (bits imm 4 0)) && decide (signed 5 (bits imm 4 0) ≤ 8))
  | 1 => decide (bits f 47 44 ≤ 5) && decide (bits f 43 40 ≤ 5) && bits f 31 0 == 0
  | 2 => decide (bits f 47 44 ≤ 6) && decide (bits f 43 41 ≤ 2) && decide (bits f 40 38 ≤ 3) && decide (bits f 37 35 ≤ 3)
      && decide (bits f 34 33 ≤ 2) && bits f 32 0 == 0
  | 3 => decide (bits f 47 44 ≤ 6) && decide (bits f 43 40 ≤ 6) && bits f 30 0 == 0
  | 4 => decide (bits f 47 44 ≤ 5) && bits f 33 0 == 0
  | _ => decide (bits f 47 44 ≤ 4) && bits f 34 0 == 0

/-- The branch fields agree with the mode (R179). -/
def branchOk (cls w : Nat) : Bool :=
  let m := bits w 131 128
  let nx := bits w 143 132
  let c := fun i => bits w (103 + 8 * i) (96 + 8 * i)
  let used := fun k => (List.range 4).all (fun i => if i < k then condCode cls (c i) else c i == 0)
  match m with
  | 0 => used 0
  | 1 => used 1 && nx % 2 == 0
  | 2 => used 2 && nx % 4 == 0
  | 3 => used 3 && nx % 8 == 0
  | 4 => used 4 && nx % 16 == 0
  | 5 => bits w 127 108 == 0
  | 6 => used 0
  | 7 => used 0 && nx % 16 == 0
  | 8 => used 0 && nx % 2 == 0
  | 9 => used 0
  | _ => false

/-- The check of R185 on one microword. -/
def wordOk (cls w : Nat) : Bool := branchOk cls w && condCode cls (wSel w) && classOk cls (bits w 47 0) (wImm w)

/-- Writing it, both halves with a fresh code (R126). -/
def State.setWord (s : State) (cls a w : Nat) : State :=
  ((s.updEng (fun e => { e with store := Tbl.set e.store 0 (cls * 4096 + a) w })).sramWritten 0x0B (2 * (cls * 4096 + a))).sramWritten
    0x0B (2 * (cls * 4096 + a) + 1)

/-- The words of a load, one after another: the result, the address that failed, and the state (R185). -/
def State.loadWords (s : State) (cls src a : Nat) (k : Nat) : Nat × Nat × State :=
  match k with
  | 0 => (0, 0, s)
  | m + 1 =>
    let (d, s) := s.fetch .link src 32
    if !s.inMem src 32 || s.bad src 32 then (3, a, s)
    else
      let w := leAt d 0 18
      if wordOk cls w then (s.setWord cls a w).loadWords cls (src + 32) (a + 1) m else (2, a, s)

/-- The sequencers of a class, bound spares included. -/
def State.classSeqs (s : State) (cls : Nat) : List Nat := (List.range 44).filter (fun n => s.csClass n == some cls)

/-- A control-store load (R185); its words are written at GO and its result shows at CONTROL_STORE_LOAD_END. -/
def State.loadStore (s : State) (cls first count : Nat) : State :=
  if (s.classSeqs cls).any (fun n => s.csRuns n) then s.updEng (fun e => { e with loadRes := 1, loadBad := 0 })
  else
    let s := s.setF .ENG_STATUS_LOADED 0 (setBit (s.f .ENG_STATUS_LOADED 0) cls false)
    let src := s.f .ENG_CSL_SRC_LO_BASE_LO 0 * 32 + s.f .ENG_CSL_SRC_HI_BASE_HI 0 * 2 ^ 32
    let (r, b, s) := s.loadWords cls src first count
    s.updEng (fun e => { e with loadRes := r, loadBad := b })

/-- CONTROL_STORE_LOAD. -/
def execControlStoreLoad (cls : Fin 8) (first : BitVec 12) (count : BitVec 13) (s : State) : Outcome :=
  .next (s.onBlk .eng 0 (fun s =>
    if s.b .ENG_CSL_CTRL_BUSY 0 ∨ 4096 < first.toNat + count.toNat ∨ count.toNat = 0 ∨ 5 < cls.val then s.cfgErrAt .eng .ENG_CSL_CTRL_GO 0
    else
      ((s.setFs 0 [(.ENG_CSL_CTRL_FIRST, first.toNat), (.ENG_CSL_CTRL_COUNT, count.toNat), (.ENG_CSL_CTRL_CLASS, cls),
        (.ENG_CSL_CTRL_BUSY, 1), (.ENG_CSL_STAT_DONE, 0)]).latch [.ENG_CSL_CTRL_CLASS]).loadStore cls first.toNat count.toNat))

/-- CONTROL_STORE_LOAD_END (R184, R185): RESULT, LOADED when every word was written, LOAD_EV; event 0x5004 for a load that failed. -/
def execControlStoreLoadEnd (s : State) : Outcome :=
  .next (
    if !s.b .ENG_CSL_CTRL_BUSY 0 then s else
    let r := s.eng.loadRes
    let b := s.eng.loadBad
    let s := s.setFs 0 [(.ENG_CSL_CTRL_BUSY, 0), (.ENG_CSL_STAT_DONE, 1), (.ENG_CSL_STAT_RESULT, r), (.ENG_CSL_STAT_BAD_ADDR, b),
      (.ENG_STATUS_LOAD_EV, 1)]
    let s := s.updEng (fun e => { e with loadRes := 0, loadBad := 0 })
    if r = 0 then s.setF .ENG_STATUS_LOADED 0 (setBit (s.f .ENG_STATUS_LOADED 0) (s.opnd .ENG_CSL_CTRL_CLASS) true)
    else s.event 0x5004 r b 0)

/-! ### Branches (R179): the mode, NEXT and the condition selects are the word's -/

/-- JUMP. -/
def execJump (n : Cs) (next : BitVec 12) (s : State) : Outcome :=
  .next (s.onBranch n 0 (fun w => wNext w == next.toNat) (fun s => s.branch n next.toNat))

/-- NEXT OR the first k conditions, as the end of the wait sampled them. -/
def State.condBranch (s : State) (n k : Nat) (next : BitVec 12) (c : List Byte) : State :=
  s.onBranch n k (fun w => wNext w == next.toNat && (List.range k).all (fun i => wCsel w i == (c.getD i 0).toNat))
    (fun s => s.branch n (next.toNat ||| (s.cs n).sampled % 2 ^ k))

/-- COND1. -/
def execCond1 (n : Cs) (next : BitVec 12) (c0 : Byte) (s : State) : Outcome := .next (s.condBranch n 1 next [c0])

/-- COND2. -/
def execCond2 (n : Cs) (next : BitVec 12) (c0 c1 : Byte) (s : State) : Outcome := .next (s.condBranch n 2 next [c0, c1])

/-- COND3. -/
def execCond3 (n : Cs) (next : BitVec 12) (c0 c1 c2 : Byte) (s : State) : Outcome := .next (s.condBranch n 3 next [c0, c1, c2])

/-- COND4. -/
def execCond4 (n : Cs) (next : BitVec 12) (c0 c1 c2 c3 : Byte) (s : State) : Outcome := .next (s.condBranch n 4 next [c0, c1, c2, c3])

/-- CALL: fault 0x2 with four return addresses stacked. -/
def execCall (n : Cs) (next ret : BitVec 12) (s : State) : Outcome :=
  .next (s.onBranch n 5 (fun w => wNext w == next.toNat && bits w 107 96 == ret.toNat) (fun s =>
    if 4 ≤ (s.cs n).stack.length then s.csFault n 2
    else (s.updCs n (fun q => { q with stack := ret.toNat :: q.stack })).branch n next.toNat))

/-- RET: fault 0x3 with an empty stack. -/
def execRet (n : Cs) (s : State) : Outcome :=
  .next (s.onBranch n 6 anyWord (fun s =>
    match (s.cs n).stack with
    | [] => s.csFault n 3
    | a :: r => (s.updCs n (fun q => { q with stack := r })).branch n a))

/-- DISPATCH: the low four bits of the item's opcode. -/
def execDispatch (n : Cs) (next : BitVec 12) (s : State) : Outcome :=
  .next (s.onBranch n 7 (fun w => wNext w == next.toNat) (fun s => s.branch n (next.toNat ||| (s.itemWord n 0 % 16))))

/-- LOOP. -/
def execLoop (n : Cs) (next : BitVec 12) (s : State) : Outcome :=
  .next (s.onBranch n 8 (fun w => wNext w == next.toNat) (fun s =>
    let lc := ((s.cs n).lc + 65535) % 65536
    (s.updCs n (fun q => { q with lc := lc })).branch n (next.toNat ||| (lc == 0).toNat)))

/-- HALT: the item stays held, and HALT wins over a KILL (R187). -/
def execHalt (n : Cs) (s : State) : Outcome :=
  .next (s.onBranch n 9 anyWord (fun s => (s.updCs n (fun q => { q with killReq := false, prev := none })).setF .ENG_CS_STAT_STATE n 0))

/-- WAIT_END (R181). -/
def execWaitEnd (n : Cs) (cause : WaitCause) (s : State) : Outcome :=
  .next (
    if s.f .ENG_CS_STAT_STATE n ≠ 2 then s else
    match cause with
    | .cond => if s.cond n (wSel (s.curWord n)) then s.sample n else s
    | .timeout => if wTimeout (s.curWord n) = 0 then s else (s.updCs n (fun q => { q with timeout := true })).sample n
    | .kill => if (s.cs n).killReq then s.sample n else s)

/-! ### Control (R187, R189, R192, R193) -/

/-- CS_START. STOP_REQ of an earlier run does not reach the new one (log entry 24). -/
def execCsStart (n : Cs) (entry : BitVec 12) (s : State) : Outcome :=
  .next (s.onBlk .eng 0 (fun s =>
    let s := s.setF .ENG_CS_CTRL_ENTRY n entry.toNat
    let ok := match s.csClass n, s.csAs n with
      | some c, some _ => bit (s.f .ENG_STATUS_LOADED 0) c && !s.csFused n
      | _, _ => false
    if !ok then s.cfgErrAt .eng .ENG_CS_CTRL_START n
    else if s.csRuns n then s
    else
      let s := s.updCs n (fun q => { q with s := [], lc := 0, stack := [], z := false, n := false, timeout := false, stopReq := false })
      (s.setF .ENG_CS_STAT_FAULT n 0).arrive n entry.toNat))

/-- CS_STOP. -/
def execCsStop (n : Cs) (s : State) : Outcome :=
  .next (s.onBlk .eng 0 (fun s => if s.csRuns n then s.updCs n (fun q => { q with stopReq := true }) else s))

/-- KILL: the sequencer stops at the end of the word in execution; a wait ends first (R181, R187). -/
def execKill (n : Cs) (s : State) : Outcome :=
  .next (s.onBlk .eng 0 (fun s => if s.csRuns n then s.updCs n (fun q => { q with killReq := true }) else s))

/-- ABANDON (R189). -/
def execAbandon (n : Cs) (s : State) : Outcome :=
  .next (s.onBlk .eng 0 (fun s =>
    if s.csStill n ∧ s.b .ENG_CS_STAT_HELD n then
      let s := match (s.cs n).item with
        | some { src := .ring r i, .. } => (s.dropItem n).descDone r i 1 0 0
        | some { src := .intake t, .. } => (s.dropItem n).endUnposted t
        | some { src := .sqe .., .. } => if (s.cs n).posted then s.dropItem n else (s.dropItem n).fetchEnd
        | none => s.dropItem n
      s.event 0x5006 0 0 0
    else s.cfgErrAt .eng .ENG_CS_CTRL_ABANDON n))

/-- The check of R193. -/
def State.spareOk (s : State) (k cls repl : Nat) : Bool :=
  let n := 42 + k
  s.csStill n && !s.csFused n
    && (if repl = 0x3F then cls == 2 || cls == 4
        else decide (repl < 42) && baseClass repl == cls && s.csStill repl && !s.b .ENG_CS_STAT_HELD repl
          && !(s.b .ENG_SPARE_CS_BIND (1 - k) && s.f .ENG_SPARE_CS_REPLACES (1 - k) == repl))

/-- SPARE_CS_BIND. A write that keeps BIND at 0 only stores CLASS and REPLACES; one that keeps it at 1 changes nothing that is bound and
is ignored (log entry 25). -/
def execSpareCsBind (k : Fin 2) (cls : Fin 8) (repl : BitVec 6) (bind : Bool) (s : State) : Outcome :=
  .next (s.onBlk .eng 0 (fun s =>
    let on := s.b .ENG_SPARE_CS_BIND k
    let put := fun (s : State) => s.setFs k [(.ENG_SPARE_CS_CLASS, cls), (.ENG_SPARE_CS_REPLACES, repl.toNat), (.ENG_SPARE_CS_BIND, bind.toNat)]
    let bound := fun (s : State) (m : Nat) => if m < 42 then s.setFs m [(.ENG_CS_STAT_BOUND, bind.toNat), (.ENG_CS_STAT_STATE, 0)] else s
    if !on ∧ !bind then put s
    else if !on ∧ s.spareOk k cls repl.toNat then ((bound (put s) repl.toNat)).event 0x5005 0 0 0
    else if on ∧ !bind ∧ s.spareOk k (s.f .ENG_SPARE_CS_CLASS k) (s.f .ENG_SPARE_CS_REPLACES k) then
      let m := s.f .ENG_SPARE_CS_REPLACES k
      ((bound (put s) m)).event 0x5005 0 0 0
    else s.cfgErrAt .eng .ENG_SPARE_CS_BIND k))

/-! ### Scratch operations (R182) -/

/-- Operand fields of a scratch operation: D, S and IMM16. -/
def wD (d : Nat) (w : Nat) : Bool := bits w 71 68 == d
def wS (r : Nat) (w : Nat) : Bool := bits w 67 64 == r
def wI (i : Nat) (w : Nat) : Bool := wImm w == i

/-- An operation D := v of D and S. -/
def State.scratchDS (s : State) (n op d r : Nat) (g : Nat → Nat → Nat) : State :=
  s.onScratch n op (fun w => wD d w && wS r w) (fun s => s.setSreg n d (g (s.sreg n d) (s.sreg n r)))

/-- An operation D := v of D and IMM16. -/
def State.scratchDI (s : State) (n op d : Nat) (imm : BitVec 16) (g : Nat → Nat) : State :=
  s.onScratch n op (fun w => wD d w && wI imm.toNat w) (fun s => s.setSreg n d (g (s.sreg n d)))

/-- A_MOV. -/
def execAMov (n : Cs) (d r : Fin 16) (s : State) : Outcome := .next (s.scratchDS n 1 d r (fun _ y => y))
/-- A_LDI. -/
def execALdi (n : Cs) (d : Fin 16) (imm : BitVec 16) (s : State) : Outcome := .next (s.scratchDI n 2 d imm (fun _ => imm.toNat))
/-- A_LDH. -/
def execALdh (n : Cs) (d : Fin 16) (imm : BitVec 16) (s : State) : Outcome :=
  .next (s.scratchDI n 3 d imm (fun x => x % 2 ^ 16 + imm.toNat * 2 ^ 16))
/-- A_ADD. -/
def execAAdd (n : Cs) (d r : Fin 16) (s : State) : Outcome := .next (s.scratchDS n 4 d r (fun x y => x + y))
/-- A_ADDI. -/
def execAAddi (n : Cs) (d : Fin 16) (imm : BitVec 16) (s : State) : Outcome :=
  .next (s.scratchDI n 5 d imm (fun x => x + unsigned 32 (signed 16 imm.toNat)))
/-- A_SUB. -/
def execASub (n : Cs) (d r : Fin 16) (s : State) : Outcome := .next (s.scratchDS n 6 d r (fun x y => x + 2 ^ 32 - y))
/-- A_AND. -/
def execAAnd (n : Cs) (d r : Fin 16) (s : State) : Outcome := .next (s.scratchDS n 7 d r (fun x y => x &&& y))
/-- A_OR. -/
def execAOr (n : Cs) (d r : Fin 16) (s : State) : Outcome := .next (s.scratchDS n 8 d r (fun x y => x ||| y))
/-- A_XOR. -/
def execAXor (n : Cs) (d r : Fin 16) (s : State) : Outcome := .next (s.scratchDS n 9 d r (fun x y => x ^^^ y))
/-- A_SHR. -/
def execAShr (n : Cs) (d : Fin 16) (imm : BitVec 16) (s : State) : Outcome := .next (s.scratchDI n 0xA d imm (fun x => x / 2 ^ (imm.toNat % 32)))
/-- A_SHL. -/
def execAShl (n : Cs) (d : Fin 16) (imm : BitVec 16) (s : State) : Outcome := .next (s.scratchDI n 0xB d imm (fun x => x * 2 ^ (imm.toNat % 32)))
/-- A_LDD: with no item in the buffer its words are not given: a free value. -/
def execALdd (n : Cs) (d : Fin 16) (imm : BitVec 16) (s : State) : Outcome :=
  .next (s.onScratch n 0xC (fun w => wD d w && wI imm.toNat w) (fun s =>
    if (s.cs n).item.isSome || (s.cs n).desc.length == 16 then s.setSreg n d (s.itemWord n (imm.toNat % 16))
    else
      let (v, s) := s.free
      s.setSreg n d v))
/-- A_STD. -/
def execAStd (n : Cs) (r : Fin 16) (imm : BitVec 16) (s : State) : Outcome :=
  .next (s.onScratch n 0xD (fun w => wS r w && wI imm.toNat w) (fun s =>
    let v := s.sreg n r
    s.updCs n (fun q => match q.item with
      | some it => { q with item := some { it with words := it.words.set (imm.toNat % 16) v } }
      | none => { q with desc := q.desc.set (imm.toNat % 16) v })))
/-- A_LDLC. -/
def execALdlc (n : Cs) (r : Fin 16) (s : State) : Outcome :=
  .next (s.onScratch n 0xE (wS r) (fun s => s.updCs n (fun q => { q with lc := s.sreg n r % 2 ^ 16 })))
/-- A_CMP: Z and N of the 32-bit difference. -/
def execACmp (n : Cs) (d r : Fin 16) (s : State) : Outcome :=
  .next (s.onScratch n 0xF (fun w => wD d w && wS r w) (fun s =>
    let v := (s.sreg n d + 2 ^ 32 - s.sreg n r) % 2 ^ 32
    s.updCs n (fun q => { q with z := v == 0, n := bit v 31 })))

/-! ### Ring commands (R183 class 1) -/

/-- A ring command, by the sequencer that serves the ring (R176). -/
def State.onRing (s : State) (n r v : Nat) (ok : Nat → Bool) (g : State → State) : State :=
  s.onSeq n 1 unitCmd v ok (fun s => if s.csAs n = some (16 + r % 8) then g s else s)

/-- SELECT (R183, R208): the ring's number goes to S15. -/
def execSelect (n : Cs) (s : State) : Outcome :=
  .next (s.onSeq n 1 unitCmd 1 anyWord (fun s =>
    match s.csAs n with
    | some m =>
      match s.selectRing (m - 16) with
      | (some r, s) => s.setSreg n 15 r
      | (none, s) => s
    | none => s))

/-- A grant of a ring sequencer to a ring: the chain at its fetch index is fetched (R199, R208). The first descriptor is the sequencer's item. -/
def State.grantChain (s : State) (n r : Nat) : State :=
  let k := 2 * (r % 8) + (if s.b .MWR_RING_CFG_PRIO r then 0 else 1)
  let s := s.updMwr (fun m => { m with last := Tbl.set m.last 0 k r })
  let held := (s.ring r).chains.length
  let w := s.entryWords r (s.ringFetch r)
  let s := (s.fetchChain r).updCs n (fun q => { q with desc := w })
  let bad := (s.ring r).chains.length == held
  let s := (s.fetchSkip r (s.ring r).fin.length).roundEnd (r % 8)
  (s.setDone n 0x41 true).setDone n 0x44 bad

/-- RING_FETCH (R199, R208): a grant to the ring that SELECT left in S15 (DEDUCED, log entry 112), if it is eligible; while Work SRAM is being
initialised, a ring in it waits (R129). -/
def execRingFetch (n : Cs) (r : Ring) (s : State) : Outcome :=
  .next (s.onRing n r 2 anyWord (fun s =>
    if s.sreg n 15 ≠ r.val ∨ !s.eligible r ∨ (s.initBusy 0 ∧ inWork (s.ringBase r) 1) then s else s.grantChain n r))

/-- The target a FORWARD names: TARGET, with its lane or actuator in S14 (R183). -/
def State.wordTarget (s : State) (n : Nat) : Nat :=
  match bits (s.curWord n) 43 40 with
  | 0 => s.sreg n 14 % 8
  | 1 => 8 + s.sreg n 14 % 4
  | 2 => 12
  | 3 => 13
  | 4 => 14
  | _ => 15

/-- FORWARD (R199, R202, R209). -/
def execForward (n : Cs) (r : Ring) (i : BitVec 16) (s : State) : Outcome :=
  .next (s.onRing n r 3 anyWord (fun s => s.forward n r i.toNat (s.wordTarget n)))

/-- COMPLETE (R206): the completion of a descriptor in progress is written with CODE and the head word published; a sequencer or a
queue that has it lets it go. -/
def execComplete (n : Cs) (r : Ring) (i : BitVec 16) (code : Byte) (s : State) : Outcome :=
  .next (s.onRing n r 4 (fun w => bits w 39 32 == code.toNat) (fun s =>
    match s.descOf r i.toNat with
    | none => s.setDone n 0x43 false
    | some d =>
      let s := (List.range 44).foldl (fun u m =>
        match (u.cs m).item with
        | some { src := .ring r' i', .. } => if r' = r.val ∧ i' = i.toNat then u.dropItem m else u
        | _ => u) s
      ((((s.unqueue r i.toNat).descDone r i.toNat code.toNat 0 0).ringStale d.words).setDone n 0x43 false)))

/-- RING_ERROR (R183): the ring stops fetching with its index latched; it enters ERROR when its chains have ended. -/
def execRingError (n : Cs) (r : Ring) (s : State) : Outcome :=
  .next (s.onRing n r 5 anyWord (fun s =>
    if (s.ringState r == 1 || s.ringState r == 2) && (s.ring r).stop.isNone then
      (s.setRing r { s.ring r with stop := some (s.ringFetch r, 0, s.ringFetch r) }).setFs r
        [(.MWR_RING_ERR_ERR_INDEX, s.ringFetch r), (.MWR_RING_FETCH_ERR_DETAIL, 0)]
    else s))

end Sys2Proof.Machine
end

