-- ==== Sys2Proof/Machine/Hep.lean ====
section
/-!
DEFINITION. Machine/Hep.lean: the host endpoint's commands (R30-R73).
-/
namespace Sys2Proof.Machine

def State.cmbBase (s : State) (p : Nat) : Nat := s.f .HEP_CMB_BASE_LO_BASE_LO p * 2 ^ 26 + s.f .HEP_CMB_BASE_HI_BASE_HI p * 2 ^ 32

/-- The class B fields of the peer window group (R70). -/
def pwGroup : List Fld := [.HEP_PW_CTRL_PW_EN, .HEP_PW_ID_SELF_ID, .HEP_PW_RANGE_RANGE_LO, .HEP_PW_RANGE_RANGE_HI,
  .HEP_PW_RING_LO_BASE_LO, .HEP_PW_RING_HI_BASE_HI, .HEP_PW_RING_SIZE_LOG2]

/-- The group's shadows apply together; a new ring base or size sets PROD and CONS to 0 (R70, R72); PEER_INFO shows the values. -/
def State.applyPw (s : State) (p : Nat) : State :=
  let moved := [Fld.HEP_PW_RING_LO_BASE_LO, .HEP_PW_RING_HI_BASE_HI, .HEP_PW_RING_SIZE_LOG2].any (fun x => s.f x p != s.g x p)
  let s := s.applyAll pwGroup p
  let s := if moved then s.setFs p [(.HEP_PW_PROD_PROD, 0), (.HEP_PW_CONS_CONS, 0)] else s
  s.setFs p [(.HEP_PW_CTRL_COMMIT_PEND, 0), (.PEER_INFO_SELF_ID, s.f .HEP_PW_ID_SELF_ID p),
    (.PEER_INFO_PW_ON, s.f .HEP_PW_CTRL_PW_EN p)]

/-- HEP_EN (R24, R32): setting EN checks the CMB backing; clearing it is refused while CIU_CTRL.EN reads 1, and takes a pending group into
force (R22). -/
def State.hepEn (s : State) (p : Nat) (v : Bool) : State :=
  if v then
    if s.b .HEP_CTRL_EN p then s
    else if s.inDram (s.cmbBase p) (2 ^ 26) then s.setB .HEP_CTRL_EN p true
    else s.cfgErrAt (.hep p) .HEP_CTRL_EN p
  else if s.b .CIU_CTRL_EN 0 then s.cfgErrAt (.hep p) .HEP_CTRL_EN p
  else
    let s := s.setB .HEP_CTRL_EN p false
    if s.b .HEP_PW_CTRL_COMMIT_PEND p then s.applyPw p else s

def execHepEn (p : Port) (v : Bool) (s : State) : Outcome := .next (s.onBlk .hep p (fun s => s.onPort p (fun s => s.hepEn p v)))

/-- Vectors whose pending bit is 1 and whose masks are both off send their message and clear it (R54). -/
def State.flushVecs (s : State) (p : Nat) : State :=
  if (s.hp p).fnMask then s
  else ((s.hp p).msix.map Prod.fst).foldl (fun u v => if (u.vec p v).pending && !(u.vec p v).masked then u.sendMsix p v else u) s

/-- ATS is disabled: the port's translations go, and the reads that wait for one go out untranslated (R52). -/
def State.atsOff (s : State) (p : Nat) : State := ((s.setHp p { s.hp p with ats := false }).dropAtc p).pump p

/-- A configuration write reaches the fields the rules read. Clearing ATS Enable drops the port's translations (R52). -/
def State.cfgWrite (s : State) (p : Nat) (w : CfgWrite) : State :=
  let h := s.hp p
  match w with
  | .tag10 v => s.setHp p { h with tag10 := v }
  | .ctoValue v => s.setHp p { h with ctoValue := v.toNat }
  | .relaxed v => s.setHp p { h with relaxed := v }
  | .ats v => if v then s.setHp p { h with ats := true } else s.atsOff p
  | .functionMask v => (s.setHp p { h with fnMask := v }).flushVecs p
  | .maxPayload v => s.setHp p { h with mps := v.toNat }
  | .maxReadRequest v => s.setHp p { h with mrrs := v.toNat }
  | .ltr v => s.setHp p { h with ltr := v }
  | .ecrcGen v => s.setHp p { h with ecrcGen := v }
  | .ecrcCheck v => s.setHp p { h with ecrcChk := v }
  | .aspmL1 v => s.setHp p { h with aspmL1 := v }
  | .d3hot v => s.setHp p { h with d3hot := v }

/-- What a configuration read of a field returns (R20, R30, R36, R48, R53), in the codes of PCIe (PRESUMED, log entry 106): what the port
advertises, or what was last written. Absent features are not advertised: 0. BAR types: 0xC for 64-bit and prefetchable, 0x4 for 64-bit;
an upper half has none. -/
def State.cfgValue (s : State) (p : Nat) (r : CfgRead) : Nat :=
  let h := s.hp p
  match r with
  | .linkSpeeds => 0x1F
  | .maxLinkWidth => if s.b .SUP_STRAP_PORT 0 then 2 else 4
  | .laneMargining => 1
  | .maxPayloadSupported => 2
  | .tag10Completer => 1
  | .tag10Requester => 1
  | .aerPresent => 1
  | .ecrcGenCapable => 1
  | .ecrcCheckCapable => 1
  | .aspmSupport => 2
  | .l1Substates => 0
  | .d1Support => 0
  | .d2Support => 0
  | .pmeSupport => 0
  | .flrCapable => 1
  | .ltrSupported => 1
  | .atsPresent => 1
  | .atsQueueDepth => 0
  | .atsSmallestUnit => 0
  | .atsPageAligned => 1
  | .priPresent => 0
  | .pasidPresent => 0
  | .msixTableSize => 1024
  | .msiPresent => 0
  | .interruptPin => 0
  | .sriovPresent => 0
  | .ariPresent => 0
  | .tphPresent => 0
  | .ptmPresent => 0
  | .resizableBarPresent => 0
  | .ctoRanges => 1
  | .ctoDisable => 0
  | .barType n => if n.val = 0 then 0x4 else if n.val = 2 ∨ n.val = 4 then 0xC else 0
  | .tag10Enable => h.tag10.toNat
  | .ctoValue => h.ctoValue
  | .relaxed => h.relaxed.toNat
  | .atsEnable => h.ats.toNat
  | .functionMask => h.fnMask.toNat
  | .maxPayload => h.mps
  | .maxReadRequest => h.mrrs
  | .ltrEnable => h.ltr.toNat
  | .ecrcGenEnable => h.ecrcGen.toNat
  | .ecrcCheckEnable => h.ecrcChk.toNat
  | .aspmControl => 2 * h.aspmL1.toNat
  | .powerState => 3 * h.d3hot.toNat
  | .aerAdvisory => h.advisory.toNat
  | .aerEntries => h.aer.length

/-- CONFIGURATION_REQUEST (R30, R32): Configuration Request Retry Status while EN reads 0; else a write takes effect and a read returns the
field's value. -/
def execConfigurationRequest (p : Port) (r : CfgReq) (s : State) : Outcome :=
  .next (s.inBlk .hep p (fun s => s.onPort p (fun s =>
    if !s.b .HEP_CTRL_EN p then s.send (.cplTlp p 1 [] false)
    else
      match r with
      | .write w => (s.cfgWrite p w).send (.cplTlp p 0 [] false)
      | .read r => s.send (.cplTlp p 0 (leBytes 4 (s.cfgValue p r)) false))))

/-- A request times out (R38): its DMA fails, the tag goes into quarantine. -/
def State.timeout (s : State) (p tag : Nat) : State :=
  match (s.hp p).reqs.find? (fun r => r.tag == tag) with
  | none => s
  | some r =>
    let s := (s.dropReq p tag).setQuar p ((s.hp p).quar ++ [{ tag := tag, remaining := r.remaining, quiet := false }])
    ((s.aer p 0).event 0x1002 0 0 0).failDma p r.kind

/-- COMPLETION_TIMEOUT (R36-R38). -/
def execCompletionTimeout (p : Port) (tag : Nat) (s : State) : Outcome := .next (s.timeout p tag)

/-- The entry a sequencer fetched has arrived: it is held as the work item, and SQE_READY rises (R176, R183). -/
def State.sqeArrived (s : State) (p q cs order : Nat) (d : List Byte) : State :=
  let it : Item := { words := (List.range 16).map (fun i => leAt d (4 * i) 4), src := .sqe p q order }
  ({ s with eng := { s.eng with seq := Tbl.upd s.eng.seq {} cs (fun x => { x with
      item := some it, posted := false, done := Tbl.set x.done false 0x41 true }) } }).setB .ENG_CS_STAT_HELD cs true

/-- A request whose completions have all arrived. A command whose data has come has moved data (R83). -/
def State.requestDone (s : State) (p : Nat) (r : HostReq) (d : List Byte) : State :=
  let s := (s.dropReq p r.tag).pump p
  match r.kind with
  | .data tag dst cs =>
    s.onTag tag (fun s => ((s.wrTag dst d (some tag)).setCmd (tag / 8) { s.cmd (tag / 8) with moved := true }).raiseDone cs 0x45)
  | .sqe q cs o _ => s.sqeArrived p q cs o d
  | .ended q cq => s.postCqeTo p cq q (leAt d 2 2) 0 0x08 0
  | .xlate _ _ => s
  | .dead => s

/-- A second poisoned read of a submission entry (R44): the DMA fails as R38 gives, and CSTS.CFS is set, because the command cannot be
identified. -/
def State.fetchFailed (s : State) (p : Nat) (k : ReqKind) : State := (((s.aer p 0).event 0x1002 0 0 0).failDma p k).fatal p

/-- A completion for an outstanding request (R37, R44). A poisoned one fails its DMA as R38 does, without quarantine; a submission
entry is first fetched again, once (log entry 107). Data that has arrived for a command has moved (R83). -/
def State.cplOutstanding (s : State) (p : Nat) (r : HostReq) (d : List Byte) (good poisoned : Bool) : State :=
  if poisoned then
    match r.kind with
    | .sqe q cs o false => (s.dropReq p r.tag).request p (.sqe q cs o true) r.addr 64
    | .sqe .. => ((s.dropReq p r.tag).pump p).fetchFailed p r.kind
    | k => ((((s.dropReq p r.tag).pump p).aer p 0).event 0x1002 0 0 0).failDma p k
  else if !good then ((s.dropReq p r.tag).pump p).failDma p r.kind
  else if r.remaining ≤ d.length then s.requestDone p r (r.got ++ d)
  else
    let s := s.setHp p { s.hp p with reqs := (s.hp p).reqs.map (fun x =>
      if x.tag = r.tag then { x with remaining := x.remaining - d.length, got := x.got ++ d } else x) }
    match r.kind with
    | .data tag _ _ => if s.tagLive tag && (s.cmd (tag / 8)).live && !d.isEmpty then s.setCmd (tag / 8) { s.cmd (tag / 8) with moved := true } else s
    | _ => s

/-- A completion for a quarantined tag (R39, R40, R43). -/
def State.cplLate (s : State) (p : Nat) (q : Quar) (n : Nat) (good : Bool) : State :=
  let s := if q.quiet then s else ((s.aer p 1).inc .HEP_TAG_STAT_LATE p 1).event 0x1003 0 0 0
  if !good || q.remaining ≤ n then (s.setQuar p ((s.hp p).quar.filter (fun x => x.tag != q.tag))).pump p
  else s.setQuar p ((s.hp p).quar.map (fun x => if x.tag = q.tag then { x with remaining := x.remaining - n } else x))

/-- A completion TLP (R37-R44). One accepted in the cycle its timer expires is late: the timeout wins (R42). A poisoned completion for a tag
that an FLR or a link-down quarantined passes without AER log or event, as R43 says of every completion for such a tag: DESIGN CHOICE, since
R47 logs each poisoned TLP (log entry 108). -/
def State.completion (s : State) (p tag : Nat) (d : List Byte) (good poisoned expiring : Bool) : State :=
  let quiet := (s.hp p).quar.any (fun q => q.tag == tag && q.quiet)
  let s := if poisoned && !quiet then s.poisonedTlp p else s
  let s := if expiring then s.timeout p tag else s
  match (s.hp p).reqs.find? (fun r => r.tag == tag) with
  | some r => s.cplOutstanding p r d good poisoned
  | none =>
    match (s.hp p).quar.find? (fun q => q.tag == tag) with
    | some q => s.cplLate p q d.length good
    | none => (s.aer p 1).event 0x1004 0 0 0

def execCompletionTlp (p : Port) (tag : Nat) (d : List Byte) (good poisoned expiring : Bool) (s : State) : Outcome :=
  .next (s.onPort p (fun s => s.completion p tag d good poisoned expiring))

/-- QUARANTINE_HOLD_EXPIRY (R39): event 0x1007, and the tag is free. -/
def execQuarantineHoldExpiry (p : Port) (tag : Nat) (s : State) : Outcome :=
  .next (if (s.hp p).quar.any (fun q => q.tag == tag) then
    ((s.event 0x1007 0 0 0).setQuar p ((s.hp p).quar.filter (fun q => q.tag != tag))).pump p else s)

/-- CMB_WRITE (R45, R57, R58): posted data lands at the CMB's backing; poison marks every granule it touches. -/
def execCmbWrite (p : Port) (off : BitVec 26) (d : List Byte) (poisoned : Bool) (s : State) : Outcome :=
  .next (s.onPort p (fun s =>
    let s := if poisoned then s.poisonedTlp p else s
    if !s.b .BUF_STATUS_READY 0 then s
    else if poisoned then s.wrPoison (s.cmbBase p + off.toNat) d
    else s.wr (s.cmbBase p + off.toNat) d))

/-- Completions of a host read, each at most the payload's size, EP set where poisoned (R30, R45, R59). -/
def State.sendRead (s : State) (p a : Nat) (fuel n : Nat) : State :=
  match fuel with
  | 0 => s
  | k + 1 =>
    if n = 0 then s
    else
      let m := min (s.payload p) n
      let (d, bad, s) := s.fetchMarked (.host (Fin.ofNat 2 p)) a m
      (s.send (.cplTlp p 0 d (bad.any id))).sendRead p (a + m) k (n - m)

/-- CMB_READ (R57, R59): Completer Abort while the DRAM is out of service (R136). -/
def execCmbRead (p : Port) (off : BitVec 26) (len : Nat) (s : State) : Outcome :=
  .next (s.onPort p (fun s =>
    if s.b .BUF_STATUS_READY 0 then s.sendRead p (s.cmbBase p + off.toNat) (len / 128 + 1) len
    else s.send (.cplTlp p 2 [] false)))

/-! ### The peer window (R64-R72) -/

/-- The checks of R67 on a completed message of a slot. -/
def State.peerOk (s : State) (p slot : Nat) (m : List Byte) : Bool :=
  let src := leAt m 0 2
  src % 2 ^ 14 == slot && src / 2 ^ 14 == 1 && leAt m 2 2 == s.g .HEP_PW_ID_SELF_ID p
    && decide (s.g .HEP_PW_RANGE_RANGE_LO p ≤ slot) && decide (slot ≤ s.g .HEP_PW_RANGE_RANGE_HI p)
    && leAt m 60 4 == crc32c (m.take 60)

def State.pwRing (s : State) (p : Nat) : Nat := s.g .HEP_PW_RING_LO_BASE_LO p * 2 ^ 6 + s.g .HEP_PW_RING_HI_BASE_HI p * 2 ^ 32

/-- A completed message is checked, and written to the window ring (R67, R68). After COAL + 1 deliveries the delivery interrupt rises where MSG_IE
is 1. DESIGN CHOICE, the manual gives no field that ends it: its level stays until the next COAL + 1 deliveries end with MSG_IE 0, or the
port's block is reset; with MSG_IE 0 the interrupt is not kept (R73; log entry 109). -/
def State.peerDeliver (s : State) (p block : Nat) (m : List Byte) : State :=
  let size := 2 ^ s.g .HEP_PW_RING_SIZE_LOG2 p
  let prod := s.f .HEP_PW_PROD_PROD p
  if !s.peerOk p (block * 64 / 4096) m then s.inc .HEP_PW_DROP_B_CHECK p 1
  else if (prod + 1) % size = s.f .HEP_PW_CONS_CONS p then s.inc .HEP_PW_DROP_A_FULL p 1
  else
    let s := (s.wr (s.pwRing p + 64 * prod) m).setF .HEP_PW_PROD_PROD p ((prod + 1) % size)
    let h := s.hp p
    if s.f .HEP_PW_CTRL_COAL p ≤ h.delivered then s.setHp p { h with delivered := 0, msgIrq := s.b .HEP_PW_CTRL_MSG_IE p }
    else s.setHp p { h with delivered := h.delivered + 1 }

/-- A fragment goes to its assembly slot (R66). -/
def State.peerFragment (s : State) (p off : Nat) (d : List Byte) : State :=
  let h := s.hp p
  let block := off / 64
  let slot := match firstFrom 8 0 (fun i => (Tbl.get h.asm none i).any (fun x => x.block == block)) with
    | some i => some i
    | none => firstFrom 8 0 (fun i => (Tbl.get h.asm none i).isNone)
  match slot with
  | none => s.inc .HEP_PW_DROP_B_TIMEOUT p 1
  | some i =>
    let x := (Tbl.get h.asm none i).getD { block := block, mask := 0, data := List.replicate 64 0 }
    let mask := x.mask ||| ((2 ^ d.length - 1) * 2 ^ (off % 64))
    let data := patch x.data (off % 64) d
    if mask = 2 ^ 64 - 1 then (s.setHp p { h with asm := Tbl.set h.asm none i none }).peerDeliver p block data
    else s.setHp p { h with asm := Tbl.set h.asm none i (some { block := block, mask := mask, data := data }) }

/-- The blocks of a TLP of whole blocks, each delivered on its own, in increasing address order (R66). DESIGN CHOICE, the manual does not say:
an assembly of the same block goes on as it was (log entry 105). -/
def State.peerBlocks (s : State) (p block : Nat) (fuel : Nat) (d : List Byte) : State :=
  match fuel with
  | 0 => s
  | k + 1 => (s.peerDeliver p block (d.take 64)).peerBlocks p (block + 1) k (d.drop 64)

/-- A write TLP to BAR4/5 (R46, R64-R68). Nothing counts while the window is off in force. -/
def State.peerWrite (s : State) (p off : Nat) (d : List Byte) (contiguous poisoned : Bool) : State :=
  let n := d.length
  let s := if poisoned then s.poisonedTlp p else s
  if s.g .HEP_PW_CTRL_PW_EN p = 0 ∨ n = 0 then s
  else if poisoned then
    let blocks := (List.range ((off + n - 1) / 64 - off / 64 + 1)).map (· + off / 64)
    let h := s.hp p
    (s.setHp p { h with asm := h.asm.filter (fun e => !(e.2.any (fun x => blocks.contains x.block))) }).inc
      .HEP_PW_DROP_B_CHECK p blocks.length
  else if !contiguous then s.inc .HEP_PW_DROP_B_TIMEOUT p 1
  else if off % 64 = 0 ∧ n % 64 = 0 then s.peerBlocks p (off / 64) (n / 64) d
  else if off / 64 = (off + n - 1) / 64 then s.peerFragment p off d
  else s.inc .HEP_PW_DROP_B_TIMEOUT p 1

def execPeerWindowWrite (p : Port) (off : BitVec 26) (d : List Byte) (contiguous poisoned : Bool) (s : State) : Outcome :=
  .next (s.onPort p (fun s => s.peerWrite p off.toNat d contiguous poisoned))

/-- PEER_WINDOW_READ (R64): zeros, Successful Completion. -/
def execPeerWindowRead (p : Port) (_off : BitVec 26) (len : Nat) (s : State) : Outcome :=
  .next (s.onPort p (fun s => s.send (.cplTlp p 0 (List.replicate len 0) false)))

/-- ASSEMBLY_TIMEOUT (R66): an assembly not completed in time is dropped and counted. -/
def execAssemblyTimeout (p : Port) (slot : Fin 8) (s : State) : Outcome :=
  .next (
    let h := s.hp p
    if (Tbl.get h.asm none slot).isNone then s
    else (s.setHp p { h with asm := Tbl.set h.asm none slot none }).inc .HEP_PW_DROP_B_TIMEOUT p 1)

def State.asmBusy (s : State) (p : Nat) : Nat := ((s.hp p).asm.filter (fun e => e.2.isSome)).length

/-- WINDOW_IDLE_BOUNDARY (R70, R72). -/
def execWindowIdleBoundary (p : Port) (s : State) : Outcome :=
  .next (if s.b .HEP_PW_CTRL_COMMIT_PEND p && s.asmBusy p == 0 then s.applyPw p else s)

/-- FORCED_BOUNDARY (R70): 2 µs after COMMIT, occupied assemblies are dropped and counted, event 0x1009 once, and the shadows
apply. -/
def execForcedBoundary (p : Port) (s : State) : Outcome :=
  .next (
    if !s.b .HEP_PW_CTRL_COMMIT_PEND p then s else
    let n := s.asmBusy p
    let s := if n = 0 then s else
      ((s.setHp p { s.hp p with asm := [] }).inc .HEP_PW_DROP_A_STRADDLE p n).event 0x1009 0 0 0
    s.applyPw p)

/-- CNT_CLR (R73): the drop counters are cleared. -/
def execCntClr (p : Port) (s : State) : Outcome :=
  .next (s.onBlk .hep p (fun s => s.onPort p (fun s => s.setFs p [(.HEP_PW_DROP_A_STRADDLE, 0), (.HEP_PW_DROP_A_FULL, 0),
    (.HEP_PW_DROP_B_CHECK, 0), (.HEP_PW_DROP_B_TIMEOUT, 0)])))

/-! ### Resets of a port (R34, R43, R52, R92) -/

/-- FLR. -/
def execFlr (p : Port) (s : State) : Outcome :=
  .next (s.onPort p (fun s => (((s.event 0x100C 0 0 0).endRequests p).endController p |>.dropAtc p).resetFunction p))

/-- The link of a port goes down: quarantined tags are freed (R39), outstanding ones quarantined (R43), commands end (R92). -/
def State.portDown (s : State) (p : Nat) : State :=
  let s := (s.setQuar p []).endRequests p
  let s := (s.endController p).dropAtc p
  (s.resetFunction p).setFs p [(.HEP_STATUS_LINK_UP, 0), (.HEP_STATUS_SPEED, 0), (.HEP_STATUS_WIDTH, 0)]

def execLinkDown (p : Port) (s : State) : Outcome :=
  .next (if s.b .HEP_STATUS_LINK_UP p then (s.event 0x100A 0 0 0).portDown p else s)

/-- PERST (R34, R452): the port alone is reset; its link falls. -/
def execPerst (p : Port) (s : State) : Outcome :=
  .next (s.onPort p (fun s =>
    let s := if s.b .HEP_STATUS_LINK_UP p then s.event 0x100A 0 0 0 else s
    let s := s.portDown p
    s.setHp p { s.hp p with perst := true }))

/-- PERST_RELEASE (R34, R452). -/
def execPerstRelease (p : Port) (s : State) : Outcome := .next (s.setHp p { s.hp p with perst := false })

/-- PCIE_LINK_UP (R73): speed 1-5 and width as negotiated within R30; not while PERST is asserted. -/
def execPcieLinkUp (p : Port) (speed : Fin 6) (width : Fin 5) (s : State) : Outcome :=
  .next (
    let widths : List Nat := if s.b .SUP_STRAP_PORT 0 then [1, 2] else [1, 2, 4]
    if s.portOk p && !(s.hp p).perst && speed.val != 0 && widths.contains width.val && s.dom 3 then
      s.setFs p [(.HEP_STATUS_LINK_UP, 1), (.HEP_STATUS_SPEED, speed), (.HEP_STATUS_WIDTH, width)]
    else s)

/-! ### Address translation (R48-R52) -/

/-- A translation arrives for a page (R48-R50). Where an invalidation since its request overlaps what it covers, it is discarded and asked for
again. One with a permission is cached, 4 KiB to 1 GiB of it, the least recently used entry making room; without a permission, or once
ATS is disabled, nothing is cached and the reads of the page go out untranslated. -/
def State.translated (s : State) (p page : Nat) (inv : List (Nat × Nat)) (size host : Nat) (rd wr : Bool) : State :=
  let n := max 4096 size
  let lo := page / n * n
  let m := min n (2 ^ 30)
  let lo' := page / m * m
  if inv.any (fun r => rangesMeet (lo, n) r) then (s.event 0x1008 0 0 0).askPage p page
  else if (rd || wr) && (s.hp p).ats then
    let e : Atc := { port := p, start := lo', size := m, host := host + (lo' - lo), rd := rd, wr := wr }
    let s := s.updHep (fun h => { h with atc := (h.atc ++ [e]).drop (h.atc.length + 1 - 256) })
    if rd then s.pump p else s.plainReads p page
  else s.plainReads p page

/-- TRANSLATION_COMPLETION (R40, R41, R48-R50). -/
def execTranslationCompletion (p : Port) (tag size : Nat) (host : BitVec 64) (rd wr : Bool) (s : State) : Outcome :=
  .next (s.onPort p (fun s =>
    match (s.hp p).reqs.find? (fun r => r.tag == tag) with
    | some r =>
      match r.kind with
      | .xlate page inv => (s.dropReq p tag).translated p page inv size host.toNat rd wr
      | _ => s
    | none => s.completion p tag (List.replicate 8 0) true false false))

/-- INVALIDATE_REQUEST (R50, R51): matching entries go at once; translations outstanding note the range; the reads under way that used a
translation of the range hold the completion back. -/
def execInvalidateRequest (p : Port) (itag : Fin 32) (start : BitVec 64) (size : Nat) (s : State) : Outcome :=
  .next (s.onPort p (fun s =>
    let x := (start.toNat, size)
    let h := s.hp p
    let see := fun (r : HostReq) =>
      let r := match r.kind with
        | .xlate page inv => { r with kind := .xlate page (inv ++ [x]) }
        | _ => r
      if r.via.any (fun v => rangesMeet v x) then { r with holds := r.holds ++ [itag.val] } else r
    (s.setHp p { h with reqs := h.reqs.map see, inval := h.inval ++ [itag.val] }).updHep
      (fun y => { y with atc := y.atc.filter (fun e => !(e.port == p && rangesMeet (e.start, e.size) x)) })))

/-- INVALIDATE_COMPLETION (R51): the oldest invalidation's, once no read that used a dropped translation is outstanding. -/
def execInvalidateCompletion (p : Port) (s : State) : Outcome :=
  .next (s.onPort p (fun s =>
    let h := s.hp p
    match h.inval with
    | [] => s
    | i :: r => if h.reqs.any (fun x => x.holds.contains i) then s else (s.setHp p { h with inval := r }).send (.invalDone p i)))

/-- ATS_ENABLE_CLEAR (R52). -/
def execAtsEnableClear (p : Port) (s : State) : Outcome := .next (s.onPort p (fun s => s.atsOff p))

/-! ### Interrupts, doorbell of the completion head (R46, R54, R55) -/

/-- MSIX_VECTOR_UNMASK (R54). -/
def execMsixVectorUnmask (p : Port) (v : Fin 1025) (s : State) : Outcome :=
  .next (
    let s := s.setVec p v { s.vec p v with masked := false }
    if (s.vec p v).pending && !(s.hp p).fnMask then s.sendMsix p v else s)

/-- CQ_HEAD_DOORBELL (R46, R55): while the vector is masked, its pending bit clears once all its queues are empty. -/
def execCqHeadDoorbell (p : Port) (q : Fin 1025) (head : BitVec 16) (poisoned : Bool) (s : State) : Outcome :=
  .next (
    if !s.portOk p then s else
    if poisoned then s.poisonedTlp p else
    let c := s.cq p q
    if !c.live then s
    else if c.size ≤ head.toNat then s.badDoorbell p
    else
      let s := s.setCq p q { c with head := head.toNat }
      s.settleVec p c.vec)

/-- COALESCING_TIME_EXPIRY (R56): held messages leave as one. -/
def execCoalescingTimeExpiry (p : Port) (v : Fin 1025) (s : State) : Outcome :=
  .next (if (s.vec p v).held = 0 then s
         else if s.vecMasked p v then (s.setVec p v { s.vec p v with held := 0, pending := true }).settleVec p v
         else s.sendMsix p v)

/-! ### Slot emulation (R60-R62) -/

/-- The button's state on every port. -/
def State.setButton (s : State) (v : Bool) : State :=
  s.ports.foldl (fun u p => (u.setB .SLOT_STS_BTN p v).setB .HEP_SLOT_BTN p v) s

/-- The button is pressed: its bits on every port, the count of presses, event 0x100B (R62). -/
def State.press (s : State) : State :=
  let s := (s.setButton true).updHep (fun h => { h with presses := h.presses + 1 })
  (s.ports.foldl (fun u p => (u.setB .SLOT_STS_ABP p true).setB .HEP_SLOT_BTN_EV p true) s).event 0x100B 0 0 0

/-- ATTENTION_BUTTON_PRESS (R62): on each port that asks for it and is armed, an asynchronous event follows. -/
def execAttentionButtonPress (s : State) : Outcome :=
  .next (s.press.ports.foldl (fun u p =>
    if u.b .SLOT_CTL_ABP_AEN p && (u.hp p).btnArmed then
      (u.setHp p { u.hp p with btnArmed := false }).asyncEvent p 7 0xA0 0xC8
    else u) s.press)

/-- ATTENTION_BUTTON_RELEASE (R63, R456). -/
def execAttentionButtonRelease (s : State) : Outcome := .next (s.setButton false)

/-- LOG_PAGE_C8 (R62): 8 bytes; with Retain Asynchronous Event clear the event is armed again. -/
def execLogPageC8 (t : Slot) (retain : Bool) (s : State) : Outcome :=
  .next (s.onCmd t true 0x02 (fun c =>
    let d := leBytes 4 s.hep.presses ++ leBytes 1 (s.hep.indP + 4 * s.hep.indA) ++ leBytes 3 0
    let s := if retain then s else s.setHp c.port { s.hp c.port with btnArmed := true }
    (s.sendData c.port c.cid d false).finish t 0 0 0))

end Sys2Proof.Machine
end

