-- ==== Sys2Proof/Machine/Pool.lean ====
section
/-!
DEFINITION. Machine/Pool.lean: the resource commands of the intake sequencers CS24-CS31 (R183 class 2): fetching an entry, data to and
from the host, tags, the overlap table, the Ledger and the buffer index, one microword command at a time.
-/
namespace Sys2Proof.Machine

/-- A command of the intake class. -/
def State.onPool (s : State) (n : Nat) (e : Nat × Nat) (v : Nat) (ok : Nat → Bool) (g : State → State) : State := s.onSeq n 2 e v ok g

/-- The tag slot of the command a sequencer has in hand. -/
def State.itemSlot (s : State) (n : Nat) : Option Nat :=
  match (s.cs n).item with
  | some { src := .intake t, .. } => if (s.cmd t).live then some t else none
  | _ => none

/-- A step of the command in hand; without one nothing happens (log entry 13). -/
def State.onHand (s : State) (n : Nat) (e : Nat × Nat) (v : Nat) (ok : Nat → Bool) (g : State → Nat → Cmd → State) : State :=
  s.onPool n e v ok (fun s => match s.itemSlot n with
    | some t => g s t (s.cmd t)
    | none => s)

/-- The words of the item in hand. -/
def Seq.words (q : Seq) : List Nat := match q.item with
  | some it => it.words
  | none => []

/-- The fields of a submission entry in an item's words, where NVMe puts them (PRESUMED, log entry 12). Deallocate ranges come with
the data of the command, not with its entry. -/
def sqeOf (w : List Nat) : Sqe :=
  { opc := BitVec.ofNat 8 (dw w 0), cid := BitVec.ofNat 16 (dw w 0 / 2 ^ 16), nsid := BitVec.ofNat 32 (dw w 1)
    slba := BitVec.ofNat 64 (dw w 10 + 2 ^ 32 * dw w 11), nlb := BitVec.ofNat 16 (dw w 12), fua := bit (dw w 12) 30
    ranges := [], selectAll := bit (dw w 13) 8, deallocate := bit (dw w 11) 2
    pract := bit (dw w 12) 29, prchk := BitVec.ofNat 3 (bits (dw w 12) 28 26), reserved := false }

/-- A sequencer has no command in hand: no item, or an entry that was completed without a tag. -/
def Seq.idle (q : Seq) : Bool := match q.item with
  | none => true
  | some { src := .sqe .., .. } => q.posted
  | _ => false

/-- A range that a sequencer's command names lies where it may not be (R188): outside memory, or in the DRAM while that is out of service
(R136). -/
def State.refused (s : State) (a n : Nat) : Bool := !s.inMem a n || (decide (dramBase ≤ a) && !s.b .BUF_STATUS_READY 0)

/-- The entry of a CMB queue is read where it stands (R45, R58): a poisoned one is a poisoned fetch, whose refetch finds it poisoned again. The
next entry of the queue is prefetched (R111). -/
def State.fetchCmb (s : State) (n : Cs) (p : Port) (g : Grant) : State :=
  let x := s.sq p g.q
  let a := s.cmbBase p + x.base
  let (d, bad, s) := s.fetchMarked (.hepDma p) (a + 64 * g.i) 64
  let s := s.prefetchAll (a + 64 * ((g.i + 1) % max 1 x.size)) 64
  if bad.any id then s.fetchFailed p (.sqe g.q n g.order true) else s.sqeArrived p g.q n g.order d

/-- A FETCH_SQE for an entry of a queue meets its event: the next entry that left arbitration is of that queue, or there is none. -/
def State.grantIs (s : State) (p : Port) (q : Fin 1025) : Bool := s.ciu.grants.head?.all (fun g => g.p == p.val && g.q == q.val)

/-- FETCH_SQE (R35, R58, R78, R176): the next entry that left arbitration, which is of the queue named, is read, from host memory or from the CMB;
from now on its command is in flight. With no entry granted the word goes on; while the next is another queue's, the row meets no event (log
entry 13). -/
def execFetchSqe (n : Cs) (p : Port) (q : Fin 1025) (s : State) : Outcome :=
  .next (if !s.grantIs p q then s else s.onPool n unitCmd 1 anyWord (fun s =>
    match s.ciu.grants with
    | [] => s
    | g :: rest =>
      let p : Port := Fin.ofNat 2 g.p
      let x := s.sq p g.q
      if !(s.cs n).idle then s
      else if x.cmb && s.refused (s.cmbBase p) (2 ^ 26) then s.csFault n 5
      else
        let s := (s.dropItem n).updCiu (fun c => { c with grants := rest })
        let s := ((s.setDone n 0x41 false).setDone n 0x46 false).setInflight (s.f .CIU_OVL_STAT_INFLIGHT 0 + 1)
        let s := if x.cmb then s.fetchCmb n p g else s.request p (.sqe g.q n g.order false) (x.base + 64 * g.i) 64
        if s.b .CIU_STATUS_LIMIT 0 then s.eventOnce 0x2003 0x2003 0 0 0 else s))

/-- A command's data transfer ends: DMA_DONE; where it was not good, DMA_ERR, with the status left in S13. -/
def State.dmaEnd (s : State) (n : Nat) (st : Option (Nat × Nat)) : State :=
  match st with
  | none => (s.setDone n 0x45 true).setDone n 0x46 false
  | some (sct, sc) => ((s.setSreg n 13 (sct * 256 + sc)).setDone n 0x45 true).setDone n 0x46 true

/-- A hit DMA has read its slots: releases held back for it take effect (R87). -/
def State.endReading (s : State) (t : Nat) : State :=
  let r := (s.cmd t).reading
  r.foldl (fun u k => if u.ciu.deferred.contains k && !u.slotRead k then u.freeSlot k else u) (s.setCmd t { s.cmd t with reading := [] })

/-- A protection-information mismatch of a command (R91, R134). -/
def State.piEnd (s : State) (c : Cmd) (pi : PiResult) : Option (Nat × Nat) :=
  if c.piBad (s.nsp (c.nsid - 1)).fmt pi then some (2, piCode pi) else none

/-- TX (R47, R89, R135, R340): a hit sends its blocks from their slots, decrypted; any other command sends what firmware has ready at an
address. What is bad goes out with EP set, with event 0x1006; a read's protection information is checked after the block check. -/
def execTx (n : Cs) (d : TxData) (s : State) : Outcome :=
  .next (s.onHand n unitCmd 2 anyWord (fun s t c =>
    let moved := fun (s : State) => s.setCmd t { s.cmd t with moved := true }
    if c.posted then s
    else if c.phase = .hit then
      let (st, l, s) := s.fetchBlocks c []
      let s := s.endReading t
      if st.isSome then (moved ((s.sendBlocks c.port c.cid l).event 0x1006 0 0 0)).dmaEnd n st
      else if (s.piEnd c d.pi).isSome then s.dmaEnd n (s.piEnd c d.pi)
      else (moved (s.sendBlocks c.port c.cid l)).dmaEnd n none
    else if s.refused d.src.toNat d.len then s.csFault n 5
    else
      let (l, bad, s) := s.fetchMarked (.seq n) d.src.toNat d.len
      if bad.any id then (moved ((s.sendMarked c.port c.cid l bad).event 0x1006 0 0 0)).dmaEnd n (some (0, 4))
      else if !c.admin ∧ c.opc = 0x02 ∧ (s.piEnd c d.pi).isSome then s.dmaEnd n (s.piEnd c d.pi)
      else (moved (s.sendData c.port c.cid l false)).dmaEnd n none))

/-- A block of a write is stored, checked, encrypted and with its block check (R134, R340), where the command's new slot begins; the blocks come
in order (log entry 113). Each full piece of 64 blocks goes into the index (R88). -/
def State.rxBlock (s : State) (n t : Nat) (c : Cmd) (lba dst : Nat) (d : List Byte) (pi : PiResult) : State :=
  let i := c.nsid - 1
  let fmt := (s.nsp i).fmt
  let s := s.setCmd t { c with moved := true }
  if !c.pract ∧ (s.piEnd c pi).isSome then s.dmaEnd n (s.piEnd c pi)
  else
    let s := s.wrTag dst (slotBytes fmt lba (s.encrypt i lba (withPi c.pract fmt lba d))) (some (s.tagOf t))
    let k := (dst - s.slotAddr 0) / 4160
    let s := if s.slotAddr 0 ≤ dst ∧ (dst - s.slotAddr 0) % 4160 = 0 ∧ k < s.f .CIU_SLOTS_COUNT 0 ∧ !Tbl.get s.ciu.alloc false k then
        ((s.takeBuf k).setCmd t { s.cmd t with slots := (s.cmd t).slots ++ [k] }).publishPieces t (s.cmd t).slots.length
      else s
    s.dmaEnd n none

/-- Write data from the controller memory buffer has come, none where it is poisoned (R45). -/
def State.rxGot (s : State) (n t : Nat) (c : Cmd) (lba dst : Nat) (pi : PiResult) (d : Option (List (List Byte))) : State :=
  match d with
  | some l => s.rxBlock n t c lba dst l.flatten pi
  | none => ((s.dropBlocks t).finish t 0 4 0).dmaEnd n (some (0, 4))

/-- A block of write data comes from the controller memory buffer (R59). -/
def State.rxCmb (s : State) (n t : Nat) (c : Cmd) (lba dst off : Nat) (pi : PiResult) : State :=
  let r := s.cmbBlocks c.port off (hostBlock c.pract (s.nsp (c.nsid - 1)).fmt) 1
  r.2.rxGot n t c lba dst pi r.1

/-- RX (R35, R45, R59, R133, R134, R340). With a place in the CMB the block is read there: poisoned, it ends the command with Data Transfer
Error. Otherwise, with no data yet, the read of host memory leaves, from the entry's first data pointer; with the data of one block, it is
stored. -/
def execRx (n : Cs) (lba : BitVec 64) (dst : Addr) (data : RxData) (pi : PiResult) (s : State) : Outcome :=
  .next (s.onHand n unitCmd 3 anyWord (fun s t c =>
    let w := (s.cs n).words
    let len := hostBlock c.pract (s.nsp (c.nsid - 1)).fmt
    if c.posted then s
    else if s.refused dst.toNat 4160 then s.csFault n 5
    else
      match data with
      | .cmb off =>
        s.rxCmb n t c lba.toNat dst.toNat off.toNat pi
      | .host data =>
        if data.isEmpty then (s.setDone n 0x45 false).request c.port (.data (s.tagOf t) dst.toNat n) (dw w 6 + 2 ^ 32 * dw w 7) len
        else s.rxBlock n t c lba.toNat dst.toNat data pi))

/-- A command's completion entry does not leave: a write's on a fenced device (R428); a write's success before it is BUFFERED, its protection in
force and its mirror acknowledged (R13, R88, R408: WRITE_COMPLETION_RELEASE). -/
def State.completionHeld (s : State) (t st : Nat) : Bool :=
  let c := s.cmd t
  (s.mir.fenced && c.cls == 2)
    || (st == 0 && !c.admin && [0x01, 0x08, 0x7D].contains c.opc
        && (c.phase != .buffered || !s.protected || Tbl.get s.ciu.awaitMirror false t))

/-- POST_CQE (R78, R91) with the status in S13: type in bits 10:8, code in bits 7:0, as the Ledger holds it. The command leaves flight. MSIX sends
the interrupt. -/
def execPostCqe (n : Cs) (s : State) : Outcome :=
  .next (s.onPool n unitCmd 4 anyWord (fun s =>
    let st := s.sreg n 13
    let put := fun (s : State) (p q cid : Nat) => s.putCqe p (s.sq p q).cq q cid (st / 256 % 8) (st % 256) 0
    match (s.cs n).item with
    | some { words := w, src := .sqe p q _ } =>
      if (s.cs n).posted then s
      else ((put s p q (dw w 0 / 2 ^ 16 % 2 ^ 16)).updCs n (fun x => { x with posted := true })).fetchEnd
    | some { src := .intake t, .. } =>
      let c := s.cmd t
      if !c.live || c.posted || s.completionHeld t (st % 2048) then s
      else ((put s c.port c.sq c.cid).setCmd t { c with posted := true }).fetchEnd
    | _ => s))

/-- MSIX (R54, R56): the interrupt of the completion queue of the command in hand. -/
def execMsix (n : Cs) (s : State) : Outcome :=
  .next (s.onPool n unitCmd 5 anyWord (fun s =>
    match (s.cs n).item with
    | some { src := .sqe p q _, .. } => s.raiseVec p (s.cq p (s.sq p q).cq).vec
    | some { src := .intake t, .. } =>
      let c := s.cmd t
      s.raiseVec c.port (s.cq c.port (s.sq c.port c.sq).cq).vec
    | _ => s))

/-- PREFETCH (R111): the line at an address, as PIP_PREFETCH. -/
def execPrefetch (n : Cs) (a : Addr) (s : State) : Outcome :=
  .next (s.onPool n unitCmd 6 anyWord (fun s => if s.b .BUF_STATUS_READY 0 then s.prefetch (a.toNat / 128) else s.csFault n 5))

/-- An entry is given a tag slot: the tag goes to S12, and TAG_OK tells of it (R80, R183). -/
def State.giveTag (s : State) (n t p q o : Nat) (w : List Nat) : State :=
  let s := (s.tableUse 0x10).takeSlot.setCmd t { sqeCmd (sqeOf w) p q o with cls := 0, seen := false }
  let s := s.updCs n (fun x => { x with item := some { words := w, src := .intake t } })
  (s.setSreg n 12 (s.tagOf t)).setDone n 0x42 true

/-- ALLOC into S12 (R79, R80): the fetched entry gets the tag slot at the head of the free list; TAG_OK tells whether there was one. An entry whose
identifier an earlier command of the queue carries completes with Command ID Conflict. -/
def execAlloc (n : Cs) (s : State) : Outcome :=
  .next (s.onPool n tagCmd 1 anyWord (fun s =>
    match (s.cs n).item with
    | some { words := w, src := .sqe p q o } =>
      let cid := dw w 0 / 2 ^ 16 % 2 ^ 16
      if (s.cs n).posted then s
      else if s.cidUsed p q cid o then
        (((s.cidConflict p q cid).updCs n (fun x => { x with posted := true })).fetchEnd).setDone n 0x42 false
      else
        match s.nextSlot with
        | none => s.setDone n 0x42 false
        | some t => s.giveTag n t p q o w
    | _ => s))

/-- RELEASE S12 (R80, R81): the tag's command leaves flight; a stale tag changes nothing but the count. -/
def execRelease (n : Cs) (s : State) : Outcome :=
  .next (s.onPool n tagCmd 2 anyWord (fun s =>
    let tag := s.sreg n 12 % 2 ^ 16
    s.onTag tag (fun s => (if s.itemSlot n = some (tag / 8) then s.dropItem n else s).leave (tag / 8))))

/-- INSERT (R84, R85): the command in hand enters the overlap table, in its place in order; a Deallocate with its ranges, which come with its
data. -/
def execInsert (x : Insertion) (s : State) : Outcome :=
  .next (s.onHand x.n ovlCmd 1 anyWord (fun s t c =>
    s.setCmd t { c with cls := (sqeCmd (sqeOf (s.cs x.n).words) c.port c.sq 0).cls, seen := true
                        ranges := if c.opc = 0x09 ∧ !c.admin then x.ranges else c.ranges }))

/-- SEARCH (R84, R85): CONFLICT tells whether an earlier command holds this one, which then waits. -/
def execSearch (n : Cs) (s : State) : Outcome :=
  .next (s.onHand n ovlCmd 2 anyWord (fun s t c =>
    if s.blocked t then
      let s := s.setDone n 0x43 true
      if c.phase = .overlap then s else (s.setCmd t { c with phase := .overlap }).inc .CIU_OVL_STAT_WAITS 0 1
    else (s.setDone n 0x43 false).setCmd t { c with phase := if !c.admin ∧ [0x01, 0x08, 0x7D].contains c.opc then .active else .firmware }))

/-- REMOVE (R84): the command in hand leaves the overlap table. -/
def execRemove (n : Cs) (s : State) : Outcome := .next (s.onHand n ovlCmd 3 anyWord (fun s t c => s.setCmd t { c with cls := 0, seen := true }))

/-- APPEND_ACCEPTED (R93, R94). -/
def execAppendAccepted (n : Cs) (s : State) : Outcome :=
  .next (s.onHand n ldgCmd 1 anyWord (fun s t c => if s.b .LDG_CTRL_EN 0 && c.ledger.isNone then s.ledgerAppend t else s))

/-- LDG_STATE (R93, R95): STATE := IMM16[3:0] of the entry of the command in hand; its STATUS stays. -/
def execLdgState (n : Cs) (st : BitVec 4) (s : State) : Outcome :=
  .next (s.onHand n ldgCmd 2 (fun w => wImm w % 16 == st.toNat) (fun s t c => match c.ledger with
    | some i =>
      let r := s.ledgerRead i
      r.2.ledgerState i st.toNat (leAt r.1 6 2) (some (r.2.tagOf t))
    | none => s))

/-- LDG_FLAGS (R93): FLAGS OR IMM16[7:0]. -/
def execLdgFlags (n : Cs) (f : Byte) (s : State) : Outcome :=
  .next (s.onHand n ldgCmd 3 (fun w => wImm w % 256 == f.toNat) (fun s t c => match c.ledger with
    | some i => s.ledgerFlags i f.toNat (some (s.tagOf t))
    | none => s))

/-- LOOKUP (R89): whether a read is a HIT, and the slots it will read. -/
def execLookup (n : Cs) (s : State) : Outcome :=
  .next (s.onHand n idxCmd 1 anyWord (fun s t c =>
    let idx := (List.range c.blocks).map (fun i => s.bufIdx (c.nsid - 1) (c.slba + i))
    let hit := !c.admin && c.opc == 0x02 && s.b .CIU_CTRL_HIT_EN 0 && decide (c.blocks ≤ 32) && idx.all Option.isSome && !s.blocked t
    let s := if hit then s.setCmd t { c with phase := .hit, reading := idx.filterMap id } else s
    s.setDone n 0x44 hit))

/-- PUBLISH (R88): with every block of the write in its slot, its entry is BUFFERED and the index moves, in one step. -/
def execPublish (n : Cs) (s : State) : Outcome :=
  .next (s.onHand n idxCmd 2 anyWord (fun s t c =>
    if !c.posted ∧ !c.admin ∧ [0x01, 0x08, 0x7D].contains c.opc ∧ c.phase ≠ .buffered ∧ c.slots.length = c.blocks then s.becomeBuffered t else s))

end Sys2Proof.Machine
end

