-- ==== Sys2Proof/Machine/Media.lean ====
section
/-!
DEFINITION. Machine/Media.lean: what stands on the media and in the zone tables: the sector format with its LDPC parity and scrambling
(R220-R222), positions on a track (R223, R225), zone entries and their checks (R226-R229).
-/
namespace Sys2Proof.Machine

/-! ### The sector format (R220-R222) -/

/-- The n low bytes of a number, most significant first. -/
def beBytes (n v : Nat) : List Byte := (leBytes n v).reverse

/-- The number big-endian bytes spell. -/
def ofBe (l : List Byte) : Nat := ofLe l.reverse

/-- The circulant P^s on a block of 128 bits, bit 0 most significant: row r takes bit (r + s) mod 128 (R221). -/
def circulant (s v : Nat) : Nat := v * 2 ^ s % 2 ^ 128 + v / 2 ^ (128 - s)

/-- What the data blocks put into block row i of the parity checks (R221). -/
def dataRow (blocks : List Nat) (i : Nat) : Nat :=
  ((blocks.mapIdx (fun j b => (j, b))).foldl (fun a e =>
    (List.range 4).foldl (fun a k =>
      if (e.1 + 8 * k) % 31 = i then a ^^^ circulant ((e.1 * (2 * k + 3) + 17 * k) % 128) e.2 else a) a) 0)

/-- The blocks of a byte string, 16 bytes each. -/
def blocksOf (fuel : Nat) (d : List Byte) : List Nat :=
  match fuel with
  | 0 => []
  | k + 1 => ofBe (d.take 16) :: blocksOf k (d.drop 16)

/-- The 31 parity blocks: block columns 260 to 290 make row i hold parity blocks i - 1 and i (R221). -/
def parityBlocks (prev : Nat) : List Nat → List Nat
  | [] => []
  | d :: r => (prev ^^^ d) :: parityBlocks (prev ^^^ d) r

/-- The codeword of a 4,160-byte data field: the field, then 496 bytes of parity (R221). -/
def ldpcEncode (field : List Byte) : List Byte :=
  let b := blocksOf 260 field
  field ++ ((parityBlocks 0 ((List.range 31).map (dataRow b))).map (beBytes 16)).flatten

/-- One bit of the scrambling register (R222). -/
def scrambleBit (q : Nat) : Nat :=
  q * 2 % 65536 + ((q / 32768 + q / 8192 + q / 4096 + q / 1024) % 2)

/-- Eight bits of the sequence, the first one most significant, and the register after them. -/
def scrambleByte (n : Nat) (q v : Nat) : Nat × Nat :=
  match n with
  | 0 => (v, q)
  | k + 1 => scrambleByte k (scrambleBit q) (2 * v + q / 32768 % 2)

/-- XOR with the scrambling sequence (R222). -/
def scramble (q : Nat) : List Byte → List Byte
  | [] => []
  | b :: r =>
    let x := scrambleByte 8 q 0
    (b ^^^ BitVec.ofNat 8 x.1) :: scramble x.2 r

/-- The seed of a sector (R222). -/
def seedOf (head track pos : Nat) : Nat :=
  let q := (track % 65536 ^^^ pos ^^^ (head * 2048)) % 65536
  if q = 0 then 0xACE1 else q

/-- The 4,686 bytes of a sector on the media (R220). -/
def sectorImage (head track pos : Nat) (field : List Byte) : List Byte :=
  let c := scramble (seedOf head track pos) (ldpcEncode field)
  List.replicate 16 0xCC ++ [0x3C, 0xA5, 0x96, 0xE1, 0x4F] ++ c.take 2328 ++ [0xC5, 0x1E, 0x69, 0x3A, 0xB2] ++ c.drop 2328
    ++ List.replicate 4 0xCC

/-- A field as 4,160 bytes. -/
def fieldOf (d : List Byte) : List Byte := (d ++ List.replicate 4160 0).take 4160

/-- Whether the block check of a data field matches (R133). -/
def fieldCheck (lba : Nat) (d : List Byte) : Bool := leAt d 4156 4 == blockCheck (d.take 4096) lba

/-! ### Positions (R223, R225) -/

/-- Physical position of data sector d, and the data sector at a position. -/
def posOf (d : Nat) : Nat := d + d / 32
def dataAt (p : Nat) : Nat := p - p / 33
/-- The parity sector of a group. -/
def parityPos (spt g : Nat) : Nat := min (33 * g + 32) (spt - 1)
def isParity (spt p : Nat) : Bool := p == parityPos spt (p / 33)

/-- The count of data bit periods at which a sector starts (R224), given its zone entry's SKEW, SKEW_STEP, TRK_FIRST and DBW. -/
def startCount (skew step first dbw track pos : Nat) : Nat :=
  ((skew + (track - first) * step) % (560 * dbw) + 37488 * pos) % (560 * dbw)

/-! ### Band headers (R146) -/

/-- The map-log record of the last OPEN of a band, looked for from the newest record back (R142, R145). -/
def State.openRec (s : State) (p : Nat) : Option (List Byte) :=
  let n := s.mlogSize
  let tail := s.f .BTL_MLOG_TAIL_INDEX 0
  let at_ := fun k => s.rd (s.mlogBase + 32 * ((tail + 2 * n - 1 - k) % n)) 32
  (firstFrom ((tail + n - s.f .BTL_MLOG_TRIM_INDEX 0) % n) 0 (fun k => recType (at_ k) == 1 && leAt (at_ k) 8 4 == p)).map at_

/-- The data field of a band's header sector (R146). -/
def headerField (purpose nsidx band owner hgen openMseq src srcHgen : Nat) : List Byte :=
  let b := leBytes 4 0x42414E44 ++ leBytes 2 1 ++ leBytes 1 purpose ++ leBytes 1 nsidx ++ leBytes 4 band ++ leBytes 4 owner
    ++ leBytes 6 hgen ++ leBytes 6 openMseq ++ leBytes 4 src ++ leBytes 6 srcHgen ++ leBytes 22 0
  b ++ leBytes 4 (crc32c b) ++ List.replicate 4096 0

/-- The header of an open band: PURPOSE and OPEN_MSEQ as its OPEN gave them; after a power loss, from its OPEN record in the log, and a free value
where that is trimmed. The source is the band of a PMA, none for PMA 0 (log entry 84). -/
def State.bandHeader (s : State) (p src : Nat) : List Byte × State :=
  let b := s.band p
  let sb := if src = 0 then none else s.bandAt (pmaHead src) (pmaTrack src)
  let (sp, sg) := match sb with
    | some q => (q, bandHgen (s.band q))
    | none => (2 ^ 32 - 1, 0)
  let mk := fun purpose mseq => headerField purpose (leAt b 5 1) p (leAt b 12 4) (bandHgen b) mseq sp sg
  match s.btl.opened.find? (fun e => e.1 == p), s.openRec p with
  | some e, _ => (mk e.2.1 e.2.2, s)
  | none, some r => (mk (leAt r 16 1) (leAt r 0 6), s)
  | none, none =>
    let (v, t) := s.free
    (mk v (v / 256), t)

/-- Whether an item that starts writing at a data sector begins an opened band, with its header (R146). -/
def State.beginsBand (s : State) (head track d : Nat) : Option Nat :=
  (s.bandAt head track).filter (fun p => bandState (s.band p) == 1 && d == 0 && track == leAt (s.band p) 8 3)

/-! ### Zone entries (R226-R229) -/

/-- The 64 bytes of entry i of a bank. -/
def State.zoneEntry (s : State) (bank i : Nat) : List Byte :=
  ((List.range 16).map (fun k => leBytes 4 (Tbl.get s.chn.zt 0 (bank * 16384 + 16 * i + k)))).flatten

def zHead (z : List Byte) : Nat := leAt z 1 1
def zTier (z : List Byte) : Nat := leAt z 2 1
def zFirst (z : List Byte) : Nat := leAt z 4 3
def zLast (z : List Byte) : Nat := leAt z 8 3
def zBpw (z : List Byte) : Nat := leAt z 12 3
def zWoh (z : List Byte) : Nat := leAt z 16 3
def zSyn (z : List Byte) : Nat := leAt z 20 4
def zSpt (z : List Byte) : Nat := leAt z 24 2
def zDspt (z : List Byte) : Nat := leAt z 26 2
def zSkew (z : List Byte) : Nat := leAt z 28 4

def zStart (z : List Byte) (track pos : Nat) : Nat := startCount (zSkew z) (leAt z 32 4) (zFirst z) (zBpw z - zWoh z) track pos

/-- Wedges a second, by tier (R228). -/
def fWedge (tier : Nat) : Nat := if tier = 0 then 67200 else if tier = 1 then 50400 else 33600

/-- VALID with a correct CHK (R227, R258). -/
def zValid (z : List Byte) : Bool := bit (leAt z 0 1) 0 && leAt z 63 1 == crc8 (z.take 63)

/-- The conditions of R229. -/
def zoneOk (z : List Byte) (head track tier : Nat) : Bool :=
  let dbw := zBpw z - zWoh z
  let want := zBpw z * fWedge (zTier z) * 2 ^ 24
  let got := zSyn z * 25000000
  zValid z && leAt z 0 1 / 2 == 0 && leAt z 7 1 == 0 && leAt z 11 1 == 0 && leAt z 12 4 / 2 ^ 18 == 0 && leAt z 16 4 / 2 ^ 18 == 0
    && leAt z 62 1 == 0 && zHead z == head && zTier z == tier && decide (zFirst z ≤ track) && decide (track ≤ zLast z)
    && decide (1 ≤ leAt z 3 1) && decide (leAt z 3 1 ≤ 20) && decide (zWoh z < zBpw z) && decide (zSkew z < 560 * dbw)
    && zSpt z == 560 * dbw / 37488 && zSpt z == zDspt z + (zDspt z + 31) / 32 && decide (zSpt z ≤ 1008)
    && decide (zBpw z * fWedge (zTier z) ≤ 6400000000)
    && decide ((got - want + (want - got)) * 1000000 ≤ 2000 * want)

/-- A head that a formatter or a wedge sequencer may use: fitted, and not declared failed (R155, R245). -/
def State.headDown (s : State) (h : Nat) : Bool :=
  decide (23 < h) || !s.b .SRV_HEAD_FITTED h
    || (List.range (s.f .BTL_BT_COUNT_COUNT 0)).any (fun p => bandHead (s.band p) == h && bit (leAt (s.band p) 30 1) 1)

/-- The channel has ON_TRACK for a head (R255). -/
def State.onTrack (s : State) (h : Nat) : Bool := bit (s.f .SRV_ACT_STAT_ONT (h / 6)) (h % 6)

end Sys2Proof.Machine
end

