-- ==== Sys2Proof/Machine/Chn.lean ====
section
/-!
DEFINITION. Machine/Chn.lean: the recording lanes (R219-R247): arming and readiness, items and their completion, reading with replay and
the outer code, writing with parity, decoders, the preamp.
-/
namespace Sys2Proof.Machine

/-! ### Arming and readiness (R14, R230, R242) -/

def State.laneHead (s : State) (l : Nat) : Nat := s.f .CHN_STATUS_HEAD l
def partner (l : Nat) : Nat := if l % 2 = 0 then l + 1 else l - 1

/-- LANE_READY (R14, R230, R242). -/
def State.readyNow (s : State) (l : Nat) : Bool :=
  let h := s.laneHead l
  s.b .CHN_STATUS_ARMED l && s.onTrack h && s.b .CHN_STATUS_LOCK l &&
    (if (s.lane l).armWrite then bit (s.f .CHN_ASSIST_OK l) (h % 6) && !s.b .CHN_STATUS_ARMED (partner l)
     else l % 2 == 0 || !s.b .CHN_STATUS_WRITING (partner l))

/-- ON_TRACK and LANE_READY of a lane follow what they show. -/
def State.laneFlags (s : State) (l : Nat) : State :=
  s.setFs l [(.CHN_STATUS_ON_TRACK, (s.b .CHN_STATUS_ARMED l && s.onTrack (s.laneHead l)).toNat), (.CHN_STATUS_LANE_READY, (s.readyNow l).toNat)]

/-- Both lanes of an actuator. -/
def State.pairFlags (s : State) (l : Nat) : State := (s.laneFlags (l / 2 * 2)).laneFlags (l / 2 * 2 + 1)

/-- A lane is armed for a head. -/
def State.armLane (s : State) (l head track : Nat) (wr : Bool) : State :=
  ((s.updLane l (fun x => { x with armWrite := wr, track := track })).setFs l [(.CHN_STATUS_ARMED, 1), (.CHN_STATUS_HEAD, head)]).pairFlags l

def State.disarmLane (s : State) (l : Nat) : State :=
  ((((s.updLane l (fun x => { x with armWrite := false })).setFs l [(.CHN_STATUS_ARMED, 0), (.CHN_STATUS_WRITING, 0)]).pairFlags l)).laneStop0 l

/-! ### Items on a lane -/

/-- The sequencer that holds the item a lane performs. -/
def State.laneHolder (s : State) (o : LaneOwner) : Option Nat :=
  match o with
  | .ring r i => (List.range 44).find? (fun n => match (s.cs n).item with
    | some { src := .ring r' i', .. } => r' == r && i' == i
    | _ => false)
  | .copy cs => some cs

/-- A done condition of the formatter that performs the lane's item. -/
def State.laneDone (s : State) (l c : Nat) (v : Bool) : State :=
  match (s.lane l).op with
  | some { owner := .ring r i, .. } => match s.laneHolder (.ring r i) with
    | some n => s.setDone n c v
    | none => s
  | _ => match s.seqsOf l with
    | n :: _ => s.setDone n c v
    | [] => s

/-- The lane lets go of its item: sample slots and decoders are free again. -/
def State.laneDrop (s : State) (l : Nat) : State :=
  let s := s.updLane l (fun x => { x with op := none, dec := [] })
  (s.updChn (fun c => { c with spare := c.spare.filter (fun e => e.2 / 2 ^ 16 != l) })).setF .CHN_STORE_HELD l 0

/-- The item of a lane ends with a code: a ring's descriptor completes; a band copy sequencer gets its result, and a track that
it verified counts (R158, R183, R376). -/
def State.laneFinish (s : State) (l code detail units : Nat) : State :=
  match (s.lane l).op with
  | none => s
  | some o =>
    let h := s.laneHolder o.owner
    let s := (s.laneDrop l).disarmLane l
    let s := if code = 4 then s.event 0x7002 0 0 0 else s
    match o.owner, h with
    | .ring _ _, some n => s.post n code detail units
    | .ring _ _, none => s
    | .copy cs, _ =>
      let bad := code != 0 && code != 4
      let fails := o.opc == 3 && (code == 3 || (!bad && decide (s.f .BTL_VFY_MARGIN 0 < o.replayed)))
      let s := if o.opc ≠ 3 then s else
        match s.bandAt o.head o.track with
        | some p => if fails then s.verifyFailed p else if bad then s else s.trackVerified p
        | none => s
      (s.setDone cs 0x40 true).setDone cs 0x41 (bad || fails)

/-- A write item ends on loss of on-track (1), once it writes, or on a preamp fault (2) (R241). -/
def State.writeFault (s : State) (l detail : Nat) : State :=
  match (s.lane l).op with
  | some o =>
    if o.opc = 2 ∧ (detail = 2 ∨ s.b .CHN_STATUS_WRITING l) then
      ((s.inc .CHN_CNT_C_WFAULT l 1).event 0x7007 0 0 0).laneFinish l 0x0B detail o.done
    else s
  | none => s

/-- The lanes of an actuator follow a change of ON_TRACK; a fall stops a write (R241). -/
def State.actFlags (s : State) (a : Nat) : State :=
  let l := 2 * a
  let fell := s.b .CHN_STATUS_WRITING l && !s.onTrack (s.laneHead l)
  let s := s.pairFlags l
  if fell then s.writeFault l 1 else s

/-- The arguments of a formatter item as bytes 32-63 give them (R231). -/
def argZone (w : List Nat) : Nat := dw w 10 / 2 ^ 16
def argCheck (w : List Nat) : Bool := bit (dw w 10) 0
def argParity (w : List Nat) : Bool := bit (dw w 10) 1

/-- An ARGS bit that R231 gives as zero or reserved is set. -/
def argsBad (w : List Nat) : Bool :=
  let r := dw w 10 % 256
  let k := dw w 10 / 2 ^ 8 % 256
  decide (4 ≤ r) || (argParity w && dOpc w != 4) || k != 0 || decide (1024 ≤ argZone w) || (w.drop 11).any (· != 0)

/-- The first refusal of R245, as completion code and DETAIL. -/
def State.laneRefusal (s : State) (l : Nat) (w : List Nat) : Option (Nat × Nat) :=
  let h := pmaHead (dPma w)
  let t := pmaTrack (dPma w)
  let first := pmaSector (dPma w)
  let n := dCount w
  let z := s.zoneEntry (s.f .CHN_ZT_ACTIVE 0) (argZone w % 1024)
  if s.headDown h then some (0x0A, 0)
  else if h / 6 ≠ l / 2 then some (2, 0x20)
  else if !zoneOk z h t (s.f .CHN_ZT_TIER_NOW 0) then some (2, 0x21)
  else if zDspt z < first + n then some (2, 0x22)
  else if dOpc w = 2 ∧ (first % 32 ≠ 0 ∨ ((first + n) % 32 ≠ 0 ∧ first + n ≠ zDspt z)) then some (2, 0x23)
  else if dOpc w = 2 ∧ l % 2 = 1 then some (2, 0x24)
  else if s.b .CHN_STATUS_ARMED (partner l) ∧ s.laneHead (partner l) = h then some (2, 0x25)
  else if (dOpc w = 4 ∧ n ≠ 1) ∨ argsBad w then some (2, 0x26)
  else none

/-- The words of CHN_ADAPT show the taps in force (R243). -/
def State.showTaps (s : State) (l : Nat) (z : List Byte) : State :=
  (List.range 4).foldl (fun u k => u.setF .CHN_ADAPT_TAPS (l * 4 + k) (leAt z (36 + 4 * k) 4)) s

/-- An accepted zone entry takes force (R229, R243). -/
def State.zoneTake (s : State) (l idx : Nat) (z : List Byte) : State :=
  let s := s.updLane l (fun x => { x with zone := z, adapting := s.b .CHN_CTRL_ADAPT_EN l, adaptPend := false })
  (s.setFs l [(.CHN_ZONE_INDEX, idx), (.CHN_ZONE_VALID, 1), (.CHN_ZONE_SPT, zSpt z)]).showTaps l z

/-- A refused entry leaves the lane without a zone, with event 0x7008 (R229). -/
def State.zoneRefuse (s : State) (l : Nat) : State :=
  ((s.updLane l (fun x => { x with zone := [], adapting := false, adaptPend := false })).setB .CHN_ZONE_VALID l false).event 0x7008 0 0 0

/-- The operation a lane begins for the words of an item. -/
def laneOpOf (owner : LaneOwner) (w : List Nat) (pma : Nat) : LaneOp :=
  let first := pmaSector pma
  { owner := owner, opc := dOpc w, head := pmaHead pma, track := pmaTrack pma, first := first, count := dCount w, addr := dAddr w
    lba := dArg w, check := argCheck w, next := if dOpc w = 2 then posOf first else 33 * (first / 32) }

/-- The header that a write starting at a PMA brings to an opened band (R146). -/
def State.laneHeader (s : State) (opc pma : Nat) : Option (List Byte) × State :=
  match (if opc = 2 then s.beginsBand (pmaHead pma) (pmaTrack pma) (pmaSector pma) else none) with
  | some p =>
    let (f, t) := s.bandHeader p 0
    (some f, t)
  | none => (none, s)

/-- Writes to a held head are kept back, but for the calibration ring's (R376). -/
def State.laneHeld (s : State) (o : LaneOwner) (h : Nat) : Bool :=
  s.headHeld h && (match o with
    | .ring r _ => !s.calRing r
    | .copy _ => true)

/-- A formatter begins the item it holds: the checks of R245, arming, the zone. -/
def State.laneBegin (s : State) (l : Nat) (owner : LaneOwner) (w : List Nat) : State :=
  let h := pmaHead (dPma w)
  let fail := fun (s : State) (code detail : Nat) =>
    match owner, s.laneHolder owner with
    | .ring _ _, some n => s.post n code detail 0
    | .ring _ _, none => s
    | .copy cs, _ => (s.setDone cs 0x40 true).setDone cs 0x41 true
  match s.laneRefusal l w with
  | some (code, detail) =>
    fail (if code = 2 ∧ detail = 0x21 then s.zoneRefuse l else s) code detail
  | none =>
    if dOpc w = 2 ∧ s.laneHeld owner h then fail s 6 0
    else
      let z := s.zoneEntry (s.f .CHN_ZT_ACTIVE 0) (argZone w)
      let s := (s.armLane l h (pmaTrack (dPma w)) (dOpc w == 2)).zoneTake l (argZone w) z
      let (hdr, s) := s.laneHeader (dOpc w) (dPma w)
      s.updLane l (fun x => { x with op := some { laneOpOf owner w (dPma w) with header := hdr } })

/-- An item of a formatter opcode is begun; one already withdrawn ends ABORTED. -/
def State.laneItem (s : State) (l opc : Nat) : State :=
  if (s.lane l).op.isSome then s else
  s.onItem l [opc] (fun s n w =>
    (s.ringItem n).elim s (fun e => if (s.cs n).abortReq then s.post n 1 0 0 else s.laneBegin l (.ring e.2.1 e.2.2) w))

/-- FORMATTER_READ (R231, R237, R245). -/
def execFormatterRead (l : Lane) (s : State) : Outcome := .next (s.inBlk .chn l (fun s => s.laneItem l 1))
/-- FORMATTER_WRITE (R225, R240, R245). -/
def execFormatterWrite (l : Lane) (s : State) : Outcome := .next (s.inBlk .chn l (fun s => s.laneItem l 2))
/-- READ_CHECK (R231, R237, R245). -/
def execReadCheck (l : Lane) (s : State) : Outcome := .next (s.inBlk .chn l (fun s => s.laneItem l 3))

/-- A stop has been asked of the lane's item: the code with which it will end. -/
def State.laneStop (s : State) (l : Nat) : Option Nat :=
  match (s.lane l).op with
  | none => none
  | some o =>
    match o.stop with
    | some c => some c
    | none =>
      match s.laneHolder o.owner with
      | some n => if (s.cs n).abortReq then some 1 else none
      | none => some 1

/-- A stall for want of a sample slot (R235). -/
def State.laneStall (s : State) (l : Nat) : State :=
  ((s.setB .CHN_STATUS_STALL_EV l true).inc .CHN_CNT_B_STALLS l 1).event 0x7006 0 0 0

/-- READ_RAW (R231, R234): the 6,144 bytes of samples of one sector are stored. -/
def execReadRaw (l : Lane) (samples : List Byte) (s : State) : Outcome :=
  .next (s.inBlk .chn l (fun s =>
    let s := s.laneItem l 4
    match (s.lane l).op with
    | some o =>
      if o.opc ≠ 4 then s
      else if s.laneStop l = some 1 then s.laneFinish l 1 0 0
      else if !s.b .CHN_STATUS_LANE_READY l then s
      else if 16 ≤ s.f .CHN_STORE_HELD l then s.laneStall l
      else (s.wr o.addr ((samples ++ List.replicate 6144 0).take 6144)).laneFinish l 0 0 1
    | none => s))

/-! ### Sector gaps (R21, R243) -/

/-- What waits for a sector gap takes force: the CHN_SYNC group and adapted taps. The adapted values are the outcome of the analogue
signal: free values. -/
def State.laneGap (s : State) (l : Nat) : State :=
  let s := if s.b .CHN_SYNC_COMMIT_PEND l then s.syncApply l else s
  if (s.lane l).adaptPend then
    let s := s.updLane l (fun x => { x with adaptPend := false })
    (List.range 4).foldl (fun u k =>
      let (v, u) := u.free
      u.setF .CHN_ADAPT_TAPS (l * 4 + k) v) s
  else s

/-! ### Reading (R232-R239) -/

/-- The sectors of an item stand up to the parity sector of the group of its last named one (R225, R237). -/
def State.laneLast (s : State) (l : Nat) (o : LaneOp) : Nat := parityPos (zSpt (s.lane l).zone) ((o.first + o.count - 1) / 32)

def LaneOp.named (o : LaneOp) (d : Nat) : Bool := decide (o.first ≤ d) && decide (d < o.first + o.count)

/-- A position holds a data sector the item names. -/
def State.posNamed (s : State) (l : Nat) (o : LaneOp) (p : Nat) : Bool := !isParity (zSpt (s.lane l).zone) p && o.named (dataAt p)

/-- The LBA with which the sector at a position is seeded (R231). -/
def LaneOp.seedLba (o : LaneOp) (p : Nat) : Nat := unsigned 64 ((o.lba : Int) + dataAt p - o.first)

def State.updOp (s : State) (l : Nat) (g : LaneOp → LaneOp) : State := s.updLane l (fun x => { x with op := x.op.map g })
def State.updSector (s : State) (l p : Nat) (g : Sector → Sector) : State :=
  s.updOp l (fun o => { o with sectors := o.sectors.map (fun x => if x.pos = p then g x else x) })
def State.sectorAt (s : State) (l p : Nat) : Option Sector :=
  match (s.lane l).op with
  | some o => o.sectors.find? (fun x => x.pos == p)
  | none => none

/-- The primary window and the recovery window in force (R232). -/
def State.syncWin (s : State) (l : Nat) : Int := (max 2 (min 32 (s.g .CHN_SYNC_SYNC_WIN l)) : Nat)
def State.rsyncWin (s : State) (l : Nat) : Int := (min 8 (s.g .CHN_SYNC_RSYNC_WIN l) : Nat)

/-- A decoder instance of a lane works: the bound spare in its place, or itself (R239). -/
def State.decoderUp (s : State) (l d : Nat) : Bool :=
  match (List.range 2).find? (fun k => s.b .CHN_SPARE_DEC_BIND k && s.f .CHN_SPARE_DEC_LANE k == l && s.f .CHN_SPARE_DEC_DEC k == d) with
  | some k => !(if k = 0 then s.b .CHN_COM_STATUS_SPARE0_FLT 0 else s.b .CHN_COM_STATUS_SPARE1_FLT 0)
  | none => !(if d = 0 then s.b .CHN_STATUS_DEC0_FLT l else s.b .CHN_STATUS_DEC1_FLT l)

def State.decoderFree (s : State) (l d : Nat) : Bool := s.decoderUp l d && Tbl.get (s.lane l).dec 0 d == 0

/-- A spare decoder that may take a replay: unbound, working and free. -/
def State.spareFree (s : State) (k : Nat) : Bool :=
  !s.b .CHN_SPARE_DEC_BIND k && !(if k = 0 then s.b .CHN_COM_STATUS_SPARE0_FLT 0 else s.b .CHN_COM_STATUS_SPARE1_FLT 0)
    && Tbl.get s.chn.spare 0 k == 0

/-- The first sector in a state. -/
def State.firstIn (s : State) (l st : Nat) : Option Sector :=
  match (s.lane l).op with
  | some o => o.sectors.find? (fun x => x.st == st)
  | none => none

/-- First decodes start on free decoders, 0 before 1 (R239). -/
def State.startDecodes (s : State) (l : Nat) : State :=
  [0, 1].foldl (fun u d =>
    match u.firstIn l 1 with
    | some x => if u.decoderFree l d then
        (u.updLane l (fun y => { y with dec := Tbl.set y.dec 0 d (x.pos + 1) })).updSector l x.pos (fun y => { y with st := 2 })
      else u
    | none => u) s

/-- Whether a sync search found a mark. -/
def Sector.marked (x : Sector) : Bool := x.prim.isSome || x.recov.isSome

/-- The replay attempts of a sector with a mark, in order (R236 item 1): offset and detector set. -/
def replayPairs (x : Sector) (sets : Nat) : List (Int × Nat) :=
  let d : Int := match x.prim, x.recov with
    | some _, some d => d
    | _, _ => 0
  (if d ≠ 0 then [(d, 3)] else []) ++ [(-1, 3), (1, 3), (-2, 3), (2, 3), (-3, 3), (3, 3), (-4, 3), (4, 3)]
    ++ ((List.range 8).filter (fun k => k != 3 && bit sets k)).map (fun k => (0, k))

/-- The wide searches of item 2, kept apart from the attempts by their offset. -/
def searchPairs (sets : Nat) : List (Int × Nat) := ((List.range 8).filter (bit sets)).map (fun k => (99, k))

/-- The next replay step of a sector, none when replay ends (R236). -/
def Sector.nextReplay (x : Sector) : Option (Int × Nat) :=
  if x.tries ≤ x.tried.length then none
  else (if x.marked then replayPairs x x.sets else searchPairs x.sets).find? (fun p => !x.tried.contains p)

/-- A sector not accepted waits for its next replay step, or is not accepted for good. -/
def State.toReplay (s : State) (l p : Nat) : State :=
  s.updSector l p (fun x => { x with st := if x.nextReplay.isSome then 3 else 6 })

/-- The named sector at a position is resolved with its data: a READ stores it (R231). -/
def State.storeSector (s : State) (o : LaneOp) (p : Nat) (d : List Byte) : State :=
  if o.opc = 1 then s.wr (o.addr + 4160 * (dataAt p - o.first)) d else s

/-- An accepted sector: its slot is free, and its field stays in the group's accumulator (R234, R236, R237). -/
def State.accept (s : State) (l p : Nat) (f : List Byte) (replayed shifted : Bool) : State :=
  match (s.lane l).op with
  | none => s
  | some o =>
    let named := s.posNamed l o p
    let s := (s.updSector l p (fun x => { x with st := 5, field := f })).setF .CHN_STORE_HELD l (s.f .CHN_STORE_HELD l - 1)
    let s := (s.updLane l (fun x => { x with buf := f, bufBad := false })).laneDone l 0x42 true
    if !named then s else
    let s := (s.storeSector o p f).updOp l (fun o => { o with done := o.done + 1, replayed := o.replayed + replayed.toNat })
    let s := if replayed then s.inc .CHN_CNT_A_REPLAYED l 1 else s
    if shifted then (s.inc .CHN_CNT_C_SHIFTED l 1).event 0x700C 0 0 0 else s

/-- An unrecovered sector: a named one is stored as poisoned granules and counted (R237). The data it is stored with is open. -/
def State.unrecovered (s : State) (l p : Nat) : State :=
  match (s.lane l).op with
  | none => s
  | some o =>
    if !s.posNamed l o p then s else
    let i := dataAt p - o.first
    let (v, s) := s.free
    let s := if o.opc = 1 then s.wrPoison (o.addr + 4160 * i) (leBytes 4160 v) else s
    let s := (s.inc .CHN_CNT_B_UNREC l 1).event 0x7004 0 0 0
    s.updOp l (fun o => { o with done := o.done + 1, unrec := o.unrec + 1
                                 firstUnrec := if o.unrec = 0 then i else min o.firstUnrec i })

/-- A sector rebuilt by the outer code (R237). -/
def State.sectorRebuilt (s : State) (l p : Nat) (f : List Byte) : State :=
  match (s.lane l).op with
  | none => s
  | some o =>
    if !s.posNamed l o p then s else
    ((((s.storeSector o p f).inc .CHN_CNT_A_OUTER l 1).event 0x7003 0 0 0)).updOp l
      (fun o => { o with done := o.done + 1, replayed := o.replayed + 1 })

/-- A group whose started sectors are all accepted or not accepted is resolved (R237): the outer code needs every sector of the group
and exactly one of them not accepted. -/
def State.resolveGroup (s : State) (l g : Nat) : State :=
  match (s.lane l).op with
  | none => s
  | some o =>
    let spt := zSpt (s.lane l).zone
    let xs := o.sectors.filter (fun x => x.pos / 33 == g)
    let whole := decide (parityPos spt g < o.next)
    let bad := xs.filter (fun x => x.st == 6)
    if xs.isEmpty ∨ !(whole || (s.laneStop l).isSome) ∨ xs.any (fun x => x.st != 5 && x.st != 6) then s
    else
      let s := match bad, whole && s.b .CHN_CTRL_OUTER_EN l with
        | [x], true =>
          let f := (xs.filter (fun (y : Sector) => y.pos != x.pos)).foldl (fun a (y : Sector) => xorBytes a y.field) (List.replicate 4160 0)
          if !o.check || isParity spt x.pos || fieldCheck (o.seedLba x.pos) f then s.sectorRebuilt l x.pos f else s.unrecovered l x.pos
        | b, _ => b.foldl (fun u (x : Sector) => u.unrecovered l x.pos) s
      (s.updOp l (fun o => { o with sectors := o.sectors.filter (fun x => x.pos / 33 != g) })).setF .CHN_STORE_HELD l
        (s.f .CHN_STORE_HELD l - bad.length)

/-- The result of R238, once every sector of the item is resolved. -/
def State.readResult (s : State) (l : Nat) : State :=
  match (s.lane l).op with
  | none => s
  | some o =>
    if o.opc ≠ 1 ∧ o.opc ≠ 3 then s
    else if !o.sectors.isEmpty then s
    else match s.laneStop l with
      | some c => s.laneFinish l c 0 o.done
      | none =>
        if o.next ≤ s.laneLast l o then s
        else if o.unrec ≠ 0 then s.laneFinish l 3 (min 255 o.unrec) o.firstUnrec
        else if o.replayed ≠ 0 then s.laneFinish l 4 (min 255 o.replayed) o.count
        else s.laneFinish l 0 0 o.count

/-- Resolution after a change of a sector: its group, then the item. -/
def State.settle (s : State) (l g : Nat) : State := ((s.resolveGroup l g).startDecodes l).readResult l

/-- Every group still open is looked at again: after a stop. -/
def State.settleAll (s : State) (l : Nat) : State :=
  match (s.lane l).op with
  | none => s
  | some o => (o.sectors.foldl (fun u x => u.resolveGroup l (x.pos / 33)) s).readResult l

/-- SECTOR_START (R224, R232-R235): the next sector of a read starts, with the outcome of its two mark searches. A position outside a
window is not found. With no free slot the lane stalls; under a stop no further sector starts (R238). -/
def execSectorStart (l : Lane) (primary recovery : Option Int) (s : State) : Outcome :=
  .next (s.inBlk .chn l (fun s =>
    match (s.lane l).op with
    | none => s
    | some o =>
      if o.opc ≠ 1 ∧ o.opc ≠ 3 then s
      else if (s.laneStop l).isSome then s.settleAll l
      else if s.laneLast l o < o.next ∨ !s.b .CHN_STATUS_LANE_READY l ∨ o.sectors.any (fun x => x.st == 0) then s
      else
        let s := s.laneGap l
        if 16 ≤ s.f .CHN_STORE_HELD l then s.laneStall l
        else
          let inWin := fun (w : Int) (x : Option Int) => x.filter (fun v => decide (-w ≤ v) && decide (v ≤ w))
          let prim := inWin (s.syncWin l) primary
          let rec' := inWin (if prim.isSome then s.rsyncWin l else s.syncWin l) recovery
          let x : Sector := { pos := o.next, prim := prim, recov := rec'
                              tries := if s.b .CHN_CTRL_REPLAY_EN l then s.f .CHN_REPLAY_REPLAY_MAX l else 0, sets := s.f .CHN_REPLAY_DETSETS l }
          let s := (s.updOp l (fun o => { o with sectors := o.sectors ++ [x], next := o.next + 1 })).tableUse 0x0F
          let s := s.setF .CHN_STORE_HELD l (s.f .CHN_STORE_HELD l + 1)
          ((s.laneDone l 0x41 false).laneDone l 0x42 false).laneDone l 0x43 (prim.isSome || rec'.isSome)))

/-- SECTOR_END (R236, R239): the sector's first decode waits for a decoder; with no mark found it goes to replay. -/
def execSectorEnd (l : Lane) (s : State) : Outcome :=
  .next (s.inBlk .chn l (fun s =>
    match s.firstIn l 0 with
    | none => s
    | some x =>
      let s := if x.marked then s.updSector l x.pos (fun y => { y with st := 1 }) else s.toReplay l x.pos
      (((s.laneDone l 0x41 true).startDecodes l).settle l (x.pos / 33))))

/-- The sector and lane a decoder works on. -/
def State.decoderWork (s : State) (l dec : Nat) : Option Nat :=
  let v := if dec < 2 then Tbl.get (s.lane l).dec 0 dec else
    let x := Tbl.get s.chn.spare 0 (dec - 2)
    if x / 2 ^ 16 = l then x % 2 ^ 16 else 0
  if v = 0 then none else some (v - 1)

def State.decoderIdle (s : State) (l dec : Nat) : State :=
  if dec < 2 then s.updLane l (fun x => { x with dec := Tbl.set x.dec 0 dec 0 })
  else s.updChn (fun c => { c with spare := Tbl.set c.spare 0 (dec - 2) 0 })

/-- DECODE_END (R221, R236-R238, R243): field is the data field when the syndrome is zero. Decoders 0 and 1 are the lane's, 2 and 3 the
spares'. -/
def execDecodeEnd (l : Lane) (dec : Fin 4) (field : Option (List Byte)) (s : State) : Outcome :=
  .next (s.inBlk .chn l (fun s =>
    match s.decoderWork l dec, (s.lane l).op with
    | some p, some o =>
      let s := s.decoderIdle l dec
      match s.sectorAt l p with
      | none => s
      | some x =>
        let f := (field.getD []) |> fieldOf
        let data := !isParity (zSpt (s.lane l).zone) p
        let good := field.isSome && (!o.check || !data || fieldCheck (o.seedLba p) f)
        let s :=
          if good then
            let s := if x.st = 2 ∧ (s.lane l).adapting then s.updLane l (fun y => { y with adaptPend := true }) else s
            let off := (x.tried.head?.map Prod.fst).getD 0
            s.accept l p f (x.st == 4) (x.st == 4 && off != 0)
          else (s.toReplay l p).laneDone l 0x45 (field.isSome && o.check && data)
        s.settle l (p / 33)
    | _, _ => s))

/-- A replay step of a sector (R236, R239): a wide search brings the displacement it finds, or none beyond 8; an attempt runs on a spare
decoder, or on a lane decoder that no first decode waits for. -/
def State.replay (s : State) (l p : Nat) (off : Int) (set : Nat) : State :=
  match s.sectorAt l p with
  | none => s
  | some x =>
    if x.st ≠ 3 then s else
    match x.nextReplay with
    | none => s
    | some (o, k) =>
      if k ≠ set then s
      else if o = 99 then
        let found := decide (-8 ≤ off) && decide (off ≤ 8)
        let s := s.updSector l p (fun y => { y with tried := (o, k) :: y.tried
                                                    prim := if found then some 0 else none, recov := if found then some off else none })
        (s.toReplay l p).settle l (p / 33)
      else if o ≠ off then s
      else
        let go := fun (s : State) => s.updSector l p (fun y => { y with st := 4, tried := (o, k) :: y.tried })
        match (List.range 2).find? s.spareFree with
        | some j => (go s).updChn (fun c => { c with spare := Tbl.set c.spare 0 j (l * 2 ^ 16 + p + 1) })
        | none =>
          match (List.range 2).find? (s.decoderFree l), s.firstIn l 1 with
          | some d, none => (go s).updLane l (fun y => { y with dec := Tbl.set y.dec 0 d (p + 1) })
          | _, _ => s

/-- REPLAY_ATTEMPT. -/
def execReplayAttempt (l : Lane) (sector : Nat) (off : Int) (set : Fin 8) (s : State) : Outcome :=
  .next (s.inBlk .chn l (fun s => s.replay l sector off set))

/-- DECODER_FAULT (R239): the decoder stops, and its sector is decoded again on another. -/
def execDecoderFault (l : Lane) (dec : Fin 4) (s : State) : Outcome :=
  .next (s.inBlk .chn l (fun s =>
    let w := s.decoderWork l dec
    let s := s.decoderIdle l dec
    let spare := if 2 ≤ dec.val then some (dec.val - 2) else
      (List.range 2).find? (fun k => s.b .CHN_SPARE_DEC_BIND k && s.f .CHN_SPARE_DEC_LANE k == l.val && s.f .CHN_SPARE_DEC_DEC k == dec.val)
    let s := match spare with
      | some 0 => s.setB .CHN_COM_STATUS_SPARE0_FLT 0 true
      | some _ => s.setB .CHN_COM_STATUS_SPARE1_FLT 0 true
      | none => if dec.val = 0 then s.setB .CHN_STATUS_DEC0_FLT l true else s.setB .CHN_STATUS_DEC1_FLT l true
    let s := (s.setB .CHN_STATUS_DEC_EV l true).event 0x700A 0 0 0
    match w with
    | some p => (s.updSector l p (fun x => if x.st = 4 then { x with st := 3, tried := x.tried.tail } else { x with st := 1 })).startDecodes l
    | none => s))

/-- SPARE_DECODER_BIND (R239). -/
def execSpareDecoderBind (k : Fin 2) (l : Lane) (dec bind : Bool) (s : State) : Outcome :=
  .next (s.onBlk .chn 8 (fun s =>
    let on := s.b .CHN_SPARE_DEC_BIND k
    let l0 := s.f .CHN_SPARE_DEC_LANE k
    let d0 := s.f .CHN_SPARE_DEC_DEC k
    let keep := fun (s : State) => s.setFs k [(.CHN_SPARE_DEC_LANE, l.val), (.CHN_SPARE_DEC_DEC, dec.toNat)]
    let other := 1 - k.val
    let clash := s.b .CHN_SPARE_DEC_BIND other && s.f .CHN_SPARE_DEC_LANE other == l.val && s.f .CHN_SPARE_DEC_DEC other == dec.toNat
    let err := fun (s : State) => s.cfgErrAt .chnCom .CHN_SPARE_DEC_BIND k
    if on ∧ bind then (if l0 = l.val ∧ d0 = dec.toNat then s else err s)
    else if on then
      if s.b .CHN_STATUS_ARMED l0 then err s
      else ((keep s).setB .CHN_SPARE_DEC_BIND k false).event 0x7009 0 0 0
    else if !bind then keep s
    else if s.b .CHN_STATUS_ARMED l ∨ clash then err s
    else ((keep s).setB .CHN_SPARE_DEC_BIND k true).event 0x7009 0 0 0))

/-! ### Writing (R225, R240, R241) -/

/-- The assist code of a sector (R240): an ASSIST command's, or the zone's base with the trim that QE9 holds for the head. -/
def State.assistCode (s : State) (l : Nat) (o : LaneOp) : Nat :=
  match o.assist with
  | some c => c
  | none =>
    let q := Tbl.get (s.eng.qe) {} (if s.b .ENG_QE_CTRL_BOUND 9 then 11 else 9)
    (max 0 (min 255 ((leAt (s.lane l).zone 60 1 : Int) + signed 8 (Tbl.get q.outp 0 o.head)))).toNat

/-- A sector's field goes out to the media: parity sectors close their group; open-band parity, exposure (R152, R156, R225, R240). A
track counts as written when its last sector is (log entry 27). -/
def State.putSector (s : State) (l : Nat) (o : LaneOp) (f : List Byte) : State :=
  let spt := zSpt (s.lane l).zone
  let p := o.next
  let par := isParity spt p
  let z := (s.lane l).zone
  let lead := if s.b .CHN_COM_CTRL_ASSIST_TYPE 0 then 0 else 16 * leAt z 61 1
  let s := s.send (.sector o.head o.track p (zStart z o.track p) (sectorImage o.head o.track p f) (s.assistCode l o) lead (leAt z 55 1)
    ((z.drop 56).take 4))
  let s := s.bandParity o.head o.track p f
  let s := if par then s else s.markSector o.head o.track (dataAt p) false
  let s := if p + 1 = spt then s.trackWritten o.head o.track else s
  let s := ((s.setB .CHN_STATUS_WRITING l true).pairFlags l).laneDone l 0x41 true
  s.updOp l (fun o => { o with next := p + 1, acc := if par then [] else xorBytes (fieldOf o.acc) f, done := o.done + (!par).toNat })

/-- What ends a write before its next sector, if anything: a stop once the group in progress is closed (R241, R376). -/
def State.writeStop (s : State) (l : Nat) (o : LaneOp) : Option Nat :=
  match s.laneStop l with
  | some c => if o.next % 33 = 0 ∨ s.laneLast l o < o.next then some c else none
  | none => none

/-- The end of a write item whose last sector is out. -/
def State.writeEnd (s : State) (l : Nat) : State :=
  match (s.lane l).op with
  | some o => if s.laneLast l o < o.next then s.laneFinish l 0 0 o.done else s
  | none => s

/-- A write item with work left whose lane is ready. -/
def State.onWrite (s : State) (l : Nat) (g : State → LaneOp → State) : State :=
  match (s.lane l).op with
  | none => s
  | some o =>
    if o.opc ≠ 2 then s
    else match s.writeStop l o with
      | some c => s.laneFinish l c 0 o.done
      | none =>
        if s.b .CHN_STATUS_PA_FLT l then s.writeFault l 2
        else if !s.b .CHN_STATUS_LANE_READY l || !(s.lane l).armWrite then s
        else g (s.laneGap l) o

/-- The header, when the next sector of a write is the first of an opened band. -/
def LaneOp.bandHeader (o : LaneOp) : Option (List Byte) := if o.next = 0 then o.header else none

/-- A data sector of a write is fetched, checked and written: poisoned or check-failed data ends the item POISONED before the sector starts (R105, R135,
R240). -/
def State.fetchSector (s : State) (l : Nat) (o : LaneOp) : State :=
  let a := o.addr + 4160 * (dataAt o.next - o.first)
  let (f, s) := s.fetch .link a 4160
  if s.bad a 4160 then s.laneFinish l 7 0 o.done
  else if o.check && !fieldCheck (o.seedLba o.next) f then (s.event 0x3009 0 0 0).laneFinish l 7 0 o.done
  else (s.putSector l o f).writeEnd l

/-- WRITE_SECTOR (R240, R241): the next sector of a write goes out, after a group's last data sector its parity sector. The first sector of an opened
band is its header, and what stands in memory for it is not fetched (R146, log entry 84). -/
def execWriteSector (l : Lane) (s : State) : Outcome :=
  .next (s.inBlk .chn l (fun s => s.onWrite l (fun s o =>
    if isParity (zSpt (s.lane l).zone) o.next then (s.putSector l o (fieldOf o.acc)).writeEnd l
    else
      match o.bandHeader with
      | some f => (s.putSector l o f).writeEnd l
      | none => s.fetchSector l o)))

/-! ### Formatter commands (R183 class 0) -/

/-- A formatter command: by a sequencer of class 0, with its lane. -/
def State.onFmt (s : State) (n : Nat) (e : Nat × Nat) (v : Nat) (ok : Nat → Bool) (g : State → Nat → State) : State :=
  s.onSeq n 0 e v ok (fun s => match s.csTarget n with
    | some l => s.inBlk .chn l (fun s => g s l)
    | none => s)

/-- Arming at the PMA in S0-S1 (R183, R242), for reading or writing: refused with DETAIL 0x25 where the partner lane has the head. A lane without an
item begins the one in hand. -/
def State.armItem (s : State) (n l : Nat) (wr : Bool) : State :=
  let pma := s.sreg n 0 + 2 ^ 32 * s.sreg n 1
  let h := pmaHead pma
  if s.b .CHN_STATUS_ARMED (partner l) ∧ s.laneHead (partner l) = h then s.post n 2 0x25 0
  else if wr ∧ l % 2 = 1 then s.post n 2 0x24 0
  else if h / 6 ≠ l / 2 then s.post n 2 0x20 0
  else
    let s := s.armLane l h (pmaTrack pma) wr
    if (s.lane l).op.isSome then s else
    (s.ringItem n).elim s (fun e =>
      let x := s.laneHeader (dOpc e.1) pma
      x.2.updLane l (fun y => { y with op := some { laneOpOf (.ring e.2.1 e.2.2) e.1 pma with header := x.1 } }))

def State.armCmd (s : State) (n : Nat) (wr : Bool) : State := s.onFmt n laneCmd (if wr then 2 else 1) anyWord (fun s l => s.armItem n l wr)

/-- ARM_READ. -/
def execArmRead (n : Cs) (s : State) : Outcome := .next (s.armCmd n false)
/-- ARM_WRITE. -/
def execArmWrite (n : Cs) (s : State) : Outcome := .next (s.armCmd n true)

/-- SECTOR: a write's next sector goes out with the field last fetched, or its parity sector; a read's next sector starts at
SECTOR_START. -/
def execSector (n : Cs) (s : State) : Outcome :=
  .next (s.onFmt n laneCmd 3 anyWord (fun s l =>
    let s := (s.setDone n 0x41 false).setDone n 0x42 false
    s.onWrite l (fun s o =>
      if isParity (zSpt (s.lane l).zone) o.next then (s.putSector l o (fieldOf o.acc)).writeEnd l
      else if o.bandHeader.isSome then (s.putSector l o (o.bandHeader.getD [])).writeEnd l
      else if (s.lane l).bufBad then s.laneFinish l 7 0 o.done
      else (s.putSector l o (fieldOf (s.lane l).buf)).writeEnd l)))

/-- REPLAY: the oldest sector that waits for a replay step takes it. -/
def execReplay (n : Cs) (off : BitVec 5) (set : BitVec 3) (s : State) : Outcome :=
  .next (s.onFmt n laneCmd 4 (fun w => bits (wImm w) 4 0 == off.toNat && bits (wImm w) 7 5 == set.toNat) (fun s l =>
    match s.firstIn l 3 with
    | some x => s.replay l x.pos off.toInt set.toNat
    | none => s))

/-- ZONE (R229, R243): the entry is checked against the armed head and track; a refused one ends the item MALFORMED with DETAIL 0x21. -/
def execZone (n : Cs) (idx : BitVec 10) (s : State) : Outcome :=
  .next (s.onFmt n laneCmd 5 (fun w => bits (wImm w) 9 0 == idx.toNat) (fun s l =>
    let z := s.zoneEntry (s.f .CHN_ZT_ACTIVE 0) idx.toNat
    if s.b .CHN_STATUS_ARMED l && zoneOk z (s.laneHead l) (s.lane l).track (s.f .CHN_ZT_TIER_NOW 0) then s.zoneTake l idx.toNat z
    else
      let s := s.zoneRefuse l
      match (s.lane l).op with
      | some _ => s.laneFinish l 2 0x21 0
      | none => s.post n 2 0x21 0))

/-- ASSIST (R240): the code of every later sector of the item. -/
def execAssist (n : Cs) (code : Byte) (s : State) : Outcome :=
  .next (s.onFmt n laneCmd 6 (fun w => wImm w % 256 == code.toNat) (fun s l => s.updOp l (fun o => { o with assist := some code.toNat })))

/-- DISARM (R226): the lane lets go of its head, and of what it had begun. -/
def execDisarm (n : Cs) (s : State) : Outcome := .next (s.onFmt n laneCmd 7 anyWord (fun s l => (s.laneDrop l).disarmLane l))

/-- A DMA between the lane and memory at S2-S3; an address outside fitted memory, or in DRAM out of service, faults the sequencer (R136, R188). -/
def State.laneDma (s : State) (n v : Nat) (g : State → Nat → Nat → State) : State :=
  s.onFmt n dmaCmd v anyWord (fun s l =>
    let a := s.spair n 2
    if s.refused a 4160 then s.csFault n 5 else (g s l a).setDone n 0x44 true)

/-- DMA_FETCH (R135): the block check is verified with the LBA of the next sector. -/
def execDmaFetch (n : Cs) (s : State) : Outcome :=
  .next (s.laneDma n 1 (fun s l a =>
    let r := s.fetch (.seq n) a 4160
    let f := r.1
    let s := r.2
    let lba := match (s.lane l).op with
      | some o => o.seedLba o.next
      | none => 0
    let wrong := !fieldCheck lba f
    let bad := s.bad a 4160 || wrong
    let s := if wrong then s.event 0x3009 0 0 0 else s
    (s.updLane l (fun x => { x with buf := f, bufBad := bad })).setDone n 0x45 bad))

/-- FETCH_RAW: without the check. -/
def execFetchRaw (n : Cs) (s : State) : Outcome :=
  .next (s.laneDma n 2 (fun s l a =>
    let r := s.fetch (.seq n) a 4160
    let f := r.1
    let s := r.2
    let bad := s.bad a 4160
    (s.updLane l (fun x => { x with buf := f, bufBad := bad })).setDone n 0x45 bad))

/-- STORE: the field last decoded goes to memory. -/
def execStore (n : Cs) (s : State) : Outcome := .next (s.laneDma n 3 (fun s l a => s.wr a (fieldOf (s.lane l).buf)))

/-- The POST of a word (R183): its CODE. -/
def State.onPost (s : State) (n code : Nat) (g : State → State) : State :=
  let c := (s.csClass n).getD 1
  if c = 1 ∨ c = 2 then s else s.onSeq n c (postBit c) 1 (fun w => postCode c w == code) g

/-- The TAKE of a word: with POST in the same word, it comes after it. -/
def State.onTake (s : State) (n : Nat) (g : State → State) : State :=
  let c := (s.csClass n).getD 1
  if c ≠ 0 ∧ c ≠ 4 then s
  else if bits (s.curWord n) (postBit c).1 (postBit c).2 = 1 ∧ !(s.cs n).issued.contains (postBit c).2 then s
  else s.onSeq n c (takeBit c) 1 anyWord g

/-- POST (R183, R199): the item completes with CODE. DONE_UNITS is COUNT for a result that is whole, and for a lane's item what the lane
has done (log entry 28). -/
def execPost (n : Cs) (code : Byte) (s : State) : Outcome :=
  .next (s.onPost n code.toNat (fun s =>
    (s.ringItem n).elim s (fun e =>
      match s.csClass n, s.csTarget n with
      | some 0, some l =>
        match (s.lane l).op with
        | some o => s.laneFinish l code.toNat 0 (if code = 0 then o.count else o.done)
        | none => s.post n code.toNat 0 (if code = 0 then dCount e.1 else 0)
      | _, _ => s.post n code.toNat (s.cs n).detail (if code = 0 then dCount e.1 else 0))))

/-- The next descriptor of the chain of the item just ended, when it has the same target, is taken at once; one with a stale tag completes
STALE_EPOCH instead (R199, R202). -/
def State.takeNext (s : State) (n : Nat) : State :=
  match (s.cs n).item, (s.cs n).prev, s.csTarget n with
  | none, some (r, i), some t =>
    match (s.ring r).chains.find? (fun c => c.descs.any (fun d => d.idx == i)) with
    | some c =>
      match c.descs.find? (fun d => d.st != .done) with
      | some d =>
        if d.st ≠ .waiting ∨ dTarget d.words ≠ t then s
        else if dTagged d.words ∧ !s.tagLive (dTag d.words) then s.stale.descDone r d.idx 8 0 0
        else s.takeDesc n r d.idx d.words
      | none => s
    | none => s
  | _, _, _ => s

/-- TAKE. -/
def execTake (n : Cs) (s : State) : Outcome := .next (s.onTake n (fun s => s.takeNext n))

/-! ### The lane's own rows -/

/-- LANE_EN (R226, R238, R241, R246): EN = 0 is ABORT_REQ on what the lane holds. -/
def State.laneEn (s : State) (l : Nat) (v : Bool) : State :=
  if s.b .CHN_CTRL_EN l = v then s else
  let s := (s.setB .CHN_CTRL_EN l v).event 0x7005 0 0 0
  if v then s else
  let s := (s.seqsOf l).foldl (fun u n => if (u.cs n).item.isSome then u.updCs n (fun q => { q with abortReq := true }) else u) s
  let s := s.updOp l (fun o => match o.owner with
    | .copy _ => { o with stop := some 1 }
    | .ring _ _ => o)
  s.laneStop0 l

def execLaneEn (l : Lane) (v : Bool) (s : State) : Outcome := .next (s.onBlk .chn l (fun s => s.laneEn l v))

/-- PREAMP_FAULT (R241, R244): the fault input of an actuator's preamp is asserted; a write stops. -/
def State.preampFault (s : State) (a : Nat) : State :=
  let s := (s.setB .CHN_STATUS_PA_FLT (2 * a) true).setB .CHN_STATUS_PA_FLT (2 * a + 1) true
  s.writeFault (2 * a) 2

def execPreampFault (a : Act) (s : State) : Outcome := .next (s.inBlk .chn (2 * a.val) (fun s => s.preampFault a))

/-- PREAMP_CONTROL_FRAME (R244, R454): with no acknowledge, a frame error; a head or mode frame is sent again, up to three times in all,
and the third failure is a preamp fault. An acknowledged frame shows the fault input released (log entry 29). -/
def execPreampControlFrame (a : Act) (frame : PreampFrame) (ack : Bool) (s : State) : Outcome :=
  .next (s.inBlk .chn (2 * a.val) (fun s =>
    let l := 2 * a.val
    let setup := frame.kind == .head || frame.kind == .mode
    let s := s.send (.preamp a setup frame.data.toNat)
    if ack then
      ((s.updLane l (fun x => { x with resent := 0 })).setB .CHN_STATUS_PA_FLT l false).setB .CHN_STATUS_PA_FLT (l + 1) false
    else
      let s := (s.inc .CHN_PA_LINK_ERR l 1).event 0x700B 0 0 0
      if !setup then s
      else if 2 ≤ (s.lane l).resent then (s.updLane l (fun x => { x with resent := 0 })).preampFault a
      else s.updLane l (fun x => { x with resent := x.resent + 1 })))

/-- ZONE_TABLE_COMMIT (R226): a committed BANK_SEL and TIER meet the first cycle at which no lane is armed. -/
def execZoneTableCommit (s : State) : Outcome := .next (s.inBlk .chn 8 (fun s => s.ztBoundary))

/-- WCLK (R228): the wedge-time error, in sixteenths of a bit period, reaches the lock loops of the actuator's lanes. -/
def execWclk (n : Cs) (err : Int) (s : State) : Outcome :=
  .next (s.onSeq n 3 unitCmd 6 anyWord (fun s =>
    match s.csTarget n with
    | some t =>
      if !s.b .SRV_CTRL_EN 0 then s.csFault n 5 else
      let a := t - 8
      let s := [2 * a, 2 * a + 1].foldl (fun u l =>
        let tol : Int := (max 1 (u.f .CHN_WCLK_LOCK_TOL l) : Nat)
        let k := if -tol ≤ err ∧ err ≤ tol then min 4 ((u.lane l).goodWedges + 1) else 0
        (u.updLane l (fun x => { x with goodWedges := k })).setB .CHN_STATUS_LOCK l (k == 4)) s
      s.pairFlags (2 * a)
    | none => s))

/-- A hold begins on a head (R376): write items queued or armed with no sector begun complete THERMAL_DEFERRED; one already writing
stops after its group. -/
def State.holdLane (s : State) (h : Nat) : State :=
  let l := h / 6 * 2
  let s := (s.tq l).foldl (fun u e =>
    match u.descOf e.1 e.2 with
    | some d => if dOpc d.words = 2 ∧ pmaHead (dPma d.words) = h ∧ !u.calRing e.1 then
        (u.setTq l ((u.tq l).filter (fun x => x != e))).descDone e.1 e.2 6 0 0 else u
    | none => u) s
  let s := (s.seqsOf l).foldl (fun u n =>
    match (u.cs n).item, (u.lane l).op with
    | some { words := w, src := .ring r i }, o =>
      if dOpc w = 2 ∧ pmaHead (dPma w) = h ∧ !u.calRing r ∧ o.all (fun o => o.owner != .ring r i) then u.post n 6 0 0 else u
    | _, _ => u) s
  match (s.lane l).op with
  | some o =>
    if o.opc ≠ 2 ∨ o.head ≠ h ∨ !s.laneHeld o.owner h then s
    else if s.b .CHN_STATUS_WRITING l then s.updOp l (fun o => { o with stop := some 6 })
    else s.laneFinish l 6 0 0
  | none => s

end Sys2Proof.Machine
end

