-- ==== Sys2Proof/Machine/Copy.lean ====
section
/-!
DEFINITION. Machine/Copy.lean: the band copy pool (CS36-CS39) and the map-log port: COPY, VERIFY, XOR and LOG (R146, R158,
R197, R198), and the commands of sequencer class 4 (R183).
-/
namespace Sys2Proof.Machine

/-! ### Writing a band (R137, R146) -/

/-- The zone-table entry in force that holds a track of a head. -/
def State.zoneFor (s : State) (head track : Nat) : Option Nat :=
  firstFrom 1024 0 (fun i => zoneOk (s.zoneEntry (s.f .CHN_ZT_ACTIVE 0) i) head track (s.f .CHN_ZT_TIER_NOW 0))

/-- Data sectors of the track of a zone entry. -/
def State.zoneDspt (s : State) (idx : Option Nat) : Nat :=
  match idx with
  | some i => max 1 (zDspt (s.zoneEntry (s.f .CHN_ZT_ACTIVE 0) i))
  | none => 1

/-- A run of blocks cut at the ends of tracks: track, first data sector, sectors, blocks before it. -/
def tracksOf : Nat → Nat → Nat → Nat → Nat → Nat → List (Nat × Nat × Nat × Nat)
  | 0, _, _, _, _, _ => []
  | fuel + 1, t, d, n, k, dspt =>
    if n = 0 then [] else
    let m := min n (max 1 (dspt - d))
    (t, d, m, k) :: tracksOf fuel (t + 1) 0 (n - m) (k + m) dspt

/-- The words of an item that a band copy sequencer sends to a formatter. -/
def subWords (opc lane count pma addr lba : Nat) (check : Bool) (zone : Nat) : List Nat :=
  [opc, 0, lane, count, pma % 2 ^ 32, pma / 2 ^ 32, addr % 2 ^ 32, addr / 2 ^ 32, lba % 2 ^ 32, lba / 2 ^ 32 % 2 ^ 32,
   check.toNat + 2 ^ 16 * zone, 0, 0, 0, 0, 0]

def mkPma (head track d : Nat) : Nat := head + d * 2 ^ 16 + track * 2 ^ 32

/-- The sectors of one track of a copy go out, parity sectors with them, each field as given by block (R225, R240). -/
def State.putTrack (s : State) (l : Nat) (field : Nat → List Byte) : Nat → State
  | 0 => s
  | fuel + 1 =>
    let s := s.putTrack l field fuel
    match (s.lane l).op with
    | none => s
    | some o =>
      if s.laneLast l o < o.next then s
      else if isParity (zSpt (s.lane l).zone) o.next then s.putSector l o (fieldOf o.acc)
      else s.putSector l o (field (dataAt o.next - o.first))

/-! ### COPY (R105, R135, R146, R197) -/

/-- One track of a copy, by the writing lane of the head's actuator; the sectors that take bad data are marked (R105). -/
def State.copyTrack (s : State) (n head : Nat) (c : Nat × Nat × Nat × Nat) (field : Nat → List Byte × Bool) : State :=
  let (t, d, m, k) := c
  let l := head / 6 * 2
  match s.zoneFor head t with
  | none => s
  | some z =>
    let w := subWords 2 l m (mkPma head t d) 0 0 false z
    let s := (s.armLane l head t true).zoneTake l z (s.zoneEntry (s.f .CHN_ZT_ACTIVE 0) z)
    let s := s.updLane l (fun x => { x with op := some (laneOpOf (.copy n) w (mkPma head t d)) })
    let s := s.putTrack l (fun i => (field (k + i)).1) (2 * m + 33)
    (List.range m).foldl (fun u i => if (field (k + i)).2 then u.markSector head t (d + i) true else u) (s.laneDrop l)

/-- Block k a copy takes, and whether it is bad (R105, R135): from memory as a read gets it, poisoned or not; from a source PMA what the media
gives, recovered or not, which no state holds: free values (log entry 36). -/
def State.copyBlock (s : State) (n : Cs) (addr src k : Nat) : List Byte × Bool × State :=
  if src = 0 then
    let a := addr + 4160 * k
    let (f, s) := s.fetch (.seq n) a 4160
    (f, s.bad a 4160, s)
  else
    let (v, s) := s.free
    let (u, s) := s.free
    (fieldOf (leBytes 4160 v), u % 2 == 1, s)

/-- The blocks of a copy from block k on, each with its mark. A block that fails the block check of its LBA is bad, with event 0x3009
(R135). -/
def State.copyBlocks (s : State) (n : Cs) (addr src : Nat) (lba : Option Nat) (k : Nat) : Nat → List (List Byte × Bool) × State
  | 0 => ([], s)
  | c + 1 =>
    let (f, bad, s) := s.copyBlock n addr src k
    let wrong := !bad && lba.any (fun b => !fieldCheck (b + k) f)
    let s := if wrong then s.event 0x3009 0 0 0 else s
    let (l, s) := s.copyBlocks n addr src lba (k + 1) c
    ((f, bad || wrong) :: l, s)

/-- The LBA of the block at a data sector of a band, its header sector left out (R137, R138); parity bands and segments hold no logical
blocks. -/
def State.bandLba (s : State) (p track d dspt : Nat) : Option Nat :=
  let b := s.band p
  if bandRole b = 2 ∨ bandRole b = 3 then none else some (leAt b 12 4 * 65536 + (track - leAt b 8 3) * dspt + d - 1)

/-- A COPY begins an opened band: it starts at the band's first track, in its header sector or right behind it. -/
def State.copyHeaded (s : State) (w : List Nat) : Bool :=
  match s.bandAt (pmaHead (dPma w)) (pmaTrack (dPma w)) with
  | some p => bandState (s.band p) == 1 && decide (pmaSector (dPma w) ≤ 1) && pmaTrack (dPma w) == leAt (s.band p) 8 3
  | none => false

/-- The tracks a COPY writes; one that starts behind the header sector of an opened band takes that in. -/
def State.copyTracks (s : State) (w : List Nat) : List (Nat × Nat × Nat × Nat) :=
  let d := pmaSector (dPma w)
  let lead := (s.copyHeaded w && d == 1).toNat
  tracksOf (dCount w + 1) (pmaTrack (dPma w)) (d - lead) (dCount w + lead) 0
    (s.zoneDspt (s.zoneFor (pmaHead (dPma w)) (pmaTrack (dPma w))))

/-- The first refusal that one of a COPY's tracks meets, as a write item would (R245). -/
def State.copyRefusal (s : State) (w : List Nat) : Option (Nat × Nat) :=
  let h := pmaHead (dPma w)
  let l := h / 6 * 2
  (s.copyTracks w).findSome? (fun c =>
    match s.zoneFor h c.1 with
    | none => some (2, 0x21)
    | some z => s.laneRefusal l (subWords 2 l c.2.2.1 (mkPma h c.1 c.2.1) 0 0 false z))

/-- The header that a COPY writes first (R146). -/
def State.copyHeader (s : State) (w : List Nat) : List (List Byte × Bool) × State :=
  match s.copyHeaded w, s.bandAt (pmaHead (dPma w)) (pmaTrack (dPma w)) with
  | true, some p => let (b, u) := s.bandHeader p (dArg w); ([(b, false)], u)
  | _, _ => ([], s)

/-- The writing of a COPY whose lane is armed: it waits there for LANE_READY (R14); every block is written, and the item completes POISONED when one
of them was bad. -/
def State.copyWrite (s : State) (n : Cs) (w : List Nat) : State :=
  let h := pmaHead (dPma w)
  let t := pmaTrack (dPma w)
  let d := pmaSector (dPma w)
  let l := h / 6 * 2
  if s.b .CHN_STATUS_PA_FLT l then
    (((s.inc .CHN_CNT_C_WFAULT l 1).event 0x7007 0 0 0).disarmLane l).post n 0x0B 2 0
  else if !s.readyNow l then s
  else
    let dspt := s.zoneDspt (s.zoneFor h t)
    let p := s.bandAt h t
    let chunks := s.copyTracks w
    let k0 := (s.copyHeaded w && d != 1).toNat
    let (hf, s) := s.copyHeader w
    let (data, s) := s.copyBlocks n (dAddr w) (dArg w) (p.bind (fun p => s.bandLba p t d dspt)) k0 (dCount w - k0)
    let fields := hf ++ data
    let s := chunks.foldl (fun u c => u.copyTrack n h c (fun i => fields.getD i ([], false))) s
    (s.disarmLane l).post n (if data.any (·.2) then 7 else 0) 0 (dCount w)

/-- COPY: the blocks of the item, with the band's header in sector 0 of an opened band. The writing lane is armed unless it performs an item or is
disabled. -/
def State.copyItem (s : State) (n : Cs) (w : List Nat) : State :=
  let h := pmaHead (dPma w)
  let l := h / 6 * 2
  if (s.cs n).abortReq then s.post n 1 0 0
  else if s.headDown h ∨ (dArg w ≠ 0 ∧ s.headDown (pmaHead (dArg w))) then s.post n 0x0A 0 0
  else if s.headHeld h then s.post n 6 0 0
  else
    match s.copyRefusal w with
    | some (code, detail) => s.post n code detail 0
    | none =>
      if (s.lane l).op.isSome || !s.b .CHN_CTRL_EN l then s
      else (if s.b .CHN_STATUS_ARMED l && s.laneHead l == h && (s.lane l).armWrite then s
        else s.armLane l h (pmaTrack (dPma w)) true).copyWrite n w

/-- A step of the item of one band copy sequencer. -/
def State.onCopy (s : State) (n opc : Nat) (g : State → List Nat → State) : State :=
  if s.csTarget n ≠ some 12 then s else
  let s := s.handOver 12
  (s.ringItem n).elim s (fun e => if dOpc e.1 = opc ∧ s.csRuns n then g s e.1 else s)

/-- COPY (R105, R135, R146, R197, R376). -/
def execCopy (n : Cs) (s : State) : Outcome := .next (s.onCopy n 0x21 (fun s w => s.copyItem n w))

/-! ### VERIFY (R158) -/

/-- Tracks verified one after another; bad gives, for each, its unrecovered sectors and those that needed replay or the outer
code. The first failed track ends it. Answers tracks done, whether replay was needed, whether one failed. -/
def State.verifyTracks (s : State) (p : Nat) (replayed : Bool) (k : Nat) : Nat → List (Nat × Nat) → Nat × Bool × Bool × State
  | 0, _ => (k, replayed, false, s)
  | fuel + 1, bad =>
    let (u, r) := bad.headD (0, 0)
    if u ≠ 0 ∨ s.f .BTL_VFY_MARGIN 0 < r then (k, replayed, true, s.verifyFailed p)
    else (s.trackVerified p).verifyTracks p (replayed || r != 0) (k + 1) fuel bad.tail

/-- A VERIFY's tracks: COUNT of them, at most those the band has left. -/
def State.verifyItem (s : State) (n : Nat) (w : List Nat) (bad : List (Nat × Nat)) : State :=
  let p := dw w 8
  let left := min (dCount w) (leAt (s.band p) 6 2 - leAt (s.band p) 24 2)
  let (k, rep, failed, s) := s.verifyTracks p false 0 left bad
  s.post n (if failed then 3 else if rep then 4 else 0) 0 k

/-- BAND_VERIFY (R158). -/
def execBandVerify (n : Cs) (bad : List (Nat × Nat)) (s : State) : Outcome :=
  .next (s.onCopy n 0x22 (fun s w =>
    if (s.cs n).abortReq then s.post n 1 0 0
    else if s.f .BTL_BT_COUNT_COUNT 0 ≤ dw w 8 then s.post n 2 0 0
    else if s.headDown (bandHead (s.band (dw w 8))) then s.post n 0x0A 0 0
    else s.verifyItem n w bad))

/-! ### XOR and LOG (R197, R198) -/

/-- XOR of a range into another; a granule that took in a bad one carries poison (R105). -/
def State.xorInto (s : State) (n : Cs) (src dst count : Nat) : Bool × State :=
  let (x, s) := s.fetch (.seq n) src count
  let (y, s) := s.fetch (.seq n) dst count
  let bad := s.bad src count || s.bad dst count
  (bad, if bad then s.wrPoison dst (xorBytes y x) else s.wr dst (xorBytes y x))

/-- XOR (R197). -/
def execXor (n : Cs) (s : State) : Outcome :=
  .next (s.onCopy n 0x23 (fun s w =>
    if (s.cs n).abortReq then s.post n 1 0 0
    else if s.refused (dAddr w) (dCount w) || s.refused (dArg w) (dCount w) then s.csFault n 5
    else
      let r := s.xorInto n (dAddr w) (dArg w) (dCount w)
      r.2.post n (if r.1 then 7 else 0) 0 (dCount w)))

/-- The append of a LOG descriptor at entry i of a ring, with the write-back of its ARGS (R141, R198). -/
def State.logDesc (s : State) (r i : Nat) (w : List Nat) : AppResult × List Byte × State :=
  let args := ((w.drop 8).map (leBytes 4)).flatten
  let key := match s.chainOf r i with
    | some c => chainKey r c
    | none => r * 65536 + i
  let (res, b, s) := s.logAppend key args
  (res, b, s.wr (s.ringBase r + 64 * i + 32) b)

/-- The DETAIL of a LOG that the append refused (R198). -/
def logDetail (res : AppResult) : Nat := if res = 0 then 0 else 0x10 + res

/-- A LOG that a sequencer holds: appended, and completed with what the append answers. -/
def State.logItem (s : State) (n r i : Nat) (w : List Nat) : State :=
  let f := s.logDesc r i w
  f.2.2.post n (if f.1 = 0 then 0 else 2) (logDetail f.1) 0

/-- LOG (R198): ABORT_REQ does not withdraw it (R213). -/
def execLog (n : Cs) (s : State) : Outcome :=
  .next (s.onCopy n 0x24 (fun s w =>
    (s.ringItem n).elim s (fun e => s.logItem n e.2.1 e.2.2 w)))

/-- A LOG of the map-log port: the same, with RESULT_BACK at the ring's sequencer. -/
def State.portLogItem (s : State) (r i : Nat) (w : List Nat) : State :=
  let f := s.logDesc r i w
  (f.2.2.descDone r i (if f.1 = 0 then 0 else 2) (logDetail f.1) 0).resultBack r

/-- PORT_LOG (R198): the oldest descriptor of the map-log port's queue. -/
def execPortLog (s : State) : Outcome :=
  .next (
    match s.tq 15 with
    | [] => s
    | (r, i) :: q =>
      let s := s.setTq 15 q
      (s.descOf r i).elim s (fun d => (s.setDesc r i .taken).portLogItem r i d.words))

/-! ### Class 4 commands (R183) -/

/-- A command to the formatter of lane S14[2:0], at the PMA in S0-S1, for S6 sectors at S2-S3 (log entry 37); SUB_DONE and SUB_ERR
show its end. A formatter that has an item takes none. -/
def State.subCmd (s : State) (n v opc : Nat) : State :=
  s.onSeq n 4 unitCmd v anyWord (fun s =>
    let l := s.sreg n 14 % 8
    s.inBlk .chn l (fun s =>
      if !s.b .CHN_CTRL_EN l then s.csFault n 5
      else if (s.lane l).op.isSome then s
      else
        let pma := s.sreg n 0 + 2 ^ 32 * s.sreg n 1
        let z := (s.zoneFor (pmaHead pma) (pmaTrack pma)).getD 0
        let s := (s.setDone n 0x40 false).setDone n 0x41 false
        s.laneBegin l (.copy n) (subWords opc l (s.sreg n 6) pma (s.spair n 2) 0 false z)))

/-- SUB_READ. -/
def execSubRead (n : Cs) (s : State) : Outcome := .next (s.subCmd n 1 1)
/-- SUB_WRITE (R376). -/
def execSubWrite (n : Cs) (s : State) : Outcome := .next (s.subCmd n 2 2)
/-- SUB_VERIFY (R158). -/
def execSubVerify (n : Cs) (s : State) : Outcome := .next (s.subCmd n 5 3)

/-- COPY_XOR: S6 bytes at S2-S3 into S4-S5. -/
def execCopyXor (n : Cs) (s : State) : Outcome :=
  .next (s.onSeq n 4 unitCmd 3 anyWord (fun s =>
    let c := s.sreg n 6
    if s.refused (s.spair n 2) c || s.refused (s.spair n 4) c then s.csFault n 5
    else ((s.xorInto n (s.spair n 2) (s.spair n 4) c).2).setDone n 0x44 true))

/-- The append of a COPY_LOG, with the item words and the conditions that show it. -/
def State.copyLogItem (s : State) (n r i : Nat) (w : List Nat) : State :=
  let f := s.logDesc r i w
  let w' := w.take 8 ++ (List.range 8).map (fun k => leAt f.2.1 (4 * k) 4)
  let s := f.2.2.updCs n (fun q => { q with item := some { words := w', src := .ring r i }, detail := logDetail f.1 })
  (s.setDone n 0x42 (f.1 == 0)).setDone n 0x43 (f.1 != 0)

/-- COPY_LOG: the record in item words 8-15 (R142, R198); the item shows the record as appended. -/
def execCopyLog (n : Cs) (s : State) : Outcome :=
  .next (s.onSeq n 4 unitCmd 4 anyWord (fun s =>
    (s.ringItem n).elim s (fun e => s.copyLogItem n e.2.1 e.2.2 e.1)))

end Sys2Proof.Machine
end

