-- ==== Sys2Proof/Machine/Efl.lean ====
section
/-!
DEFINITION. Machine/Efl.lean: the embedded flash (R346-R367): the array, the command interface, the erase journal, suspend and
resume, the read window and read-out protection.
-/
namespace Sys2Proof.Machine

def State.updEfl (s : State) (g : Efl → Efl) : State := { s with efl := g s.efl }

/-! ### The array (R346) -/

def eflSize : Nat := 0x1000000

/-- A byte of the array; erased bytes read 0xFF. -/
def State.eflByte (s : State) (o : Nat) : Byte := Tbl.get s.efl.mem 0xFF o
def State.eflRd (s : State) (o n : Nat) : List Byte := (List.range n).map (fun i => s.eflByte (o + i))

/-- A unit is blank while nothing has been programmed into it since its erase (R346, R354). -/
def State.blank (s : State) (u : Nat) : Bool := !Tbl.get s.efl.prog false u

/-- Storing bytes of the array. -/
def eflSetBytes (m : Tbl Byte) (o : Nat) : List Byte → Tbl Byte
  | [] => m
  | b :: r => eflSetBytes (Tbl.set m 0xFF o b) (o + 1) r

/-- Programming the 16 bytes of a unit, with a good code. -/
def State.eflUnit (s : State) (u : Nat) (d : List Byte) : State :=
  s.updEfl (fun e => { e with mem := eflSetBytes e.mem (16 * u) (d.take 16), prog := Tbl.set e.prog false u true
                              unitErr := Tbl.set e.unitErr 0 u 0 })

/-- Programming consecutive units. -/
def State.eflUnits (s : State) (u fuel : Nat) (d : List Byte) : State :=
  match fuel with
  | 0 => s
  | k + 1 => if d.isEmpty then s else (s.eflUnit u d).eflUnits (u + 1) k (d.drop 16)

/-- Erasing n bytes at an offset. -/
def State.eflWipe (s : State) (o n : Nat) : State :=
  let out := fun (k : Nat) => !(decide (o ≤ k) && decide (k < o + n))
  s.updEfl (fun e => { e with mem := e.mem.filter (fun x => out x.1), prog := e.prog.filter (fun x => out (16 * x.1))
                              unitErr := e.unitErr.filter (fun x => out (16 * x.1)) })

/-- Units whose contents are open: each blank, or with any bytes and a good, a corrected or an uncorrectable code, as the digits of v
say (R346, R354). -/
def State.eflOpen (s : State) (u fuel v : Nat) : State :=
  match fuel with
  | 0 => s
  | k + 1 =>
    let s := if bit v 128 then (s.eflUnit u (leBytes 16 v)).updEfl (fun e => { e with unitErr := Tbl.set e.unitErr 0 u (v / 2 ^ 129 % 3) })
      else s.eflWipe (16 * u) 16
    s.eflOpen (u + 1) k (v / 2 ^ 131)

/-- Whether n bytes at an offset are erased. -/
def State.eflErased (s : State) (o n : Nat) : Bool :=
  s.efl.prog.all (fun x => !(decide (o ≤ 16 * x.1) && decide (16 * x.1 < o + n)))

/-! ### The erase journal (R360-R362) -/

/-- A journal row's sequence number when its header is good. -/
def State.journalSeq (s : State) (r : Nat) : Option Nat :=
  let h := s.eflRd (2048 * r) 16
  if leAt h 0 4 = 0x4A524E4C ∧ leAt h 12 4 = crc32c (h.take 12) then some (leAt h 4 4) else none

/-- The active row (R360); row 0 where neither has a good header. -/
def State.journalRow (s : State) : Nat :=
  match s.journalSeq 0, s.journalSeq 1 with
  | none, some _ => 1
  | some a, some b => if a < b then 1 else 0
  | _, _ => 0

/-- The first free unit of a journal row, 128 when it is full. -/
def State.journalNext (s : State) (r : Nat) : Nat := (firstFrom 127 1 (fun u => s.blank (128 * r + u))).getD 128

/-- Free units of the active row; none where it has no good header. -/
def State.journalFree (s : State) : Nat :=
  if (s.journalSeq s.journalRow).isNone then 0 else 128 - s.journalNext s.journalRow

/-- EFL_STATUS shows the journal. -/
def State.journalShow (s : State) : State :=
  s.setFs 0 [(.EFL_STATUS_JROW, s.journalRow), (.EFL_STATUS_JFREE, s.journalFree)]

/-- A switch to the other row when fewer than two units are free (R362). -/
def State.journalSwitch (s : State) : State :=
  if 2 ≤ s.journalFree then s
  else
    let r := s.journalRow
    let n := match s.journalSeq r with
      | some a => a + 1
      | none => 1
    let h := leBytes 4 0x4A524E4C ++ leBytes 4 n ++ leBytes 4 0
    ((s.eflWipe (2048 * (1 - r)) 2048).eflUnit (128 * (1 - r)) (h ++ leBytes 4 (crc32c h))).journalShow

/-- A record of the active row (R361): mark, kind, result, address. -/
def State.journalPut (s : State) (mark kind result addr : Nat) : State :=
  let r := s.journalRow
  let u := s.journalNext r
  if 128 ≤ u then s
  else
    let b := leBytes 1 mark ++ leBytes 1 kind ++ leBytes 1 result ++ [0] ++ leBytes 4 addr ++ leBytes 4 (u - 1)
    (s.eflUnit (128 * r + u) (b ++ leBytes 4 (crc32c b))).journalShow

/-- Kind, offset and bytes of an erase by its code (R353, R361): 2 row, 3 block, 5 mass, which leaves the journal rows (R366). -/
def eraseKind (code : Nat) : Nat := if code = 2 then 1 else if code = 3 then 2 else 3
def eraseFrom (code addr : Nat) : Nat := if code = 5 then 4096 else addr
def eraseSize (code : Nat) : Nat := if code = 2 then 2048 else if code = 3 then 65536 else eflSize - 4096

/-- START before an erase, a switch of rows first where it is needed (R361, R362). -/
def State.eraseStart (s : State) (code addr : Nat) : State :=
  s.journalSwitch.journalPut 0x5A (eraseKind code) 0 (if code = 5 then 0 else addr)

/-- DONE after an erase that verified. -/
def State.eraseGood (s : State) (code addr : Nat) : State :=
  (s.eflWipe (eraseFrom code addr) (eraseSize code)).journalPut 0xA5 (eraseKind code) 0 (if code = 5 then 0 else addr)

/-- DONE after an erase that failed to verify: what it leaves in the array is open (log entry 17). -/
def State.eraseFailed (s : State) (code addr : Nat) : State :=
  let (v, s) := s.free
  (s.eflOpen (eraseFrom code addr / 16) (eraseSize code / 16) v).journalPut 0xA5 (eraseKind code) 3 (if code = 5 then 0 else addr)

/-- An erase of the device's own: whether it verifies is the array's outcome, a free value (log entry 17). -/
def State.eraseTry (s : State) (code addr : Nat) : Bool × State :=
  let (v, s) := s.free
  let s := s.eraseStart code addr
  if v % 2 = 0 then (true, s.eraseGood code addr) else (false, s.eraseFailed code addr)

/-- A whole erase. -/
def State.eraseWhole (s : State) (code addr : Nat) : State := (s.eraseStart code addr).eraseGood code addr

/-- The open STARTs of the active row, in JSEQ order: kind and address (R361, R363). -/
def State.openStarts (s : State) : List (Nat × Nat) :=
  let r := s.journalRow
  (List.range 127).foldl (fun (l : List (Nat × Nat)) i =>
    let b := s.eflRd (2048 * r + 16 * (i + 1)) 16
    let k := (leAt b 1 1, leAt b 4 4)
    if s.blank (128 * r + i + 1) ∨ leAt b 12 4 ≠ crc32c (b.take 12) then l
    else if leAt b 0 1 = 0x5A then l.filter (· ≠ k) ++ [k]
    else if leAt b 0 1 = 0xA5 then l.filter (· ≠ k) else l) []

/-! ### Read-out protection (R364) -/

/-- The SEQ and level of an option copy, row 4 or 5. -/
def State.option (s : State) (k : Nat) : Option (Nat × Nat) :=
  let b := s.eflRd (2048 * (4 + k)) 16
  if leAt b 12 4 = crc32c (b.take 12) then some (leAt b 0 4, leAt b 4 1) else none

/-- The level of the option rows: of the newer valid copy, 1 where none is valid. -/
def State.optionLevel (s : State) : Nat :=
  match s.option 0, s.option 1 with
  | none, none => 1
  | some a, none => a.2
  | none, some b => b.2
  | some a, some b => if a.1 < b.1 then b.2 else a.2

/-- The level in force. -/
def State.rdpLevel (s : State) : Nat := max (if s.sec.rdpFuse then 2 else 0) s.optionLevel

/-- EFL_STATUS.LEVEL shows it. -/
def State.levelShow (s : State) : State := s.setF .EFL_STATUS_LEVEL 0 s.rdpLevel

/-- The row of an option copy is erased. -/
def State.optionBlank (s : State) (k : Nat) : Bool := s.eflErased (2048 * (4 + k)) 2048

/-- Writing an option copy: a row that is not blank is erased first, under the journal (R361). -/
def State.putOption (s : State) (k seq level : Nat) : State :=
  let b := leBytes 4 seq ++ leBytes 1 level ++ leBytes 7 0
  (if s.optionBlank k then s else s.eraseWhole 2 (2048 * (4 + k))).eflUnit (128 * (4 + k)) (b ++ leBytes 4 (crc32c b))

/-- The newest SEQ of the copies. -/
def State.optionSeq (s : State) : Nat :=
  max (match s.option 0 with | some a => a.1 | none => 0) (match s.option 1 with | some a => a.1 | none => 0)

/-- The older copy: the invalid one, or the one with the lower SEQ. -/
def State.olderOption (s : State) : Nat :=
  match s.option 0, s.option 1 with
  | none, _ => 0
  | some _, none => 1
  | some a, some b => if a.1 < b.1 then 0 else 1

/-! ### The read window (R349-R351, R364) -/

/-- Whether a debug level bit is granted in this boot (R343). -/
def State.dbg (s : State) (b : Nat) : Bool := bit (s.f .SEC_BOOT_DBG_LV 0) b

/-- A debug port may use the window, EFL_PBUF and commands at level 0, with LEVELS bit 2 or 3 (R364). -/
def State.eflDebugOk (s : State) : Bool := s.rdpLevel == 0 && (s.dbg 2 || s.dbg 3)

/-- Whether a range meets the row or block of a suspended erase. -/
def State.inSuspended (s : State) (o n : Nat) : Bool :=
  s.efl.susp.any (fun e => rangesMeet (eraseFrom e.code e.addr, eraseSize e.code) (o, n))

/-- A unit is read: what its code shows, counted and reported (R349). -/
def State.eflCheck (s : State) (u : Nat) : State :=
  match Tbl.get s.efl.unitErr 0 u with
  | 0 => s
  | 1 => (s.inc .EFL_ECC_CE 0 1).event 0xC004 0 0 0
  | _ => ((s.inc .EFL_ECC_UE 0 1).setF .EFL_ECC_ADDR_OFFSET 0 (u * 16)).event 0xC005 (u * 16) 0 0

/-- Every unit of a range is read. -/
def State.eflChecks (s : State) (o n : Nat) : State :=
  ((s.efl.unitErr.map Prod.fst).filter (fun u => decide (o < 16 * u + 16) && decide (16 * u < o + n))).foldl State.eflCheck s

/-- A window read that the array is free to answer (R349, R351, R364). -/
def State.windowRead (s : State) (g : Agent) (o : Nat) : State :=
  if g = .debug ∧ !s.eflDebugOk then
    let s := s.send (.readData 0)
    if s.rdpLevel = 0 ∨ s.efl.c007 then s else (s.updEfl (fun e => { e with c007 := true })).event 0xC007 0 0 0
  else if s.inSuspended o 1 then (s.loadFault g).send (.readData 0)
  else
    let t := s.eflCheck (o / 16)
    if Tbl.get s.efl.unitErr 0 (o / 16) = 2 then (t.loadFault g).send (.readData 0)
    else t.send (.readData (leAt (s.eflRd (o / 4 * 4) 4) 0 4))

/-- The reads that waited come about (R351). -/
def State.windowServe (s : State) : State :=
  s.efl.wait.foldl (fun u x => u.windowRead x.1 x.2) (s.updEfl (fun e => { e with wait := [] }))

/-- EFLASH_WINDOW_READ: a read waits while a command runs, until it ends or is suspended (R351). -/
def execEflashWindowRead (g : Agent) (off : BitVec 24) (s : State) : Outcome :=
  .next (
    if s.efl.run.isSome then s.updEfl (fun e => { e with wait := e.wait ++ [(g, off.toNat)] })
    else s.windowRead g off.toNat)

/-! ### Commands (R352-R359) -/

/-- A command ends: DONE, OP_EV, and event 0xC002 for a result other than OK (R353). -/
def State.eflEnd (s : State) (r addr : Nat) : State :=
  let s := s.setFs 0 [(.EFL_RES_RESULT, r), (.EFL_RES_DONE, 1), (.EFL_STATUS_OP_EV, 1)]
  if r = 0 then s else s.event 0xC002 r addr 0

/-- Blocks a range touches that EFL_WP protects, and the rows that no command may program or erase (R347, R355). -/
def State.eflProtected (s : State) (o n : Nat) : Bool :=
  decide (o < 6 * 2048 ∧ (o < 4096 ∨ (4 * 2048 < o + n)) ∧ 0 < n) ||
    (List.range ((o + n - 1) / 65536 - o / 65536 + 1)).any (fun i =>
      bit (s.f .EFL_WP_WP ((o / 65536 + i) / 32)) ((o / 65536 + i) % 32))

/-- Offset and bytes a command touches. -/
def EflOp.span (e : EflOp) : Nat × Nat :=
  if e.code = 1 ∨ e.code = 4 then (e.addr, 16 * e.units) else (eraseFrom e.code e.addr, eraseSize e.code)

/-- The result that refuses a command before it starts, if any (R353, R355, R356, R364). -/
def State.eflRefusal (s : State) (g : Agent) (e : EflOp) : Option Nat :=
  let x := e.span
  if g = .debug ∧ !s.eflDebugOk then some 7
  else if e.code = 1 ∧ 2048 < e.addr % 2048 + 16 * e.units then some 5
  else if e.code = 4 ∧ eflSize < e.addr + 16 * e.units then some 5
  else if (e.code = 2 ∧ e.addr % 2048 ≠ 0) ∨ (e.code = 3 ∧ e.addr % 65536 ≠ 0) then some 5
  else if e.code = 5 ∧ (s.rdpLevel ≠ 0 ∨ s.b .SEC_LOCK_LOCK 0) then some 7
  else if (e.code = 2 ∨ e.code = 3 ∨ e.code = 5) ∧ s.efl.susp.isSome then some 8
  else if (e.code = 1 ∨ e.code = 4) ∧ s.inSuspended x.1 x.2 then some 1
  else if e.code ≠ 4 ∧ e.code ≠ 5 ∧ s.eflProtected x.1 x.2 then some 1
  else none

/-- A GO of EFL_CMD (R352, R353, R356). -/
def State.eflGo (s : State) (g : Agent) (code units : Nat) : State :=
  s.onBlk .efl 0 (fun s =>
    if s.efl.run.isSome then s.cfgErrAt .efl .EFL_CMD_GO 0
    else
      let s := s.setFs 0 [(.EFL_CMD_CODE, code), (.EFL_CMD_COUNT, units - 1), (.EFL_RES_DONE, 0)]
      let locked := s.efl.unlock != 2
      let s := s.updEfl (fun e => { e with unlock := 0 })
      let addr := s.f .EFL_ADDR_OFFSET 0 * 16
      let e : EflOp := { code := code, addr := addr, units := units }
      if locked then s.eflEnd 6 addr
      else
        match s.eflRefusal g e with
        | some r => s.eflEnd r addr
        | none =>
          let s := if code = 1 ∨ code = 4 then s else s.eraseStart code addr
          (s.updEfl (fun x => { x with run := some e })).setB .EFL_RES_BUSY 0 true)

/-- PROGRAM (R352-R354): the units wait in EFL_PBUF. -/
def execProgram (g : Agent) (count : BitVec 7) (s : State) : Outcome := .next (s.eflGo g 1 (count.toNat + 1))

/-- ERASE_ROW (R353, R361). -/
def execEraseRow (g : Agent) (s : State) : Outcome := .next (s.eflGo g 2 1)

/-- ERASE_BLOCK (R353, R361). -/
def execEraseBlock (g : Agent) (s : State) : Outcome := .next (s.eflGo g 3 1)

/-- BLANK_CHECK (R353). -/
def execBlankCheck (g : Agent) (count : BitVec 7) (s : State) : Outcome := .next (s.eflGo g 4 (count.toNat + 1))

/-- MASS_ERASE (R353). -/
def execMassErase (g : Agent) (s : State) : Outcome := .next (s.eflGo g 5 1)

/-- Units of the page buffer programmed one after another until one is not blank (R354): how many, and the state. -/
def State.programUnits (s : State) (u i : Nat) (fuel : Nat) : Nat × State :=
  match fuel with
  | 0 => (i, s)
  | k + 1 =>
    if s.blank u then
      (s.eflUnit u ((List.range 4).map (fun w => leBytes 4 (s.f .EFL_PBUF_DATA (4 * i + w)))).flatten).programUnits (u + 1) (i + 1) k
    else (i, s)

/-- A reset aborts an operation (R354, R359): the units a PROGRAM has begun, and the range of an erase, are left in any state; how many units
a PROGRAM has begun is open too. -/
def State.eflAbort (s : State) (e : EflOp) : State :=
  if e.code = 4 then s
  else
    let (v, s) := s.free
    if e.code = 1 then s.eflOpen (e.addr / 16) (min e.units (1 + v % e.units)) (v / e.units)
    else s.eflOpen (eraseFrom e.code e.addr / 16) (eraseSize e.code / 16) v

/-- The command under way ends; good is whether the array programmed or verified. What a failed program or erase leaves in the
array is open: a free value (log entry 17). -/
def State.eflCommandEnd (s : State) (e : EflOp) (good : Bool) : State :=
  let s := s.updEfl (fun x => { x with run := none, suspReq := false })
  let s := s.setB .EFL_RES_BUSY 0 s.efl.susp.isSome
  if e.code = 1 then
    let (n, s) := s.programUnits (e.addr / 16) 0 e.units
    if !good ∧ 0 < n then
      let (v, s) := s.free
      (s.eflOpen (e.addr / 16 + (n - 1)) 1 v).eflEnd 4 e.addr
    else s.eflEnd (if n < e.units then 2 else 0) e.addr
  else if e.code = 4 then
    s.eflEnd (if s.eflErased e.addr (16 * e.units) then 0 else 2) e.addr
  else if good then ((s.eraseGood e.code e.addr).levelShow).eflEnd 0 e.addr
  else ((s.eraseFailed e.code e.addr).levelShow).eflEnd 3 e.addr

/-- EFL_COMMAND_END (R353, R354, R361). -/
def execEflCommandEnd (good : Bool) (s : State) : Outcome :=
  .next (
    match s.efl.run with
    | some e => (s.eflCommandEnd e good).windowServe
    | none => s)

/-- EFL_UNLOCK (R352). -/
def execEflUnlock (key : Word) (s : State) : Outcome :=
  .next (s.onBlk .efl 0 (fun s =>
    if s.efl.unlock = 0 ∧ key = 0x5AF0 then s.updEfl (fun e => { e with unlock := 1 })
    else if s.efl.unlock = 1 ∧ key = 0xA50F then s.updEfl (fun e => { e with unlock := 2 })
    else (s.updEfl (fun e => { e with unlock := 0 })).cfgErrAt .efl .EFL_UNLOCK_KEY 0))

/-- SUSPEND (R357): during an erase; otherwise ignored. -/
def execSuspend (s : State) : Outcome :=
  .next (s.onBlk .efl 0 (fun s =>
    if s.efl.run.any (fun e => e.code != 1 && e.code != 4) && s.efl.susp.isNone then s.updEfl (fun e => { e with suspReq := true })
    else s))

/-- SUSPEND_TAKE_EFFECT (R357, R358). -/
def execSuspendTakeEffect (s : State) : Outcome :=
  .next (
    if s.efl.suspReq && s.efl.run.isSome then
      ((s.updEfl (fun e => { e with susp := e.run, run := none, suspReq := false })).setB .EFL_RES_SUSPENDED 0 true).windowServe
    else s)

/-- ERASE_RESUME (R357); while a command runs beside the suspended erase it changes nothing (log entry 13). -/
def execEraseResume (s : State) : Outcome :=
  .next (s.onBlk .efl 0 (fun s =>
    if s.efl.susp.isSome && s.efl.run.isNone then
      (s.updEfl (fun e => { e with run := e.susp, susp := none })).setB .EFL_RES_SUSPENDED 0 false
    else s))

/-! ### Changing the protection level (R365, R366) -/

/-- A GO of EFL_RDP: the unlock is used up, TARGET is kept. -/
def State.rdpGo (s : State) (target : Nat) (g : State → State) : State :=
  s.onBlk .efl 0 (fun s =>
    let s := s.setF .EFL_RDP_TARGET 0 target
    if 3 ≤ target then s.cfgErrAt .efl .EFL_RDP_GO 0
    else if s.efl.run.isSome then s.cfgErrAt .efl .EFL_RDP_GO 0
    else
      let locked := s.efl.unlock != 2
      let s := (s.updEfl (fun e => { e with unlock := 0 })).setB .EFL_RES_DONE 0 false
      if locked then s.eflEnd 6 0 else g s)

/-- RDP_RAISE (R365): to 1 by the older option copy, to 2 by the fuse; a target that does not raise, and a GO from the debug port at
level 1 or 2, complete RDP (R364). An option copy that is not
blank is erased, which a suspended erase does not let (R356). -/
def execRdpRaise (g : Agent) (target : BitVec 2) (s : State) : Outcome :=
  .next (s.rdpGo target.toNat (fun s =>
    let old := s.rdpLevel
    if (g = .debug ∧ !s.eflDebugOk) ∨ target.toNat ≤ old then s.eflEnd 7 0
    else if target.toNat = 1 ∧ s.efl.susp.isSome ∧ !s.optionBlank s.olderOption then s.eflEnd 8 0
    else
      let s := if target.toNat = 1 then s.putOption s.olderOption (s.optionSeq + 1) 1
               else { s with sec := { s.sec with rdpFuse := true } }
      ((s.levelShow).event 0xC006 old target.toNat 0).eflEnd 0 0))

/-- RDP_LOWER (R366): from 1 to 0, from the debug port with LEVELS bit 2. A mass erase of every row but the journal's, both option
copies at level 0, DONE; the recorder starts again, and event 0xC006 is its first record. -/
def execRdpLower (g : Agent) (s : State) : Outcome :=
  .next (s.rdpGo 0 (fun s =>
    if g ≠ .debug ∨ s.rdpLevel ≠ 1 ∨ !s.dbg 2 then s.eflEnd 7 0
    else if s.efl.susp.isSome then s.eflEnd 8 0
    else
      let s := (s.eraseStart 5 0).eflWipe 4096 (eflSize - 4096)
      let s := (s.putOption 0 1 0).putOption 1 1 0
      let s := (s.journalPut 0xA5 3 0 0).levelShow
      let s := { s with evr := { s.evr with queue := [], keepNext := 0, circNext := 0, entered := [], suppressed := [] } }
      let s := s.setFs 0 [(.EVR_SEQ_NEXT, 1), (.EVR_OPMIN_OP_MIN, 0), (.EVR_CYCLES_CYCLES, 0), (.EVR_STATUS_QDEPTH, 0),
        (.EVR_STATUS_KEEP_FULL, 0)]
      (s.event 0xC006 1 0 0).eflEnd 0 0))

end Sys2Proof.Machine
end

