-- ==== Sys2Proof/Machine/Evr.lean ====
section
/-!
DEFINITION. Machine/Evr.lean: the event recorder's commands (R390-R405). The entry of an event into the queue is shared and stands
in Ops.lean.
-/
namespace Sys2Proof.Machine

def State.updEvr (s : State) (g : Evr → Evr) : State := { s with evr := g s.evr }

def keepBase : Nat := 0x20000
def circBase : Nat := 0x100000

/-- The 32 bytes of a record (R390). -/
def EvRec.bytes (r : EvRec) (flags : Nat) : List Byte :=
  let b := leBytes 4 r.seq ++ leBytes 4 r.opMin ++ leBytes 4 r.cycles ++ leBytes 2 r.code ++ leBytes 1 flags ++ leBytes 1 r.secs
    ++ leBytes 4 r.a0 ++ leBytes 4 r.a1 ++ leBytes 4 r.a2
  b ++ leBytes 4 (crc32c b)

/-- A code that hardware records: of a subsystem of R12, and none that R393 leaves out. -/
def hwCode (c : Nat) : Bool := c / 0x1000 != 0 && c % 0x1000 != 0 && decide (c % 0x1000 < 0xC00)

/-- EVENT_ENTRY (R12, R391, R393-R396): a hardware event with its arguments meets the queue. -/
def execEventEntry (code : BitVec 16) (a0 a1 a2 : Word) (s : State) : Outcome :=
  .next (if hwCode code.toNat then s.event code.toNat a0.toNat a1.toNat a2.toNat else s)

/-- EVENT_SUBMIT (R393, R405): EVR_SUB_CTRL with GO. -/
def execEventSubmit (code : BitVec 16) (keep : Bool) (s : State) : Outcome :=
  .next (s.onBlk .evr 0 (fun s =>
    let s := s.setFs 0 [(.EVR_SUB_CTRL_CODE, code.toNat), (.EVR_SUB_CTRL_KEEP, keep.toNat)]
    let c := code.toNat
    if c / 0x1000 = 0 ∨ c % 0x1000 = 0 then s.cfgErrAt .evr .EVR_SUB_CTRL_GO 0
    else if s.evrMuted c then s.eventOnce 0xE007 0xE007 c 0 0
    else s.evrEnter c (s.f .EVR_SUB_A_ARG 0) (s.f .EVR_SUB_A_ARG 1) (s.f .EVR_SUB_A_ARG 2) true keep))

/-- EVR_EN (R401): the scan starts. -/
def execEvrEn (s : State) : Outcome :=
  .next (s.onBlk .evr 0 (fun s =>
    if s.b .EVR_CTRL_EN 0 then s
    else (s.updEvr (fun e => { e with scanning := true })).setFs 0 [(.EVR_CTRL_EN, 1), (.EVR_CNT_DROPPED, 0),
      (.EVR_CNT_SUPPRESSED, 0)]))

/-- The positions of an area at which something has been programmed. -/
def State.recPositions (s : State) (base size : Nat) : List Nat :=
  ((s.efl.prog.filter (fun x => decide (base ≤ 16 * x.1) && decide (16 * x.1 < base + size))).map
    (fun x => (16 * x.1 - base) / 32)).eraseDups

/-- The intact records of an area by position. -/
def State.records (s : State) (base size : Nat) : List (Nat × List Byte) :=
  ((s.recPositions base size).map (fun k => (k, s.eflRd (base + 32 * k) 32))).filter
    (fun x => leAt x.2 28 4 == crc32c (x.2.take 28))

/-- The largest of a field over records. -/
def maxField (l : List (Nat × List Byte)) (i : Nat) : Nat := l.foldl (fun m x => max m (leAt x.2 i 4)) 0

/-- The position after the record with the highest SEQ of an area, none when it holds none. -/
def nextPos (l : List (Nat × List Byte)) : Option Nat :=
  (l.find? (fun x => leAt x.2 0 4 == maxField l 0)).map (fun x => x.1 + 1)

/-- EVR_SCAN_END (R392, R394, R395, R401): counters resume from both areas, the queue is stamped in order and limited, READY. -/
def execEvrScanEnd (s : State) : Outcome :=
  .next (
    if !s.evr.scanning then s else
    let k := s.records keepBase 0x10000
    let c := s.records circBase 0x200000
    let bad := (s.recPositions keepBase 0x10000).length + (s.recPositions circBase 0x200000).length - k.length - c.length
    let all := k ++ c
    let q := s.evr.queue
    let pw := s.b .SUP_RST_CAUSE_PWRCYC 0
    let s := s.updEvr (fun e => { e with scanning := false, queue := [], entered := [], suppressed := []
                                         keepNext := (nextPos k).getD 0, circNext := (nextPos c).getD 0 % 65536 })
    let s := s.setFs 0 [(.EVR_SEQ_NEXT, maxField all 0 + 1), (.EVR_OPMIN_OP_MIN, maxField all 4),
      (.EVR_CYCLES_CYCLES, maxField all 8 + pw.toNat), (.EVR_STATUS_READY, 1), (.SUP_RST_CAUSE_PWRCYC, 0), (.EVR_STATUS_QDEPTH, 0)]
    let s := q.foldl (fun u r => u.evrEnter r.code r.a0 r.a1 r.a2 (bit r.flags 1) (bit r.flags 0)) s
    if bad = 0 then s else s.event 0xE009 bad 0 0)

/-- The recorder may use the flash: READY, not frozen, and no firmware command under way (R399, R403). -/
def State.evrMay (s : State) : Bool :=
  s.b .EVR_STATUS_READY 0 && !s.b .EVR_CTRL_FREEZE 0 && s.efl.run.isNone && s.efl.susp.isNone

/-- The next position of the circulating area that reads erased, its block erased first where it starts a block that is not (R397). -/
def State.circFind (s : State) (pos fuel : Nat) : Nat × State :=
  match fuel with
  | 0 => (pos, s)
  | k + 1 =>
    let o := circBase + 32 * pos
    let s := if pos % 2048 = 0 ∧ !s.eflErased o 65536 then (s.eraseTry 3 o).2 else s
    if s.eflErased o 32 then (pos, s)
    else s.circFind ((pos + 1) % 65536) k

/-- A dropped record (R394, R399). -/
def State.evrDrop (s : State) : State :=
  ((s.updEvr (fun e => { e with dropPend := e.dropPend + 1 })).inc .EVR_CNT_DROPPED 0 1).setB .EVR_STATUS_DROP_EV 0 true

/-- A record goes to the circulating area. -/
def State.circPut (s : State) (r : EvRec) (flags : Nat) : State :=
  let (p, s) := s.circFind s.evr.circNext 65537
  let o := circBase + 32 * p
  if s.eflProtected o 32 then s.evrDrop
  else (s.eflUnits (o / 16) 2 (r.bytes flags)).updEvr (fun e => { e with circNext := (p + 1) % 65536 })

/-- A record goes to the keep area, or to the circulating area with KEEP_OVF when it is full (R397, R398). -/
def State.keepPut (s : State) (r : EvRec) : State :=
  match firstFrom (2048 - s.evr.keepNext) s.evr.keepNext (fun k => s.eflErased (keepBase + 32 * k) 32) with
  | some k =>
    if s.eflProtected (keepBase + 32 * k) 32 then s.evrDrop
    else (s.eflUnits ((keepBase + 32 * k) / 16) 2 (r.bytes r.flags)).updEvr (fun e => { e with keepNext := k + 1 })
  | none =>
    let first := !s.b .EVR_STATUS_KEEP_FULL 0
    let s := (s.setB .EVR_STATUS_KEEP_FULL 0 true).circPut r (r.flags + 4)
    if first then s.event 0xE006 0 0 0 else s

/-- The clearing itself (R404): the areas are erased and event 0xE003 becomes the first record of the keep area;
an erase that fails gives ERASE_FAIL, and no record. -/
def State.clearAreas (s : State) (areas : Nat) : State :=
  let k := if bit areas 1 then s.records keepBase 0x10000 else []
  let c := if bit areas 0 then s.records circBase 0x200000 else []
  let all := k ++ c
  let (good, s) := if bit areas 1 then
      let (g, s) := s.eraseTry 3 keepBase
      (g, (s.updEvr (fun e => { e with keepNext := 0 })).setB .EVR_STATUS_KEEP_FULL 0 false)
    else (true, s)
  let (good, s) := if bit areas 0 then
      let (g, s) := (List.range 32).foldl (fun (x : Bool × State) i =>
        let (g, u) := x.2.eraseTry 3 (circBase + 65536 * i)
        (x.1 && g, u)) (good, s)
      (g, s.updEvr (fun e => { e with circNext := 0 }))
    else (good, s)
  let s := if good then
      let r := s.evrRecord 0xE003 (maxField all 0) all.length areas false true
      (s.setF .EVR_SEQ_NEXT 0 (r.seq + 1)).keepPut r
    else s
  s.setFs 0 [(.EVR_CLR_BUSY, 0), (.EVR_CLR_RESULT, if good then 1 else 3), (.EVR_STATUS_CLR_EV, 1)]

/-- A clearing that waits is performed once the recorder may use the flash (R399, R403). -/
def State.clearDue (s : State) : State :=
  match s.evr.clearing with
  | none => s
  | some v =>
    if !s.evrMay then s
    else (s.updEvr (fun e => { e with clearing := none })).clearAreas v

/-- Events dropped are reported once room has returned (R394). -/
def State.dropReport (s : State) : State :=
  if s.evr.dropPend = 0 ∨ 64 ≤ s.evr.queue.length then s
  else
    let n := s.evr.dropPend
    (s.updEvr (fun e => { e with dropPend := 0 })).event 0xE005 n 0 0

/-- RECORD_PROGRAM (R394, R397, R398): the recorder's turn at the flash: a clearing that waits, or the oldest record of the queue. -/
def execRecordProgram (s : State) : Outcome :=
  .next (
    if s.evr.clearing.isSome then s.clearDue else
    match s.evr.queue with
    | [] => s
    | r :: q =>
      if !s.evrMay then s else
      let s := (s.updEvr (fun e => { e with queue := q })).setF .EVR_STATUS_QDEPTH 0 q.length
      let s := if bit r.flags 0 then s.keepPut r else s.circPut r r.flags
      s.dropReport)

/-- OPERATING_MINUTE_END (R392, R395): the minute's suppressions are reported in code order; every 60 minutes the hour mark. -/
def execOperatingMinuteEnd (s : State) : Outcome :=
  .next (
    if !s.b .EVR_STATUS_READY 0 then s else
    let n := s.f .EVR_OPMIN_OP_MIN 0 + 1
    let l := s.evr.suppressed
    let s := (s.updEvr (fun e => { e with minuteAt := s.aont, entered := [], suppressed := [] })).setF .EVR_OPMIN_OP_MIN 0 n
    let s := if n % 60 = 0 then s.event 0xE002 0 0 0 else s
    l.foldl (fun u x => u.event 0xE004 x.1 x.2 0) s)

/-- FREEZE_TIMEOUT (R403). -/
def execFreezeTimeout (s : State) : Outcome :=
  .next (if s.b .EVR_CTRL_FREEZE 0 then ((s.setB .EVR_CTRL_FREEZE 0 false).event 0xE008 0 0 0).clearDue else s)

/-- EVENT_LOG_PAGE (R402, R403): offset 0 sets FREEZE, the last byte clears it. -/
def execEventLogPage (t : Slot) (off len : Nat) (s : State) : Outcome :=
  .next (s.onCmd t true 0x02 (fun _ =>
    if !pageOk 32 2162688 off len then s.finish t 0 0x02 0
    else
      let s := if off = 0 then s.setB .EVR_CTRL_FREEZE 0 true else s
      let d := (List.range len).map (fun i =>
        if off + i < 0x10000 then s.eflByte (keepBase + off + i) else s.eflByte (circBase + (off + i - 0x10000)))
      let s := s.answer t d
      if off + len = 2162688 ∧ 0 < len then (s.setB .EVR_CTRL_FREEZE 0 false).clearDue else s))

/-- EVENT_CLEAR (R404): refused, or a clearing, which waits while the recorder may not use the flash (R399, R403). -/
def execEventClear (key : BitVec 16) (areas : BitVec 2) (s : State) : Outcome :=
  .next (s.onBlk .evr 0 (fun s =>
    let s := s.setF .EVR_CLR_AREAS 0 areas.toNat
    if s.b .EVR_CLR_BUSY 0 then s.cfgErrAt .evr .EVR_CLR_GO 0
    else if key ≠ 0xC1EA ∨ !s.dbg 2 then (s.setF .EVR_CLR_RESULT 0 2).cfgErrAt .evr .EVR_CLR_GO 0
    else if areas = 0 then s.cfgErrAt .evr .EVR_CLR_GO 0
    else ((s.setB .EVR_CLR_BUSY 0 true).updEvr (fun e => { e with clearing := some areas.toNat })).clearDue))

end Sys2Proof.Machine
end

