-- ==== Sys2Proof/Machine/Qe.lean ====
section
/-!
DEFINITION. Machine/Qe.lean: the Quince engines (R190, R191, R194, R268-R275): run control, faults and the instruction set. What an
engine's inputs carry and what its published outputs drive stand in Loops.lean.
-/
namespace Sys2Proof.Machine

def State.qe (s : State) (n : Nat) : Quince := Tbl.get s.eng.qe {} n
def State.setQe (s : State) (n : Nat) (q : Quince) : State := s.updEng (fun e => { e with qe := Tbl.set e.qe {} n q })
def State.qeState (s : State) (n : Nat) : Nat := s.f .ENG_QE_CTRL_STATE n

/-- STOPPED or FAULT. -/
def State.qeStill (s : State) (n : Nat) : Bool := s.qeState n == 0 || s.qeState n == 3

/-- QEn is fused off (R195). -/
def State.qeFused (s : State) (n : Nat) : Bool := bit (s.f .ENG_FUSED_HI_QE 0) n

/-- The engine that stands in the place of index m: QE11 while it is bound there (R194). -/
def State.qeOf (s : State) (m : Nat) : Nat := if m < 11 ∧ s.b .ENG_QE_CTRL_BOUND m then 11 else m

/-- The index whose trigger, configuration and outputs an engine has (R194). -/
def State.qeRole (s : State) (n : Nat) : Nat := if n = 11 ∧ s.b .ENG_SPARE_QE_BIND 0 then s.f .ENG_SPARE_QE_REPLACES 0 else n

/-- Actuator records. -/
def State.updSrv (s : State) (g : Srv → Srv) : State := { s with srv := g s.srv }
def State.act (s : State) (a : Nat) : ActSt := Tbl.get s.srv.act { target := { opc := 0, slot := 0, track := 0 } } a
def State.setAct (s : State) (a : Nat) (x : ActSt) : State :=
  s.updSrv (fun v => { v with act := Tbl.set v.act { target := { opc := 0, slot := 0, track := 0 } } a x })

/-- A fault of an engine (R191): FAULT, FAULT_EV and event 0x5003; that run publishes nothing. A loop engine's outputs are held for
FLT_HOLD wedges, with event 0x8006 (R264). -/
def State.qeFault (s : State) (n code : Nat) : State :=
  let m := s.qeRole n
  let s := (s.setQe n { s.qe n with outPend := [], stopPend := false }).setFs n [(.ENG_QE_CTRL_STATE, 3), (.ENG_QE_CTRL_FAULT, code)]
  let s := (s.setB .ENG_STATUS_FAULT_EV 0 true).event 0x5003 n code 0
  if m < 8 then (s.setAct (m / 2) { s.act (m / 2) with hold := true }).event 0x8006 0 0 0 else s

/-- A soft start waits for the next trigger of an engine's actuator (R262). -/
def State.softStart (s : State) (m : Nat) : State :=
  if m < 8 then s.setAct (m / 2) { s.act (m / 2) with softPend := true } else s

/-- QE_START (R191, R262). An engine fused off or replaced does not start (log entry 26). A loop engine ARMED again ends the hold of R264
when its actuator's other engine is no longer faulted. -/
def execQeStart (n : Qe) (s : State) : Outcome :=
  .next (s.onBlk .eng 0 (fun s =>
    if s.qeFused n ∨ s.b .ENG_QE_CTRL_BOUND n then s.cfgErrAt .eng .ENG_QE_CTRL_START n
    else if !s.qeStill n then s
    else
      let m := s.qeRole n
      let s := (s.setFs n [(.ENG_QE_CTRL_STATE, 1), (.ENG_QE_CTRL_FAULT, 0)]).setQe n { s.qe n with trigs := 0, stopPend := false }
      let s := s.softStart m
      if m < 8 ∧ s.qeState (s.qeOf (m / 2 * 2)) ≠ 3 ∧ s.qeState (s.qeOf (m / 2 * 2 + 1)) ≠ 3 then
        s.setAct (m / 2) { s.act (m / 2) with hold := false }
      else s))

/-- QE_STOP (R191). -/
def execQeStop (n : Qe) (s : State) : Outcome :=
  .next (s.onBlk .eng 0 (fun s =>
    if s.qeState n = 1 then s.setF .ENG_QE_CTRL_STATE n 0
    else if s.qeState n = 2 then s.setQe n { s.qe n with stopPend := true }
    else s))

/-- SPARE_QE_BIND (R194, R262). -/
def execSpareQeBind (m : BitVec 4) (bind : Bool) (s : State) : Outcome :=
  .next (s.onBlk .eng 0 (fun s =>
    let on := s.b .ENG_SPARE_QE_BIND 0
    let r := if on then s.f .ENG_SPARE_QE_REPLACES 0 else m.toNat
    if !on ∧ !bind then s.setF .ENG_SPARE_QE_REPLACES 0 m.toNat
    else if on = bind ∨ 10 < r ∨ !s.qeStill 11 ∨ !s.qeStill r ∨ s.qeFused 11 then s.cfgErrAt .eng .ENG_SPARE_QE_BIND 0
    else
      let s := s.setFs 0 [(.ENG_SPARE_QE_REPLACES, m.toNat), (.ENG_SPARE_QE_BIND, bind.toNat)]
      let s := s.setFs r [(.ENG_QE_CTRL_BOUND, bind.toNat), (.ENG_QE_CTRL_STATE, 0)]
      (if bind then s.softStart r else s).event 0x5005 0 0 0))

/-! ### Arithmetic (R268, R269) -/

/-- An accumulator wraps modulo 2^40. -/
def wrap40 (v : Int) : Int := signed 40 (unsigned 40 v)

/-- The nearest value of a 16-bit register. -/
def sat16 (v : Int) : Int := max (-32768) (min 32767 v)

/-- Bits 31:16 of a Q31 value plus 2^15, not yet saturated. -/
def round16 (v : Int) : Int := (v + 2 ^ 15) / 2 ^ 16

def Quince.reg (q : Quince) (i : Nat) : Int := signed 16 (Tbl.get q.x 0 i)
def Quince.setReg (q : Quince) (i : Nat) (v : Int) : Quince := { q with x := Tbl.set q.x 0 i (unsigned 16 v) }
/-- A saturating store: SF tells of a saturation. -/
def Quince.satReg (q : Quince) (i : Nat) (v : Int) : Quince := { q.setReg i (sat16 v) with sf := q.sf || decide (sat16 v ≠ v) }
def Quince.acc (q : Quince) (a : Bool) : Int := if a then q.acb else q.aca
def Quince.setAcc (q : Quince) (a : Bool) (v : Int) : Quince := if a then { q with acb := wrap40 v } else { q with aca := wrap40 v }
/-- Z and N of a value. -/
def Quince.flags (q : Quince) (v : Int) : Quince := { q with z := v == 0, n := decide (v < 0) }

/-! ### One instruction (R190, R191, R271, R272) -/

/-- An instruction word (R270). -/
def qWord (opc d x : Nat) (a : Bool) (imm : Nat) : Nat := opc * 2 ^ 26 + d * 2 ^ 22 + x * 2 ^ 18 + a.toNat * 2 ^ 17 + imm

/-- The fields that an opcode's row names (R270): whether D, S and A, and how many bits of IMM; nothing for an opcode not in the table. -/
def qFields (opc : Nat) : Option (Bool × Bool × Bool × Nat) :=
  match opc with
  | 0x00 | 0x3F => some (false, false, false, 0)
  | 0x01 | 0x0C | 0x0D | 0x21 => some (false, false, true, 0)
  | 0x02 => some (false, true, true, 0)
  | 0x03 | 0x0A | 0x0B => some (false, true, true, 4)
  | 0x04 | 0x05 | 0x06 | 0x0F => some (false, false, true, 8)
  | 0x07 | 0x08 | 0x09 => some (false, true, true, 8)
  | 0x0E => some (false, false, true, 4)
  | 0x10 | 0x1B => some (true, true, false, 0)
  | 0x11 => some (true, false, false, 16)
  | 0x12 => some (true, false, false, 8)
  | 0x13 => some (true, false, false, 5)
  | 0x14 => some (false, true, false, 5)
  | 0x15 | 0x16 | 0x17 | 0x1C | 0x1D => some (true, true, false, 4)
  | 0x18 | 0x19 => some (true, false, true, 0)
  | 0x1A => some (true, true, false, 8)
  | 0x20 => some (false, true, false, 4)
  | 0x22 => some (false, false, false, 10)
  | 0x23 => some (true, false, false, 10)
  | 0x24 => some (false, false, false, 4)
  | _ => none

/-- An illegal instruction word (R271). -/
def qIllegal (w : Nat) : Bool :=
  match qFields (bits w 31 26) with
  | none => true
  | some (d, x, a, k) =>
    (!d && bits w 25 22 != 0) || (!x && bits w 21 18 != 0) || (!a && bit w 17) || bit w 16 || decide (2 ^ k ≤ bits w 15 0)
      || ((bits w 31 26 == 0x0F || bits w 31 26 == 0x1A) && bits w 7 0 == 255) || (bits w 31 26 == 0x23 && decide (9 < bits w 25 22))

/-- The instruction at a RUNNING engine's program counter: an uncorrectable word faults it (R191); otherwise a row acts where the word is its
own (log entry 13), with the counter advanced. -/
def State.qeStep (s : State) (n : Nat) (ok : Nat → Bool) (g : State → Quince → State) : State :=
  if s.qeState n ≠ 2 then s else
  let q := s.qe n
  let r := s.sramRead 0x0C (n * 1024 + q.pc)
  if r.1 = 2 then r.2.qeFault n 1
  else if ok (Tbl.get q.prog 0 q.pc) then g r.2 { q with pc := q.pc + 1, count := q.count + 1 }
  else s

/-- The instruction of one word. -/
def State.qeFetch (s : State) (n w : Nat) (g : State → Quince → State) : State := s.qeStep n (fun x => x == w) g

/-- The result of an instruction; passing word 1,023 without END is illegal (R271). -/
def State.qePut (s : State) (n : Nat) (q : Quince) : State :=
  if q.pc < 1024 then s.setQe n q else (s.setQe n q).qeFault n 4

/-- An instruction on registers and accumulators alone. -/
def State.qeOp (s : State) (n w : Nat) (g : Quince → Quince) : State := s.qeFetch n w (fun s q => s.qePut n (g q))

/-- The engine executes its instruction again when the array it waits for has been initialised (R129). -/
def State.qeWait (s : State) (array : Nat) (g : State) : State := if s.initBusy array then s else g

/-- A coefficient of the bank in force (R273). -/
def State.qeCoef (s : State) (n k : Nat) (g : State → Int → State) : State :=
  s.qeWait 0x0D <|
  let i := s.g .SRV_QE_CFG_BANK (s.qeRole n) * 256 + k
  let (e, s) := s.sramRead 0x0D (n * 512 + i)
  if e = 2 then s.qeFault n 2 else g s (signed 16 (Tbl.get (s.qe n).coef 0 i))

/-- A state word. -/
def State.qeWord (s : State) (n k : Nat) (g : State → Int → State) : State :=
  s.qeWait 0x0E <|
  let (e, s) := s.sramRead 0x0E (n * 256 + k)
  if e = 2 then s.qeFault n 3 else g s (signed 40 (Tbl.get (s.qe n).st 0 k))

/-- NOP. -/
def execQNop (n : Qe) (s : State) : Outcome := .next (s.qeOp n (qWord 0x0 0 0 false 0) id)
/-- CLR. -/
def execQClr (n : Qe) (a : Bool) (s : State) : Outcome := .next (s.qeOp n (qWord 0x1 0 0 a 0) (fun q => q.setAcc a 0))
/-- LDA. -/
def execQLda (n : Qe) (a : Bool) (x : Fin 16) (s : State) : Outcome := .next (s.qeOp n (qWord 0x2 0 x a 0) (fun q => q.setAcc a (q.reg x * 2 ^ 16)))
/-- LDP. -/
def execQLdp (n : Qe) (a : Bool) (x t : Fin 16) (s : State) : Outcome :=
  .next (s.qeOp n (qWord 0x3 0 x a t) (fun q => q.setAcc a (signed 32 (unsigned 16 (q.reg x) * 2 ^ 16 + unsigned 16 (q.reg t)))))
/-- LDS. -/
def execQLds (n : Qe) (a : Bool) (k : Byte) (s : State) : Outcome :=
  .next (s.qeFetch n (qWord 0x4 0 0 a k.toNat) (fun s q => s.qeWord n k.toNat (fun s v => s.qePut n (q.setAcc a v))))
/-- STS. -/
def execQSts (n : Qe) (a : Bool) (k : Byte) (s : State) : Outcome :=
  .next (s.qeFetch n (qWord 0x5 0 0 a k.toNat) (fun s q =>
    s.qeWait 0x0E ((s.sramWritten 0x0E (n * 256 + k.toNat)).qePut n { q with st := Tbl.set q.st 0 k.toNat (unsigned 40 (q.acc a)) })))
/-- ADDS. -/
def execQAdds (n : Qe) (a : Bool) (k : Byte) (s : State) : Outcome :=
  .next (s.qeFetch n (qWord 0x6 0 0 a k.toNat) (fun s q => s.qeWord n k.toNat (fun s v => s.qePut n (q.setAcc a (q.acc a + v)))))
/-- MPY: the product of two Q15 values, shifted left once (R268). -/
def execQMpy (n : Qe) (a : Bool) (x : Fin 16) (k : Byte) (s : State) : Outcome :=
  .next (s.qeFetch n (qWord 0x7 0 x a k.toNat) (fun s q => s.qeCoef n k.toNat (fun s c => s.qePut n (q.setAcc a (2 * (q.reg x * c))))))
/-- MAC. -/
def execQMac (n : Qe) (a : Bool) (x : Fin 16) (k : Byte) (s : State) : Outcome :=
  .next (s.qeFetch n (qWord 0x8 0 x a k.toNat) (fun s q => s.qeCoef n k.toNat (fun s c => s.qePut n (q.setAcc a (q.acc a + 2 * (q.reg x * c))))))
/-- MSU. -/
def execQMsu (n : Qe) (a : Bool) (x : Fin 16) (k : Byte) (s : State) : Outcome :=
  .next (s.qeFetch n (qWord 0x9 0 x a k.toNat) (fun s q => s.qeCoef n k.toNat (fun s c => s.qePut n (q.setAcc a (q.acc a - 2 * (q.reg x * c))))))
/-- MPYX. -/
def execQMpyx (n : Qe) (a : Bool) (x t : Fin 16) (s : State) : Outcome :=
  .next (s.qeOp n (qWord 0xA 0 x a t) (fun q => q.setAcc a (2 * (q.reg x * q.reg t))))
/-- MACX. -/
def execQMacx (n : Qe) (a : Bool) (x t : Fin 16) (s : State) : Outcome :=
  .next (s.qeOp n (qWord 0xB 0 x a t) (fun q => q.setAcc a (q.acc a + 2 * (q.reg x * q.reg t))))
/-- ADDA. -/
def execQAdda (n : Qe) (a : Bool) (s : State) : Outcome := .next (s.qeOp n (qWord 0xC 0 0 a 0) (fun q => q.setAcc a (q.acc a + q.acc (!a))))
/-- SUBA. -/
def execQSuba (n : Qe) (a : Bool) (s : State) : Outcome := .next (s.qeOp n (qWord 0xD 0 0 a 0) (fun q => q.setAcc a (q.acc a - q.acc (!a))))
/-- SHA: right shifts toward minus infinity, left shifts wrap. -/
def execQSha (n : Qe) (a : Bool) (sh : BitVec 4) (s : State) : Outcome :=
  .next (s.qeOp n (qWord 0xE 0 0 a sh.toNat) (fun q =>
    let k := sh.toInt
    q.setAcc a (if 0 ≤ k then q.acc a * 2 ^ k.toNat else q.acc a / 2 ^ (-k).toNat)))
/-- CLAMP (R270, R271). -/
def execQClamp (n : Qe) (a : Bool) (k : Byte) (s : State) : Outcome :=
  .next (s.qeFetch n (qWord 0xF 0 0 a k.toNat) (fun s q =>
    if k.toNat = 255 then s.qeFault n 4 else
    s.qeCoef n k.toNat (fun s lo => s.qeCoef n (k.toNat + 1) (fun s hi =>
      let v := max (lo * 2 ^ 16) (min (hi * 2 ^ 16) (q.acc a))
      s.qePut n { q.setAcc a v with cf := q.cf || decide (v ≠ q.acc a) }))))
/-- MOV. -/
def execQMov (n : Qe) (d x : Fin 16) (s : State) : Outcome := .next (s.qeOp n (qWord 0x10 d x false 0) (fun q => q.setReg d (q.reg x)))
/-- LDI. -/
def execQLdi (n : Qe) (d : Fin 16) (imm : BitVec 16) (s : State) : Outcome := .next (s.qeOp n (qWord 0x11 d 0 false imm.toNat) (fun q => q.setReg d imm.toInt))
/-- LDC. -/
def execQLdc (n : Qe) (d : Fin 16) (k : Byte) (s : State) : Outcome :=
  .next (s.qeFetch n (qWord 0x12 d 0 false k.toNat) (fun s q => s.qeCoef n k.toNat (fun s c => s.qePut n (q.setReg d c))))
/-- IN: the inputs sampled at the trigger (R272). -/
def execQIn (n : Qe) (d : Fin 16) (p : Fin 32) (s : State) : Outcome :=
  .next (s.qeOp n (qWord 0x13 d 0 false p) (fun q => q.setReg d (signed 16 (Tbl.get q.inp 0 p))))
/-- OUT: held until END. A port not written in a run keeps what it published last. -/
def execQOut (n : Qe) (x : Fin 16) (p : Fin 32) (s : State) : Outcome :=
  .next (s.qeOp n (qWord 0x14 0 x false p) (fun q => { q with outPend := Tbl.set q.outPend 0 p (unsigned 16 (q.reg x) + 1) }))
/-- ADD. -/
def execQAdd (n : Qe) (d x t : Fin 16) (s : State) : Outcome := .next (s.qeOp n (qWord 0x15 d x false t) (fun q => q.satReg d (q.reg x + q.reg t)))
/-- SUB. -/
def execQSub (n : Qe) (d x t : Fin 16) (s : State) : Outcome := .next (s.qeOp n (qWord 0x16 d x false t) (fun q => q.satReg d (q.reg x - q.reg t)))
/-- MUL. -/
def execQMul (n : Qe) (d x t : Fin 16) (s : State) : Outcome :=
  .next (s.qeOp n (qWord 0x17 d x false t) (fun q => q.satReg d (round16 (2 * (q.reg x * q.reg t)))))
/-- STH. -/
def execQSth (n : Qe) (d : Fin 16) (a : Bool) (s : State) : Outcome := .next (s.qeOp n (qWord 0x18 d 0 a 0) (fun q => q.satReg d (round16 (q.acc a))))
/-- STL. -/
def execQStl (n : Qe) (d : Fin 16) (a : Bool) (s : State) : Outcome := .next (s.qeOp n (qWord 0x19 d 0 a 0) (fun q => q.setReg d (q.acc a)))
/-- LIM. -/
def execQLim (n : Qe) (d x : Fin 16) (k : Byte) (s : State) : Outcome :=
  .next (s.qeFetch n (qWord 0x1A d x false k.toNat) (fun s q =>
    if k.toNat = 255 then s.qeFault n 4 else
    s.qeCoef n k.toNat (fun s lo => s.qeCoef n (k.toNat + 1) (fun s hi =>
      let v := max lo (min hi (q.reg x))
      s.qePut n { q.setReg d v with cf := q.cf || decide (v ≠ q.reg x) }))))
/-- ABS. -/
def execQAbs (n : Qe) (d x : Fin 16) (s : State) : Outcome :=
  .next (s.qeOp n (qWord 0x1B d x false 0) (fun q => q.satReg d (if q.reg x < 0 then -q.reg x else q.reg x)))
/-- AND. -/
def execQAnd (n : Qe) (d x t : Fin 16) (s : State) : Outcome :=
  .next (s.qeOp n (qWord 0x1C d x false t) (fun q => { q with x := Tbl.set q.x 0 d (Tbl.get q.x 0 x &&& Tbl.get q.x 0 t) }))
/-- OR. -/
def execQOr (n : Qe) (d x t : Fin 16) (s : State) : Outcome :=
  .next (s.qeOp n (qWord 0x1D d x false t) (fun q => { q with x := Tbl.set q.x 0 d (Tbl.get q.x 0 x ||| Tbl.get q.x 0 t) }))
/-- CMP: exact, over 17 bits. -/
def execQCmp (n : Qe) (x t : Fin 16) (s : State) : Outcome := .next (s.qeOp n (qWord 0x20 0 x false t) (fun q => q.flags (q.reg x - q.reg t)))
/-- CMPA. -/
def execQCmpa (n : Qe) (a : Bool) (s : State) : Outcome := .next (s.qeOp n (qWord 0x21 0 0 a 0) (fun q => q.flags (q.acc a)))
/-- JMP. -/
def execQJmp (n : Qe) (target : BitVec 10) (s : State) : Outcome := .next (s.qeOp n (qWord 0x22 0 0 false target.toNat) (fun q => { q with pc := target.toNat }))

/-- The conditions of BR (R270). -/
def Quince.brCond (q : Quince) (c : Nat) : Bool :=
  match c with
  | 0 => q.z
  | 1 => !q.z
  | 2 => q.n
  | 3 => !q.n
  | 4 => q.cf
  | 5 => !q.cf
  | 6 => q.sf
  | 7 => !q.sf
  | 8 => q.z || q.n
  | _ => !q.z && !q.n

/-- BR; a condition above 9 is illegal (R271). -/
def execQBr (n : Qe) (cond : BitVec 4) (target : BitVec 10) (s : State) : Outcome :=
  .next (s.qeFetch n (qWord 0x23 cond.toNat 0 false target.toNat) (fun s q =>
    if 9 < cond.toNat then s.qeFault n 4
    else s.qePut n (if q.brCond cond.toNat then { q with pc := target.toNat } else q)))

/-- SIG (R272). -/
def execQSig (n : Qe) (bits : BitVec 4) (s : State) : Outcome :=
  .next (s.qeFetch n (qWord 0x24 0 0 false bits.toNat) (fun s q =>
    let m := s.qeRole n
    (((s.setF .SRV_QE_STAT_SIG m bits.toNat).setB .SRV_STATUS_SIG_EV 0 true).event 0x8009 0 0 0).qePut n q))

/-- ILLEGAL_INSTRUCTION (R271): fault 0x4. -/
def execIllegalInstruction (n : Qe) (s : State) : Outcome :=
  .next (s.qeStep n qIllegal (fun s q => (s.setQe n q).qeFault n 4))

/-! ### Triggers and ends of runs (R272-R275) -/

/-- A committed BANK takes force (R273). -/
def State.bankApply (s : State) (m : Nat) : State :=
  if s.b .SRV_QE_CFG_COMMIT_PEND m then (s.apply .SRV_QE_CFG_BANK m).setB .SRV_QE_CFG_COMMIT_PEND m false else s

/-- A trigger of the engine in the place of index m, with its inputs sampled. Not ARMED, it is ignored; while the previous run is in
progress, it faults the engine with code 0x5. A committed BANK takes effect first (R273). -/
def State.qeTrigger (s : State) (m : Nat) (inputs : List Nat) : State :=
  let n := s.qeOf m
  if s.qeStill n then s
  else
    let s := s.bankApply m
    if s.qeState n = 2 then s.qeFault n 5 else
    let q := s.qe n
    let inp := (inputs.mapIdx (fun i v => (i, v % 65536))).foldl (fun t e => Tbl.set t 0 e.1 e.2) ([] : Tbl Nat)
    (s.setQe n { prog := q.prog, coef := q.coef, st := q.st, inp := inp, outp := q.outp, trigs := q.trigs + 1, lim := s.f .SRV_QE_LIM_RUN_LIM m }).setF .ENG_QE_CTRL_STATE n 2

/-- END, but for what the outputs drive: the outputs are published together, the run's length and flags are reported (R272, R275), and a
STOP takes effect. -/
def State.qeFinish (s : State) (n : Nat) (q : Quince) : State :=
  let m := s.qeRole n
  let outp := q.outPend.foldl (fun t e => Tbl.set t 0 e.1 (e.2 - 1)) q.outp
  let s := s.setQe n { q with outp := outp, outPend := [], stopPend := false }
  let s := s.setF .ENG_QE_CTRL_STATE n (if q.stopPend then 0 else 1)
  let len := min 4095 q.count
  let s := s.setFs m [(.SRV_QE_STAT_LAST, len), (.SRV_QE_STAT_MAX, max len (s.f .SRV_QE_STAT_MAX m)), (.SRV_QE_STAT_CF, q.cf.toNat),
    (.SRV_QE_STAT_SF, q.sf.toNat)]
  let s := s.inc .SRV_QE_CNT_RUNS m 1
  let s := if q.cf then s.inc .SRV_QE_CNT_CLAMPS m 1 else s
  if q.lim < q.count then
    ((s.setB .SRV_QE_STAT_LATE m true).setB .SRV_STATUS_LATE_EV 0 true).event 0x8005 0 0 0
  else s

/-- A published output of the engine in the place of index m, as a signed Q15 value. -/
def State.qeOut (s : State) (m p : Nat) : Int := signed 16 (Tbl.get (s.qe (s.qeOf m)).outp 0 p)

end Sys2Proof.Machine
end

