-- ==== Sys2Proof/Machine/Srv.lean ====
section
/-!
DEFINITION. Machine/Srv.lean: the wedge sequencers' reading of the wedges (R250-R253), the mode machine and ON_TRACK (R254-R256), servo
items (R257, R258, R265-R267), the start of a retract (R293). The loops' triggers and outputs stand in Loops.lean.
-/
namespace Sys2Proof.Machine

def State.mode (s : State) (a : Nat) : Nat := s.f .SRV_ACT_STAT_MODE a
def State.setMode (s : State) (a m : Nat) : State := s.setF .SRV_ACT_STAT_MODE a m
def State.updAct (s : State) (a : Nat) (g : ActSt → ActSt) : State := s.setAct a (g (s.act a))
/-- Primary and mate slots; mate 7 is none. -/
def State.pri (s : State) (a : Nat) : Nat := s.f .SRV_ACT_STAT_PRI a
def State.mate (s : State) (a : Nat) : Nat := s.f .SRV_ACT_STAT_MATE a
def State.hd (s : State) (a k : Nat) : HeadSt := Tbl.get (s.act a).slot {} k
def State.updHd (s : State) (a k : Nat) (g : HeadSt → HeadSt) : State :=
  s.updAct a (fun x => { x with slot := Tbl.upd x.slot {} k g })

/-- LOAD, FOLLOW, SEEK, SETTLE or MATE. -/
def loopMode (m : Nat) : Bool := decide (1 ≤ m) && decide (m ≤ 5)

/-- ON_TRACK of a slot, and its fall. -/
def State.ont (s : State) (a k : Nat) : Bool := bit (s.f .SRV_ACT_STAT_ONT a) k
def State.setOnt (s : State) (a k : Nat) (v : Bool) : State := s.setF .SRV_ACT_STAT_ONT a (setBit (s.f .SRV_ACT_STAT_ONT a) k v)
def State.dropOnt (s : State) (a k : Nat) : State := (s.setOnt a k false).updHd a k (fun h => { h with inBound := 0 })
def State.dropAllOnt (s : State) (a : Nat) : State := (List.range 6).foldl (fun u k => u.dropOnt a k) s

/-- A run of two or more misses ends with event 0x8003 (R254). -/
def State.endRun (s : State) (a k : Nat) : State :=
  let n := (s.hd a k).run
  let s := if 2 ≤ n then s.event 0x8003 a (6 * a + k) n else s
  let s := s.updHd a k (fun h => { h with run := 0 })
  if k = s.pri a then s.setF .SRV_ACT_STAT_MISSES a 0 else s

/-- Entry to FAULT with its cause (R254). -/
def State.faultAct (s : State) (a cause : Nat) : State :=
  let s := ((s.dropAllOnt a).setMode a 7).setB .SRV_STATUS_FAULT_EV 0 true
  (s.event 0x8002 a cause 0).actFlags a

/-! ### Retracts (R293) -/

/-- Result of an actuator's retract: 0 none, 1 PARKED, 2 TIMEOUT, 3 in progress. -/
def State.retRes (s : State) (a : Nat) : Nat := bits (s.f .MPD_RET_STAT_RESULT 0) (2 * a + 1) (2 * a)
def State.setRet (s : State) (a v : Nat) : State :=
  s.setF .MPD_RET_STAT_RESULT 0 (s.f .MPD_RET_STAT_RESULT 0 - s.retRes a * 4 ^ a + v * 4 ^ a)

/-- The item of an actuator's target ends. -/
def State.servoEnd (s : State) (a n code units : Nat) : State :=
  (s.updAct a (fun x => { x with taken := none, pend := none })).post n code 0 units

/-- The start of a retract (R254, R255, R257, R293): ON_TRACK falls, the mode becomes UNLOAD (a FAULT stays, unless an UNLOAD item is the
cause), the microactuators go to 0 V, and a servo item that is held completes SERVO_FAULT. A device that does not drive the actuator
performs none (R427). -/
def State.retract (s : State) (a : Nat) (unload : Bool) : State :=
  if !s.drives a ∨ s.mode a = 0 then s else
  let s := (s.dropAllOnt a).updAct a (fun x => { x with pend := none, ma0 := 0, ma1 := 0 })
  let s := if s.mode a ≠ 7 ∨ unload then s.setMode a 6 else s
  let s := s.setRet a 3
  let s := match unload, s.heldBy (8 + a) [0x10, 0x11, 0x12, 0x14] with
    | false, some (n, _) => s.servoEnd a n 5 0
    | _, _ => s
  s.actFlags a

/-! ### A wedge (R250-R253) -/

/-- A command of the wedge class, with its actuator: refused with fault 0x5 while the servo is not enabled (R276). -/
def State.onWedge (s : State) (n v : Nat) (g : State → Nat → State) : State :=
  s.onSeq n 3 unitCmd v anyWord (fun s => match s.csTarget n with
    | some t => if s.b .SRV_CTRL_EN 0 then g s (t - 8) else s.csFault n 5
    | none => s)

/-- A condition of the wedge sequencer of an actuator. -/
def State.wedgeDone (s : State) (a c : Nat) (v : Bool) : State := (s.seqsOf (8 + a)).foldl (fun u n => u.setDone n c v) s

/-- HEADSEL of a word (R183): a head slot, or 6 for both heads of an arm-mate pair. -/
def headSel (w : Nat) : Nat := bits w 43 40

/-- WINDOW: a search window opens; nothing is known of the wedge yet. -/
def execWindow (n : Cs) (s : State) : Outcome :=
  .next (s.onWedge n 1 (fun s a =>
    let sel := headSel (s.curWord n)
    let s := s.updAct a (fun x => { x with window := true, demod := false, windowSel := sel })
    let s := (List.range 6).foldl (fun u k => u.updHd a k (fun h => { h with samNow := false, tidOk := false, missed := false })) s
    (s.wedgeDone a 0x40 false).wedgeDone a 0x41 false))

/-- DEMOD: the wedge is demodulated; DEMOD_DONE brings the values. -/
def execDemod (n : Cs) (s : State) : Outcome :=
  .next (s.onWedge n 2 (fun s a =>
    let sel := headSel (s.curWord n)
    s.updAct a (fun x => { x with demod := x.window, demodSel := sel })))

/-- The slot of a demodulated head under a HEADSEL: the one it names, or the primary's and the mate's; 7 is none. -/
def State.wedgeSlot (s : State) (a sel : Nat) (mate : Bool) : Nat :=
  if sel = 6 then (if mate then s.mate a else s.pri a) else if mate then 7 else sel

/-- SAM_FOUND (R251), with the time of the mark's last cell. -/
def execSamFound (a : Act) (mate : Bool) (time : Word) (s : State) : Outcome :=
  .next (s.inBlk .srv 0 (fun s =>
    let k := s.wedgeSlot a (s.act a).windowSel mate
    let h := s.hd a k
    if !(s.act a).window ∨ k = 7 ∨ h.samNow ∨ h.missed then s
    else
      (s.updHd a k (fun h => { h with samNow := true, sam := time.toNat, found := min 2 (h.found + 1),
                                      dsam := if h.found = 0 then 0 else (time.toNat + 2 ^ 32 - h.sam) % 2 ^ 32 })).wedgeDone a 0x40 true))

/-- MISS_MAX misses of the primary head, or of the mate head of a pair (R254, R267). -/
def State.missLimits (s : State) (a : Nat) : State :=
  let mx := max 1 (s.f .SRV_CFG_MISS_MAX 0)
  if loopMode (s.mode a) ∧ mx ≤ (s.hd a (s.pri a)).run then s.faultAct a 1
  else if s.mode a = 5 ∧ mx ≤ (s.hd a (s.mate a)).run then
    let k := s.mate a
    let s := (((s.endRun a k).dropOnt a k).setMode a 2).setF .SRV_ACT_STAT_MATE a 7
    let s := s.updAct a (fun x => { x with target := { x.target with mate := none }, ma1 := 0 })
    ((s.setB .SRV_STATUS_MATE_EV 0 true).event 0x8007 0 0 0).actFlags a
  else s

/-- A missed wedge of a head (R251, R255). -/
def State.missed (s : State) (a k : Nat) : State :=
  let s := (s.updHd a k (fun h => { h with missed := true, run := h.run + 1 })).inc .SRV_ACT_CNT_MISSED a 1
  let s := if k = s.pri a then s.setF .SRV_ACT_STAT_MISSES a (min 15 (s.hd a k).run) else s
  (((s.dropOnt a k).wedgeDone a 0x41 true).actFlags a).missLimits a

/-- WINDOW_END (R251): a head whose mark has not been found has a missed wedge. -/
def execWindowEnd (a : Act) (mate : Bool) (s : State) : Outcome :=
  .next (s.inBlk .srv 0 (fun s =>
    let k := s.wedgeSlot a (s.act a).windowSel mate
    let h := s.hd a k
    if !(s.act a).window ∨ k = 7 ∨ h.samNow ∨ h.missed then s else s.missed a k))

/-- x of R250, exact. -/
def burstX (a b c d : Int) : Rat :=
  let sum := a + b + c + d
  if (a - b).natAbs ≤ (c - d).natAbs then ((a - b : Int) : Rat) / (sum : Rat)
  else ((a - b).sign : Rat) * ((sum - 2 * (c - d).natAbs : Int) : Rat) / ((2 * sum : Int) : Rat)

/-- A number of tracks in Q15, truncated toward zero (R253). -/
def q15 (r : Rat) : Int := (r.num * 32768).tdiv r.den

/-- Rounding to the nearest integer, half up. -/
def roundR (r : Rat) : Int := (r + 1 / 2).floor

/-- The predicted time of a mark (R251): from the found marks of the head, and from the spindle's period while no two have been found. With
neither, the time is open. -/
def State.samPredict (s : State) (a k : Nat) : Nat × State :=
  let h := s.hd a k
  let rpm := s.f .MPD_SPN_STAT_RPM 0
  if h.found = 0 ∨ (h.found = 1 ∧ rpm = 0) then (s.free.1 % 2 ^ 32, s.free.2)
  else ((h.sam + (if h.found = 1 then 96000000000 / (560 * rpm) else h.dsam) * max 1 h.run) % 2 ^ 32, s)

/-- Track number and position predicted from the two wedges before (R253); with fewer known, they are open. -/
def State.posPredict (s : State) (a k : Nat) : Int × Rat × State :=
  let h := s.hd a k
  if h.hist = 2 then (2 * h.tid - h.tid1, 2 * h.p - h.p1, s)
  else
    let (t, s) := s.free
    let (x, s) := s.free
    let t : Int := (t % 2 ^ 24 : Nat)
    (t, (t : Rat) + (signed 16 x : Rat) / 65536, s)

/-- DEMOD_DONE (R250-R253): position of a head from what its wedge gave, or predicted; the values of the selected head, of a pair the primary's,
go to S0-S3 of the wedge sequencer. TIDERR counts a parity error of a found wedge (log entry 114). -/
def State.demodDone (s : State) (a k : Nat) (mate : Bool) (m : WedgeMeas) : State :=
  let (A, B, C, D) := (m.ba.toNat, m.bb.toNat, m.bc.toNat, m.bd.toNat)
  let sum := A + B + C + D
  let s := if sum = 0 ∧ !(s.hd a k).missed then s.missed a k else s
  let miss := (s.hd a k).missed
  let ok := !miss && m.tidOk
  let (pt, pp, s) := if ok then ((m.tid.toNat : Int), (0 : Rat), s) else s.posPredict a k
  let (r, s) := if miss then s.free else (m.rro.toNat, s)
  let p : Rat := if miss then pp else (pt : Rat) + burstX A B C D - (signed 8 r : Rat) / 512
  let wn := if !miss && m.wnOk then m.wn.toNat else ((s.hd a k).wn + 1) % 560
  let (t3, s) := if miss then s.samPredict a k else ((s.hd a k).sam, s)
  let s := if miss then s else
    let s := s.endRun a k
    if m.tidOk then s else (s.inc .SRV_ACT_CNT_TIDERR a 1).event 0x8004 0 0 0
  let s := s.updHd a k (fun h => { h with p := p, p1 := h.p, tid := pt, tid1 := h.tid, hist := min 2 (h.hist + 1), wn := wn, tidOk := ok })
  if mate then s else
  let sumR := min 65535 sum
  let s := s.setF .SRV_ACT_PES_SUM a sumR
  let s0 := unsigned 24 pt + 2 ^ 24 * (s.hd a k).samNow.toNat + 2 ^ 25 * ok.toNat + 2 ^ 26 * (!miss && m.wnOk).toNat
  let s1 := wn + 2 ^ 12 * s.mode a + 2 ^ 15 * (s.ont a k).toNat + 2 ^ 16 * (r % 256)
  let s2 := unsigned 16 (q15 (p - (pt : Rat))) + 2 ^ 16 * sumR
  (s.seqsOf (8 + a)).foldl (fun u n => (((u.setSreg n 0 s0).setSreg n 1 s1).setSreg n 2 s2).setSreg n 3 t3) s

def execDemodDone (a : Act) (mate : Bool) (m : WedgeMeas) (s : State) : Outcome :=
  .next (s.inBlk .srv 0 (fun s =>
    let k := s.wedgeSlot a (s.act a).demodSel mate
    if !(s.act a).demod ∨ k = 7 ∨ (!(s.hd a k).samNow ∧ !(s.hd a k).missed) then s else s.demodDone a k mate m))

/-! ### The PES command (R253-R257) -/

/-- The group of R277 takes force. -/
def State.actApply (s : State) (a : Nat) : State :=
  (s.applyAll [.SRV_ACT_LIM_ILIM, .SRV_ACT_LIM_MALIM, .SRV_ACT_OT_OT_WRITE, .SRV_ACT_OT_OT_READ, .SRV_ACT_OTC_OT_CNT_W,
    .SRV_ACT_OTC_OT_CNT_R] a).setB .SRV_ACT_CTRL_COMMIT_PEND a false

/-- The target of the primary head in tracks (R253). -/
def State.targetT (s : State) (a : Nat) (t : Target) : Rat :=
  (t.track : Rat) + (if t.writeOt then (signed 16 (s.f .SRV_HEAD_WR_OFS (6 * a + t.slot)) : Rat) / 32768 else 0)

/-- A new target takes effect (R254, R255): the heads it names are demodulated from now on, and ON_TRACK falls. -/
def State.newTarget (s : State) (a : Nat) (t : Target) : State :=
  let k := s.pri a
  let m := s.mate a
  let m' := match t.mate with
    | some (k', _) => k'
    | none => 7
  let s := if k ≠ t.slot then s.endRun a k else s
  let s := if m ≠ 7 ∧ m ≠ m' then s.endRun a m else s
  let s := (s.setFs a [(.SRV_ACT_STAT_PRI, t.slot), (.SRV_ACT_STAT_MATE, m')]).dropAllOnt a
  let s := s.setF .SRV_ACT_STAT_MISSES a (min 15 (s.hd a t.slot).run)
  s.updAct a (fun x => { x with target := t, pend := none, seekCnt := 0 })

/-- ON_TRACK of a slot at a PES command, against the mode after step 1 (R255). -/
def State.evalOnt (s : State) (a k : Nat) (e : Rat) : State :=
  let h := s.hd a k
  let w := (s.act a).target.writeOt
  let ot := if w then s.g .SRV_ACT_OT_OT_WRITE a else s.g .SRV_ACT_OT_OT_READ a
  let cnt := max 1 (if w then s.g .SRV_ACT_OTC_OT_CNT_W a else s.g .SRV_ACT_OTC_OT_CNT_R a)
  let m := s.mode a
  let good := (m == 2 || m == 4 || m == 5) && h.samNow && !h.missed && roundR e == 0 && decide ((q15 e).natAbs ≤ ot)
  if !good then s.dropOnt a k
  else
    let s := s.updHd a k (fun h => { h with inBound := h.inBound + 1 })
    if cnt ≤ h.inBound + 1 then s.setOnt a k true else s

/-- The mode after the moves that a new target, LOAD's four wedges and I make (R254, R255 step 1); fresh: the target is new. -/
def State.modeMove (s : State) (a : Nat) (fresh : Bool) (i : Int) (m : Nat) : Nat :=
  let far := decide (s.f .SRV_CFG2_SEEK_MIN 0 < i.natAbs)
  let m := if fresh && (m == 2 || m == 5 || (m == 7 && (s.act a).target.opc == 0x10)) then (if far then 3 else 4) else m
  if m = 3 ∧ i.natAbs ≤ s.f .SRV_CFG2_SETTLE_TRK 0 then 4 else if m = 4 ∧ far then 3 else m

/-- Completions of the item whose target is in force (R257). m0 and ont0 are what DEMOD reported. -/
def State.servoComplete (s : State) (a : Nat) (fresh : Bool) (m0 : Nat) (ont0 : Bool) : State :=
  match s.heldBy (8 + a) [0x10, 0x11, 0x12, 0x14] with
  | none => s
  | some (n, w) =>
    let x := s.act a
    let mine := match (s.cs n).item with
      | some { src := .ring r i, .. } => x.taken == some (r, i)
      | _ => false
    let on := s.ont a (s.pri a)
    if !mine ∨ x.pend.isSome then s
    else if (dOpc w = 0x10 ∨ dOpc w = 0x14) ∧ on then s.servoEnd a n 0 0
    else if dOpc w = 0x12 ∧ s.mode a = 5 then s.servoEnd a n 0 0
    else if fresh then s
    else if m0 = 7 then s.servoEnd a n 5 (if dOpc w = 0x11 then x.spent else 0)
    else if dOpc w = 0x11 then
      let spent := x.spent + ont0.toNat
      if x.left ≤ 1 then s.servoEnd a n 0 spent else s.setAct a { x with left := x.left - 1, spent := spent }
    else s

/-- A taken item under ABORT_REQ ends at its next wedge; its target stays out of force (R257). -/
def State.servoAbort (s : State) (a : Nat) : State :=
  match s.heldBy (8 + a) [0x10, 0x11, 0x12, 0x13, 0x14] with
  | some (n, _) => if (s.cs n).abortReq then s.servoEnd a n 1 0 else s
  | none => s

/-- LOAD's count of wedges with SAM and TID_OK; at the fourth the target is where the head is (R254). -/
def State.loadCount (s : State) (a k : Nat) : State :=
  if s.mode a ≠ 1 then s else
  let h := s.hd a k
  let c := if h.samNow && !h.missed && h.tidOk then (s.act a).loadCnt + 1 else 0
  let s := s.updAct a (fun x => { x with loadCnt := c })
  if c < 4 then s
  else
    let s := if (s.act a).target.opc = 0x14 then
        s.updAct a (fun x => { x with target := { x.target with track := (roundR h.p).toNat, mate := none, writeOt := false } }) else s
    s.setMode a 4

/-- SEEK and SETTLE that last SEEK_TO wedges (R254). -/
def State.seekTime (s : State) (a : Nat) (was fresh : Bool) : State :=
  let m := s.mode a
  let c := if (m = 3 ∨ m = 4) ∧ was ∧ !fresh then (s.act a).seekCnt + 1 else 0
  let s := s.updAct a (fun x => { x with seekCnt := c })
  if (m = 3 ∨ m = 4) ∧ max 1 (s.f .SRV_CFG2_SEEK_TO 0) ≤ c then (s.faultAct a 2).event 0x800A 0 0 0 else s

/-- PES: the wedge's error is posted and the mode machine moves (R253-R257, R277). -/
def State.pes (s : State) (a : Nat) : State :=
  let s := if s.b .SRV_ACT_CTRL_COMMIT_PEND a then s.actApply a else s
  let m0 := s.mode a
  let k0 := s.pri a
  let ont0 := s.ont a k0
  let s := s.servoAbort a
  let p := (s.hd a k0).p
  let fresh := (s.act a).pend.isSome
  let s := match (s.act a).pend with
    | some t => s.newTarget a t
    | none => s
  let s := s.loadCount a k0
  let t := (s.act a).target
  let e := p - s.targetT a t
  let i := roundR e
  let s := s.updHd a t.slot (fun h => { h with e := e })
  let s := match t.mate with
    | some (k, tr) => s.updHd a k (fun h => { h with e := h.p - (tr : Rat) })
    | none => s
  let s := s.setMode a (s.modeMove a fresh i (s.mode a))
  let s := s.evalOnt a t.slot e
  let s := match t.mate with
    | some (k, _) => s.evalOnt a k (s.hd a k).e
    | none => s
  let s := if s.mode a = 4 ∧ s.ont a t.slot then
      match t.mate with
      | none => s.setMode a 2
      | some (k, _) => if s.ont a k then s.setMode a 5 else s
    else s
  let s := s.seekTime a (m0 == 3 || m0 == 4) fresh
  let s := s.setFs a [(.SRV_ACT_POS_TRACK, unsigned 24 (roundR p)), (.SRV_ACT_PES_PES, unsigned 16 (q15 (e - (i : Rat))))]
  (s.servoComplete a fresh m0 ont0).actFlags a

def execPes (n : Cs) (s : State) : Outcome := .next (s.onWedge n 3 (fun s a => s.pes a))

/-! ### Servo items (R257, R258, R265) -/

/-- The largest TRK_LAST of a head's zone table (R258). -/
def State.lastTrack (s : State) (h : Nat) : Option Nat :=
  (List.range 1024).foldl (fun m i =>
    let z := s.zoneEntry (s.f .CHN_ZT_ACTIVE 0) i
    if zValid z && zHead z == h then some (max (m.getD 0) (zLast z)) else m) none

/-- The two PMAs of an item: one, or two for ARM_MATE. -/
def servoPmas (w : List Nat) : List Nat := if dOpc w = 0x12 then [dPma w, dArg w] else if dOpc w ≤ 0x11 then [dPma w] else []

/-- The radial place of a target (R265). -/
def State.radial (s : State) (p : Nat) : Int := (pmaTrack p : Int) + signed 8 (s.f .SRV_HEAD_RADOFS (pmaHead p))

/-- The conditions of R265 that DETAIL 0x32 tells of. -/
def State.mateOk (s : State) (a : Nat) (w : List Nat) : Bool :=
  s.b .SRV_ACT_CTRL_MATE_EN a && s.b .SRV_HEAD_MATE_OK (pmaHead (dPma w)) && s.b .SRV_HEAD_MATE_OK (pmaHead (dArg w))
    && pmaHead (dPma w) != pmaHead (dArg w)

/-- The first refusal of R258, as completion code and DETAIL. -/
def State.servoRefusal (s : State) (a : Nat) (w : List Nat) : Option (Nat × Nat) :=
  let ps := servoPmas w
  let m := s.mode a
  let span := max 1 (min 64 (s.f .SRV_CFG_MATE_SPAN 0))
  let byte := dw w 10 % 256
  if ps.any (fun p => decide (23 < pmaHead p) || !s.b .SRV_HEAD_FITTED (pmaHead p)) then some (0x0A, 0)
  else if ps.any (fun p => pmaHead p / 6 != a) then some (2, 0x30)
  else if ps.any (fun p => match s.lastTrack (pmaHead p) with
    | some t => decide (t < pmaTrack p)
    | none => true) then some (2, 0x31)
  else if dOpc w = 0x12 ∧ !s.mateOk a w then some (2, 0x32)
  else if dOpc w = 0x12 ∧ span < (s.radial (dArg w) - s.radial (dPma w)).natAbs then some (2, 0x33)
  else if dOpc w ≤ 0x12 ∧ (m = 0 ∨ m = 6) ∨ dOpc w = 0x14 ∧ m ≠ 0 then some (2, 0x34)
  else if (if dOpc w ≤ 0x11 then 2 ≤ byte else byte ≠ 0) then some (2, 0x35)
  else none

/-- The target an item names. -/
def targetOf (w : List Nat) : Target :=
  { opc := dOpc w, slot := pmaHead (dPma w) % 6, track := pmaTrack (dPma w)
    mate := if dOpc w = 0x12 then some (pmaHead (dArg w) % 6, pmaTrack (dArg w)) else none
    writeOt := dOpc w != 0x12 && bit (dw w 10) 0 }

/-- A servo item that the wedge sequencer holds is checked and its target taken; once only. -/
def State.servoItem (s : State) (a opc : Nat) (g : State → Nat → List Nat → State) : State :=
  s.onItem (8 + a) [opc] (fun s n w =>
    match (s.cs n).item with
    | some { src := .ring r i, .. } =>
      if (s.act a).taken = some (r, i) then s
      else if (s.cs n).abortReq then s.post n 1 0 0
      else match s.servoRefusal a w with
        | some (code, detail) => s.post n code detail 0
        | none => g (s.updAct a (fun x => { x with taken := some (r, i) })) n w
    | _ => s)

/-- A SEEK, FOLLOW or ARM_MATE: its target takes effect at the next PES command (R254, R256); a SEEK in FAULT starts softly (R262). -/
def State.aim (s : State) (a : Nat) (w : List Nat) : State :=
  s.updAct a (fun x => { x with pend := some (targetOf w), left := dCount w, spent := 0
                                softPend := x.softPend || (dOpc w == 0x10 && s.mode a == 7) })

/-- SEEK. -/
def execSeek (a : Act) (s : State) : Outcome := .next (s.inBlk .srv 0 (fun s => s.servoItem a 0x10 (fun s _ w => s.aim a w)))
/-- FOLLOW. -/
def execFollow (a : Act) (s : State) : Outcome := .next (s.inBlk .srv 0 (fun s => s.servoItem a 0x11 (fun s _ w => s.aim a w)))
/-- ARM_MATE. -/
def execArmMate (a : Act) (s : State) : Outcome := .next (s.inBlk .srv 0 (fun s => s.servoItem a 0x12 (fun s _ w => s.aim a w)))

/-- UNLOAD (R254, R257, R293): it starts the retract; in UNLOADED it is done. -/
def execUnload (a : Act) (s : State) : Outcome :=
  .next (s.inBlk .srv 0 (fun s => s.servoItem a 0x13 (fun s n _ =>
    if s.mode a = 0 then s.servoEnd a n 0 0 else s.retract a true)))

/-- The heads of an actuator leave the ramp with a soft start (R254, R262); a braked spindle coasts (R283). The primary slot stays the last one. -/
def State.loadHeads (s : State) (a : Nat) : State :=
  let s := (s.setMode a 1).setF .SRV_ACT_STAT_MATE a 7
  let s := s.updAct a (fun x => { x with target := { opc := 0x14, slot := s.pri a, track := x.target.track }, pend := none, slot := [],
                                         loadCnt := 0, seekCnt := 0, softPend := true })
  if s.f .MPD_SPN_STAT_STATE 0 = 8 then s.setF .MPD_SPN_STAT_STATE 0 2 else s

/-- LOAD. -/
def execLoad (a : Act) (s : State) : Outcome := .next (s.inBlk .srv 0 (fun s => s.servoItem a 0x14 (fun s _ _ => s.loadHeads a)))

/-! ### Enable, and the end of a hold -/

/-- The check of R276. -/
def State.srvOk (s : State) : Bool :=
  (List.range 4).all (fun a =>
    !(List.range 6).any (fun k => s.b .SRV_HEAD_FITTED (6 * a + k)) ||
      [2 * a, 2 * a + 1].all (fun n => s.f .SRV_QE_CFG_TRIG_SRC n == 1 && s.f .SRV_QE_CFG_ACT n == a))
  && (List.range 24).all (fun h => !s.b .SRV_HEAD_MATE_OK h || s.b .SRV_HEAD_FITTED h)

/-- SRV_EN (R22, R276): a disable takes pending groups into force. -/
def execSrvEn (v : Bool) (s : State) : Outcome :=
  .next (s.onBlk .srv 0 (fun s =>
    if s.b .SRV_CTRL_EN 0 = v then s
    else if v then (if s.srvOk then s.setB .SRV_CTRL_EN 0 true else s.cfgErrAt .srv .SRV_CTRL_EN 0)
    else if (List.range 4).any (fun a => s.mode a != 0) then s.cfgErrAt .srv .SRV_CTRL_EN 0
    else
      let s := (List.range 4).foldl (fun u a => if u.b .SRV_ACT_CTRL_COMMIT_PEND a then u.actApply a else u) (s.setB .SRV_CTRL_EN 0 false)
      (List.range 12).foldl (fun u m => u.bankApply m) s))

/-- FAULT_HOLD_EXPIRY (R264): no engine has been ARMED again within FLT_HOLD wedges: FAULT with cause 4, outputs 0, a retract. -/
def execFaultHoldExpiry (a : Act) (s : State) : Outcome :=
  .next (
    if !(s.act a).hold then s else
    let s := s.updAct a (fun x => { x with hold := false, vcm := 0, ma0 := 0, ma1 := 0 })
    let s := if loopMode (s.mode a) then s.faultAct a 4 else s
    s.retract a false)

end Sys2Proof.Machine
end

