-- ==== Sys2Proof/Machine/Power.lean ====
section
/-!
DEFINITION. Machine/Power.lean: the Sloe queue and its budget (R306, R307, R311), the VCM clamp in force (R261, R291, R300, R301), the
measured speed and what follows it (R282, R407).
-/
namespace Sys2Proof.Machine

def State.updSup (s : State) (g : Sup → Sup) : State := { s with sup := g s.sup }
def State.updMpd (s : State) (g : Mpd → Mpd) : State := { s with mpd := g s.mpd }

/-- The figure of a domain in 0.05 W units (R306); SPIN's is fixed at admission. -/
def State.figure (s : State) (d : Nat) : Nat :=
  match d with
  | 1 => 20
  | 2 => 32
  | 3 => 28
  | 4 => 20
  | 5 => 56
  | 6 => 8
  | 7 => 9
  | 8 => 9
  | 9 => 9
  | 10 => 9
  | 11 => 4
  | 12 => 12
  | 15 => 50
  | 16 => 20 * (if s.mpd.moving = 2 then s.f .MPD_SPN_PWR_TIER_W 0 else max 1 (min 25 (s.f .MPD_SPN_PWR_SPIN_W 0)))
  | _ => 0

/-- The budget in force (R307), in 0.05 W units. -/
def State.budget (s : State) : Nat :=
  20 * min (if s.b .SUP_STATUS_LOWV 0 then 25 else 42) (max 1 (s.f .SUP_PLIM_BUDGET 0))

/-- A start at the head fits the budget. -/
def State.admitted (s : State) (d : Nat) : Bool := s.dom d || decide (s.f .SUP_SLOE_STAT_SUM 0 + s.figure d ≤ s.budget)

/-- SUP_SLOE_STAT follows the queue. -/
def State.sloeShow (s : State) : State :=
  let (hd, wait) := match s.sup.sloe with
    | [] => (0, false)
    | r :: _ => (r.dom, r.on && !s.sup.step && !s.admitted r.dom)
  s.setFs 0 [(.SUP_SLOE_STAT_HEAD, hd), (.SUP_SLOE_STAT_BUSY, s.sup.step.toNat), (.SUP_SLOE_STAT_WAITING, wait.toNat),
    (.SUP_SLOE_STAT_DEPTH, s.sup.sloe.length)]

/-- A request joins the queue (R307): refused with CFG_ERR for a domain above 16 or when 16 are queued. -/
def State.sloePush (s : State) (dom : Nat) (on : Bool) : State :=
  if 16 < dom ∨ 16 ≤ s.sup.sloe.length then s.cfgErrAt .sup .SUP_SLOE_REQ_GO 0
  else (s.updSup (fun x => { x with sloe := x.sloe ++ [{ dom := dom, on := on }] })).sloeShow

/-- The request at the head leaves. -/
def State.sloePop (s : State) : State := (s.updSup (fun x => { x with sloe := x.sloe.tail, step := false, noted := false })).sloeShow

/-- A domain's ON bit, with its figure in the sum. -/
def State.setDom (s : State) (d : Nat) (on : Bool) : State := s.setF .SUP_DOM_ON_ON 0 (setBit (s.f .SUP_DOM_ON_ON 0) d on)
def State.addSum (s : State) (v : Nat) : State := s.setF .SUP_SLOE_STAT_SUM 0 (s.f .SUP_SLOE_STAT_SUM 0 + v)
def State.subSum (s : State) (v : Nat) : State := s.setF .SUP_SLOE_STAT_SUM 0 (s.f .SUP_SLOE_STAT_SUM 0 - v)

/-- SPIN leaves the sum (R311). -/
def State.spinOff (s : State) : State :=
  if s.dom 16 then (((s.setDom 16 false).subSum s.sup.spinFig).updSup (fun x => { x with spinFig := 0 })).sloeShow else s

/-- The clamp on an actuator's VCM current in Q15 (R261, R291, R300, R301). -/
def State.vcmClamp (s : State) (a : Nat) : Nat :=
  let i := min 0x7FFF (s.g .SRV_ACT_LIM_ILIM a)
  let i := if s.mpd.boostLow then i / 4 else i
  let i := min i (s.f .SUP_GOV_CAP 0)
  if s.b .SUP_STATUS_LOWV 0 then min i (s.f .SUP_PLIM_VCM_CAP_LOW 0) else i

/-- The speed of a tier in rpm (R281). -/
def tierRpm (t : Nat) : Nat := if t = 0 then 7200 else if t = 1 then 5400 else 3600

/-- IN_FORCE follows ARMED and ENERGY_OK (R407); a change sets FORCE_EV, a fall records event 0x3048. -/
def State.forceShow (s : State) : State :=
  let v := s.b .PLV_STATUS_ARMED 0 && s.b .PLV_STATUS_ENERGY_OK 0
  if s.b .PLV_STATUS_IN_FORCE 0 = v then s
  else
    let s := (s.setB .PLV_STATUS_IN_FORCE 0 v).setB .PLV_STATUS_FORCE_EV 0 true
    if v then s else s.event 0x3048 0 0 0

/-- LOADOK and ENERGY_OK follow the measured speed (R282, R407). -/
def State.speedFlags (s : State) : State :=
  let rpm := s.f .MPD_SPN_STAT_RPM 0
  let st := s.f .MPD_SPN_STAT_STATE 0
  let s := s.setB .MPD_SPN_STAT_LOADOK 0 ((st == 5 || st == 6) && decide (9 * tierRpm s.mpd.target ≤ 10 * rpm))
  if s.blkOn .plv 0 then (s.setB .PLV_STATUS_ENERGY_OK 0 (decide (10 * s.f .PLV_CFG_MIN_RPM 0 ≤ rpm))).forceShow else s

def State.setRpm (s : State) (rpm : Nat) : State := (s.setF .MPD_SPN_STAT_RPM 0 rpm).speedFlags

end Sys2Proof.Machine
end

