-- ==== Sys2Proof/Machine/Mpd.lean ====
section
/-!
DEFINITION. Machine/Mpd.lean: the spindle's states and their causes (R278, R279, R282-R288, R292), driver trips (R291), the ends of retracts
(R293), the motor opcodes of CS40 (R294), the power class's commands (R183).
-/
namespace Sys2Proof.Machine

def State.spn (s : State) : Nat := s.f .MPD_SPN_STAT_STATE 0

/-- Every actuator is UNLOADED. -/
def State.allParked (s : State) : Bool := (List.range 4).all (fun a => s.mode a == 0)

/-- The spindle enters a state (R283): SRC, AT_SPEED (which only WEDGE, BEMF and HOLD keep), LOADOK and SPIN follow; a change of SRC
records event 0x9004. -/
def State.setSpn (s : State) (st : Nat) : State :=
  let src := s.b .MPD_SPN_STAT_SRC 0
  let s := s.setFs 0 [(.MPD_SPN_STAT_STATE, st), (.MPD_SPN_STAT_SRC, (st == 6).toNat)]
  let s := s.updMpd (fun x => { x with crossings := 0, good := 0, first := x.first || st == 5 || st == 6
                                       restarts := if st = 6 then 0 else x.restarts })
  let s := if st = 5 ∨ st = 6 ∨ st = 7 then s else s.setB .MPD_SPN_STAT_AT_SPEED 0 false
  let s := if st = 0 ∨ st = 2 ∨ st = 10 then s.spinOff else s
  let s := if src = (st == 6) then s else s.event 0x9004 0 0 0
  let s := if st = 7 ∨ st = 10 then s.setB .MPD_STATUS_SPN_EV 0 true else s
  s.speedFlags

/-- COAST becomes BRAKE where R283 allows. -/
def State.spnBrake (s : State) : State :=
  if s.spn = 2 ∧ s.b .MPD_CTRL_BRAKE_EN 0 ∧ s.mpd.brakeAsk ∧ s.allParked then s.setSpn 8 else s

/-- Every actuator that is not UNLOADED retracts. -/
def State.retractAll (s : State) : State := (List.range 4).foldl (fun u a => u.retract a false) s

/-- COAST with where it was entered from: after a loss it sets SPN_EV, and below 80% of the target every actuator retracts (R283, R287). -/
def State.coastFrom (s : State) (why : Nat) : State :=
  let s := (s.setSpn 2).updMpd (fun x => { x with coast := why })
  if why ≠ 2 then s else
  let s := s.setB .MPD_STATUS_SPN_EV 0 true
  if 10 * s.f .MPD_SPN_STAT_RPM 0 < 8 * tierRpm s.mpd.target then s.retractAll else s

/-- The item of the motor queue that CS40 holds ends. -/
def State.motorEnd (s : State) (opcs : List Nat) (code detail units : Nat) : State :=
  match s.heldBy 13 opcs with
  | some (n, _) => s.post n code detail units
  | none => s

/-- A START or TIER in progress ends with a driver fault. -/
def State.motorFault (s : State) (detail : Nat) : State :=
  if s.mpd.moving = 0 then s
  else (s.updMpd (fun x => { x with moving := 0 })).motorEnd [0x30, 0x32] 0x0D detail 0

/-- Spindle FAULT with DRV_EV and event 0x9009 (R287, R291). -/
def State.spnFault (s : State) (driver cause : Nat) : State :=
  ((s.setSpn 10).setB .MPD_STATUS_DRV_EV 0 true).event 0x9009 driver cause 0

/-- A restart after a loss has failed (R287), or a START that cannot go on (log entry 31). -/
def State.restartFail (s : State) : State :=
  if s.mpd.restarts = 0 then (s.spnFault 0 5).motorFault 0
  else if 2 ≤ s.mpd.restarts then s.spnFault 0 5
  else s.coastFrom 2

/-- MEASURE begins for a START or a restart. -/
def State.beginMeasure (s : State) : State := (s.setSpn 1).updMpd (fun x => { x with coast := 0 })

/-- SPIN has come ON (R311): a START begins MEASURE, an upward TIER its ramp; with neither left, SPIN leaves the sum again (log entry 32). -/
def State.spinGranted (s : State) : State :=
  match s.mpd.moving, s.heldBy 13 [0x30, 0x32] with
  | 1, some (_, w) =>
    let s := s.updMpd (fun x => { x with target := dArg0 w })
    if s.spn = 0 ∨ s.spn = 2 ∨ s.spn = 9 ∨ s.spn = 10 then s.beginMeasure else s.speedFlags
  | 2, some (_, w) => (s.updMpd (fun x => { x with target := dArg0 w, good := 0 })).speedFlags
  | _, _ => s.spinOff

/-! ### Events of the spindle -/

/-- MEASURE_END (R283, R285, R294): what the measurement found decides; a rotor fast enough closes the loop once its crossings have
synchronised. A MEASURE item reports it. -/
def execMeasureEnd (rpm : BitVec 16) (backward : Bool) (s : State) : Outcome :=
  .next (s.inBlk .mpd 0 (fun s =>
    let v := rpm.toNat
    let n := tierRpm s.mpd.target
    if s.mpd.measItem then
      let s := (s.setRpm v).setB .MPD_SPN_STAT_DIR 0 backward
      (s.updMpd (fun x => { x with measItem := false })).motorEnd [0x34] 0 backward.toNat v
    else if s.spn ≠ 1 then s
    else
      let s := (s.setRpm v).setB .MPD_SPN_STAT_DIR 0 backward
      let s := if n ≤ 50 * v then s.event 0x9003 v backward.toNat 0 else s
      if 50 * v < n then (s.setSpn 3).updMpd (fun x => { x with aligns := 0 })
      else if backward ∨ 5 * v < n then s.coastFrom 1
      else if s.mpd.crossings = 6 then s.setSpn 5
      else s.updMpd (fun x => { x with coast := 3 })))

/-- ALIGN_END. -/
def execAlignEnd (s : State) : Outcome := .next (s.inBlk .mpd 0 (fun s => if s.spn = 3 then s.setSpn 4 else s))

/-- BEMF_CROSSING (R278, R283): six consecutive valid crossings synchronise. -/
def execBemfCrossing (valid : Bool) (angle : BitVec 12) (s : State) : Outcome :=
  .next (s.inBlk .mpd 0 (fun s =>
    let c := if valid then min 6 (s.mpd.crossings + 1) else 0
    let s := s.updMpd (fun x => { x with crossings := c, angle := if valid then angle.toNat else x.angle })
    if c = 6 ∧ (s.spn = 4 ∨ s.spn = 7 ∨ (s.spn = 1 ∧ s.mpd.coast = 3)) then (s.setSpn 5).updMpd (fun x => { x with coast := 0 }) else s))

/-- OPEN_LOOP_TIMEOUT (R283): at most three returns to ALIGN. -/
def execOpenLoopTimeout (s : State) : Outcome :=
  .next (s.inBlk .mpd 0 (fun s =>
    if s.spn ≠ 4 then s
    else if s.mpd.aligns < 3 then (s.setSpn 3).updMpd (fun x => { x with aligns := x.aligns + 1 })
    else s.restartFail))

/-- WEDGE_GAP_CHECK (R279, R286): the third wedge in a row that nobody stamps. -/
def execWedgeGapCheck (residual : BitVec 12) (s : State) : Outcome :=
  .next (s.inBlk .mpd 0 (fun s =>
    if s.spn ≠ 6 then s else
    let s := s.updMpd (fun x => { x with residual := residual.toNat, runs := [] })
    if s.allParked then s.setSpn 5
    else if residual.toNat ≤ s.f .MPD_SPN_LOSS_RESID_THR 0 then (s.setSpn 5).event 0x900D 0 0 0
    else ((s.setSpn 7).event 0x9005 0 0 0).motorFault 2))

/-- HOLD_TIMEOUT (R287). -/
def execHoldTimeout (s : State) : Outcome :=
  .next (s.inBlk .mpd 0 (fun s =>
    if s.spn ≠ 7 then s
    else if 2 ≤ s.mpd.restarts then (s.event 0x9006 0 0 0).restartFail
    else (s.coastFrom 2).event 0x9006 0 0 0))

/-- REACQUIRE_TIMEOUT (R287): a restart, with event 0x9007. -/
def execReacquireTimeout (s : State) : Outcome :=
  .next (s.inBlk .mpd 0 (fun s =>
    if (s.spn ≠ 2 ∧ s.spn ≠ 0) ∨ s.mpd.coast ≠ 2 then s
    else (((s.updMpd (fun x => { x with restarts := x.restarts + 1 })).beginMeasure).event 0x9007 0 0 0)))

/-- COAST_TIMEOUT (R285): the rotor has not fallen below 2% within COAST_TO. -/
def execCoastTimeout (s : State) : Outcome :=
  .next (s.inBlk .mpd 0 (fun s =>
    if s.spn ≠ 2 ∨ s.mpd.coast ≠ 1 then s
    else
      let s := (s.updMpd (fun x => { x with coast := 0 })).event 0x900C 0 0 0
      if s.mpd.moving = 1 then s.motorFault 1 else if s.mpd.restarts ≠ 0 then s.restartFail else s))

/-- SPEED_THRESHOLD (R282-R287, R292): the measured speed, and what its passing a threshold does. -/
def execSpeedThreshold (rpm : BitVec 16) (s : State) : Outcome :=
  .next (s.inBlk .mpd 0 (fun s =>
    let v := rpm.toNat
    let n := tierRpm s.mpd.target
    let s := s.setRpm v
    let st := s.spn
    if st = 2 ∧ s.mpd.coast = 1 ∧ 50 * v < n then (s.setSpn 3).updMpd (fun x => { x with aligns := 0, coast := 0 })
    else if (st = 2 ∨ st = 8) ∧ 200 * v < n then
      let s := (s.setSpn 0).updMpd (fun x => { x with coast := if x.coast = 2 then 2 else 0, brakeAsk := false })
      if s.mpd.moving = 1 ∧ s.dom 16 then s.beginMeasure else s
    else if st = 2 ∧ s.mpd.coast = 2 ∧ 10 * v < 8 * n then s.retractAll
    else if st = 9 ∧ v ≤ 10 * s.f .MPD_HARV_HARV_FLOOR 0 then s.coastFrom 0
    else s.spnBrake))

/-- HARVEST_END (R292): the energy delivered, and event 0x900B. -/
def execHarvestEnd (mj : BitVec 16) (s : State) : Outcome :=
  .next (s.inBlk .mpd 0 (fun s =>
    if !s.mpd.harvest then s else
    let s := if s.spn = 9 then s.coastFrom 0 else s
    ((s.updMpd (fun x => { x with harvest := false })).setF .MPD_HARV_STAT_HARV_MJ 0 mj.toNat).event 0x900B mj.toNat 0 0))

/-! ### Driver trips (R291) -/

/-- The trip of the spindle driver. -/
def State.tripSpindle (s : State) (cause : Nat) : State :=
  let s := ((s.updMpd (fun x => { x with spnTrip := true, measItem := false })).spnFault 0 cause).motorFault 3
  (s.motorEnd [0x34] 0x0D 3 0).retractAll

/-- The trip of a VCM driver: output off, FAULT with driver cause, a retract on the microactuators; a servo item in progress, or a RETRACT
item that waits for the actuator, completes DRIVER_FAULT (log entry 33). -/
def State.tripVcm (s : State) (a cause : Nat) : State :=
  let s := ((s.setF .MPD_VCM_STAT_TRIP a cause).setB .MPD_STATUS_DRV_EV 0 true).event 0x9009 (1 + a) cause 0
  let s := s.updAct a (fun x => { x with vcm := 0 })
  let s := if loopMode (s.mode a) then s.faultAct a 3 else s
  let s := (s.heldBy (8 + a) [0x10, 0x11, 0x12, 0x13, 0x14]).elim s (fun e =>
    (s.updAct a (fun x => { x with taken := none, pend := none })).post e.1 0x0D 3 0)
  let s := if bit s.mpd.retWait a then (s.updMpd (fun x => { x with retWait := 0 })).motorEnd [0x33] 0x0D 3 0 else s
  s.retract a false

/-- The microactuators are held at 0 V. -/
def State.maOff (s : State) : State := (List.range 4).foldl (fun u a => u.updAct a (fun x => { x with ma0 := 0, ma1 := 0 })) s

/-- The number a driver has in event 0x9009 (log entry 34). -/
def driverNum : Driver → Nat
  | .spindle => 0
  | .vcm a => 1 + a
  | .ma _ => 5
  | .boost => 6

def causeNum : TripCause → Nat
  | .overcurrent => 1
  | .openLoad => 2
  | .temperature => 3
  | .boostLow => 4

/-- DRIVER_TRIP. -/
def State.driverTrip (s : State) (d : Driver) (c : TripCause) : State :=
  match c with
  | .temperature =>
    let s := (List.range 4).foldl (fun u a => u.tripVcm a 3) (s.tripSpindle 3)
    (s.setF .MPD_MA_FLT_FLT 0 0xFFFFFF).maOff
  | .boostLow =>
    (((s.updMpd (fun x => { x with boostLow := true })).setB .MPD_STATUS_DRV_EV 0 true).event 0x9009 6 4 0).maOff
  | c =>
    match d with
    | .spindle => s.tripSpindle (causeNum c)
    | .vcm a => s.tripVcm a (causeNum c)
    | .ma h =>
      let s := ((s.setF .MPD_MA_FLT_FLT 0 (setBit (s.f .MPD_MA_FLT_FLT 0) h true)).setB .MPD_STATUS_DRV_EV 0 true).event 0x9009 5 (causeNum c) 0
      s.updAct (h.val / 6) (fun x => { x with ma0 := if s.pri (h.val / 6) = h.val % 6 then 0 else x.ma0
                                              ma1 := if s.mate (h.val / 6) = h.val % 6 then 0 else x.ma1 })
    | .boost => s

def execDriverTrip (d : Driver) (c : TripCause) (s : State) : Outcome := .next (s.inBlk .mpd 0 (fun s => s.driverTrip d c))

/-- Latched trips are cleared (R291, R295). -/
def State.clearTrips (s : State) : State :=
  let s := (List.range 4).foldl (fun u a => u.setF .MPD_VCM_STAT_TRIP a 0) (s.updMpd (fun x => { x with boostLow := false, spnTrip := false }))
  s.setF .MPD_MA_FLT_FLT 0 0

/-! ### The ends of retracts (R254, R257, R293, R294) -/

/-- The result of a retract, with what waited for it. -/
def State.retractEnd (s : State) (a : Nat) (parked : Bool) : State :=
  if s.retRes a ≠ 3 then s else
  let s := (((s.setRet a (if parked then 1 else 2)).setB .MPD_STATUS_RET_EV 0 true).event 0x900A a (if parked then 1 else 2) 0)
  let s := s.updAct a (fun x => { x with vcm := 0 })
  let s := if parked then
      let s := (List.range 6).foldl (fun u k => if k = u.pri a ∨ k = u.mate a then u.endRun a k else u) s
      (s.setMode a 0).setF .SRV_ACT_STAT_MATE a 7
    else if s.mode a = 7 ∨ !s.blkOn .srv 0 then s else s.faultAct a 5
  let s := (s.heldBy (8 + a) [0x13]).elim s (fun e => s.servoEnd a e.1 (if parked then 0 else 5) 0)
  let waits := bit s.mpd.retWait a
  let s : State := s.updMpd (fun x => { x with retWait := setBit x.retWait a false })
  let s : State := if !waits then s
    else if !parked then (s.updMpd (fun x => { x with retWait := 0 })).motorEnd [0x33] 0x0D 4 0
    else if s.mpd.retWait = 0 then s.motorEnd [0x33] 0 0 0 else s
  (s.actFlags a).spnBrake

/-- RETRACT_PARKED. -/
def execRetractParked (a : Act) (s : State) : Outcome := .next (s.retractEnd a true)
/-- RETRACT_TIMEOUT. -/
def execRetractTimeout (a : Act) (s : State) : Outcome := .next (s.retractEnd a false)

/-! ### Motor opcodes (R285, R288, R294, R311) -/

/-- ARGS bytes 32 to 63 but for the bits of byte 32 that an opcode gives a meaning. -/
def motorReserved (w : List Nat) (used : Nat) : Bool := dw w 8 / 2 ^ used != 0 || (w.drop 9).any (· != 0)

/-- A spindle that START, STOP or a restart is driving. -/
def drivenState (st : Nat) : Bool := st == 1 || (decide (3 ≤ st) && decide (st ≤ 7))

/-- The refusals of R294, with their DETAIL. -/
def State.motorRefusal (s : State) (w : List Nat) : Option Nat :=
  let t := dArg0 w
  let now := s.f .MPD_SPN_STAT_TIER_NOW 0
  let fast := s.b .MPD_SPN_STAT_AT_SPEED 0
  match dOpc w with
  | 0x30 =>
    if 2 < t then some 0x38
    else if drivenState s.spn ∧ s.mpd.target ≠ t then some 0x39
    else if motorReserved w 8 then some 0x3C else none
  | 0x31 => if !s.allParked then some 0x3A else if motorReserved w 1 then some 0x3C else none
  | 0x32 =>
    if 2 < t then some 0x38
    else if s.spn ≠ 6 ∨ !fast then some 0x39
    else if (t ≠ now + 1 ∧ now ≠ t + 1) ∨ (t < now ∧ s.b .SUP_STATUS_LOWV 0) then some 0x3B
    else if motorReserved w 8 then some 0x3C else none
  | 0x33 => if motorReserved w 4 ∨ t % 16 = 0 then some 0x3C else none
  | _ => if s.spn ≠ 0 ∧ s.spn ≠ 2 then some 0x39 else if motorReserved w 0 then some 0x3C else none

/-- A motor item that CS40 holds is begun, once only; the drivers run only while EN is 1 (log entry 35). -/
def State.motorItem (s : State) (opc : Nat) (busy : Bool) (g : State → Nat → List Nat → State) : State :=
  s.inBlk .mpd 0 (fun s => s.onItem 13 [opc] (fun s n w =>
    if busy then s
    else if (s.cs n).abortReq ∧ opc ≠ 0x32 then s.post n 1 0 0
    else match s.motorRefusal w with
      | some d => s.post n 2 d 0
      | none => if s.b .MPD_CTRL_EN 0 then g s n w else s.post n 0x0D 0 0))

/-- START: OK at once when at speed at that tier; otherwise SPIN is requested. Under ABORT_REQ the spindle coasts and it ends ABORTED. -/
def execStart (s : State) : Outcome :=
  .next (
    if s.mpd.moving = 1 then
      match s.heldBy 13 [0x30] with
      | some (n, _) =>
        if (s.cs n).abortReq then
          let s := if drivenState s.spn then s.coastFrom 0 else s
          (s.updMpd (fun x => { x with moving := 0 })).post n 1 0 0
        else s
      | none => s
    else s.motorItem 0x30 false (fun s n w =>
      if s.mpd.spnTrip then s.post n 0x0D 3 0
      else if s.b .MPD_SPN_STAT_AT_SPEED 0 ∧ s.f .MPD_SPN_STAT_TIER_NOW 0 = dArg0 w then s.post n 0 0 0
      else
        let s := (List.range 4).foldl (fun u a => u.setB .MPD_AOFS_VALID a false) s
        (s.updMpd (fun x => { x with moving := 1, aligns := 0, restarts := 0, coast := 0, brakeAsk := false })).sloePush 16 true))

/-- A STOP that ends: the spindle coasts, or was not driven. -/
def State.stopSpindle (s : State) (n : Nat) (w : List Nat) : State :=
  let s := s.updMpd (fun x => { x with brakeAsk := bit (dArg0 w) 0, coast := 0 })
  let s := if drivenState s.spn then s.coastFrom 0 else s
  (s.post n 0 0 0).spnBrake

/-- STOP: OK on entering COAST, or where the spindle is not driven. Only BEMF and WEDGE leave for COAST by it (R283): before that, it waits. -/
def execStop (s : State) : Outcome :=
  .next (s.motorItem 0x31 false (fun s n w => if drivenState s.spn ∧ s.spn ≠ 5 ∧ s.spn ≠ 6 then s else s.stopSpindle n w))

/-- TIER: downward, the target moves at once; upward, once SPIN is ON. -/
def execTier (s : State) : Outcome :=
  .next (s.motorItem 0x32 (decide (2 ≤ s.mpd.moving)) (fun s _ w =>
    if dArg0 w < s.f .MPD_SPN_STAT_TIER_NOW 0 then (s.updMpd (fun x => { x with moving := 2 })).sloePush 16 true
    else (s.updMpd (fun x => { x with moving := 3, target := dArg0 w, good := 0 })).speedFlags))

/-- The actuators that a RETRACT names retract; it ends when none of them is on its way. -/
def State.retractNamed (s : State) (n : Nat) (w : List Nat) : State :=
  let s := (List.range 4).foldl (fun u a => if bit (dArg0 w) a then u.retract a false else u) s
  let wait := (List.range 4).foldl (fun m a => if bit (dArg0 w) a && s.retRes a == 3 then m + 2 ^ a else m) 0
  if wait = 0 then s.post n 0 0 0 else s.updMpd (fun x => { x with retWait := wait })

/-- RETRACT: OK when every named retract ends PARKED. -/
def execRetract (s : State) : Outcome := .next (s.motorItem 0x33 (s.mpd.retWait != 0) (fun s n w => s.retractNamed n w))

/-- MEASURE: its result comes with MEASURE_END. -/
def execMeasure (s : State) : Outcome :=
  .next (s.motorItem 0x34 s.mpd.measItem (fun s _ _ => s.updMpd (fun x => { x with measItem := true })))

/-! ### At speed (R282, R285, R288) -/

/-- A trigger's speed error, as a Q15 code, in WEDGE. -/
def State.speedError (s : State) (e : Int) : State :=
  let near := decide (e.natAbs * 10000 ≤ 5 * 32768) && s.b .MPD_SPN_STAT_SRC 0
  let s := s.updMpd (fun x => { x with good := if near then min 64 (x.good + 1) else 0 })
  let s := if 20 * 32768 < e.natAbs * 10000 then s.setB .MPD_SPN_STAT_AT_SPEED 0 false else s
  if s.mpd.good < 64 then s
  else
    let s := s.setB .MPD_SPN_STAT_AT_SPEED 0 true
    let m := s.mpd.moving
    let s := (s.updMpd (fun x => { x with moving := 0 })).setF .MPD_SPN_STAT_TIER_NOW 0 s.mpd.target
    if m = 1 then ((s.spinOff).event 0x9002 0 0 0).motorEnd [0x30] 0 0 0
    else if m ≠ 0 then ((s.spinOff).event 0x9008 0 0 0).motorEnd [0x32] 0 0 0
    else s.spinOff

/-! ### Enable and the power class (R183, R295) -/

/-- The phase-advance bank takes force (R280). -/
def State.tblApply (s : State) : State :=
  let s := (s.apply .MPD_SPN_TBL_BANK 0).setB .MPD_SPN_TBL_COMMIT_PEND 0 false
  s.setF .MPD_SPN_TBL_ACTIVE 0 (s.g .MPD_SPN_TBL_BANK 0)

/-- Entry i of the phase-advance bank in force, signed (R280). -/
def State.paEntry (s : State) (i : Nat) : Int := signed 12 (if s.b .MPD_SPN_TBL_ACTIVE 0 then s.f .MPD_PA_B1_E i else s.f .MPD_PA_B0_E i)

/-- PA(n) at a speed in rpm (R280). -/
def State.phaseAdvance (s : State) (n : Nat) : Int :=
  let i := min 31 (n / 256)
  if i = 31 then s.paEntry 31 else s.paEntry i + (s.paEntry (i + 1) - s.paEntry i) * (n - 256 * i : Nat) / 256

/-- The drive angle (R278): from the wedges or from the last crossing, a quarter turn ahead, and the phase advance. -/
def State.driveAngle (s : State) : Nat :=
  let th : Int := if s.b .MPD_SPN_STAT_SRC 0 then s.mpd.theta else s.mpd.angle
  unsigned 12 (th + 1024 + s.phaseAdvance (s.f .MPD_SPN_STAT_RPM 0))

/-- The check of R295. -/
def State.mpdOk (s : State) : Bool :=
  let pp := s.f .MPD_SPN_CFG_PP 0
  decide (2 ≤ pp) && decide (pp ≤ 12) && (List.range 4).all (fun a =>
    !(List.range 6).any (fun k => s.b .SRV_HEAD_FITTED (6 * a + k)) || s.f .MPD_VCM_CFG_COIL_MOHM a != 0)

/-- MPD_EN. -/
def execMpdEn (v : Bool) (s : State) : Outcome :=
  .next (s.onBlk .mpd 0 (fun s =>
    if s.b .MPD_CTRL_EN 0 = v then s
    else if v then (if s.mpdOk then s.setB .MPD_CTRL_EN 0 true else s.cfgErrAt .mpd .MPD_CTRL_EN 0)
    else if s.spn ≠ 0 then s.cfgErrAt .mpd .MPD_CTRL_EN 0
    else
      let s := s.setB .MPD_CTRL_EN 0 false
      if s.b .MPD_SPN_TBL_COMMIT_PEND 0 then s.tblApply else s))

/-- DRV (R183): S0 goes to a driver; DRV_ACK. -/
def execDrv (n : Cs) (d : BitVec 5) (s : State) : Outcome :=
  .next (s.onSeq n 5 unitCmd 1 (fun w => bits (wImm w) 4 0 == d.toNat) (fun s => (s.send (.driver d.toNat (s.sreg n 0))).setDone n 0x41 true))

/-- SAMPLE (R183): a measurement goes to S1; SAMPLE_READY. -/
def execSample (n : Cs) (m : Byte) (v : Word) (s : State) : Outcome :=
  .next (s.onSeq n 5 unitCmd 2 (fun w => wImm w % 256 == m.toNat) (fun s => (s.setSreg n 1 v.toNat).setDone n 0x42 true))

/-- SLOE (R183, R307): a request joins the Sloe queue. -/
def execSloe (n : Cs) (dom : BitVec 5) (on : Bool) (s : State) : Outcome :=
  .next (s.onSeq n 5 unitCmd 4 anyWord (fun s => s.sloePush dom.toNat on))

end Sys2Proof.Machine
end

