-- ==== Sys2Proof/Machine/Sup.lean ====
section
/-!
DEFINITION. Machine/Sup.lean: rails and the input (R298-R301), clocks (R303, R304), the Sloe scheduler (R306-R311), device states (R312),
watchdogs (R315-R318), resets (R319-R321, R452, R459).
-/
namespace Sys2Proof.Machine

/-! ### What a domain holds (R306, R308) -/

/-- The lane of a copy of a lane register, none for the common channel block's. -/
def Fld.laneOf (x : Fld) (i : Nat) : Option Nat := if x.info.base < 0x40780000 then some (i / x.info.count) else none

/-- A copy of a field stands in a domain. -/
def Fld.inDom (x : Fld) (i d : Nat) : Bool :=
  match x.info.blk with
  | .buf => d == 2
  | .hep => d == 3
  | .ciu => d == 3
  | .ldg => d == 3
  | .va => d == 3
  | .btl => d == 4
  | .eng => d == 4
  | .mwr => d == 4
  | .srv => d == 6
  | .chn => match x.laneOf i with
    | some l => d == 7 + l / 2
    | none => false
  | .plv => d == 11
  | .mir => d == 12
  | .mpd => d == 13
  | _ => d == 1

/-- Values that fuses hold (R130, R195, R326, R327, R343, R368): applied again at every start. -/
def Fld.fused (x : Fld) : Bool :=
  [Fld.ENG_FUSED_LO_CS_LO, .ENG_FUSED_HI_CS_HI, .ENG_FUSED_HI_QE, .ENG_FUSED_HI_IQ, .BUF_SPARE_STAT_FUSED, .SEC_ARB_COUNT,
   .SEC_KEYREV_REVOKED, .SEC_UID_LO_UID_LO, .SEC_UID_HI_UID_HI, .THM_COMP_RC_TC, .THM_COMP_REF_TC].contains x

/-- Values of the AON domain (R302, R380, R388), and what SUP_RST_CAUSE keeps across every reset. MPD_STATUS.LOWV reads the same value as
SUP_STATUS.LOWV (R299). -/
def Fld.aon (x : Fld) : Bool :=
  [Fld.SUP_STATUS_LOWV, .MPD_STATUS_LOWV, .SUP_STATUS_XT32, .SUP_WAKE_EN, .SUP_WAKE_STAT, .SUP_WKT_MS, .SUP_AONT_LO_T_LO, .SUP_AONT_HI_T_HI, .SUP_SWDT_TIMEOUT,
   .SUP_SWDT_EN, .THM_TRIP_A_TEMP, .THM_TRIP_A_SENSOR, .THM_TRIP_A_TRIPS, .THM_TRIP_A_VALID, .THM_TRIP_B_AONT, .THM_THR_THR_WARN,
   .THM_THR_THR_CRIT, .THM_THR3_HYST, .THM_THR3_STEP, .THM_THR3_RESTART_DT, .THM_THR3_MIN_OFF].contains x

def Fld.held (x : Fld) : Bool :=
  [Fld.SUP_RST_CAUSE_CAUSE, .SUP_RST_CAUSE_CORE, .SUP_RST_CAUSE_PWRCYC, .SUP_RST_CAUSE_RESETS, .SUP_STRAP_PORT, .SUP_STRAP_CLK,
   .SUP_STRAP_RECOV, .SUP_STRAP_PAIR, .HEP_STATUS_PORT_MODE].contains x

/-- What a stop of a domain leaves: fuses, AON values, what a reset keeps, and what the Sloe scheduler holds of the stop itself (R298, R302). -/
def Fld.stays (x : Fld) : Bool :=
  x.fused || x.aon || x.held || [Fld.BUF_SPARE_STAT_SOFT, .SUP_DOM_ON_ON, .SUP_DOM_FLT_FLT, .SUP_STATUS_RAIL_EV, .SUP_SLOE_STAT_SUM].contains x

/-- The SRAM arrays of a domain (R126, R306); the lane sample buffers are lost with the last CHAN domain. -/
def domArrays (d : Nat) : List Nat :=
  match d with
  | 1 => [0x00, 0x03]
  | 2 => [0x01, 0x02]
  | 3 => [0x10, 0x11]
  | 4 => [0x0B, 0x0C, 0x0D, 0x0E, 0x12]
  | 5 => [0x04, 0x05, 0x06, 0x07, 0x08, 0x09, 0x0A]
  | _ => []

/-- The words of SRAM arrays lose their errors with their contents (R308). -/
def State.arraysOff (s : State) (l : List Nat) : State :=
  { s with buf := { s.buf with sramErr := s.buf.sramErr.filter (fun e => !l.contains (e.1 / 2 ^ 24)) } }

/-- The buffer memory's block at a start: the fuse map's rows are on their spares (R130). -/
def Buf.restart (b : Buf) : Buf := { fuseMap := b.fuseMap, spares := b.fuseMap.foldl (fun t e => Tbl.upd t 0 (spareKey e) (· + 1)) [] }

/-- What of it a stop of MEMORY leaves: spares, which last until a reset (R132). -/
def Buf.off (b : Buf) : Buf :=
  { fuseMap := b.fuseMap, spares := b.spares, soft := b.soft, sramErr := b.sramErr }

/-- The domain of the block of a split pair (R19, R306), by the key of its latch (pairKey). -/
def latchDom (k : Nat) : Nat := if k = 0 then 2 else if k ≤ 3 then 3 else if k ≤ 8 ∨ 256 ≤ k then 4 else if k = 11 then 11 else 1

/-- The slots a buffer index names. -/
def slotsOf (m : Tbl Nat) : Tbl Bool := m.foldl (fun t e => Tbl.set t false (e.2 - 1) true) []

/-- What is in a domain beside its registers goes back to its reset state; its memories are lost (R308; unknown words read as at power-up,
log entry 2). -/
def State.domLoss (s : State) (d : Nat) : State :=
  match d with
  | 1 =>
    let s := (s.efl.run.toList ++ s.efl.susp.toList).foldl State.eflAbort s
    let s := s.setCore 0 {}
    { s with
      mem := s.mem.filter (fun e => decide (dramBase ≤ e.1)), cal := {}, evr := { minuteAt := s.aont }
      sec := { gen := s.sec.gen, row := s.sec.row, nonce := s.sec.nonce, oldNonce := s.sec.oldNonce, rdpFuse := s.sec.rdpFuse
               token := s.sec.token }
      efl := { mem := s.efl.mem, prog := s.efl.prog, unitErr := s.efl.unitErr }
      thm := { off := s.thm.off, cool := s.thm.cool } }
  | 2 => { s with buf := s.buf.off, mem := s.mem.filter (fun e => decide (e.1 < dramBase)) }
  | 3 => { s with hep := {}, ciu := { ns := s.ciu.ns, resv := s.ciu.resv, zone := s.ciu.zone, bidx := s.ciu.bidx
                                      alloc := slotsOf s.ciu.bidx } }
  | 4 => { s with eng := { core := s.eng.core, coherent := s.eng.coherent }, mwr := {}, btl := {} }
  | 5 => (List.range 7).foldl (fun u n => (u.setCore (n + 1) {}).setB .ENG_IQ_CTRL_RUN (n + 1) false) s
  | 6 => { s with srv := {} }
  | 11 => { s with plv := { img := s.plv.img } }
  | 12 => { s with mir := { own := s.mir.own, aliveIn := s.mir.aliveIn, fenceLow := s.mir.fenceLow, fenced := s.mir.fenced
                            aliveCleared := s.mir.aliveCleared, termRecord := s.mir.termRecord } }
  | 13 => { s with mpd := {} }
  | d => if 7 ≤ d ∧ d ≤ 10 then ((s.setLane (2 * (d - 7)) {}).setLane (2 * (d - 7) + 1) {}) else s

/-- The power-good and PLL bits follow the domains that are ON (R297, R305). -/
def State.railShow (s : State) : State :=
  let d := fun n => (s.dom n).toNat
  let some1 := fun (l : List Nat) => (l.any (fun n => s.dom n)).toNat
  let pg := d 1 * (1 + 8 + 16 + 32 + 256) + d 14 * 6 + some1 [6, 7, 8, 9, 10] * 2 ^ 6 + some1 [3, 12] * 2 ^ 7 + d 2 * (15 * 2 ^ 9)
    + d 11 * (3 * 2 ^ 13) + d 15 * (3 * 2 ^ 15)
  let pll := (s.dom 1 && s.f .SUP_DSTATE_NOW 0 != 2).toNat + d 2 * 2 + d 3 * 4 + (d 3 * s.f .SUP_STRAP_PORT 0) * 8 + d 12 * 16
  s.setFs 0 [(.SUP_RAIL_PG_PG, pg), (.SUP_PLL_LOCK, pll)]

/-- MIR_STATUS shows the role, the lines and the pins (R427, R428, R430). -/
def State.mirShow (s : State) : State :=
  if !s.dom 12 then s else
  s.setFs 0 [(.MIR_STATUS_OWNER, (s.paired && s.owner).toNat), (.MIR_STATUS_PARTNER_ALIVE, s.mir.aliveIn.toNat),
    (.MIR_STATUS_FENCED, s.mir.fenced.toNat),
    (.MIR_STATUS_OWN, if s.paired then (List.range 5).foldl (fun m l => setBit m l (s.owns l)) 0 else 0)]

/-- The domain of a sensor (R368). -/
def sensorDom (n : Nat) : Nat :=
  match n with
  | 0 => 1
  | 1 => 5
  | 2 => 2
  | 3 => 3
  | 4 => 2
  | 5 => 4
  | 10 => 1
  | 11 => 11
  | _ => if 6 ≤ n ∧ n ≤ 9 then n + 1 else 0

/-- A sensor whose domain is off reads as not valid (R368, R388). -/
def State.sensorsOff (s : State) (d : Nat) : State :=
  ((List.range 16).filter (fun n => sensorDom n == d)).foldl (fun u n => u.setB .THM_TEMP_VALID n false) s

/-- Port 1's copies of the endpoint's registers hold their reset values in two-port mode alone (R34). -/
def State.portReset (s : State) : State :=
  Fld.all.foldl (fun u x =>
    match x.info.reset with
    | .port v => let w := if s.b .SUP_STRAP_PORT 0 then v else 0; (u.setF x 1 w).setG x 1 w
    | _ => u) s

/-- A domain is switched off: its state is lost, and its figure leaves the sum. -/
def State.domStop (s : State) (d : Nat) : State :=
  if !s.dom d then s
  else if d = 16 then s.spinOff
  else
    let s := (((s.setDom d false).subSum (s.figure d)).domLoss d).arraysOff (domArrays d)
    let com := d ≥ 7 && d ≤ 10 && !(s.dom 7 || s.dom 8 || s.dom 9 || s.dom 10)
    let s := s.resetFlds (fun k => ((keyFld k).inDom (k % 2048) d || com && (keyFld k).info.blk == .chn) && !(keyFld k).stays)
    let s := { s with dev := { s.dev with latch := s.dev.latch.filter (fun e => latchDom e.1 != d) } }
    let s := if com then { s with chn := {} }.arraysOff [0x0F] else s
    let s := if d = 3 then (s.setF .CIU_BUF_STAT_USED 0 s.ciu.alloc.length).portReset else s
    let s := if d = 13 then s.speedFlags else s
    ((s.sensorsOff d).railShow.forceShow).sloeShow

/-! ### Resets (R319, R320) -/

/-- The straps are sampled (R321): PORT, CLK, RECOV, PAIR0, PAIR1 in bits 0 to 4. HEP_STATUS shows PORT as sampled. -/
def State.sampleStraps (s : State) (v : Nat) : State :=
  let s := s.setFs 0 [(.SUP_STRAP_PORT, bits v 0 0), (.SUP_STRAP_CLK, bits v 1 1), (.SUP_STRAP_RECOV, bits v 2 2), (.SUP_STRAP_PAIR, bits v 4 3), (.HEP_STATUS_PORT_MODE, bits v 0 0)]
  let s := (s.setF .HEP_STATUS_PORT_MODE 1 (bits v 0 0)).portReset
  if bits v 4 3 = 3 then s.event 0xA00B 0 0 0 else s

/-- BOOT comes ON. What the AON domain's conversions of a restart wait left in THM's registers outside it is gone (R308, R381, R388). -/
def State.bootOn (s : State) : State :=
  let s := s.resetFlds (fun k => (keyFld k).info.blk == .thm && !(keyFld k).stays)
  ((s.setDom 1 true).updSup (fun x => { x with bootWait := false })).setF .SUP_SLOE_STAT_SUM 0 20

/-- What keeps BOOT off after a reset: the 25 MHz crystal, a critical trip, or rails that are off (R304, R381, R414). -/
def State.bootHeld (s : State) : Bool := !s.sup.xtal || s.thm.off != 0 || s.sup.railsOff

/-- A burn of counter fuses that is cut short leaves a value between the old one and the target (R326): a free value. -/
def State.burnCut (s : State) : State :=
  if !s.b .SEC_ARB_ADV_BUSY 0 then s else
  let c := s.opnd .SEC_ARB_ADV_CLASS
  let old := s.f .SEC_ARB_COUNT c
  let (v, s) := s.free
  s.setF .SEC_ARB_COUNT c (old + v % (s.opnd .SEC_ARB_ADV_SVN - old + 1))

/-- Everything outside the AON domain goes back to its reset state; a cold reset takes the AON domain too, and a POR the records that are
kept across every other reset and the flags of R459. MOTOR and BOOST stay where keepMotor says so. What the eFlash was doing is aborted
(R359). -/
def State.wipe (s : State) (cold por keepMotor : Bool) : State :=
  let turning := keepMotor || (s.spn != 0 && decide (tierRpm s.mpd.target ≤ 200 * s.f .MPD_SPN_STAT_RPM 0))
  let keep := fun (k : Nat) =>
    let x := keyFld k
    x.fused || (!cold && x.aon) || (!por && x.held) || (keepMotor && x.info.blk == .mpd)
  let on := if keepMotor then s.f .SUP_DOM_ON_ON 0 / 2 ^ 13 % 4 * 2 ^ 13 else 0
  let (nonce, s) := s.free
  let s := ((s.efl.run.toList ++ s.efl.susp.toList).foldl State.eflAbort s).burnCut
  let s := s.resetFlds (fun k => !keep k)
  let s : State :=
    { regs := s.regs, force := s.force
      dev := if por then {} else { cfgSeen := s.dev.cfgSeen, unstartSeen := s.dev.unstartSeen, once := s.dev.once }
      ciu := { ns := s.ciu.ns, resv := s.ciu.resv, zone := s.ciu.zone }
      buf := s.buf.restart, btl := { marked := s.btl.marked }
      mpd := if keepMotor then s.mpd else {}
      sup := { xtal := por || s.sup.xtal, held := !por && s.sup.held, railsOff := !por && s.sup.railsOff }
      sec := { gen := s.sec.gen, row := s.sec.row, nonce := nonce, oldNonce := s.sec.nonce, rdpFuse := s.sec.rdpFuse
               token := if s.sup.debugReset then s.sec.token else [] }
      efl := { mem := s.efl.mem, prog := s.efl.prog, unitErr := s.efl.unitErr }
      thm := if por then {} else { off := s.thm.off, cool := s.thm.cool }
      plv := { img := s.plv.img }
      mir := { own := if cold && s.pos == 1 then 0x1F else s.mir.own, aliveIn := s.mir.aliveIn, fenceLow := s.mir.fenceLow
               fenced := s.mir.fenced, termRecord := s.mir.termRecord }
      evr := { minuteAt := if cold then 0 else s.aont }, out := s.out, freeCtr := s.freeCtr, pending := s.pending }
  let s := s.setF .SUP_DOM_ON_ON 0 (1 + on)
  let s := if turning then s.setFs 0 [(.MPD_SPN_STAT_STATE, 2), (.MPD_SPN_STAT_SRC, 0), (.MPD_SPN_STAT_AT_SPEED, 0), (.MPD_SPN_STAT_LOADOK, 0)] else s
  s.setF .SUP_SLOE_STAT_SUM 0 0

/-- A reset is requested (R319, R320, R428, R429): its cause joins those that wait. With the first, ALIVE falls, a step under way is
abandoned with its domain left off, the spindle coasts, and every actuator retracts; an owner whose partner is alive waits 2 µs first. -/
def State.requestReset (s : State) (cause core : Nat) : State :=
  let first := s.sup.causes == 0
  let s := s.updSup (fun x => { x with causes := setBit x.causes cause true, causeCore := if cause = 3 then core else x.causeCore })
  if !first then s else
  let waits := s.paired && (List.range 5).any s.owns && s.mir.aliveIn
  let s := s.setB .MIR_CTRL_ALIVE 0 false
  let s := match s.sup.sloe, s.sup.step with
    | r :: _, true => (s.subSum (if r.dom = 16 then s.sup.spinFig else s.figure r.dom)).sloePop
    | _, _ => s
  let s := if drivenState s.spn ∨ s.spn = 8 then s.coastFrom 0 else s
  if waits then s.updSup (fun x => { x with retractWait := true }) else s.retractAll

/-- The wait of R320 has ended. -/
def State.resetReady (s : State) : Bool :=
  s.sup.causes != 0 && (List.range 4).all (fun a => s.retRes a != 3) && s.plv.dump.isNone && !s.sup.retractWait

/-- RESET_PERFORM (R319-R321): one reset for all the causes that joined. BOOT restarts unless RESET_N is held, the crystal stands still, or
a critical trip waits. -/
def execResetPerform (straps : BitVec 5) (s : State) : Outcome :=
  .next (
    if !s.resetReady then s else
    let c := s.sup.causes
    let core := s.sup.causeCore
    let cold := bit c 2 || bit c 5
    let keep := s.dom 13 && decide (10 * s.f .MPD_HARV_HARV_FLOOR 0 < s.f .MPD_SPN_STAT_RPM 0)
    let off := bit c 6
    let s := s.wipe cold false keep
    let s := if off then { s with thm := { s.thm with off := max 1 s.thm.off } } else s
    let s := s.updSup (fun x => { x with report := c })
    let s := (s.setF .SUP_RST_CAUSE_CAUSE 0 (s.f .SUP_RST_CAUSE_CAUSE 0 ||| c)).inc .SUP_RST_CAUSE_RESETS 0 1
    let s := if bit c 3 then s.setF .SUP_RST_CAUSE_CORE 0 core else s
    let s := if cold then s.sampleStraps straps.toNat else s.portReset
    if !s.sup.xtal then
      (s.setF .SUP_RST_CAUSE_CAUSE 0 (s.f .SUP_RST_CAUSE_CAUSE 0 ||| 0x20)).updSup (fun x => { x with bootWait := true })
    else if s.sup.held ∨ s.bootHeld then s else s.bootOn)

/-- POR (R319, R321, R459). -/
def execPor (straps : BitVec 5) (s : State) : Outcome :=
  .next (((s.wipe true true false).bootOn.updSup (fun x => { x with report := 1 })).sampleStraps straps.toNat)

/-- RESET_N (R452): low for 10 µs or more; a shorter pulse is ignored. -/
def execResetN (long : Bool) (s : State) : Outcome :=
  .next (if long then (s.updSup (fun x => { x with held := true })).requestReset 1 0 else s)

/-- RESET_N_RELEASE (R321, R452): the straps are sampled and BOOT restarts; a reset that still waits is performed first, and finds the pin
released. -/
def execResetNRelease (straps : BitVec 5) (s : State) : Outcome :=
  .next (
    if !s.sup.held then s else
    let s := (s.updSup (fun x => { x with held := false })).sampleStraps straps.toNat
    if s.sup.causes = 0 ∧ !s.dom 1 ∧ !s.bootHeld then s.bootOn else s)

/-- SWRST (R319). -/
def execSwrst (key : BitVec 16) (s : State) : Outcome :=
  .next (s.onBlk .sup 0 (fun s => if key = 0xD1E5 then s.requestReset 4 0 else s.cfgErrAt .sup .SUP_RST_GO 0))

/-- DEBUG_RESET (R343): the class 9 container waits for the Boot ROM. -/
def execDebugReset (token : List Byte) (s : State) : Outcome :=
  .next (({ s with sec := { s.sec with token := token } }.updSup (fun x => { x with debugReset := true })).requestReset 7 0)

/-- RETRACT_WAIT_END (R429): the actuators that the device still owns retract. -/
def execRetractWaitEnd (s : State) : Outcome :=
  .next (if s.sup.retractWait then (s.updSup (fun x => { x with retractWait := false })).retractAll else s)

/-! ### Rails and the input (R298-R300) -/

/-- The domains a rail feeds (R297). -/
def railDoms (r : Nat) : List Nat :=
  match r with
  | 1 => [14]
  | 2 => [14]
  | 5 => [1]
  | 6 => [6, 7, 8, 9, 10]
  | 7 => [3, 12]
  | 8 => [1]
  | 9 => [2]
  | 10 => [2]
  | 11 => [2]
  | 12 => [2]
  | 13 => [11]
  | 14 => [11]
  | 15 => [15]
  | 16 => [15]
  | _ => []

/-- RAIL_FAULT (R298): rails in the order of SUP_RAIL_PG. A fault of VMOT trips the motor drivers as an overcurrent. -/
def execRailFault (rail : Fin 17) (s : State) : Outcome :=
  .next (
    if rail.val = 3 ∨ rail.val = 4 then s.requestReset 5 0
    else
      let ds := (railDoms rail).filter (fun d => s.dom d)
      let s := s.setF .SUP_DOM_FLT_FLT 0 (ds.foldl (fun m d => setBit m d true) (s.f .SUP_DOM_FLT_FLT 0))
      let s := (s.setB .SUP_STATUS_RAIL_EV 0 true).event 0xA007 rail 0 0
      let s := ds.foldl (fun u d => u.domStop d) s
      if rail.val = 0 ∧ s.dom 13 then (List.range 4).foldl (fun u a => u.tripVcm a 1) (s.tripSpindle 1) else s)

/-- A change of LOWV (R299). -/
def State.setLowv (s : State) (v : Bool) : State :=
  let s := (s.setB .SUP_STATUS_LOWV 0 v).setB .MPD_STATUS_LOWV 0 v
  (((s.setB .SUP_STATUS_LOWV_EV 0 true).event (if v then 0xA004 else 0xA005) 0 0 0)).sloeShow

/-- LOWV_SET. -/
def execLowvSet (mv : BitVec 16) (s : State) : Outcome :=
  .next (
    let s := s.setF .SUP_VIN_VIN_MV 0 mv.toNat
    if !s.b .SUP_STATUS_LOWV 0 ∧ mv.toNat < 10800 then s.setLowv true else s)

/-- LOWV_CLEAR. -/
def execLowvClear (mv : BitVec 16) (s : State) : Outcome :=
  .next (
    let s := s.setF .SUP_VIN_VIN_MV 0 mv.toNat
    if s.b .SUP_STATUS_LOWV 0 ∧ 11200 ≤ mv.toNat then s.setLowv false else s)

/-- The input limit in force in 10 mW units (R300). -/
def State.inputLimit (s : State) : Nat :=
  min (if s.b .SUP_STATUS_LOWV 0 then 2500 else 4200) (25 * max 1 (min 168 (s.f .SUP_PLIM_PIN_MAX 0)))

/-- GOVERNOR_TICK (R300): power in 10 mW units and VIN in mV, as 1 ms means. An episode ends when the excess does. -/
def execGovernorTick (pin vin : BitVec 16) (s : State) : Outcome :=
  .next (s.inBlk .sup 0 (fun s =>
    let s := s.setFs 0 [(.SUP_VIN_PIN, pin.toNat), (.SUP_VIN_VIN_MV, vin.toNat)]
    let lim := s.inputLimit
    let p := pin.toNat
    if lim < p then
      let s := if s.sup.gov then s else (s.setB .SUP_STATUS_GOV_EV 0 true).event 0xA006 0 0 0
      let s := s.updSup (fun x => { x with gov := true, govMs := 0 })
      if s.mpd.moving ≠ 0 then
        (s.updSup (fun x => { x with spinCut := x.spinCut + (p - lim) })).setB .SUP_GOV_SPIN_CUT 0 true
      else s.setF .SUP_GOV_CAP 0 (s.f .SUP_GOV_CAP 0 - 0x800)
    else
      let s := (s.updSup (fun x => { x with gov := false, spinCut := 0 })).setB .SUP_GOV_SPIN_CUT 0 false
      if p + 200 ≤ lim then
        let n := s.sup.govMs + 1
        if n < 10 then s.updSup (fun x => { x with govMs := n })
        else (s.updSup (fun x => { x with govMs := 0 })).setF .SUP_GOV_CAP 0 (min 0x7FFF (s.f .SUP_GOV_CAP 0 + 0x800))
      else s.updSup (fun x => { x with govMs := 0 })))

/-! ### Crystals (R303, R304) -/

/-- XTAL32_DETECT. -/
def execXtal32Detect (found : Bool) (s : State) : Outcome := .next (s.setB .SUP_STATUS_XT32 0 found)
/-- XTAL32_STOP. -/
def execXtal32Stop (s : State) : Outcome :=
  .next (if s.b .SUP_STATUS_XT32 0 then (s.setB .SUP_STATUS_XT32 0 false).event 0xA00E 0 0 0 else s)
/-- CRYSTAL_FAILURE: the AON counter goes on from the RC oscillator. -/
def execCrystalFailure (s : State) : Outcome := .next (s.updSup (fun x => { x with xtal := false }))
/-- XTAL_BOOT_RETRY: the BOOT step is tried again; a good one starts BOOT with a cold reset of cause XTAL behind it. -/
def execXtalBootRetry (good : Bool) (s : State) : Outcome :=
  .next (
    if !s.sup.bootWait then s
    else if good then
      let s := s.updSup (fun x => { x with xtal := true, bootWait := false })
      if s.sup.held ∨ s.bootHeld then s else s.bootOn
    else s.setF .SUP_RST_CAUSE_CAUSE 0 (s.f .SUP_RST_CAUSE_CAUSE 0 ||| 0x20))

/-! ### The Sloe scheduler (R307-R310) -/

/-- SLOE_FLUSH: requests that have not begun are discarded. -/
def State.sloeFlush (s : State) : State :=
  (s.updSup (fun x => { x with sloe := if x.step then x.sloe.take 1 else [], noted := x.noted && x.step })).sloeShow

def execSloeFlush (s : State) : Outcome := .next (s.onBlk .sup 0 (fun s => s.sloeFlush))

/-- SLOE_REQUEST: with FLUSH in the same write, the discard comes first. -/
def execSloeRequest (dom : BitVec 5) (on flush : Bool) (s : State) : Outcome :=
  .next (s.onBlk .sup 0 (fun s => (if flush then s.sloeFlush else s).sloePush dom.toNat on))

/-- DOMAIN_START (R307, R308): the start at the head begins when it is admitted. -/
def execDomainStart (s : State) : Outcome :=
  .next (
    match s.sup.sloe with
    | r :: _ =>
      if !r.on ∨ s.sup.step then s
      else if s.dom r.dom ∨ r.dom = 0 then (if r.dom = 16 then s.spinGranted else s).sloePop
      else if !s.admitted r.dom then s.sloeShow
      else
        let fig := s.figure r.dom
        let s := s.addSum fig
        (s.updSup (fun x => { x with step := true, spinFig := if r.dom = 16 then fig else x.spinFig })).sloeShow
    | [] => s)

/-- DOMAIN_ON (R308, R311). -/
def execDomainOn (s : State) : Outcome :=
  .next (
    match s.sup.sloe, s.sup.step with
    | r :: _, true =>
      let s := ((s.setDom r.dom true).sloePop).railShow
      if r.dom = 16 then s.spinGranted.sloeShow else if r.dom = 11 then s.speedFlags else if r.dom = 12 then s.mirShow else s
    | _, _ => s)

/-- The PLLs of a domain, in the order of SUP_PLL (R305). -/
def pllOf (d : Nat) : List Nat := if d = 2 then [1] else if d = 3 then [2, 3] else if d = 12 then [4] else []

/-- DOMAIN_START_FAIL (R305, R309): by a PLL that does not lock, or by a rail without power-good. -/
def execDomainStartFail (pll : Option (Fin 5)) (s : State) : Outcome :=
  .next (
    match s.sup.sloe, s.sup.step with
    | r :: _, true =>
      let s := s.subSum (if r.dom = 16 then s.sup.spinFig else s.figure r.dom)
      let s := s.setF .SUP_DOM_FLT_FLT 0 (setBit (s.f .SUP_DOM_FLT_FLT 0) r.dom true)
      let s := (s.setB .SUP_STATUS_SLOE_EV 0 true).event 0xA002 r.dom 0 0
      (match pll with
        | some p => if (pllOf r.dom).contains p.val then s.event 0xA00F p 0 0 else s
        | none => s).sloePop
    | _, _ => s)

/-- A block of a domain is enabled. -/
def State.domEnabled (s : State) (d : Nat) : Bool :=
  match d with
  | 2 => s.b .BUF_DDR_CTRL_EN 0 || s.b .BUF_BRM_CTRL_EN 0
  | 3 => s.b .HEP_CTRL_EN 0 || s.b .HEP_CTRL_EN 1 || s.b .CIU_CTRL_EN 0 || s.b .LDG_CTRL_EN 0
  | 4 => s.b .MWR_CTRL_EN 0 || s.b .BTL_CTRL_EN 0
  | 6 => s.b .SRV_CTRL_EN 0
  | 11 => s.b .PLV_CTRL_EN 0
  | 12 => s.b .MIR_CTRL_EN 0
  | 13 => s.b .MPD_CTRL_EN 0
  | d => 7 ≤ d && d ≤ 10 && (s.b .CHN_CTRL_EN (2 * (d - 7)) || s.b .CHN_CTRL_EN (2 * (d - 7) + 1))

/-- A stop is refused (R310, R409). -/
def State.stopRefused (s : State) (d : Nat) : Bool :=
  d ≤ 1 || s.domEnabled d || (d == 13 && s.spn != 0) || ((d == 14 || d == 15) && !s.allParked)
    || ((d == 2 || d == 4 || d == 11) && s.b .PLV_STATUS_ARMED 0)

/-- DOMAIN_STOP (R310): checked when it reaches the head. -/
def execDomainStop (s : State) : Outcome :=
  .next (
    match s.sup.sloe with
    | r :: _ =>
      if r.on then s
      else if s.stopRefused r.dom then (s.sloePop).cfgErrAt .sup .SUP_SLOE_REQ_GO 0
      else (s.sloePop).domStop r.dom
    | [] => s)

/-- SLOE_WAIT_TIMEOUT (R307): once per request. -/
def execSloeWaitTimeout (s : State) : Outcome :=
  .next (
    let s := s.sloeShow
    if !s.b .SUP_SLOE_STAT_WAITING 0 ∨ s.sup.noted then s
    else ((s.updSup (fun x => { x with noted := true })).setB .SUP_STATUS_SLOE_EV 0 true).event 0xA003 0 0 0)

/-! ### Device states (R312) -/

/-- The state in force changes; on leaving STANDBY the machine timer makes up for the time it stood still (R173). -/
def State.standBy (s : State) (r : Nat) : State :=
  let was := s.f .SUP_DSTATE_NOW 0
  let s := (s.setF .SUP_DSTATE_NOW 0 r).railShow
  if r = 2 then s.updSup (fun x => { x with standAt := s.aont })
  else if was = 2 then s.setMtime (s.mtime + 100 * (s.aont - s.sup.standAt)) else s

/-- DEVICE_STATE_REQUEST. -/
def execDeviceStateRequest (req : BitVec 2) (s : State) : Outcome :=
  .next (s.onBlk .sup 0 (fun s =>
    let r := req.toNat
    if r = 3 ∨ (r = 2 ∧ 16 ≤ s.f .SUP_DOM_ON_ON 0) then s.cfgErrAt .sup .SUP_DSTATE_REQ 0
    else
      let s := s.setF .SUP_DSTATE_REQ 0 r
      if s.f .SUP_DSTATE_NOW 0 = r then s else (s.standBy r).event 0xA00D 0 0 0))

/-- A wake source returns the device from STANDBY to RUN (R313). -/
def State.wake (s : State) (src : Nat) : State :=
  if s.f .SUP_DSTATE_NOW 0 ≠ 2 ∨ !bit (s.f .SUP_WAKE_EN 0) src then s
  else
    let s := (s.standBy 0).setFs 0 [(.SUP_DSTATE_REQ, 0), (.SUP_WAKE_STAT, setBit (s.f .SUP_WAKE_STAT 0) src true)]
    (s.event 0xA00D 0 0 0).wakeCores

/-- WAKE_TIMER. -/
def execWakeTimer (s : State) : Outcome := .next (if s.f .SUP_WKT_MS 0 = 0 then s else s.wake 4)

/-! ### Watchdogs (R315-R318) -/

/-- CORE_WDT_FIRST_EXPIRY: interrupt source 0xA2 + n. -/
def execCoreWdtFirstExpiry (n : Core) (s : State) : Outcome :=
  .next (
    if s.b .SUP_WDT_CFG_EN n then
      ((s.updSup (fun x => { x with expired := Tbl.set x.expired false n.val true })).event 0xA008 0 0 0).wakeCores
    else s)

/-- CORE_WDT_SECOND_EXPIRY: a warm reset. -/
def execCoreWdtSecondExpiry (n : Core) (s : State) : Outcome :=
  .next (if s.b .SUP_WDT_CFG_EN n ∧ Tbl.get s.sup.expired false n.val then s.requestReset 3 n else s)

/-- A write of a KICK register, 8 the system watchdog's (R316): 0xA5, then 0x5A. -/
def State.kick (s : State) (n key : Nat) (x : Fld) : State :=
  let half := fun (s : State) (v : Bool) => s.updSup (fun x => { x with kickHalf := Tbl.set x.kickHalf false n v })
  if key = 0xA5 then half s true
  else if key = 0x5A ∧ Tbl.get s.sup.kickHalf false n then
    (half s false).updSup (fun x => { x with expired := Tbl.set x.expired false n false })
  else (half s false).cfgErrAt .sup x (n % 8)

/-- WDT_KICK. -/
def execWdtKick (n : Core) (key : Byte) (s : State) : Outcome :=
  .next (s.onBlk .sup 0 (fun s => s.kick n key.toNat .SUP_WDT_KICK_KEY))
/-- SYS_WDT_KICK. -/
def execSysWdtKick (key : Byte) (s : State) : Outcome :=
  .next (s.onBlk .sup 0 (fun s => s.kick 8 key.toNat .SUP_SWDT_KICK_KEY))
/-- SYS_WDT_EXPIRY (R317): a cold reset. -/
def execSysWdtExpiry (s : State) : Outcome := .next (if s.b .SUP_SWDT_EN 0 then s.requestReset 2 0 else s)

end Sys2Proof.Machine
end

