-- ==== Sys2Proof/Machine/Thm.lean ====
section
/-!
DEFINITION. Machine/Thm.lean: temperature sensors, throttling, thermal hold and the critical trip (R368-R381), and the calibration
manager (R382-R389).
-/
namespace Sys2Proof.Machine

def State.updThm (s : State) (g : Thm → Thm) : State := { s with thm := g s.thm }
def State.updCal (s : State) (g : Cal → Cal) : State := { s with cal := g s.cal }
def State.calItem (s : State) (n : Nat) : CalItem := Tbl.get s.cal.item {} n
def State.setCalItem (s : State) (n : Nat) (x : CalItem) : State := s.updCal (fun c => { c with item := Tbl.set c.item {} n x })

/-! ### Sensors (R368-R370) -/

/-- Requests are ORed into PEND (R369). -/
def State.requestConv (s : State) (m : Nat) : State := s.setF .THM_CONV_PEND 0 (s.f .THM_CONV_PEND 0 ||| m)

/-- CONVERSION_REQUEST. -/
def execConversionRequest (m : BitVec 16) (s : State) : Outcome := .next (s.onBlk .thm 0 (fun s => s.requestConv m.toNat))
/-- SENSOR_SCAN. -/
def execSensorScan (s : State) : Outcome := .next (s.inBlk .thm 0 (fun s => s.requestConv (s.f .THM_SCAN_MASK 0)))

/-- AON_SENSOR_SCAN: sensors 12-15; it also counts the seconds of a restart wait (R370, R381). -/
def execAonSensorScan (s : State) : Outcome :=
  .next (
    let s := s.requestConv 0xF000
    if s.thm.off = 0 then s else s.updThm (fun t => { t with off := t.off + 1 }))

/-- A temperature field as a number of 1/8 °C. -/
def State.temp (s : State) (x : Fld) (i : Nat) : Int := signed 12 (s.f x i)
def State.hyst (s : State) : Int := (s.f .THM_THR3_HYST 0 : Nat)
/-- MAX. -/
def State.maxTemp (s : State) : Int := s.temp .THM_MAX_TEMP 0

/-! ### Calibration holds (R387) -/

/-- An item of the calibration manager that is in use. -/
def State.calOn (s : State) (n : Nat) : Bool := s.b .CAL_CTRL_EN 0 && s.b .CAL_ICFG_VALID n

/-- Operating minutes. -/
def State.opMin (s : State) : Nat := s.f .EVR_OPMIN_OP_MIN 0

/-- MAX has moved from an item's TEMP by more than a bound. -/
def State.drifted (s : State) (n bound : Nat) : Bool := decide (bound < (s.maxTemp - s.temp .CAL_IRES_TEMP n).natAbs)

/-- An item with DEST 1 holds its head. -/
def State.calHolds (s : State) (n : Nat) : Bool :=
  s.calOn n && s.f .CAL_ICFG_DEST n == 1 &&
    (!(s.calItem n).accepted || s.f .CAL_ISTAT_STATE n == 3 || (s.calItem n).wait != 0
      || (s.f .CAL_ISCH_DT_HARD n != 0 && s.drifted n (s.f .CAL_ISCH_DT_HARD n)))

/-! ### The hold (R375-R377) -/

/-- A chain of the calibration ring runs for a head. -/
def State.chainFor (s : State) (h : Nat) : Bool := s.cal.chain != 0 && s.f .CAL_ICFG_UNIT (s.cal.chain - 1) == h

/-- Whether a head is held. -/
def State.holdNow (s : State) (h : Nat) : Bool :=
  bit (s.f .THM_HOLD_FW_FW 0) h || s.b .THM_LVL_LVL_HOLD 0
    || (List.range 64).any (fun n => s.f .CAL_ICFG_UNIT n == h && s.calHolds n)

/-- THM writes CHN_ASSIST.OK of each lane 2a at every change, its first value after the lane's reset among them (R377). -/
def State.assistShow (s : State) : State :=
  if !s.b .THM_CTRL_ASSIST_OWN 0 then s else
  (List.range 4).foldl (fun u a =>
    let v := (List.range 6).foldl (fun m k => setBit m k (!s.headHeld (6 * a + k) || s.chainFor (6 * a + k))) 0
    if (u.lane (2 * a)).assist = v + 1 ∨ !u.blkOn .chn (2 * a) then u
    else ((u.updLane (2 * a) (fun x => { x with assist := v + 1 })).setF .CHN_ASSIST_OK (2 * a) v).pairFlags (2 * a)) s

/-- THM_HOLD follows its causes; a head newly held acts on the writes of its lane (R375, R376). -/
def State.holdShow (s : State) : State :=
  let v := (List.range 24).foldl (fun m h => setBit m h (s.holdNow h)) 0
  let fresh := (List.range 24).filter (fun h => bit v h && !s.headHeld h)
  (fresh.foldl (fun u h => u.holdLane h) (s.setF .THM_HOLD_HELD 0 v)).assistShow

/-! ### What a conversion does (R371-R373, R380, R381) -/

/-- Sensors counted in MAX. -/
def State.maxMask (s : State) : Nat := s.f .THM_MAX_MAXMASK_LO 0 + 2 ^ 15 * s.f .THM_LVL_MAXMASK_15 0

/-- THM_MAX takes the highest valid reading counted, of the lowest-numbered sensor that gives it. -/
def State.maxShow (s : State) : State :=
  let l := (List.range 16).filter (fun n => bit s.maxMask n && s.b .THM_TEMP_VALID n)
  match l with
  | [] => s.setB .THM_MAX_VALID 0 false
  | n :: r =>
    let k := r.foldl (fun k j => if s.temp .THM_TEMP_TEMP k < s.temp .THM_TEMP_TEMP j then j else k) n
    s.setFs 0 [(.THM_MAX_TEMP, s.f .THM_TEMP_TEMP k), (.THM_MAX_SENSOR, k), (.THM_MAX_VALID, 1)]

/-- WARN (R372). -/
def State.warnCheck (s : State) : State :=
  let w := s.temp .THM_THR_THR_WARN 0
  if w ≤ s.maxTemp then
    if s.b .THM_STATUS_WARN 0 then s
    else (((s.setB .THM_STATUS_WARN 0 true).setB .THM_STATUS_WARN_EV 0 true).event 0xD002 0 0 0).wake 5
  else if s.maxTemp < w - s.hyst then s.setB .THM_STATUS_WARN 0 false else s

/-- The throttle level (R373). -/
def State.levelCheck (s : State) : State :=
  let on := s.temp .THM_THR2_THROT_ON 0
  let step : Int := (max 1 (s.f .THM_THR3_STEP 0) : Nat)
  let m := s.maxTemp
  let c := if on ≤ m then (min 7 ((m - on) / step + 1)).toNat else 0
  let l := s.f .THM_LVL_LEVEL 0
  let low := s.f .THM_LVL_MIN_LVL 0
  let n := if l < c then c else if low < l ∧ m < on + (l - 1 : Int) * step - s.hyst then l - 1 else l
  let n := max n low
  if n = l then s
  else
    let s := (s.setF .THM_LVL_LEVEL 0 n).setB .THM_STATUS_LVL_EV 0 true
    if l = 0 ∨ n = 0 then s.event 0xD003 0 0 0 else s

/-- The level hold (R375). -/
def State.levelHold (s : State) : State :=
  let t := s.temp .THM_THR2_THR_HOLD 0
  let was := s.b .THM_LVL_LVL_HOLD 0
  let v := if t ≤ s.maxTemp then true else if s.maxTemp < t - s.hyst then false else was
  if v = was then s
  else ((s.setB .THM_LVL_LVL_HOLD 0 v).setB .THM_STATUS_LVL_EV 0 true).event 0xD004 0 0 0

/-- The critical trip (R380). -/
def State.tripCheck (s : State) : State :=
  if s.maxTemp < s.temp .THM_THR_THR_CRIT 0 ∨ s.thm.off ≠ 0 then s
  else
    let s := (s.setFs 0 [(.THM_TRIP_A_TEMP, s.f .THM_MAX_TEMP 0), (.THM_TRIP_A_SENSOR, s.f .THM_MAX_SENSOR 0), (.THM_TRIP_A_VALID, 1),
      (.THM_TRIP_B_AONT, s.aont / 2 ^ 10)]).inc .THM_TRIP_A_TRIPS 0 1
    (s.updThm (fun t => { t with off := 1, cool := [] })).requestReset 6 0

/-- A reading of sensors 12-15 during a restart wait (R381). -/
def State.coolCheck (s : State) (n : Nat) (good : Bool) : State :=
  if s.thm.off = 0 ∨ n < 12 then s
  else
    let below := good && decide (s.temp .THM_TEMP_TEMP n < s.temp .THM_THR_THR_CRIT 0 - 8 * (s.f .THM_THR3_RESTART_DT 0 : Nat))
    s.updThm (fun t => { t with cool := Tbl.set t.cool 0 n (if below then min 10 (Tbl.get t.cool 0 n + 1) else 0) })

/-- CONVERSION_END (R369, R371): the lowest pending sensor; one whose domain is not ON is skipped (R368). The thresholds are compared
while the logic die runs. -/
def execConversionEnd (temp : BitVec 12) (s : State) : Outcome :=
  .next (
    let p := s.f .THM_CONV_PEND 0
    match firstFrom 16 0 (fun n => bit p n) with
    | none => s
    | some n =>
      let s := s.setF .THM_CONV_PEND 0 (setBit p n false)
      if !(n == 12 || n == 13 || n == 14 || n == 15 || s.dom (sensorDom n)) then (s.setB .THM_TEMP_VALID n false).maxShow
      else
        let t := temp.toInt
        let good := decide (-440 ≤ t) && decide (t ≤ 1400)
        let s := if good then s.setFs n [(.THM_TEMP_TEMP, temp.toNat), (.THM_TEMP_VALID, 1)]
          else ((s.setB .THM_TEMP_VALID n false).setB .THM_STATUS_SENS_EV 0 true).event 0xD006 n 0 0
        let s := (s.coolCheck n good).maxShow
        if !s.dom 1 ∨ !s.b .THM_MAX_VALID 0 then s else s.warnCheck.levelCheck.levelHold.holdShow.tripCheck)

/-- THROTTLE_WINDOW (R374): a slot ends; with the eighth, the level in force is taken for the next window. -/
def execThrottleWindow (s : State) : Outcome :=
  .next (s.inBlk .thm 0 (fun s =>
    let n := (s.thm.slot + 1) % 8
    s.updThm (fun t =>
      let l := if n = 0 then s.f .THM_LVL_LEVEL 0 else t.winLevel
      { t with slot := n, winLevel := l, gate := decide (n < l) })))

/-- RESTART_WAIT_END (R381). -/
def execRestartWaitEnd (s : State) : Outcome :=
  .next (
    if s.thm.off ≠ 0 ∧ s.sup.causes = 0 ∧ s.f .THM_THR3_MIN_OFF 0 ≤ s.thm.off - 1
        ∧ [12, 13, 14, 15].all (fun n => decide (10 ≤ Tbl.get s.thm.cool 0 n)) then
      let s := s.updThm (fun t => { t with off := 0, cool := [] })
      if s.dom 1 ∨ s.sup.held ∨ s.bootHeld then s else s.bootOn
    else s)

/-! ### The calibration manager (R382-R389) -/

/-- An item's STATE; DUE reads 1 while it is due or measuring. -/
def State.calTo (s : State) (n st : Nat) : State := s.setFs n [(.CAL_ISTAT_STATE, st), (.CAL_ITOL_DUE, (st == 1 || st == 2).toNat)]

/-- An item becomes due. -/
def State.makeDue (s : State) (n : Nat) : State :=
  (s.calTo n 1).setCalItem n { s.calItem n with dueSince := s.opMin, starved := false }

/-- CAL_EN (R389): the ring must be DISABLED and lie in memory; CAL owns it and enables it. -/
def execCalEn (v : Bool) (s : State) : Outcome :=
  .next (s.onBlk .cal 0 (fun s =>
    let r := s.f .CAL_CFG_RING 0
    if s.b .CAL_CTRL_EN 0 = v then s
    else if !v then ((s.setB .CAL_CTRL_EN 0 false).ringDisable r).holdShow
    else if s.ringState r = 0 ∧ s.inMem (s.ringBase r) (64 * s.ringSize r) then ((s.setB .CAL_CTRL_EN 0 true).ringEnable r).holdShow
    else s.cfgErrAt .cal .CAL_CTRL_EN 0))

/-- CAL_ITEM_DUE (R384): by time or by temperature. -/
def execCalItemDue (n : Fin 64) (s : State) : Outcome :=
  .next (s.inBlk .cal 0 (fun s =>
    let per := s.f .CAL_ISCH_PERIOD n
    let dt := s.f .CAL_ISCH_DT n
    let x := s.calItem n
    if s.calOn n ∧ s.f .CAL_ISTAT_STATE n = 0 ∧
        ((per ≠ 0 ∧ per ≤ s.opMin - x.since) ∨ (dt ≠ 0 ∧ x.accepted ∧ s.drifted n dt)) then s.makeDue n
    else s))

/-- CAL_DUE (R384): firmware writes DUE. A FAILED item starts again only through VALID (R385). -/
def execCalDue (n : Fin 64) (s : State) : Outcome :=
  .next (s.onBlk .cal 0 (fun s => if s.b .CAL_ICFG_VALID n ∧ s.f .CAL_ISTAT_STATE n = 0 then s.makeDue n else s))

/-- The wedge sequencer of an actuator holds no item. -/
def State.wedgeFree (s : State) (a : Nat) : Bool := (s.seqsOf (8 + a)).all (fun n => (s.cs n).item.isNone)

/-- The gap of an item's measurement is open (R383). -/
def State.gapOpen (s : State) (n : Nat) : Bool :=
  let h := s.f .CAL_ICFG_UNIT n
  let a := h / 6
  if s.f .CAL_ICFG_MEAS n = 2 then
    s.cal.chain == 0 && !s.b .CHN_STATUS_ARMED (2 * a) && !s.b .CHN_STATUS_ARMED (2 * a + 1) && s.wedgeFree a
      && (s.tq (2 * a)).isEmpty && (s.tq (2 * a + 1)).isEmpty && (s.tq (8 + a)).isEmpty
  else s.wedgeFree a && s.f .SRV_ACT_STAT_MODE a == 2 && s.f .SRV_ACT_STAT_PRI a == h % 6 && s.onTrack h

/-- The chain of an item is copied to the tail of the calibration ring, and its doorbell rung. -/
def State.postChain (s : State) (n : Nat) : State :=
  let r := s.f .CAL_CFG_RING 0
  let k := s.f .CAL_ICH_HI_LEN n + 1
  let src := s.f .CAL_ICH_LO_BASE_LO n * 64 + s.f .CAL_ICH_HI_BASE_HI n * 2 ^ 32
  let t := s.ringTail r
  let s := (List.range k).foldl (fun u i =>
    let (d, u) := u.fetch .link (src + 64 * i) 64
    u.wr (u.ringBase r + 64 * ((t + i) % u.ringSize r)) d) s
  ((s.updCal (fun c => { c with chain := n + 1, chainAt := t })).doorbell r ((t + k) % s.ringSize r)).assistShow

/-- CAL_MEASUREMENT_START (R383, R384): the lowest-numbered due item whose gap is open. -/
def execCalMeasurementStart (s : State) : Outcome :=
  .next (s.inBlk .cal 0 (fun s =>
    match firstFrom 64 0 (fun n => s.calOn n && s.f .CAL_ISTAT_STATE n == 1 && s.gapOpen n) with
    | none => s
    | some n => let s := s.calTo n 2
                if s.f .CAL_ICFG_MEAS n = 2 then s.postChain n else s))

/-- The completion codes of the chain under way: all ended, all good. -/
def State.chainCodes (s : State) : List Nat :=
  let r := s.f .CAL_CFG_RING 0
  (List.range (s.f .CAL_ICH_HI_LEN (s.cal.chain - 1) + 1)).map (fun i =>
    (s.byteAt (s.ringBase r + 64 * ((s.cal.chainAt + i) % s.ringSize r) + 4)).toNat)

/-- HEAD has passed the chain. -/
def State.chainPassed (s : State) : Bool :=
  let r := s.f .CAL_CFG_RING 0
  s.ringHead r == (s.cal.chainAt + s.f .CAL_ICH_HI_LEN (s.cal.chain - 1) + 1) % s.ringSize r

/-- A measurement is discarded: it counts toward nothing, and the item stays due. -/
def State.calDiscard (s : State) (n : Nat) : State := s.calTo n 1

/-- A set is accepted (R385-R387). -/
def State.calAccept (s : State) (n : Nat) (l : List Int) : State :=
  let held := s.calHolds n
  let mean := (l.foldl (· + ·) 0).tdiv l.length
  let s := ((s.calTo n 0).setFs n [(.CAL_IRES_VALUE, unsigned 16 mean), (.CAL_IRES_TEMP, s.f .THM_MAX_TEMP 0), (.CAL_ISTAT_REJ, 0),
    (.CAL_ISTAT_DONE_N, 0)]).inc .CAL_ISTAT_ACCEPTS n 1
  let x := s.calItem n
  (s.setCalItem n { x with vals := [], accepted := true, since := s.opMin, wait := if held then 1 else x.wait }).holdShow

/-- A set whose values disagree (R385). -/
def State.calReject (s : State) (n : Nat) : State :=
  let s := ((s.inc .CAL_ISTAT_REJ n 1).setB .CAL_STATUS_REJ_EV 0 true).event 0xD007 n 0 0
  let s := (s.setF .CAL_ISTAT_DONE_N n 0).setCalItem n { s.calItem n with vals := [] }
  if s.f .CAL_ISTAT_REJ n < 3 then s.calTo n 1 else ((s.calTo n 3).event 0xD008 0 0 0).holdShow

/-- A measured value joins the item's set (R385). -/
def State.calValue (s : State) (n : Nat) (v : Int) : State :=
  let x := s.calItem n
  let start := if x.vals.isEmpty then s.maxTemp else x.startMax
  let l := x.vals ++ [v]
  let s := s.setCalItem n { x with vals := l, startMax := start }
  if l.length < max 1 (s.f .CAL_ICFG_REPEATS n) + 1 then (s.calTo n 1).setF .CAL_ISTAT_DONE_N n l.length
  else
    let dt := s.f .CAL_ISCH_DT n
    let hi := l.foldl max v
    let lo := l.foldl min v
    if dt ≠ 0 ∧ dt < 2 * (s.maxTemp - start).natAbs then
      ((s.setCalItem n { s.calItem n with vals := [] }).setF .CAL_ISTAT_DONE_N n 0).calTo n 1
    else if hi - lo ≤ (s.f .CAL_ITOL_TOL n : Nat) then s.calAccept n l
    else s.calReject n

/-- CAL_MEASUREMENT_END (R383, R385): SIGMA and PESRMS with their value, none when the gap closed; a chain by its completion codes. -/
def execCalMeasurementEnd (n : Fin 64) (v : Option (BitVec 16)) (s : State) : Outcome :=
  .next (s.inBlk .cal 0 (fun s =>
    if s.f .CAL_ISTAT_STATE n ≠ 2 then s
    else if s.f .CAL_ICFG_MEAS n = 2 then
      if s.cal.chain ≠ n.val + 1 ∨ s.b .CAL_FW_WAIT 0 ∨ !s.chainPassed then s
      else if s.chainCodes.all (fun c => c == 0 || c == 4) then
        (s.setFs 0 [(.CAL_STATUS_FW_EV, 1), (.CAL_FW_ITEM, n), (.CAL_FW_WAIT, 1)])
      else ((s.updCal (fun c => { c with chain := 0 })).calDiscard n).assistShow
    else match v with
      | none => s.calDiscard n
      | some x => s.calValue n x.toInt))

/-- CAL_SUBMIT with GO: the value that the chain's firmware read. -/
def State.calSubmit (s : State) (g : State → Nat → State) : State :=
  s.onBlk .cal 0 (fun s =>
    if !s.b .CAL_FW_WAIT 0 then s.cfgErrAt .cal .CAL_SUBMIT_GO 0
    else
      let n := s.f .CAL_FW_ITEM 0
      let s := (s.setB .CAL_FW_WAIT 0 false).updCal (fun c => { c with chain := 0 })
      (g s n).assistShow)

/-- CAL_SUBMIT. -/
def execCalSubmit (v : BitVec 16) (s : State) : Outcome := .next (s.calSubmit (fun s n => s.calValue n v.toInt))
/-- CAL_DISCARD. -/
def execCalDiscard (s : State) : Outcome := .next (s.calSubmit (fun s n => s.calDiscard n))

/-- CAL_STARVE (R384). -/
def execCalStarve (n : Fin 64) (s : State) : Outcome :=
  .next (s.inBlk .cal 0 (fun s =>
    let x := s.calItem n
    let k := s.f .CAL_CFG_STARVE 0
    if (s.f .CAL_ISTAT_STATE n == 1 || s.f .CAL_ISTAT_STATE n == 2) && k != 0 && decide (k ≤ s.opMin - x.dueSince) && !x.starved then
      ((s.setCalItem n { x with starved := true }).setB .CAL_STATUS_STARVE_EV 0 true).event 0xD009 0 0 0
    else s))

/-- VALID of an item changes (R385, R387): 1 starts the item anew, and is refused to a second item of the same DEST and UNIT. -/
def State.calValid (s : State) (n : Nat) (v : Bool) : State :=
  if s.b .CAL_ICFG_VALID n = v then s
  else
    let d := s.f .CAL_ICFG_DEST n
    let twin := (List.range 64).any (fun k => k != n && s.b .CAL_ICFG_VALID k && s.f .CAL_ICFG_DEST k == d
      && s.f .CAL_ICFG_UNIT k == s.f .CAL_ICFG_UNIT n)
    if v && twin then s.cfgErrAt .cal .CAL_ICFG_VALID n
    else
      let s := if s.cal.chain = n + 1 then (s.updCal (fun c => { c with chain := 0 })).setB .CAL_FW_WAIT 0 false else s
      let s := ((s.setB .CAL_ICFG_VALID n v).calTo n 0).setFs n [(.CAL_ISTAT_DONE_N, 0), (.CAL_ISTAT_REJ, 0)]
      (s.setCalItem n { since := s.opMin }).holdShow

end Sys2Proof.Machine
end

