-- ==== Sys2Proof/Machine/Loops.lean ====
section
/-!
DEFINITION. Machine/Loops.lean: what the Quince engines' triggers bring in and what their published outputs drive: loop engines (R259-R263),
the spindle (R278-R282), assist trim and heater (R378, R386, R387), and the SERVO frames that follow (R437).
-/
namespace Sys2Proof.Machine

/-- A 16-bit port code of a number in Q15, held to its range. -/
def code16 (v : Int) : Nat := unsigned 16 (sat16 v)

/-- The noPort value of a port. -/
def noPort : Nat := 0x8000

/-! ### Loop engines (R259, R260) -/

/-- The error that the coarse engine follows: the primary head's, in MATE the mean of the pair's. -/
def State.loopError (s : State) (a : Nat) : Rat :=
  let e := (s.hd a (s.pri a)).e
  if s.mode a = 5 then (e + (s.hd a (s.mate a)).e) / 2 else e

/-- The length of a soft start (R262). -/
def State.rampLen (s : State) : Nat := 4 * max 1 (s.f .SRV_CFG2_RAMP_W 0)

/-- A soft start is under way. -/
def ActSt.ramping (x : ActSt) : Bool := !x.softM.isEmpty

/-- The index the engines see: k during the ramp, W after it (R263). -/
def State.softIndex (s : State) (a : Nat) : Nat := if (s.act a).ramping then (s.act a).softK else s.rampLen

/-- The flags of both engines. -/
def State.loopFlags (s : State) (a : Nat) : Nat :=
  let x := s.act a
  let m := s.mode a
  m + 8 * (x.ramping && x.softK == 0).toNat + 16 * (s.hd a (s.pri a)).missed.toNat
    + 32 * (m == 5 && (s.hd a (s.mate a)).missed).toNat + 64 * (m == 5).toNat + 128 * x.target.writeOt.toNat

/-- Inputs of the coarse engine; measured current and velocity come from the motor stage. -/
def State.coarseInputs (s : State) (a iMeas vel : Nat) : List Nat :=
  let e := s.loopError a
  let i := roundR e
  let n := unsigned 32 i
  [code16 (q15 (e - (i : Rat))), n / 65536, n % 65536, s.loopFlags a, s.softIndex a, iMeas, unsigned 16 (s.qeOut (2 * a + 1) 0),
   unsigned 16 (s.qeOut (2 * a + 1) 1), vel]

/-- The separation of a pair's targets on the arm, in tracks (R265, R267). -/
def State.separation (s : State) (a : Nat) : Int :=
  let t := (s.act a).target
  match t.mate with
  | some (k, track) =>
    ((track : Int) + signed 8 (s.f .SRV_HEAD_RADOFS (6 * a + k))) - ((t.track : Int) + signed 8 (s.f .SRV_HEAD_RADOFS (6 * a + t.slot)))
  | none => 0

/-- Inputs of the fine engine. -/
def State.fineInputs (s : State) (a maPri maMate : Nat) : List Nat :=
  let pair := s.mode a == 5
  let sep := if pair then s.separation a * 256 else 0
  [code16 (q15 (s.hd a (s.pri a)).e), if pair then code16 (q15 (s.hd a (s.mate a)).e) else 0, code16 (-sep), code16 sep, s.loopFlags a,
   s.softIndex a, maPri, maMate]

/-- The engine in the place of an index is ARMED. -/
def State.armed (s : State) (m : Nat) : Bool := s.qeState (s.qeOf m) == 1

/-- The clamp on an actuator's microactuator commands (R261, R277). -/
def State.maClamp (s : State) (a : Nat) : Nat := min 0x7FFF (s.g .SRV_ACT_LIM_MALIM a)

/-- A trigger of an actuator's loops moves its soft start on, or begins one that waits (R262, R263). -/
def State.rampStep (s : State) (a iMeas maPri maMate : Nat) : State :=
  let x := s.act a
  let mag := fun (v : Nat) (lim : Nat) => min (signed 16 v).natAbs lim
  if x.softPend ∧ (s.armed (2 * a) ∨ s.armed (2 * a + 1)) then
    let ma := s.maClamp a
    let s := s.setAct a { x with softPend := false, softK := 0, softM := [mag iMeas (s.vcmClamp a), mag maPri ma, mag maMate ma] }
    (s.setB .SRV_ACT_STAT_SOFT a true).event 0x8008 0 0 0
  else if !x.ramping then s
  else if x.softK + 1 < s.rampLen then s.setAct a { x with softK := x.softK + 1 }
  else (s.setAct a { x with softK := 0, softM := [] }).setB .SRV_ACT_STAT_SOFT a false

/-- The clamp L(k) on output j: 0 VCM, 1 primary, 2 mate (R263). -/
def State.rampClamp (s : State) (a j lim : Nat) : Nat :=
  let x := s.act a
  if !x.ramping then lim
  else
    let m := x.softM.getD j 0
    (m + ((lim : Int) - m) * (x.softK + 1) / s.rampLen : Int).toNat

def clampTo (lim : Nat) (v : Int) : Int := max (-(lim : Int)) (min lim v)

/-! ### The spindle engine (R281) -/

/-- The target period in main-clock cycles, times 560 (R281): 96,000,000,000 ÷ rpm. -/
def State.targetPeriod560 (s : State) : Nat := 96000000000 / tierRpm s.mpd.target

/-- The speed error in Q15 for a measured period times 560. -/
def State.periodError (s : State) (p560 : Nat) : Int :=
  let t : Int := s.targetPeriod560
  sat16 (((t - p560) * 32768).tdiv t)

/-- Inputs of QE8. The phase current is the environment's: a free value where no command carries it. -/
def State.spindleInputs (s : State) (ports : List Nat) (err : Int) (current : Nat) : List Nat :=
  let fl := s.f .MPD_SPN_STAT_SRC 0 + 2 * (s.spn == 7).toNat + 4 * (decide (2 ≤ s.mpd.moving)).toNat + 8 * s.mpd.first.toNat
  ports ++ [unsigned 16 err, fl, current, code16 (s.mpd.residual * 16)]

/-! ### QE9 and QE10 (R378, R386) -/

/-- VALUE of the accepted item of a head with a destination. -/
def State.destValue (s : State) (dest h : Nat) : Nat :=
  match firstFrom 64 0 (fun n => s.b .CAL_ICFG_VALID n && s.f .CAL_ICFG_DEST n == dest && s.f .CAL_ICFG_UNIT n == h && (s.calItem n).accepted) with
  | some n => s.f .CAL_IRES_VALUE n
  | none => noPort

def State.thermalInputs (s : State) (dest : Nat) : List Nat :=
  (List.range 24).map (s.destValue dest) ++ [code16 (s.maxTemp * 16)]
    ++ (List.range 4).map (fun a => if s.b .THM_TEMP_VALID (6 + a) then code16 (s.temp .THM_TEMP_TEMP (6 + a) * 16) else noPort)
    ++ [(decide (0 < s.f .THM_LVL_LEVEL 0)).toNat + 2 * s.f .THM_LVL_LVL_HOLD 0]

/-- A trigger of QE9 samples the accepted values (R387). -/
def State.sampleTrims (s : State) : State :=
  s.updCal (fun c => { c with item := c.item.map (fun e => (e.1, if e.2.wait = 1 then { e.2 with wait := 2 } else e.2)) })

/-- A trigger of QE9 or QE10: a run of QE9 that starts samples the accepted values. -/
def State.fireThermal (s : State) (k : Nat) : State :=
  let t := s.qeTrigger k (s.thermalInputs (k - 8))
  if k = 9 ∧ s.qeState (s.qeOf 9) = 1 then t.sampleTrims else t

/-- QE9 publishes: holds that waited for it end. -/
def State.publishTrims (s : State) : State :=
  let ended := fun (e : Nat × CalItem) => (e.1, if e.2.wait = 2 then { e.2 with wait := 0 } else e.2)
  (s.updCal (fun c => { c with item := (c.item.map ended).filter (fun e => decide (e.2 ≠ ({} : CalItem))) })).holdShow

/-! ### Triggers (R274) -/

/-- A trigger of the spindle's place: the phase-advance table meets its boundary (R280), the speed error is judged (R282). -/
def State.fireSpindle (s : State) (ports : List Nat) (err : Int) (current : Nat) : State :=
  let s := if s.b .MPD_SPN_TBL_COMMIT_PEND 0 then s.tblApply else s
  let inp := s.spindleInputs ports err current
  let s := (s.updMpd (fun x => { x with first := false })).qeTrigger 8 inp
  if s.spn = 5 ∨ s.spn = 6 then s.speedError err else s

/-- The speed error of the measured speed (R281). -/
def State.speedErrorNow (s : State) : Int :=
  let rpm := s.f .MPD_SPN_STAT_RPM 0
  if rpm = 0 then -32768 else s.periodError (96000000000 / rpm)

/-- A trigger of the spindle's engine that no stamp gives: the speed error is that of the measured speed (R281). -/
def State.fireSpindleBlind (s : State) : State :=
  let err := s.speedErrorNow
  let (v, s) := s.free
  s.fireSpindle [noPort, noPort, noPort, noPort] err (v % 65536)

/-- An engine whose source is the TRIGGER of an actuator is triggered with the measured values; none of the loops in UNLOADED. -/
def State.triggerEngine (s : State) (a i vel p m k : Nat) : State :=
  if s.f .SRV_QE_CFG_TRIG_SRC k ≠ 1 ∨ s.f .SRV_QE_CFG_ACT k ≠ a ∨ (k < 8 ∧ s.mode a = 0) then s
  else if k = 8 then s.fireSpindleBlind
  else if 8 < k then s.fireThermal k
  else s.qeTrigger k (if k % 2 = 0 then s.coarseInputs (k / 2) i vel else s.fineInputs (k / 2) p m)

/-- TRIGGER (R183, R259-R263, R274): the engines whose source is this actuator's TRIGGER; in UNLOADED no loop is triggered. -/
def execTrigger (n : Cs) (iMeas vel maPri maMate : BitVec 16) (s : State) : Outcome :=
  .next (s.onWedge n 4 (fun s a =>
    let i := iMeas.toNat
    let p := maPri.toNat
    let m := maMate.toNat
    let s := if s.mode a = 0 then s else
      ((s.rampStep a i p m).setF .MPD_VCM_STAT_I_MEAS a i).wedgeDone a 0x43 false
    (List.range 11).foldl (fun u k => u.triggerEngine a i vel.toNat p m k) s))

/-- QE_TRIGGER (R274): an engine's own trigger. What the state determines goes to its ports; the measured ones are the command's. -/
def execQeTrigger (n : Qe) (inputs : List (BitVec 16)) (s : State) : Outcome :=
  .next (s.inBlk .eng 0 (fun s =>
    let m := s.qeRole n
    let v := fun i => (inputs.map BitVec.toNat).getD i 0
    if s.f .SRV_QE_CFG_TRIG_SRC m = 0 ∨ s.qeOf m ≠ n.val then s
    else if m < 8 then
      let a := m / 2
      if s.mode a = 0 then s
      else if m % 2 = 0 then let s := s.rampStep a (v 5) 0 0; s.qeTrigger m (s.coarseInputs a (v 5) (v 8))
      else let s := s.rampStep a 0 (v 6) (v 7); s.qeTrigger m (s.fineInputs a (v 6) (v 7))
    else if m = 8 then s.fireSpindle [v 0, v 1, v 2, v 3] (signed 16 (v 4)) (v 6)
    else if m = 9 ∨ m = 10 then s.fireThermal m
    else s.qeTrigger m (inputs.map BitVec.toNat)))

/-! ### Stamps (R278, R279) -/

/-- AOFS of an actuator: the average of 16 differences of angles that no command carries: a free value. -/
def State.measureAofs (s : State) (a : Nat) : State :=
  let (v, s) := s.free
  s.setFs a [(.MPD_AOFS_AOFS, v), (.MPD_AOFS_VALID, 1)]

/-- A stamp is counted for its actuator: 16 in a row bring WEDGE from BEMF, and AOFS (R279). -/
def State.countStamp (s : State) (a w t : Nat) : State :=
  let last := Tbl.get s.mpd.wedge 0 a
  let run := if last ≠ 0 ∧ last % 560 = w then min 16 (Tbl.get s.mpd.runs 0 a + 1) else 1
  let s := s.updMpd (fun x => { x with wedge := Tbl.set x.wedge 0 a (w + 1), stamp := Tbl.set x.stamp 0 a t, runs := Tbl.set x.runs 0 a run })
  if s.spn = 5 ∧ run = 16 then
    let s := (List.range 4).foldl (fun u k => if Tbl.get u.mpd.runs 0 k = 16 then u.measureAofs k else u) s
    s.setSpn 6
  else if s.spn = 6 ∧ run = 16 ∧ !s.b .MPD_AOFS_VALID a then s.measureAofs a
  else s

/-- Wedge periods from one wedge number to another. -/
def wedgesFrom (w0 w : Nat) : Nat := if (w + 560 - w0) % 560 = 0 then 560 else (w + 560 - w0) % 560

/-- The first stamp of a wedge number (R278, R279, R281): the wedge period and the angle, in WEDGE the speed and a trigger of the
spindle's engine of source 2, with the stamp's place against the one that its actuator's last stamp foretold. -/
def State.stampFirst (s : State) (a w t prevW prevT : Nat) : State :=
  let w0 := s.srv.stamped
  let t0 := s.mpd.lastAt
  let s := s.updSrv (fun v => { v with stamped := w + 1 })
  let p0 := s.mpd.period
  let d := wedgesFrom (w0 - 1) w
  let span := (t + 2 ^ 32 - t0) % 2 ^ 32
  let known := w0 != 0 && decide (d ≤ span)
  let s := s.updMpd (fun x => { x with lastAt := t, period := if known then span / d else 0
                                       theta := (w * s.f .MPD_SPN_CFG_PP 0 * 4096 / 560 + s.f .MPD_AOFS_AOFS a) % 4096 })
  if s.spn ≠ 6 then s else
  let s := if known then s.setRpm (96000000000 * d / (560 * span)) else s
  let err := if known then s.periodError (560 * span / d) else s.speedErrorNow
  let (fv, s) := s.free
  let off : Nat := if prevW = 0 ∨ p0 = 0 then fv % 65536
    else
      let due : Int := (prevT : Int) + p0 * wedgesFrom (prevW - 1) w
      code16 (((t : Int) - due) * 32768 / p0)
  let ports := (List.range 4).map (fun k => if k = a then off else noPort)
  if s.f .SRV_QE_CFG_TRIG_SRC 8 = 2 then s.fireSpindle ports err (fv / 65536 % 65536) else s

/-- An engine of source 2 other than the spindle's is triggered by a wedge's first stamp. What a loop engine's measured ports read then, no
command carries: free values. -/
def State.stampEngine (s : State) (k : Nat) : State :=
  if k = 8 ∨ s.f .SRV_QE_CFG_TRIG_SRC k ≠ 2 ∨ (k < 8 ∧ s.mode (k / 2) = 0) then s
  else if 8 < k then s.fireThermal k
  else
    let (v, s) := s.free
    s.qeTrigger k (if k % 2 = 0 then s.coarseInputs (k / 2) (v % 65536) (v / 65536 % 65536)
      else s.fineInputs (k / 2) (v % 65536) (v / 65536 % 65536))

/-- A stamp of an actuator, from S1 and S3 of its sequencer: counted; the first of its wedge number triggers the engines of source 2. -/
def State.stampAct (s : State) (n a : Nat) : State :=
  if !s.blkOn .mpd 0 then s else
  let w := s.sreg n 1 % 1024 % 560
  let t := s.sreg n 3
  let prevW := Tbl.get s.mpd.wedge 0 a
  let prevT := Tbl.get s.mpd.stamp 0 a
  let s := s.countStamp a w t
  if s.srv.stamped = w + 1 then s
  else (List.range 11).foldl State.stampEngine (s.stampFirst a w t prevW prevT)

/-- STAMP (R183, R274, R278, R279, R281). -/
def execStamp (n : Cs) (s : State) : Outcome := .next (s.onWedge n 5 (fun s a => s.stampAct n a))

/-- PSEUDO_STAMP (R278): in BEMF, every 1/560 revolution of the fitted angle. -/
def execPseudoStamp (s : State) : Outcome :=
  .next (s.inBlk .mpd 0 (fun s =>
    if s.spn ≠ 5 ∨ s.f .SRV_QE_CFG_TRIG_SRC 8 ≠ 2 then s
    else s.fireSpindleBlind))

/-! ### What published outputs drive (R261, R281, R387, R437) -/

/-- The words of an engine's state memory that a SERVO frame carries (R437). -/
def State.stateWords (s : State) (m : Nat) : List Byte :=
  ((List.range (max 1 (min 23 (s.f .MIR_CFG_STATE_WORDS 0)))).map (fun k => leBytes 5 (Tbl.get (s.qe (s.qeOf m)).st 0 k))).flatten

/-- A SERVO frame of an actuator or, with ADDR 4, of the spindle, sent by a paired owner (R437). The order of the contents is R437's
(log entry 40); the cycles from the SAM to sending are no command's: a free value. -/
def State.servoSend (s : State) (k : Nat) : State :=
  if !s.paired || !s.owner || !s.b .MIR_STATUS_LINK_UP 0 then s else
  let (since, s) := s.free
  let d :=
    if k = 4 then leBytes 2 s.mpd.theta ++ leBytes 4 s.mpd.period ++ leBytes 2 (unsigned 16 s.mpd.torque) ++ s.stateWords 8
    else
      let x := s.act k
      let h := s.hd k (s.pri k)
      leBytes 2 h.wn ++ leBytes 1 (s.mode k) ++ leBytes 1 (s.pri k) ++ leBytes 1 (s.mate k) ++ leBytes 1 (s.f .SRV_ACT_STAT_ONT k)
        ++ leBytes 3 x.target.track ++ leBytes 2 (unsigned 16 x.vcm) ++ leBytes 2 (unsigned 16 x.ma0) ++ leBytes 2 (unsigned 16 x.ma1)
        ++ leBytes 4 h.dsam ++ leBytes 4 since ++ s.stateWords (2 * k) ++ s.stateWords (2 * k + 1)
  s.send (.frame 3 0 (s.f .MIR_TERM_TERM 0) 0 k d false)

/-- A microactuator takes a command: nothing while its head's driver has tripped or the boost rail is low. -/
def State.maDrive (s : State) (h : Nat) (v : Int) : Int := if s.mpd.boostLow || bit (s.f .MPD_MA_FLT_FLT 0) h then 0 else v

/-- The outputs of the engine in the place of an index reach their drivers. During a retract the motor stage drives (R293); a device that
does not own the actuator drives nothing (R427). -/
def State.drive (s : State) (m : Nat) : State :=
  if m < 8 then
    let a := m / 2
    let done := s.qeState (s.qeOf (2 * a)) != 2 && s.qeState (s.qeOf (2 * a + 1)) != 2
    let s := if s.mode a = 0 ∨ s.retRes a = 3 ∨ !s.drives a then s
      else if m % 2 = 0 then
        let v := if s.f .MPD_VCM_STAT_TRIP a ≠ 0 then 0 else clampTo (s.rampClamp a 0 (s.vcmClamp a)) (s.qeOut m 0)
        s.updAct a (fun x => { x with vcm := v })
      else
        let lim := s.maClamp a
        let v0 := s.maDrive (6 * a + s.pri a) (clampTo (s.rampClamp a 1 lim) (s.qeOut m 0))
        let v1 := if s.mode a = 5 then s.maDrive (6 * a + s.mate a) (clampTo (s.rampClamp a 2 lim) (s.qeOut m 1)) else 0
        s.updAct a (fun x => { x with ma0 := v0, ma1 := v1 })
    if done then
      let s := s.wedgeDone a 0x43 true
      if s.mode a = 0 then s else s.servoSend a
    else s
  else if m = 8 then
    let s :=
      if s.spn = 5 ∨ s.spn = 6 then
        let (lim, s) := s.free
        let v := clampTo (lim % 32768) (s.qeOut 8 0)
        (s.updMpd (fun x => { x with torque := v })).send (.spindle s.driveAngle v)
      else s
    s.servoSend 4
  else if m = 9 then s.publishTrims
  else s

/-- END (R272): the outputs are published and drive what they drive. -/
def execQEnd (n : Qe) (s : State) : Outcome := .next (s.qeFetch n (qWord 0x3F 0 0 false 0) (fun s q => (s.qeFinish n q).drive (s.qeRole n)))

end Sys2Proof.Machine
end

