-- ==== Sys2Proof/Machine/Plv.lean ====
section
/-!
DEFINITION. Machine/Plv.lean: power loss and the vault (R406-R426): areas and images, the freeze, ARM, SAVE, RESTORE and SCAN, detection of a
loss and what follows it, wake sources (R313).
-/
namespace Sys2Proof.Machine

def State.updPlv (s : State) (g : Plv → Plv) : State := { s with plv := g s.plv }

/-! ### Areas (R416-R418) -/

def State.dies (s : State) : Nat := max 1 (s.f .PLV_CFG_DIES 0)
def State.areaBlks (s : State) : Nat := max 1 (s.f .PLV_NAND_AREA_BLKS 0)
def State.ppb (s : State) : Nat := max 1 (s.f .PLV_GEOM_PPB 0)
/-- Pages of an image: the protected region and 1 MiB of index, 16,384 bytes each (R416). -/
def State.imgPages (s : State) : Nat := (s.f .PLV_PROT_SIZE_PROT_MIB 0 + 1) * 64
def State.areas (s : State) : Nat := min 4096 (s.f .PLV_GEOM_BLOCKS 0) / s.areaBlks
/-- A block of a die is marked bad (R426). -/
def State.badBlk (s : State) (d b : Nat) : Bool := bit (s.f .PLV_BBM_BAD (d * 128 + b / 32)) (b % 32)

/-- Every die has enough good blocks in the area (R417). -/
def State.usable (s : State) (a : Nat) : Bool :=
  let p := (s.imgPages + s.dies - 1) / s.dies
  let need := (p + 1 + s.ppb - 1) / s.ppb
  (List.range s.dies).all (fun d =>
    decide (need ≤ ((List.range s.areaBlks).filter (fun k => !s.badBlk d (a * s.areaBlks + k))).length))

def State.usables (s : State) : List Nat := (List.range s.areas).filter (fun a => s.usable a)

/-- The newest image (R422): the area with the highest IMG_SEQ among usable ones whose page 0 is present. -/
def State.newestImg (s : State) : Option Nat :=
  s.usables.foldl (fun o a =>
    let x := Tbl.get s.plv.img {} a
    if (Tbl.get x.page none 0).isNone then o
    else match o with
      | some b => if (Tbl.get s.plv.img {} b).seq < x.seq then some a else o
      | none => some a) none

/-- Area NEXT (R417): the first usable one after the newest image's, wrapping; from area 0 where there is no image (log entry 41). -/
def State.nextArea (s : State) (newest : Option Nat) : Option Nat :=
  match newest with
  | some a => ((List.range (s.areas - 1)).map (fun i => (a + 1 + i) % s.areas)).find? (fun b => s.usable b)
  | none => s.usables.head?

/-- Every page of an image is present. -/
def Img.complete (x : Img) : Bool := (List.range x.pages).all (fun p => (Tbl.get x.page none p).isSome)

/-- PLV_AREA, PLV_IMG and PLV_RES show what was found. -/
def State.showImg (s : State) (newest : Option Nat) : State :=
  let s := s.setF .PLV_AREA_NEXT 0 ((s.nextArea newest).getD 0)
  match newest with
  | some a =>
    let x := Tbl.get s.plv.img {} a
    s.setFs 0 [(.PLV_AREA_NEWEST, a), (.PLV_IMG_LO_SEQ_LO, x.seq), (.PLV_IMG_HI_SEQ_HI, x.seq / 2 ^ 32), (.PLV_RES_KIND, x.kind),
      (.PLV_RES_CONSUMED, x.consumed.toNat), (.PLV_RES_COMPLETE, x.complete.toNat)]
  | none => s

def State.imgSeq (s : State) : Nat := s.f .PLV_IMG_LO_SEQ_LO 0 + 2 ^ 32 * s.f .PLV_IMG_HI_SEQ_HI 0

/-- A program or erase failure marks its block (R418). -/
def State.nandFail (s : State) (d b : Nat) : State :=
  let i := d * 128 + b / 32
  let s := s.setF .PLV_BBM_BAD i (setBit (s.f .PLV_BBM_BAD i) (b % 32) true)
  let s := ((s.inc .PLV_CNT_PFAIL 0 1).setB .PLV_STATUS_NAND_EV 0 true).event 0x3045 d b 0
  s.setF .PLV_CNT_USABLE 0 s.usables.length

/-! ### The freeze (R411, R419, R428) -/

/-- What the freeze cycle stops beside the writes to the protected state: every sequencer but CS40 and CS41, every Quince engine, every write
gate; ALIVE falls. -/
def State.freezeStops (s : State) : State :=
  let keep := s.seqsOf 13 ++ s.seqsOf 14
  let s := (List.range 44).foldl (fun u n =>
    if u.csRuns n && !keep.contains n then
      (u.updCs n (fun q => { q with killReq := false })).setFs n [(.ENG_CS_STAT_STATE, 3), (.ENG_CS_STAT_FAULT, 4)]
    else u) s
  let s := (List.range 12).foldl (fun u n => if u.qeState n = 3 then u else u.setF .ENG_QE_CTRL_STATE n 0) s
  let s := (List.range 8).foldl (fun u l => if u.b .CHN_STATUS_WRITING l then (u.laneDrop l).disarmLane l else u) s
  s.setB .MIR_CTRL_ALIVE 0 false

/-- An image begins in an area: its first page position on each die is the area's first good block; the buffer index goes with it. -/
def State.beginImage (s : State) (a : Nat) (save item : Bool) : State :=
  let first := fun d => (firstFrom s.areaBlks (a * s.areaBlks) (fun b => !s.badBlk d b)).getD 0 * s.ppb
  let x : Img := { seq := s.imgSeq + 1, pages := s.imgPages, kind := save.toNat, degraded := s.b .BTL_STATUS_DEGRADED 0, bidx := s.ciu.bidx }
  (s.updPlv (fun p => { p with
    img := Tbl.set p.img {} a x
    dump := some { area := a, next := 0, save := save, item := item
                   pos := (List.range s.dies).foldl (fun t d => Tbl.set t 0 d (first d)) [] } })).setB .PLV_STATUS_FROZEN 0 true

/-- A SAVE begins: a freeze without the reset of cores or the stops of R412. -/
def State.beginSave (s : State) (item : Bool) : State :=
  (s.beginImage (s.f .PLV_AREA_NEXT 0) true item).freezeStops

/-- A freeze is released: what the endpoint held back leaves. -/
def State.thaw (s : State) : State :=
  let l := s.plv.tlps
  let s := (s.setB .PLV_STATUS_FROZEN 0 false).updPlv (fun p => { p with tlps := [] })
  { s with out := s.out ++ l }

/-! ### Vault operations (R419, R421-R423) -/

/-- ARM: area NEXT is erased, the newest image is consumed, and ARMED is set. With an erase failure (which block failed is a free value) the
area is erased but for that block, as long as it stays usable. Answers code and DETAIL. -/
def State.vaultArm (s : State) (eraseGood : Bool) : Nat × Nat × State :=
  let a0 := s.f .PLV_AREA_NEXT 0
  let s := if eraseGood then s else
    let (v, s) := s.free
    s.nandFail (v % s.dies) (a0 * s.areaBlks + v / s.dies % s.areaBlks)
  let newest := s.newestImg
  match s.nextArea newest with
  | none => (12, 0x43, s)
  | some a =>
    let s := s.updPlv (fun p =>
      let im := Tbl.set p.img {} a {}
      { p with img := match newest with
          | some b => Tbl.upd im {} b (fun x => { x with consumed := true })
          | none => im })
    let s := (s.showImg newest).setB .PLV_STATUS_ARMED 0 true
    (0, 0, (s.forceShow).event 0x3046 a 0 0)

/-- SCAN. -/
def State.vaultScan (s : State) : State := (s.updPlv (fun p => { p with scanned := true })).showImg s.newestImg

/-- One page goes back through Bramble; a page that cannot be read is wholly poisoned, with event 0x3044. -/
def State.restorePage (s : State) (x : Img) (bad p : Nat) : State :=
  match Tbl.get x.page none p with
  | none => s
  | some v =>
    let a := s.protAddr (16384 * p)
    let (d, z) := if bit bad p then (List.replicate 16384 0, 2 ^ 256 - 1) else (v.data, v.poison)
    let s := s.wr a d
    let s := if s.b .PLV_STATUS_FROZEN 0 || !s.owner then s
      else (List.range 256).foldl (fun u g => if bit z g then u.setPoison (a / 64 + g) true else u) s
    if bit bad p then s.event 0x3044 p 0 0 else s

/-- The Ledger as a loss leaves it (R96): ACCEPTED entries are aborted with 0/0x05, BUFFERED ones completed with POSTED clear;
LDG_HINFO shows the newest entry (R101). -/
def State.ledgerRestore (s : State) : State :=
  let s := (List.range 16384).foldl (fun u i =>
    let e := u.ledgerAt i
    match leAt e 15 1 with
    | 1 => u.ledgerPut i (patch (patch e 15 (leBytes 1 5)) 6 (leBytes 2 5)) none
    | 2 => u.ledgerPut i (patch (patch e 15 (leBytes 1 3)) 30 (leBytes 1 (leAt e 30 1 &&& 0xFD))) none
    | _ => u) s
  let newest := (List.range 16384).foldl (fun m i =>
    let e := s.ledgerAt i
    if leAt e 15 1 ≠ 0 ∧ leAt e 31 1 = (crc8 (e.take 31)) then max m (leAt e 0 6) else m) 0
  [0, 1].foldl (fun u p => u.setFs p [(.LDG_HSTAT_RESTORED, 1), (.LDG_HINFO_LO_NEWEST_LO, newest),
    (.LDG_HINFO_HI_NEWEST_HI, newest / 2 ^ 32)]) (s.setNonfinal 0)

/-- Every block of the restored index is verified (R135): one that fails its check is poisoned, with event 0x3009. -/
def State.restoreChecks (s : State) : State :=
  s.ciu.bidx.foldl (fun u e =>
    let a := u.slotAddr (e.2 - 1)
    let d := u.rd a 4160
    if checkSlot (u.nsp (e.1 / 2 ^ 36)).fmt (e.1 % 2 ^ 36) d || u.bad a 4160 then u
    else (u.wrPoison a d).event 0x3009 0 0 0) s

/-- RESTORE: answers code and DETAIL. Which pages fail their codes is a free value (log entry 42). -/
def State.vaultRestore (s : State) (ledger : Bool) : Nat × Nat × State :=
  let newest := s.newestImg
  let s := s.vaultScan
  let fail := fun (s : State) (d : Nat) => (12, d, s.event 0x3043 d 0 0)
  match newest with
  | none => fail s 0x40
  | some a =>
    let x := Tbl.get s.plv.img {} a
    if x.consumed then fail s 0x40
    else if x.pages ≠ s.imgPages then fail s 0x42
    else if !x.complete then fail s 0x41
    else
      let (bad, s) := s.free
      let s := (List.range x.pages).foldl (fun u p => u.restorePage x bad p) s
      let n := ((List.range x.pages).filter (fun p => bit bad p)).length
      let s := (s.updCiu (fun c => { c with bidx := x.bidx, alloc := slotsOf x.bidx })).setF .CIU_BUF_STAT_USED 0 (slotsOf x.bidx).length
      let s := (s.restoreChecks.updBtl (fun t => { t with restored := some x.degraded })).setF .PLV_RES_UNCORR 0 (min 0xFFFF n)
      let s := if ledger then s.ledgerRestore.event 0x2006 0 0 0 else s
      let s := s.event 0x3042 x.seq x.kind x.pages
      if n = 0 then (0, 0, s) else (12, 0x44, s)

/-- The refusals of R419, with their DETAIL. -/
def State.vaultRefusal (s : State) (w : List Nat) : Option Nat :=
  let armed := s.b .PLV_STATUS_ARMED 0
  if !s.b .PLV_STATUS_READY 0 then some 0x48
  else if dOpc w = 0x40 ∧ (!s.b .PLV_STATUS_ENERGY_OK 0 ∨ armed ∨ !s.plv.scanned) then some 0x49
  else if (dOpc w = 0x42 ∨ dOpc w = 0x43) ∧ armed then some 0x4A
  else if dw w 8 / (if dOpc w = 0x42 then 2 else 1) ≠ 0 ∨ (w.drop 9).any (· != 0) then some 0x4B else none

/-- The operation of an item; a SAVE that has begun answers nothing until its image ends. A SAVE with no erased area finds no usable one (log
entry 43). -/
def State.vaultOp (s : State) (w : List Nat) (eraseGood : Bool) : Option (Nat × Nat) × State :=
  match dOpc w with
  | 0x40 => let r := s.vaultArm eraseGood
    (some (r.1, r.2.1), r.2.2)
  | 0x41 => if s.b .PLV_STATUS_ARMED 0 then (none, s.beginSave true) else (some (12, 0x43), s)
  | 0x42 => let r := s.vaultRestore (bit (dw w 8) 0)
    (some (r.1, r.2.1), r.2.2)
  | _ => (some (0, 0), s.vaultScan)

/-- A vault item that CS41 holds. -/
def State.vaultItem (s : State) (opc : Nat) (eraseGood : Bool) : State :=
  s.inBlk .plv 0 (fun s => s.onItem 14 [opc] (fun s n w =>
    if s.plv.dump.isSome then s
    else if (s.cs n).abortReq ∧ (opc = 0x40 ∨ opc = 0x43) then s.post n 1 0 0
    else match s.vaultRefusal w with
      | some d => s.post n 2 d 0
      | none => match s.vaultOp w eraseGood with
        | (some r, s) => s.post n r.1 r.2 0
        | (none, s) => s))

/-- ARM. -/
def execArm (eraseGood : Bool) (s : State) : Outcome := .next (s.vaultItem 0x40 eraseGood)
/-- SAVE. -/
def execSave (s : State) : Outcome := .next (s.vaultItem 0x41 true)
/-- RESTORE. -/
def execRestore (s : State) : Outcome := .next (s.vaultItem 0x42 true)
/-- SCAN. -/
def execScan (s : State) : Outcome := .next (s.vaultItem 0x43 true)

/-- VAULT (R183, R419): the NAND operation of the item in hand, with VAULT_DONE and VAULT_ERR; the microcode posts its end. -/
def execVault (n : Cs) (s : State) : Outcome :=
  .next (s.onSeq n 5 unitCmd 3 anyWord (fun s =>
    match (s.cs n).item with
    | some it =>
      if dOpc it.words / 16 ≠ 4 ∨ s.plv.dump.isSome then s
      else if (s.vaultRefusal it.words).isSome then (s.setDone n 0x43 true).setDone n 0x44 true
      else match s.vaultOp it.words true with
      | (some r, s) => (s.setDone n 0x43 true).setDone n 0x44 (r.1 != 0)
      | (none, s) => (s.setDone n 0x43 false).setDone n 0x44 false
    | none => s))

/-! ### Enable (R426) -/

/-- The checks of R426. -/
def State.plvOk (s : State) (diesGood : Bool) : Bool :=
  let mib := s.f .PLV_PROT_SIZE_PROT_MIB 0
  let d := s.f .PLV_CFG_DIES 0
  diesGood && decide (1 ≤ d) && decide (d ≤ 8) && s.f .PLV_NAND_MODE 0 != 3 && decide (64 ≤ mib) && decide (mib ≤ 512)
    && decide (mib ≤ 64 * d) && s.inDram s.protBase s.protSize && s.inDram s.idxBase (2 ^ 20)
    && (decide (s.protBase + s.protSize ≤ s.idxBase) || decide (s.idxBase + 2 ^ 20 ≤ s.protBase))
    && decide (2 ≤ s.usables.length)

/-- PLV_EN: what the dies' parameter pages say fills PLV_GEOM. -/
def execPlvEn (v diesGood : Bool) (ppb blocks : BitVec 16) (s : State) : Outcome :=
  .next (s.onBlk .plv 0 (fun s =>
    if s.b .PLV_CTRL_EN 0 = v then s
    else if v then
      let s := s.setFs 0 [(.PLV_GEOM_PPB, ppb.toNat), (.PLV_GEOM_BLOCKS, blocks.toNat)]
      if !s.plvOk diesGood then s.cfgErrAt .plv .PLV_CTRL_EN 0
      else
        let s := s.setFs 0 [(.PLV_CTRL_EN, 1), (.PLV_STATUS_READY, 1), (.PLV_CNT_USABLE, s.usables.length), (.PLV_CNT_PFAIL, 0)]
        let s := (List.range s.areas).foldl (fun u a => if u.usable a then u else u.event 0x3047 a 0 0) s
        (s.updPlv (fun p => { p with scanned := false })).speedFlags
    else if s.b .PLV_STATUS_ARMED 0 ∨ (s.seqsOf 14).any (fun n => s.b .ENG_CS_STAT_HELD n) then s.cfgErrAt .plv .PLV_CTRL_EN 0
    else s.setFs 0 [(.PLV_CTRL_EN, 0), (.PLV_STATUS_READY, 0)]))

/-! ### A loss (R109, R292, R410-R413, R420, R429, R444) -/

/-- The domains that a freeze stops (R412). -/
def shedDoms : List Nat := [3, 5, 6, 7, 8, 9, 10, 15, 12]

/-- HARVEST, above HARV_FLOOR (R292). -/
def State.harvestStart (s : State) : State :=
  if s.dom 13 ∧ s.spn ≠ 0 ∧ 10 * s.f .MPD_HARV_HARV_FLOOR 0 < s.f .MPD_SPN_STAT_RPM 0 then
    (s.setSpn 9).updMpd (fun x => { x with harvest := true, moving := 0 })
  else s

/-- The freeze cycle of a loss: cores held, the stops of R411, the image, then R412's domains. -/
def State.lossFreeze (s : State) : State :=
  let s := (s.event 0x3040 0 0 0).beginImage (s.f .PLV_AREA_NEXT 0) false false
  let s := (List.range 8).foldl (fun u n => (u.setCore n {}).setB .ENG_IQ_CTRL_RUN n false) s
  s.freezeStops

/-- Every actuator retracts; a paired owner whose partner is alive waits 2 µs first. -/
def State.lossRetract (s : State) : State :=
  if s.paired && (List.range 5).any s.owns && s.mir.aliveIn then
    (s.setB .MIR_CTRL_ALIVE 0 false).updSup (fun x => { x with retractWait := true })
  else s.retractAll

/-- A loss is detected. One during a SAVE takes no new freeze: the SAVE goes on as the dump. A standby does nothing more (R444). -/
def State.powerLoss (s : State) : State :=
  if s.plv.lost ∨ s.sup.railsOff then s else
  let s := s.updPlv (fun p => { p with lost := true })
  let s := if s.b .BUF_PPR_BUSY 0 then s.repairEnd 3 else s
  if s.paired && !s.owner then s else
  let frozen := s.plv.dump.isSome || s.b .PLV_STATUS_IN_FORCE 0
  let s := if s.plv.dump.isSome then (List.range 8).foldl (fun u n => (u.setCore n {}).setB .ENG_IQ_CTRL_RUN n false) s
    else if s.b .PLV_STATUS_IN_FORCE 0 then s.lossFreeze else s
  let s := s.lossRetract.harvestStart
  if frozen then shedDoms.foldl (fun u d => u.domStop d) s else s

/-- POWER_LOSS_DETECT. -/
def execPowerLossDetect (s : State) : Outcome := .next s.powerLoss

/-- WAKE (R313): link, PERST, SMBus, button, timer, thermal, power loss; the last leads straight into the loss. -/
def execWake (src : Fin 7) (s : State) : Outcome :=
  .next (
    let on := s.f .SUP_DSTATE_NOW 0 == 2 && bit (s.f .SUP_WAKE_EN 0) src
    let s := s.wake src
    if on && src.val == 6 then s.powerLoss else s)

/-- ENERGY_OK_FALL (R409): CS41 performs a SAVE at once. -/
def execEnergyOkFall (s : State) : Outcome :=
  .next (s.inBlk .plv 0 (fun s =>
    if s.b .PLV_STATUS_ARMED 0 ∧ !s.b .PLV_STATUS_ENERGY_OK 0 ∧ s.plv.dump.isNone ∧ !s.plv.lost then s.beginSave false else s))

/-! ### Pages (R416-R418, R420) -/

/-- The first page of the next good block of a die after block b: in its area, else in the usable areas that follow. An image that stood in an
area so entered is gone (log entry 44). -/
def State.nextBlock (s : State) (d b : Nat) : State × Nat :=
  let ab := s.areaBlks
  let a := b / ab
  match firstFrom (ab - 1 - b % ab) (b + 1) (fun k => !s.badBlk d k) with
  | some k => (s, k * s.ppb)
  | none =>
    match ((List.range (s.areas - 1)).map (fun i => (a + 1 + i) % s.areas)).find? (fun x => s.usable x) with
    | some x => (s.updPlv (fun p => { p with img := Tbl.set p.img {} x {} }),
        (firstFrom ab (x * ab) (fun k => !s.badBlk d k)).getD 0 * s.ppb)
    | none => (s, (b + 1) * s.ppb)

/-- The data of an image page, with the poison of its granules. -/
def State.imagePage (s : State) (p : Nat) : VPage × State :=
  let a := s.protAddr (16384 * p)
  let (d, s) := s.fetch .link a 16384
  ({ data := d, poison := (List.range 256).foldl (fun z g => if Tbl.get s.buf.poison false (a / 64 + g) then z + 2 ^ g else z) 0 }, s)

/-- The 64 bytes of metadata of an image page (R416). -/
def VPage.meta (v : VPage) (x : Img) (p : Nat) : List Byte :=
  let b := leBytes 8 x.seq ++ leBytes 4 p ++ leBytes 4 x.pages ++ leBytes 4 x.kind ++ leBytes 32 v.poison ++ leBytes 4 (crc32c v.data)
    ++ leBytes 4 0
  b ++ leBytes 4 (crc32c b)

/-- The next page of an image goes out to a place of a die, with its metadata, and is present. -/
def State.pageOut (s : State) (x : Dump) (d pos : Nat) : State :=
  let r := s.imagePage x.next
  (r.2.send (.vaultPage d pos (r.1.data ++ r.1.meta (Tbl.get r.2.plv.img {} x.area) x.next))).updPlv
    (fun p => { p with img := Tbl.upd p.img {} x.area (fun i => { i with page := Tbl.set i.page none x.next (some r.1) }) })

/-- VAULT_PAGE_PROGRAMMED: the next page of the image under way, or a failure that sends the page to the next good block. -/
def execVaultPageProgrammed (good : Bool) (s : State) : Outcome :=
  .next (
    match s.plv.dump with
    | none => s
    | some x =>
      if s.imgPages ≤ x.next then s else
      let d := x.next % s.dies
      let at_ := Tbl.get x.pos 0 d
      let u := if good then s.pageOut x d at_ else s.nandFail d (at_ / s.ppb)
      let r := if good ∧ (at_ + 1) % u.ppb ≠ 0 then (u, at_ + 1) else u.nextBlock d (at_ / s.ppb)
      r.1.updPlv (fun p => { p with
        dump := p.dump.map (fun y => { y with next := if good then x.next + 1 else x.next, pos := Tbl.set y.pos 0 d r.2 }) }))

/-- DUMP_END (R414, R419, R420): every page has been programmed. A SAVE with the input present releases its freeze. -/
def execDumpEnd (s : State) : Outcome :=
  .next (
    match s.plv.dump with
    | none => s
    | some x =>
      if x.next < s.imgPages then s else
      let s := s.updPlv (fun p => { p with dump := none })
      if s.plv.lost then s
      else
        let s := ((s.setB .PLV_STATUS_ARMED 0 false).thaw).showImg (some x.area)
        let s := (s.forceShow).event 0x3041 s.imgSeq 0 0
        if x.item then
          match s.heldBy 14 [0x41] with
          | some (n, _) => (s.post n 0 0 0)
          | none => s
        else s)

/-- RAILS_OFF (R414): the dump and every retract have ended after a loss; only VAON stays, until VIN brings a POR. -/
def execRailsOff (s : State) : Outcome :=
  .next (
    if !s.plv.lost ∨ s.plv.dump.isSome ∨ s.sup.retractWait ∨ (List.range 4).any (fun a => s.retRes a == 3) then s
    else
      let s := if s.spn = 9 then s.coastFrom 0 else s
      ((s.wipe false false false).setF .SUP_DOM_ON_ON 0 1).updSup (fun x => { x with railsOff := true }))

end Sys2Proof.Machine
end

