-- ==== Sys2Proof/Machine/Sec.lean ====
section
/-!
DEFINITION. Machine/Sec.lean: images and their verification, the A/B slots, the Boot ROM, the boot record, SPDM, media keys and
the commands that end them (R323-R344).
-/
namespace Sys2Proof.Machine

def State.updSec (s : State) (g : Sec → Sec) : State := { s with sec := g s.sec }

/-- SHA-384 as 48 bytes. -/
def h48 (l : List Byte) : List Byte := (Config.sha384 l ++ List.replicate 48 0).take 48

/-! ### Containers (R324, R325) -/

def cClass (c : List Byte) : Nat := leAt c 6 1
def cSvn (c : List Byte) : Nat := leAt c 7 1
def cLen (c : List Byte) : Nat := leAt c 8 4
def cKey (c : List Byte) : Nat := leAt c 12 4
def cLoad (c : List Byte) : Nat := leAt c 16 8
def cEntry (c : List Byte) : Nat := leAt c 24 8
def cVer (c : List Byte) : Nat := leAt c 32 4
def cPayload (c : List Byte) : List Byte := (c.drop 8192).take (cLen c)
/-- The signed digest (R324). -/
def cDigest (c : List Byte) : List Byte := h48 (c.take 2848)
def cKeyHash (c : List Byte) : List Byte := h48 ((c.drop 128).take 2720)

def zeroAt (c : List Byte) (o n : Nat) : Bool := ((c.drop o).take n).all (· == 0)

/-- FORMAT holds for a container of a class within an allotment (R324, R325, R348). -/
def formatOk (c : List Byte) (cls allot : Nat) : Bool :=
  leAt c 0 4 == 0x534C4C31 && leAt c 4 2 == 1 && cClass c == cls && decide (cSvn c ≤ 63) && cLen c % 64 == 0
    && decide (cls ≤ 9) && decide (cLen c ≤ 2 ^ 22) && decide (8192 + cLen c ≤ allot) && decide (cKey c ≤ 3)
    && (cls == 0 || (cLoad c == 0 && cEntry c == 0)) && zeroAt c 36 4 && zeroAt c 88 40 && zeroAt c 225 31 && zeroAt c 7571 621

/-- The checks of R325 in order: the result code. hdrBad and payBad say that an uncorrectable unit stands in the header or the payload
(R349). -/
def State.verify (s : State) (c : List Byte) (cls allot : Nat) (hdrBad payBad : Bool) : Nat :=
  let d := cDigest c
  if hdrBad || !formatOk c cls allot then 1
  else if bit (s.f .SEC_KEYREV_REVOKED 0) (cKey c) then 2
  else if cKeyHash c ≠ (Config.fuseKeyHash (cKey c) ++ List.replicate 48 0).take 48 then 3
  else if !Config.ecdsaOk d ((c.drop 128).take 97) ((c.drop 2848).take 96) then 4
  else if !Config.mldsaOk d ((c.drop 256).take 2592) ((c.drop 2944).take 4627) then 5
  else if payBad || h48 (cPayload c) != (c.drop 40).take 48 then 6
  else if cls ≤ 8 ∧ cSvn c < s.f .SEC_ARB_COUNT cls then 7
  else 0

/-- Verification of bytes that hold no unreadable unit, with no allotment but R324's. -/
def State.verifyBytes (s : State) (c : List Byte) (cls : Nat) : Nat := s.verify c cls (8192 + 2 ^ 22) false false

/-- Offset and allotment of a class in a slot (R347, R348). -/
def slotBase (slot : Nat) : Nat := if slot = 0 then 0x300000 else 0x980000
def classOff (cls : Nat) : Nat :=
  if cls = 0 then 0 else if cls ≤ 6 then 0x410000 + (cls - 1) * 0x22000 else if cls = 7 then 0x4DC000 else 0x4EA000
def classAllot (cls : Nat) : Nat :=
  if cls = 0 then 4160 * 1024 else if cls ≤ 6 then 136 * 1024 else if cls = 7 then 56 * 1024 else 1624 * 1024

/-- An uncorrectable unit lies in a range of the array. -/
def State.eflBad (s : State) (o n : Nat) : Bool :=
  s.efl.unitErr.any (fun e => e.2 == 2 && decide (o < 16 * e.1 + 16) && decide (16 * e.1 < o + n))

/-- The container of a class in a slot, none where its first unit is erased (R348). -/
def State.slotImage (s : State) (slot cls : Nat) : Option (List Byte) :=
  let o := slotBase slot + classOff cls
  if s.eflErased o 16 then none
  else some (s.eflRd o (8192 + min (2 ^ 22) (leAt (s.eflRd o 16) 8 4)))

/-- The result of R325 for a class of a slot; an absent class has none to fail, but class 0 must be there. -/
def State.slotResult (s : State) (slot cls : Nat) : Nat :=
  let o := slotBase slot + classOff cls
  match s.slotImage slot cls with
  | none => if cls = 0 then 1 else 0
  | some c => s.verify c cls (classAllot cls) (s.eflBad o 8192) (s.eflBad (o + 8192) (cLen c))

/-- The first class of a slot that fails, with its result (R329). -/
def State.slotFails (s : State) (slot : Nat) : Option (Nat × Nat) :=
  (List.range 9).findSome? (fun c => if s.slotResult slot c = 0 then none else some (c, s.slotResult slot c))

/-- What SEC_VFY reads of its container, from memory or the eFlash window (R330), and whether it can be used. -/
def State.vfyRead (s : State) (a n : Nat) : List Byte × Bool × State :=
  if 0x20000000 ≤ a ∧ a + n ≤ 0x21000000 then (s.eflRd (a - 0x20000000) n, s.eflBad (a - 0x20000000) n, s.eflChecks (a - 0x20000000) n)
  else if s.refused a n then (List.replicate n 0, true, s)
  else
    let (d, s) := s.fetch .link a n
    (d, s.bad a n, s)

/-- CONTAINER_VERIFY: SEC_VFY_CTRL with GO. -/
def execContainerVerify (cls : BitVec 4) (s : State) : Outcome :=
  .next (s.onBlk .sec 0 (fun s =>
    if s.b .SEC_VFY_CTRL_BUSY 0 then s.cfgErrAt .sec .SEC_VFY_CTRL_GO 0
    else (s.setFs 0 [(.SEC_VFY_CTRL_CLASS, cls.toNat), (.SEC_VFY_CTRL_BUSY, 1), (.SEC_VFY_CTRL_DONE, 0)]).latch
      [.SEC_VFY_CTRL_CLASS, .SEC_VFY_LO_BASE_LO, .SEC_VFY_HI_BASE_HI]))

/-- VERIFY_END: RESULT, DONE and VFY_EV. -/
def execVerifyEnd (s : State) : Outcome :=
  .next (
    if !s.b .SEC_VFY_CTRL_BUSY 0 then s else
    let a := s.opnd .SEC_VFY_LO_BASE_LO * 64 + s.opnd .SEC_VFY_HI_BASE_HI * 2 ^ 32
    let x := s.vfyRead a 8192
    let y := x.2.2.vfyRead (a + 8192) (min (2 ^ 22) (leAt x.1 8 4))
    let s := y.2.2
    let r := s.verify (x.1 ++ y.1) (s.opnd .SEC_VFY_CTRL_CLASS) (8192 + 2 ^ 22) x.2.1 y.2.1
    s.setFs 0 [(.SEC_VFY_CTRL_RESULT, r), (.SEC_VFY_CTRL_DONE, 1), (.SEC_VFY_CTRL_BUSY, 0), (.SEC_STATUS_VFY_EV, 1)])

/-! ### Counters, key slots, the lock (R326, R327, R334) -/

/-- ARB_ADVANCE: the fuses begin to burn, or the advance is refused. -/
def execArbAdvance (cls : BitVec 4) (svn : BitVec 6) (s : State) : Outcome :=
  .next (s.onBlk .sec 0 (fun s =>
    if s.b .SEC_ARB_ADV_BUSY 0 then s.cfgErrAt .sec .SEC_ARB_ADV_GO 0
    else
      let c := cls.toNat
      let s := s.setFs 0 [(.SEC_ARB_ADV_CLASS, c), (.SEC_ARB_ADV_SVN, svn.toNat), (.SEC_ARB_ADV_DONE, 0), (.SEC_ARB_ADV_REFUSED, 0)]
      if c ≤ 8 ∧ s.f .SEC_ARB_COUNT c < svn.toNat ∧ svn.toNat ≤ s.f .SEC_ARB_BOOTED c then (s.setB .SEC_ARB_ADV_BUSY 0 true).latch [.SEC_ARB_ADV_CLASS, .SEC_ARB_ADV_SVN]
      else s.setFs 0 [(.SEC_ARB_ADV_REFUSED, 1), (.SEC_ARB_ADV_DONE, 1)]))

/-- ARB_ADVANCE_END. -/
def execArbAdvanceEnd (s : State) : Outcome :=
  .next (
    if !s.b .SEC_ARB_ADV_BUSY 0 then s else
    let c := s.opnd .SEC_ARB_ADV_CLASS
    let v := s.opnd .SEC_ARB_ADV_SVN
    ((s.setF .SEC_ARB_COUNT c v).setFs 0 [(.SEC_ARB_ADV_BUSY, 0), (.SEC_ARB_ADV_DONE, 1)]).event 0xB007 0 0 0)

/-- KEY_REVOKE (R327). -/
def execKeyRevoke (slot : Fin 4) (s : State) : Outcome :=
  .next (s.onBlk .sec 0 (fun s =>
    let s := s.setF .SEC_KEYREV_SLOT 0 slot
    let r := s.f .SEC_KEYREV_REVOKED 0
    if bit r slot then s
    else if s.f .SEC_BOOT_KEY 0 = slot ∨ setBit r slot true = 15 then s.cfgErrAt .sec .SEC_KEYREV_GO 0
    else (s.setF .SEC_KEYREV_REVOKED 0 (setBit r slot true)).event 0xB008 0 0 0))

/-- SEC_LOCK (R334). -/
def execSecLock (s : State) : Outcome := .next (s.onBlk .sec 0 (fun s => s.setB .SEC_LOCK_LOCK 0 true))

/-! ### Media keys (R341, R344) -/

/-- LOADED of a namespace index. -/
def State.keyLoaded (s : State) (i : Nat) (v : Bool) : State :=
  if i < 32 then s.setF .SEC_KEY_LD_LO_LOADED_LO 0 (setBit (s.f .SEC_KEY_LD_LO_LOADED_LO 0) i v)
  else s.setF .SEC_KEY_LD_HI_LOADED_HI 0 (setBit (s.f .SEC_KEY_LD_HI_LOADED_HI 0) (i - 32) v)

def State.setKey (s : State) (i k : Nat) : State :=
  (s.updSec (fun x => { x with key := Tbl.set x.key 0 i k })).keyLoaded i (k != 0)

/-- The 80 bytes in SEC_WRAP, and writing them. -/
def State.wrapBytes (s : State) : List Byte := ((List.range 20).map (fun k => leBytes 4 (s.f .SEC_WRAP_WRAP k))).flatten
def State.setWrap (s : State) (d : List Byte) : State :=
  (List.range 20).foldl (fun u k => u.setF .SEC_WRAP_WRAP k (leAt d (4 * k) 4)) s

/-- GEN: a new key, generation + 1, wrapped into SEC_WRAP; event 0xB00B (R341, R342). -/
def State.keyGen (s : State) (i : Nat) : State :=
  let (v, s) := s.free
  let k := v % 2 ^ 512
  let g := (Tbl.get s.sec.gen 0 i + 1) % 2 ^ 32
  let s := (s.setKey i (k + 1)).updSec (fun x => { x with gen := Tbl.set x.gen 0 i g })
  (s.setWrap (Config.wrapKey k i g)).event 0xB00B 0 0 0

/-- CLEAR (R341, R342). -/
def State.keyClear (s : State) (i : Nat) : State := (s.setKey i 0).event 0xB00B 0 0 0

/-- A key operation of SEC_KEY_CTRL: its effect, with the RESULT that DONE will show. -/
def State.keyOp (s : State) (i op : Nat) (g : State → Nat × State) : State :=
  s.onBlk .sec 0 (fun s =>
    if s.b .SEC_KEY_CTRL_BUSY 0 then s.cfgErrAt .sec .SEC_KEY_CTRL_GO 0
    else
      let s := s.setFs 0 [(.SEC_KEY_CTRL_NSIDX, i), (.SEC_KEY_CTRL_OP, op), (.SEC_KEY_CTRL_BUSY, 1), (.SEC_KEY_CTRL_DONE, 0)]
      let (r, s) := g s
      s.setF .SEC_KEY_CTRL_RESULT 0 r)

/-- GEN. -/
def execGen (ns : Fin 64) (s : State) : Outcome := .next (s.keyOp ns 1 (fun s => (0, s.keyGen ns)))

/-- KEY_LOAD (R341, R344): DEBUG_LOCKED while a debug level is granted. -/
def execKeyLoad (ns : Fin 64) (s : State) : Outcome :=
  .next (s.keyOp ns 2 (fun s =>
    if s.f .SEC_BOOT_DBG_LV 0 ≠ 0 then (3, s)
    else match Config.unwrapKey s.wrapBytes with
      | none => (1, s.event 0xB00C 0 0 0)
      | some (k, i, g) =>
        if i ≠ ns.val then (2, s)
        else (0, (s.setKey ns (k % 2 ^ 512 + 1)).updSec (fun x => { x with gen := Tbl.set x.gen 0 ns.val (g % 2 ^ 32) }))))

/-- CLEAR. -/
def execClear (ns : Fin 64) (s : State) : Outcome := .next (s.keyOp ns 3 (fun s => (0, s.keyClear ns)))

/-- KEY_OPERATION_END. -/
def execKeyOperationEnd (s : State) : Outcome :=
  .next (if !s.b .SEC_KEY_CTRL_BUSY 0 then s
         else s.setFs 0 [(.SEC_KEY_CTRL_BUSY, 0), (.SEC_KEY_CTRL_DONE, 1), (.SEC_STATUS_KEY_EV, 1)])

/-! ### Commands that end a key (R342) -/

/-- The eFlash offset of a row of the wrapped-key pool (R347). -/
def poolRow (r : Nat) : Nat := 0x30000 + 2048 * r

/-- Firmware ends a namespace's key: CLEAR, GEN, the new wrapped key written, the old row erased. -/
def State.rekey (s : State) (i : Nat) : State :=
  let s := (s.keyClear i).keyGen i
  let d := s.wrapBytes
  let old := Tbl.get s.sec.row 0 i
  match firstFrom 128 0 (fun r => s.eflErased (poolRow r) 2048) with
  | none => s
  | some r =>
    let s := (s.eflUnits (poolRow r / 16) 5 d).updSec (fun x => { x with row := Tbl.set x.row 0 i (r + 1) })
    if old = 0 then s else s.eraseWhole 2 (poolRow (old - 1))

/-- The blocks of a namespace that the buffer holds go; a slot a hit still reads goes at its end (R87). -/
def State.dropNs (s : State) (i : Nat) : State :=
  let l := (s.ciu.bidx.filter (fun e => e.1 / 2 ^ 36 == i)).map (fun e => e.2 - 1)
  let s := s.updCiu (fun c => { c with bidx := c.bidx.filter (fun e => e.1 / 2 ^ 36 != i), zone := c.zone.filter (fun e => e.1 / 2 ^ 20 != i) })
  l.foldl (fun u n => if u.slotRead n then u.updCiu (fun c => { c with deferred := c.deferred ++ [n] }) else u.freeSlot n) s

/-- NAMESPACE_DELETE (R159, R342). -/
def execNamespaceDelete (t : Slot) (ns : Fin 64) (s : State) : Outcome :=
  .next (s.onCmd t true 0x0D (fun _ =>
    let n := s.nsp ns
    if !n.live then s.finish t 0 0x0B 0
    else
      let need := s.bandsFor n.blocks n.prot
      let s := ((s.rekey ns).dropNs ns).setNs ns {}
      let s := s.updCiu (fun c => { c with resv := Tbl.set c.resv {} ns.val {} })
      (s.commitBands (s.f .BTL_COMMITTED_COUNT 0 - need)).finish t 0 0 0))

/-- FORMAT_NVM: a new metadata format, nothing stored, and with SES 010b a new key. -/
def execFormatNvm (t : Slot) (ns : Fin 64) (msize : Fin 3) (crypto : Bool) (s : State) : Outcome :=
  .next (s.onCmd t true 0x80 (fun _ =>
    let n := s.nsp ns
    if !n.live then s.finish t 0 0x0B 0
    else
      let s := if crypto then s.rekey ns else s
      ((s.dropNs ns).setNs ns { n with fmt := msize }).finish t 0 0 0))

def State.liveNs (s : State) : List Nat := (List.range 64).filter (fun i => (s.nsp i).live)

/-- SANITIZE_CRYPTO_ERASE: every namespace's key ends. -/
def execSanitizeCryptoErase (t : Slot) (s : State) : Outcome :=
  .next (s.onCmd t true 0x84 (fun _ => (s.liveNs.foldl (fun u i => (u.rekey i).dropNs i) s).finish t 0 0 0))

/-- SANITIZE_BLOCK_ERASE. -/
def execSanitizeBlockErase (t : Slot) (s : State) : Outcome :=
  .next (s.onCmd t true 0x84 (fun _ => (s.liveNs.foldl (fun u i => u.dropNs i) s).finish t 0 0 0))

/-! ### The boot-control record (R328) -/

/-- SEQ, ACTIVE, TRIAL, TRIES of a copy with a correct CRC. -/
def State.bootCopy (s : State) (k : Nat) : Option (Nat × Nat × Nat × Nat) :=
  let b := s.eflRd (0x1000 + 2048 * k) 64
  if leAt b 60 4 = crc32c (b.take 60) then some (leAt b 0 4, leAt b 4 1 % 2, leAt b 5 1, leAt b 6 1) else none

/-- The copy in use and what it says; with no good copy, slot A is confirmed and nothing is on trial (log entry 38). -/
def State.bootControl (s : State) : Nat × Nat × Nat × Nat × Nat :=
  match s.bootCopy 0, s.bootCopy 1 with
  | some a, some b => if a.1 < b.1 then (1, b) else (0, a)
  | some a, none => (0, a)
  | none, some b => (1, b)
  | none, none => (1, 0, 0, 0, 0)

/-- A rewrite replaces the other copy, with SEQ + 1. -/
def State.putBootControl (s : State) (active trial tries : Nat) : State :=
  let (k, seq, _) := s.bootControl
  let o := 0x1000 + 2048 * (1 - k)
  let b := leBytes 4 (seq + 1) ++ leBytes 1 active ++ leBytes 1 trial ++ leBytes 1 tries ++ leBytes 53 0
  (s.eraseWhole 2 o).eflUnits (o / 16) 4 (b ++ leBytes 4 (crc32c b))

/-! ### Firmware update (R330, R331) -/

/-- FIRMWARE_IMAGE_DOWNLOAD: part of a class's container is staged. -/
def execFirmwareImageDownload (t : Slot) (cls : Fin 9) (off : Nat) (data : List Byte) (s : State) : Outcome :=
  .next (s.onCmd t true 0x11 (fun _ =>
    let l := Tbl.get s.sec.stage [] cls.val
    let l := patch (l ++ List.replicate (off - l.length) 0) off data
    (s.updSec (fun x => { x with stage := Tbl.set x.stage [] cls.val l })).finish t 0 0 0))

/-- A block of the array is write-protected (R355). -/
def State.eflWp (s : State) (b : Nat) : Bool := bit (s.f .EFL_WP_WP (b / 32)) (b % 32)

/-- The staged set goes to a slot. -/
def State.writeSlot (s : State) (slot : Nat) : State :=
  let s := (List.range 104).foldl (fun u k => u.eraseWhole 3 (slotBase slot + 65536 * k)) s
  let s := s.sec.stage.foldl (fun u e => u.eflUnits ((slotBase slot + classOff e.1) / 16) (e.2.length / 16 + 1) e.2) s
  s.updSec (fun x => { x with stage := [] })

/-- A commit that writes: the status of a refusal, or what follows a good write. -/
def State.commitWrite (s : State) (t slot : Nat) (g : State → Nat → State) : State :=
  s.onCmd t true 0x10 (fun _ =>
    let (_, _, active, _, _) := s.bootControl
    if active = slot ∨ s.eflWp (slotBase slot / 65536) then s.finish t 1 0x06 0
    else if s.sec.stage.isEmpty ∨ s.sec.stage.any (fun e => s.verify e.2 e.1 (classAllot e.1) false false != 0) then s.finish t 1 0x07 0
    else g (s.writeSlot slot) active)

/-- A trial of a slot begins only when what was written there verifies in place (R331). -/
def State.beginTrial (s : State) (t slot active status : Nat) : State :=
  if (s.slotFails slot).isSome then s.finish t 1 0x07 0 else (s.putBootControl active 1 3).finish t (if status = 0 then 0 else 1) status 0

/-- FIRMWARE_COMMIT_WRITE, action 000b. -/
def execFirmwareCommitWrite (t : Slot) (slotB : Bool) (s : State) : Outcome :=
  .next (s.commitWrite t slotB.toNat (fun s _ => s.finish t 0 0 0))
/-- FIRMWARE_COMMIT_WRITE_TRIAL, action 001b. -/
def execFirmwareCommitWriteTrial (t : Slot) (slotB : Bool) (s : State) : Outcome :=
  .next (s.commitWrite t slotB.toNat (fun s a => s.beginTrial t slotB.toNat a 0))
/-- FIRMWARE_COMMIT_RESET_REQUIRED, action 011b. -/
def execFirmwareCommitResetRequired (t : Slot) (slotB : Bool) (s : State) : Outcome :=
  .next (s.commitWrite t slotB.toNat (fun s a => s.beginTrial t slotB.toNat a 0x0B))
/-- FIRMWARE_COMMIT_TRIAL_IN_PLACE, action 010b; the slot already confirmed needs no trial. -/
def execFirmwareCommitTrialInPlace (t : Slot) (slotB : Bool) (s : State) : Outcome :=
  .next (s.onCmd t true 0x10 (fun _ =>
    let (_, _, active, _, _) := s.bootControl
    if (s.slotFails slotB.toNat).isSome then s.finish t 1 0x07 0
    else if active = slotB.toNat then s.finish t 0 0 0
    else (s.putBootControl active 1 3).finish t 0 0 0))

/-! ### Loading (R323, R332) -/

/-- The words of a microcode payload, one after another, as R185 has them: the result, the address that failed, and the state. -/
def State.imageWords (s : State) (cls a : Nat) : Nat → List Byte → Nat × Nat × State
  | 0, _ => (0, 0, s)
  | k + 1, d => if wordOk cls (leAt d 0 18) then (s.setWord cls a (leAt d 0 18)).imageWords cls (a + 1) k (d.drop 32) else (2, a, s)

/-- A microcode payload into its class's store through ENG_CSL (R184, R185, R332): result and LOADED as a load has them. -/
def State.loadImage (s : State) (cls : Nat) (d : List Byte) : State :=
  let s := s.setF .ENG_STATUS_LOADED 0 (setBit (s.f .ENG_STATUS_LOADED 0) cls false)
  let (r, b, s) := s.imageWords cls 0 (min 4096 (d.length / 32)) d
  let s := s.setFs 0 [(.ENG_CSL_STAT_DONE, 1), (.ENG_CSL_STAT_RESULT, r), (.ENG_CSL_STAT_BAD_ADDR, b), (.ENG_STATUS_LOAD_EV, 1)]
  if r = 0 then s.setF .ENG_STATUS_LOADED 0 (setBit (s.f .ENG_STATUS_LOADED 0) cls true) else s.event 0x5004 r b 0

/-- Program words of one engine (R190, R323). -/
def State.loadProg (s : State) (n k : Nat) : Nat → List Byte → State
  | 0, _ => s
  | j + 1, d =>
    let s := s.setQe n { s.qe n with prog := Tbl.set (s.qe n).prog 0 k (leAt d 0 4) }
    (s.sramWritten 0x0C (n * 1024 + k)).loadProg n (k + 1) j (d.drop 4)

/-- What a verified container does by its class (R323). -/
def State.loadClass (s : State) (c : List Byte) : State :=
  let d := cPayload c
  let k := cClass c
  if k = 0 then (if inWork (cLoad c) d.length then s.wrRaw (cLoad c) d else s)
  else if k ≤ 6 then s.loadImage (k - 1) d
  else if k = 7 then
    (List.range 12).foldl (fun u n => u.loadProg n 0 (min 1024 ((d.drop (4096 * n)).length / 4)) (d.drop (4096 * n))) s
  else s

/-! ### The boot record (R335, R336) -/

/-- An entry of 64 bytes. -/
def bootEntry (idx cls svn key ver : Nat) (digest : List Byte) : List Byte :=
  leBytes 1 idx ++ leBytes 1 cls ++ leBytes 1 svn ++ leBytes 1 key ++ leBytes 4 ver ++ leBytes 8 0 ++ (digest ++ List.replicate 48 0).take 48

def State.setEntry (s : State) (i : Nat) (e : List Byte) : State := s.updSec (fun x => { x with entries := Tbl.set x.entries [] i e })
def State.entry (s : State) (i : Nat) : List Byte := (Tbl.get s.sec.entries [] i ++ List.replicate 64 0).take 64
def State.entryDigest (s : State) (i : Nat) : List Byte := (s.entry i).drop 16

/-- Entries 0 and 1 (step 2 of R332). The order of what entry 1 covers is R335's, its coding one byte for the revocations and for each
counter (log entry 39). -/
def State.firstEntries (s : State) : State :=
  let hw := ((List.range 4).map Config.fuseKeyHash).flatten ++ leBytes 1 (s.f .SEC_KEYREV_REVOKED 0)
    ++ ((List.range 9).map (fun c => leBytes 1 (s.f .SEC_ARB_COUNT c))).flatten
  (s.setEntry 0 (bootEntry 0 0xFF 0 0 Config.romVersion Config.romDigest)).setEntry 1 (bootEntry 1 0xFE 0 0 0 (h48 hw))

/-- The entry of a class: zero digest where it is absent (R323). -/
def State.classEntry (s : State) (cls : Nat) (c : Option (List Byte)) : State :=
  match c with
  | none => s.setEntry (cls + 2) (bootEntry (cls + 2) cls 0 0 0 [])
  | some c =>
    (s.setEntry (cls + 2) (bootEntry (cls + 2) cls (cSvn c) (cKey c) (cVer c) (cDigest c))).setFs cls
      [(.SEC_ARB_BOOTED, cSvn c), (.SEC_ARB_PRESENT, 1)]

/-- A record of the boot-chain area. -/
def State.bootRec (s : State) (k : Nat) : List Byte := s.eflRd (0x10000 + 1024 * k) 1024
def State.recThere (s : State) (k : Nat) : Bool := !s.eflErased (0x10000 + 1024 * k) 1024
def recGood (r : List Byte) : Bool := leAt r 0 4 == 0x42435231 && (r.drop 832).take 48 == h48 (r.take 832)

/-- The place with the highest BOOT_NUM among records that satisfy a test. -/
def State.newestRec (s : State) (p : List Byte → Bool) : Option Nat :=
  (List.range 64).foldl (fun best k =>
    if !s.recThere k || !p (s.bootRec k) then best else
    match best with
    | none => some k
    | some j => if leAt (s.bootRec j) 4 4 < leAt (s.bootRec k) 4 4 then some k else some j) none

/-- The place of the next record: after the newest found; a row that is not free there is erased first (R347). -/
def State.nextRec (s : State) : Nat × State :=
  let k := match s.newestRec (fun r => leAt r 0 4 == 0x42435231) with
    | some j => (j + 1) % 64
    | none => 0
  let k := if k % 2 = 1 ∧ s.recThere k then (k + 1) % 64 else k
  (k, if k % 2 = 0 ∧ !s.eflErased (0x10000 + 1024 * k) 2048 then s.eraseWhole 2 (0x10000 + 1024 * k) else s)

/-- The record of this boot is appended, and CHAIN shown in SEC_CHAIN. Whether the append succeeds is the array's outcome, a free value
(log entry 17): the event of a failure is 0xB00A, and the boot goes on (R336). -/
def State.bootAppend (s : State) : State :=
  let good := s.newestRec recGood
  let any := s.newestRec (fun r => leAt r 0 4 == 0x42435231)
  let torn := good != any || (List.range 64).any (fun k => s.recThere k && !recGood (s.bootRec k))
  let (num, prev) := match good with
    | some k => (leAt (s.bootRec k) 4 4 + 1, ((s.bootRec k).drop 832).take 48)
    | none => (1, List.replicate 48 0)
  let fl := s.f .SEC_BOOT_SLOT 0 + 2 * s.f .SEC_BOOT_TRIAL 0 + 4 * s.f .SEC_BOOT_RECOVERY 0
    + 8 * (s.f .SEC_BOOT_DBG_LV 0 != 0).toNat + 16 * torn.toNat
  let s := if torn then s.event 0xB00D 0 0 0 else s
  let body := leBytes 4 0x42435231 ++ leBytes 4 num ++ leBytes 4 (s.f .EVR_OPMIN_OP_MIN 0) ++ leBytes 1 (s.f .SUP_RST_CAUSE_CAUSE 0)
    ++ leBytes 1 fl ++ leBytes 1 (s.f .SEC_BOOT_DBG_LV 0) ++ [0] ++ prev ++ ((List.range 12).map s.entry).flatten
  let chain := h48 body
  let (k, s) := s.nextRec
  let u := (0x10000 + 1024 * k) / 16
  let (v, s) := s.free
  let s := if v % 2 = 0 then s.eflUnits u 64 (body ++ chain ++ List.replicate 144 0) else (s.eflOpen u 64 (v / 2)).event 0xB00A 0 0 0
  (List.range 12).foldl (fun u i => u.setF .SEC_CHAIN_CHAIN i (leAt chain (4 * i) 4)) s

/-! ### The Boot ROM (R329, R332, R333, R343, R363) -/

/-- Open erases are done again (R363). Whether each verifies is the array's outcome: a free value (log entry 17). -/
def State.finishErases (s : State) : State :=
  s.openStarts.foldl (fun u x =>
    let code := if x.1 = 1 then 2 else if x.1 = 2 then 3 else 5
    let (_, u) := u.eraseTry code x.2
    let u := if x.1 = 3 then (u.putOption 0 1 0).putOption 1 2 0 else u
    u.levelShow.event 0xC003 x.1 x.2 0) s

/-- The debug token (R343): verified under R325, its UID and nonce those of this device and of the reset before. -/
def State.debugGrant (s : State) : State :=
  let c := s.sec.token
  if c.isEmpty then s else
  let s := s.updSec (fun x => { x with token := [] })
  let r := s.verifyBytes c 9
  if r ≠ 0 then s.event 0xB002 9 0 r else
  let d := cPayload c
  let uid := s.f .SEC_UID_LO_UID_LO 0 + 2 ^ 32 * s.f .SEC_UID_HI_UID_HI 0
  if d.length ≠ 64 ∨ leAt d 0 8 ≠ uid ∨ leAt d 8 32 ≠ s.sec.oldNonce % 2 ^ 256 ∨ !zeroAt d 41 23 then s
  else
    let lv := leAt d 40 1 % 16
    let lv := if s.rdpLevel = 2 then lv % 4 else lv
    ((s.setF .SEC_BOOT_DBG_LV 0 lv).setEntry 11 (bootEntry 11 9 (cSvn c) (cKey c) (cVer c) (cDigest c))).event 0xB009 lv 0 0

/-- PMP entry 15 at the hand-off (R174): locked, NAPOT, no permissions, over the 128 KiB of the Boot ROM at address 0. -/
def bootRomPmp : Nat × Nat := (0x98, 0x3FFF)

/-- A verified set is loaded and measured, the record appended, SEC locked, and IQ0 handed to the firmware (R174, R332). The address of
the boot information block is not given: a free value. -/
def State.handOff (s : State) (img : Nat → Option (List Byte)) (slot : Option Nat) (trial : Bool) : State :=
  let s := (List.range 9).foldl (fun u k =>
    match img k with
    | some c => (u.loadClass c).classEntry k (some c)
    | none => u.classEntry k none) s
  let key := ((img 0).map cKey).getD 0
  let s := s.setFs 0 [(.SEC_BOOT_SLOT, slot.getD 0), (.SEC_BOOT_TRIAL, trial.toNat), (.SEC_BOOT_RECOVERY, slot.isNone.toNat), (.SEC_BOOT_KEY, key)]
  let s := s.debugGrant.bootAppend
  let blocks := 1 :: (match slot with
    | some k => (List.range 104).map (fun j => slotBase k / 65536 + j)
    | none => [])
  let s := blocks.foldl (fun u b => u.setF .EFL_WP_WP (b / 32) (setBit (u.f .EFL_WP_WP (b / 32)) (b % 32) true)) s
  let s := if slot.isNone then s.event 0xB006 0 0 0 else s
  let s := s.setB .SEC_LOCK_LOCK 0 true
  let s := if bit s.sup.report 6 then
      s.event 0xD005 (s.f .THM_TRIP_A_SENSOR 0) (s.f .THM_TRIP_A_TEMP 0) (s.f .THM_TRIP_B_AONT 0) else s
  let s := s.updSup (fun x => { x with report := 0 })
  let s := s.updSec (fun x => { x with recovering := false, recov := [] })
  let (v, s) := s.free
  let s := ((s.setX 0 10 v).setX 0 11 (8 - popcount 8 (s.f .ENG_FUSED_HI_IQ 0)))
  s.setCore 0 { s.core 0 with pc := ((img 0).map cEntry).getD 0, pmp := Tbl.set (s.core 0).pmp (0, 0) 15 bootRomPmp, user := false, gie := false }

/-- The recovery path (R333): HOST is started and images are awaited. -/
def State.recovery (s : State) : State := (s.sloePush 3 true).updSec (fun x => { x with recovering := true })

/-- The containers of a slot are read, class after class, up to the first that fails (R349). -/
def State.slotReads (s : State) (slot : Nat) : State :=
  (List.range (((s.slotFails slot).map (fun x => x.1 + 1)).getD 9)).foldl (fun u c =>
    match s.slotImage slot c with
    | some d => u.eflChecks (slotBase slot + classOff c) d.length
    | none => u) s

/-- A slot is booted if it passes; the event of its first failure otherwise. -/
def State.trySlot (s : State) (slot : Nat) (trial : Bool) (other : State → State) : State :=
  let s := s.slotReads slot
  match s.slotFails slot with
  | none => s.handOff (s.slotImage slot) (some slot) trial
  | some (c, r) => other (s.event 0xB002 c slot r)

/-- ACTIVE, then the other slot, then recovery (R329). -/
def State.bootActive (s : State) (active : Nat) : State :=
  s.trySlot active false (fun s => s.trySlot (1 - active) false (fun s => (s.event 0xB005 0 0 0).recovery))

/-- Step 2 of R329. -/
def State.endTrial (s : State) (active : Nat) : State := ((s.putBootControl active 0 0).event 0xB004 0 0 0).bootActive active

/-- The choice of R329. -/
def State.chooseSlot (s : State) : State :=
  let (_, _, active, trial, tries) := s.bootControl
  if trial = 1 ∧ 0 < tries then
    let s := (s.putBootControl active 1 (tries - 1)).event 0xB003 0 0 0
    s.trySlot (1 - active) true (fun s => s.endTrial active)
  else if trial = 1 then s.endTrial active
  else s.bootActive active

/-- BOOT_ROM_RUN: while ENGINES is not ON, the Boot ROM has its start requested and waits; then all the steps of R332. -/
def execBootRomRun (s : State) : Outcome :=
  .next (
    if !s.dom 1 || s.b .SEC_LOCK_LOCK 0 || s.sec.recovering then s
    else if !s.dom 4 then
      if s.sup.sloe.any (fun r => r.dom == 4 && r.on) then s else s.sloePush 4 true
    else
      let s := if s.sup.report = 0 then s else s.event 0xA009 s.sup.report 0 0
      let s := s.firstEntries.finishErases
      if s.b .SUP_STRAP_RECOV 0 then s.recovery else s.chooseSlot)

/-- RECOVERY_IMAGE_MESSAGE (R333): with the last one the set is verified, loaded and measured; a set that fails is dropped. -/
def execRecoveryImageMessage (cls : Fin 9) (image : List Byte) (last : Bool) (s : State) : Outcome :=
  .next (
    if !s.sec.recovering then s else
    let s := s.updSec (fun x => { x with recov := Tbl.set x.recov [] cls.val image })
    if !last then s else
    let img := fun k => match Tbl.get s.sec.recov [] k with
      | [] => none
      | c => some c
    let total := s.sec.recov.foldl (fun n e => n + e.2.length) 0
    let bad := (List.range 9).findSome? (fun k =>
      match img k with
      | none => if k = 0 then some (k, 1) else none
      | some c => if s.verifyBytes c k = 0 then none else some (k, s.verifyBytes c k))
    match bad with
    | some (k, r) => (s.event 0xB002 k 2 r).updSec (fun x => { x with recov := [] })
    | none => if 2 ^ 22 < total then s.updSec (fun x => { x with recov := [] }) else s.handOff img none false)

/-! ### SPDM and the log page (R337-R339) -/

/-- A measurement block: index, DMTF value type, the 48 bytes. -/
def State.measurement (s : State) (i : Nat) : List Byte :=
  let typ := if i = 1 then 0 else if i = 2 then 2 else if i = 11 then 3 else if i = 12 then 5 else if i = 13 then 4 else 1
  let v := if i = 13 then ((List.range 12).map (fun k => leBytes 4 (s.f .SEC_CHAIN_CHAIN k))).flatten else s.entryDigest (i - 1)
  leBytes 1 i ++ leBytes 1 1 ++ leBytes 2 51 ++ leBytes 1 typ ++ leBytes 2 48 ++ v

/-- The response to an SPDM request; an error response for what the device does not have. -/
def State.spdmAnswer (s : State) (q : SpdmReq) : List Byte :=
  let err : List Byte := [0x12, 0x7F, 0x01, 0x00]
  match q with
  | .getCertificate slot => if slot.val < 2 then Config.certChain slot else err
  | .challenge slot nonce => if slot.val < 2 then nonce ++ Config.spdmSign slot nonce else err
  | .getMeasurements idx nonce =>
    let l := if idx.toNat = 0 then some [13] else if idx.toNat ≤ 13 then some (s.measurement idx.toNat)
      else if idx.toNat = 255 then some ((List.range 13).map (fun k => s.measurement (k + 1))).flatten else none
    match l with
    | some d => d ++ nonce ++ Config.spdmSign 0 (d ++ nonce)
    | none => err

/-- SPDM_GET_CERTIFICATE. -/
def execSpdmGetCertificate (slot : Fin 8) (s : State) : Outcome := .next (s.send (.spdm (s.spdmAnswer (.getCertificate slot))))
/-- SPDM_CHALLENGE. -/
def execSpdmChallenge (slot : Fin 8) (nonce : List Byte) (s : State) : Outcome :=
  .next (s.send (.spdm (s.spdmAnswer (.challenge slot nonce))))
/-- SPDM_GET_MEASUREMENTS (R338). -/
def execSpdmGetMeasurements (idx : Byte) (nonce : List Byte) (s : State) : Outcome :=
  .next (s.send (.spdm (s.spdmAnswer (.getMeasurements idx nonce))))

/-- SECURITY_SEND with Security Protocol 0xE8; other protocols carry nothing here. -/
def execSecuritySend (t : Slot) (proto : Byte) (req : SpdmReq) (s : State) : Outcome :=
  .next (s.onCmd t true 0x81 (fun c =>
    if proto = 0xE8 then (s.updCiu (fun x => { x with spdm := Tbl.set x.spdm [] c.port (s.spdmAnswer req) })).finish t 0 0 0
    else s.finish t 0 0x02 0))

/-- SECURITY_RECEIVE: the response to the port's last request. -/
def execSecurityReceive (t : Slot) (proto : Byte) (len : Nat) (s : State) : Outcome :=
  .next (s.onCmd t true 0x82 (fun c =>
    if proto = 0xE8 then s.answer t ((Tbl.get s.ciu.spdm [] c.port ++ List.replicate len 0).take len) else s.finish t 0 0x02 0))

/-- BOOT_CHAIN_LOG_PAGE (R339). -/
def execBootChainLogPage (t : Slot) (off len : Nat) (s : State) : Outcome :=
  .next (s.onCmd t true 0x02 (fun _ =>
    if pageOk 1024 65536 off len then s.answer t (s.eflRd (0x10000 + off) len) else s.finish t 0 0x02 0))

end Sys2Proof.Machine
end

