-- ==== Sys2Proof/Machine/Mir.lean ====
section
/-!
DEFINITION. Machine/Mir.lean: paired operation (R427-R445): the OWN lines and the role, the Medlar link with its replay buffer, the mirror, keys,
takeover.
-/
namespace Sys2Proof.Machine

def State.updMir (s : State) (g : Mir → Mir) : State := { s with mir := g s.mir }
def State.term (s : State) : Nat := s.f .MIR_TERM_TERM 0

/-! ### Lines, gains and losses (R427, R441) -/

/-- The spindle's state words and an engine's, as a frame carried them (R437). -/
def State.putWords (s : State) (m : Nat) (l : List (BitVec 40)) : State :=
  let n := s.qeOf m
  if s.qeState n ≠ 0 then s
  else s.setQe n { s.qe n with st := (l.mapIdx (fun i v => (i, v.toNat))).foldl (fun t e => Tbl.set t 0 e.1 e.2) (s.qe n).st }

/-- An engine is started from its mirrored state with a soft start. -/
def State.startLoop (s : State) (m : Nat) : State :=
  let n := s.qeOf m
  if s.qeFused n ∨ !s.qeStill n then s
  else ((s.setFs n [(.ENG_QE_CTRL_STATE, 1), (.ENG_QE_CTRL_FAULT, 0)]).setQe n { s.qe n with trigs := 0, stopPend := false }).softStart m

/-- An actuator is gained: it goes on from the last SERVO frame, its SAM predicted from that frame, and lane 2a sends its head frame (R441). When
the frame arrived, and how a head frame spells a head, is no command's: a free value. -/
def State.gainAct (s : State) (a : Nat) : State :=
  match Tbl.get s.mir.servo none a with
  | none => s
  | some c =>
    let s := (s.setMode a c.mode).setFs a [(.SRV_ACT_STAT_PRI, c.prim), (.SRV_ACT_STAT_MATE, c.mate)]
    let s := (s.updAct a (fun x => { x with
      target := { opc := 0x11, slot := c.prim, track := c.track, mate := if c.mode = 5 then some (c.mate, c.track) else none }
      vcm := signed 16 c.out0, ma0 := signed 16 c.fine0, ma1 := signed 16 c.fine1, window := true
      windowSel := if c.mode = 5 then 6 else c.prim, hold := false })).dropAllOnt a
    let (v, s) := s.free
    let s := s.send (.preamp a true (v / 2 ^ 32 % 2 ^ 32))
    let sam := (v + 2 ^ 32 - c.sinceSam) % 2 ^ 32
    (((s.updHd a c.prim (fun h => { h with sam := sam, dsam := c.samInterval, found := 2, run := 0 })).startLoop (2 * a)).startLoop (2 * a + 1)).actFlags a

/-- An actuator is lost: its outputs go high-impedance, and its loops stop. -/
def State.loseAct (s : State) (a : Nat) : State :=
  let s := (s.dropAllOnt a).updAct a (fun x => { x with vcm := 0, ma0 := 0, ma1 := 0, window := false })
  ([2 * a, 2 * a + 1].foldl (fun u m => u.setF .ENG_QE_CTRL_STATE (u.qeOf m) 0) s).actFlags a

/-- The spindle is gained: driven from the predicted angle with SRC at BEMF; and lost. -/
def State.gainSpn (s : State) : State :=
  match s.mir.spindle with
  | none => s
  | some (th, p, q) => (s.setSpn 5).updMpd (fun x => { x with theta := th, period := p, torque := signed 16 q })
def State.loseSpn (s : State) : State := if drivenState s.spn then s.coastFrom 0 else s

/-- A change of role: every running controller posts the Asymmetric Namespace Access Change event (R443). -/
def State.roleChange (s : State) (was : Bool) : State :=
  if s.owner = was then s
  else [0, 1].foldl (fun u p => if (u.ctrl p).rdy then u.asyncEvent p 2 3 0x0C else u) s

/-- A line takes a level. -/
def State.lineTo (s : State) (i : Nat) (v : Bool) : State :=
  let was := s.drives i
  let role := s.owner
  let s := s.updMir (fun m => { m with own := setBit m.own i v })
  let s := if was = s.drives i then s
    else if i = 4 then (if was then s.loseSpn else s.gainSpn)
    else if was then s.loseAct i else s.gainAct i
  (s.roleChange role).mirShow

/-- All five lines take a level. -/
def State.linesTo (s : State) (v : Bool) : State := (List.range 5).foldl (fun u i => u.lineTo i v) s

/-- OWN_LINE_CHANGE. -/
def execOwnLineChange (line : Fin 5) (high : Bool) (s : State) : Outcome := .next (if s.paired then s.lineTo line high else s)

/-- A change of what lets a position-0 device drive (R440): it gains what its lines grant. -/
def State.mayDrive (s : State) (g : Mir → Mir) : State :=
  let was := (List.range 5).map s.drives
  let s := s.updMir g
  (List.range 5).foldl (fun u i =>
    if was.getD i false = u.drives i then u
    else if i = 4 then (if u.drives i then u.gainSpn else u.loseSpn)
    else if u.drives i then u.gainAct i else u.loseAct i) s

/-! ### The link (R431-R433) -/

/-- Every command that waits for a mirror result goes on without one (R436). -/
def State.unsync (s : State) : State := (s.setB .MIR_STATUS_SYNCED 0 false).updCiu (fun c => { c with awaitMirror := [] })

/-- The link goes down, with its cause: 0 no progress, 1 a higher term, 2 disabled (log entry 46). A standby keeps SYNCED while its partner's
ALIVE reads 0 (R435). -/
def State.linkDown (s : State) (cause : Nat) : State :=
  if !s.b .MIR_STATUS_LINK_UP 0 then s else
  let s := ((s.setFs 0 [(.MIR_STATUS_LINK_UP, 0), (.MIR_STATUS_LINK_EV, 1), (.MIR_RESYNC_BUSY, 0), (.MIR_KX_BUSY, 0)]).event 0xF003 cause 0 0)
  let s := s.updMir (fun m => { m with replay := [], backlog := [], resends := 0, keySeq := none })
  if !s.owner && !s.mir.aliveIn then s else s.unsync

/-- A mirror result names a tag (R81, R95, R436): MIRRORED is set, of a write only once it is BUFFERED, whose completion then no longer waits. -/
def State.mirrorResult (s : State) (tag : Nat) : State :=
  s.onTag tag (fun s =>
    let t := tag / 8
    let c := s.cmd t
    if c.cls = 2 ∧ c.phase ≠ .buffered then s
    else
      let s := s.updCiu (fun c => { c with awaitMirror := Tbl.set c.awaitMirror false t false })
      match c.ledger with
      | some i => if bit (leAt (s.ledgerAt i) 30 1) 2 then s else s.ledgerFlags i 4 none
      | none => s)

/-- ACK: the frames up to it leave the replay buffer; commands whose last frame it covers have their mirror result, and a KEY frame its DONE. -/
def State.ackTo (s : State) (ack : Nat) : State :=
  if !s.mir.replay.any (fun f => f.seq == ack) then s else
  let rest := (s.mir.replay.dropWhile (fun f => f.seq != ack)).drop 1
  let gone := s.mir.replay.take (s.mir.replay.length - rest.length)
  let s := (s.updMir (fun m => { m with replay := rest, resends := 0 })).frameFlush
  let s := match s.mir.keySeq with
    | some k => if gone.any (fun f => f.seq == k) then
        (s.updMir (fun m => { m with keySeq := none })).setFs 0 [(.MIR_KX_BUSY, 0), (.MIR_KX_DONE, 1)] else s
    | none => s
  let tags := (gone.filterMap (fun f => f.tag)).eraseDups
  (tags.filter (fun t => !(s.mir.replay ++ s.mir.backlog).any (fun f => f.tag == some t))).foldl (fun u t => u.mirrorResult t) s

/-- Every unacknowledged frame goes out again; without progress after RETRY_MAX times, the link goes down. -/
def State.resend (s : State) : State :=
  if s.mir.replay.isEmpty then s
  else if max 1 (s.f .MIR_CFG_RETRY_MAX 0) ≤ s.mir.resends then s.linkDown 0
  else
    let s := (s.updMir (fun m => { m with resends := m.resends + 1 })).inc .MIR_CNT_RETRIES 0 s.mir.replay.length
    s.mir.replay.foldl State.frameOut s

/-- ACK_TIMEOUT. -/
def execAckTimeout (s : State) : Outcome := .next (s.inBlk .mir 0 (fun s => if s.b .MIR_STATUS_LINK_UP 0 then s.resend else s))

def State.sendIdle (s : State) (nak : Bool) : State := s.send (.idle s.term s.mir.lastSeq nak)

/-- A term counted modulo 256 over half the range is below another. -/
def termBelow (a b : Nat) : Bool := (b + 256 - a) % 256 != 0 && decide ((b + 256 - a) % 256 < 128)

/-- A frame arrives: CRC, term, ACK and NAK; what it does then (R433). -/
def State.frameIn (s : State) (h : FrameHdr) (g : State → State) : State :=
  s.inBlk .mir 0 (fun s =>
    if !s.b .MIR_STATUS_LINK_UP 0 then s
    else if !h.crcOk then s.sendIdle true
    else if termBelow h.term.toNat s.term then
      let s := s.inc .MIR_CNT_TERM_DROP 0 1
      if s.mir.staleEpisode then s else (s.updMir (fun m => { m with staleEpisode := true })).event 0xF007 0 0 0
    else if h.term.toNat ≠ s.term then s.linkDown 1
    else
      let s := (s.updMir (fun m => { m with staleEpisode := false })).ackTo h.ack.toNat
      g (if h.nak then s.resend else s))

/-- A sequenced frame counts only in order, and is then acknowledged. -/
def State.frameSeq (s : State) (h : FrameHdr) (g : State → State) : State :=
  s.frameIn h (fun s =>
    if !s.b .MIR_STATUS_LINK_UP 0 ∨ h.seq.toNat ≠ (s.mir.lastSeq + 1) % 65536 then s
    else ((g s).updMir (fun m => { m with lastSeq := h.seq.toNat })).sendIdle false)

/-- IDLE_FRAME. -/
def execIdleFrame (h : FrameHdr) (s : State) : Outcome := .next (s.frameIn h (fun s => s))

/-- The device's UID, as a message carries it. -/
def State.uid (s : State) : List Byte := leBytes 4 (s.f .SEC_UID_LO_UID_LO 0) ++ leBytes 4 (s.f .SEC_UID_HI_UID_HI 0)

/-- MEDLAR_LINK_UP: the lanes run, and HELLO goes out: position, UID, term record, PROT_MIB, identity public key (coding PRESUMED, log entry 46). -/
def execMedlarLinkUp (s : State) : Outcome :=
  .next (s.inBlk .mir 0 (fun s =>
    if !s.b .MIR_CTRL_EN 0 then s
    else
      let r := match s.mir.termRecord with
        | some (t, o) => [1, BitVec.ofNat 8 t, BitVec.ofNat 8 o.toNat]
        | none => [0, 0, 0]
      s.send (.frame 1 0 s.term 0 0 ([BitVec.ofNat 8 s.pos] ++ s.uid ++ r ++ leBytes 2 (s.f .PLV_PROT_SIZE_PROT_MIB 0) ++ Config.identityKey) false)))

/-- The term record that decides: the one with the higher term; with equal terms, or half the range apart, position 0's (log entry 46). -/
def decideRecord (own other : Option (Nat × Bool)) (pos : Nat) : Nat × Bool :=
  match own, other with
  | none, none => (0, false)
  | some r, none => r
  | none, some r => r
  | some r, some q => if termBelow r.1 q.1 then q else if termBelow q.1 r.1 then r else if pos = 0 then r else q

/-- HELLO (R431). -/
def execHello (pos : Bool) (term : Option (Byte × Bool)) (protMib : BitVec 10) (s : State) : Outcome :=
  .next (s.inBlk .mir 0 (fun s =>
    if !s.b .MIR_CTRL_EN 0 then s
    else
      let s := (s.updMir (fun m => { m with aliveIn := true })).mirShow
      if pos.toNat = s.pos ∨ protMib.toNat ≠ s.f .PLV_PROT_SIZE_PROT_MIB 0 then (s.linkDown 3).event 0xF008 0 0 0
      else
        let r := decideRecord s.mir.termRecord (term.map (fun x => (x.1.toNat, x.2))) s.pos
        let mine := r.2.toNat == s.pos
        let s := s.updMir (fun m => { m with nextSeq := 1, lastSeq := 0, replay := [], backlog := [], resends := 0, termRecord := some r })
        let s := (s.setFs 0 [(.MIR_TERM_TERM, r.1), (.MIR_STATUS_LINK_UP, 1)]).event 0xF002 pos.toNat 0 0
        let s := s.mayDrive (fun m => { m with decided := mine })
        if s.pos = 1 then s.linesTo (!mine) else s.mirShow))

/-- MIR_EN (R445). -/
def execMirEn (v : Bool) (s : State) : Outcome :=
  .next (s.onBlk .mir 0 (fun s =>
    if s.b .MIR_CTRL_EN 0 = v then s
    else if !v then (s.linkDown 2).setB .MIR_CTRL_EN 0 false
    else if s.f .SUP_STRAP_PAIR 0 ≠ 0 ∧ s.protBase ≠ 0 ∧ s.idxBase ≠ 0 then (s.setB .MIR_CTRL_EN 0 true).mirShow
    else s.cfgErrAt .mir .MIR_CTRL_EN 0))

/-! ### Mirroring (R434-R437) -/

/-- WRITE_FRAME: the standby writes the payload at the same offset of its protected state, before it acknowledges. -/
def execWriteFrame (h : FrameHdr) (data : List Byte) (s : State) : Outcome :=
  .next (s.frameSeq h (fun s =>
    let o := h.addr.toNat
    if s.owner ∨ s.protSize + 2 ^ 20 < o + data.length then s
    else
      let a := s.protAddr o
      let s := s.wrRaw a data
      ((granulesOf a data.length).mapIdx (fun i gr => (i, gr))).foldl (fun u e => u.setPoison e.2 (bit h.poison.toNat e.1)) s))

/-- SERVO_FRAME: state words into STOPPED engines, driver commands ready in the power die. -/
def execServoFrame (h : FrameHdr) (x : ServoImage) (s : State) : Outcome :=
  .next (s.frameIn h (fun s =>
    if s.owner then s else
    match x with
    | .act a _ mode prim mate _ track coarse fine0 fine1 si since cw fw =>
      let c : ServoCopy := { mode := mode.toNat, track := track.toNat, prim := prim.toNat, mate := mate.toNat, out0 := coarse.toNat
                             fine0 := fine0.toNat, fine1 := fine1.toNat, samInterval := si.toNat, sinceSam := since.toNat }
      let s := s.updMir (fun m => { m with servo := Tbl.set m.servo none a.val (some c) })
      (s.putWords (2 * a.val) cw).putWords (2 * a.val + 1) fw
    | .spindle th p q w => (s.updMir (fun m => { m with spindle := some (th.toNat, p.toNat, q.toNat) })).putWords 8 w))

/-- A span of 256 bytes of the protected state goes out, with its poison. -/
def State.resyncSpan (s : State) (i : Nat) : State :=
  let a := s.protAddr (256 * i)
  let y := s.fetch .link a 256
  let z := (List.range 4).foldl (fun z g => if Tbl.get y.2.buf.poison false (a / 64 + g) then z + 2 ^ g else z) 0
  y.2.sendFrame 2 (256 * i) y.1 z none

/-- RESYNC (R435): the whole protected state goes out, in spans of 256 bytes, as new writes do. -/
def execResync (s : State) : Outcome :=
  .next (s.onBlk .mir 0 (fun s =>
    if !s.paired ∨ !s.owner ∨ !s.b .MIR_STATUS_LINK_UP 0 then s.cfgErrAt .mir .MIR_RESYNC_GO 0
    else
      let s := s.setB .MIR_RESYNC_BUSY 0 true
      (List.range ((s.protSize + 2 ^ 20) / 256)).foldl State.resyncSpan s))

/-- RESYNC_END: SYNCED sets, on both devices. -/
def execResyncEnd (s : State) : Outcome :=
  .next (s.inBlk .mir 0 (fun s =>
    if !s.b .MIR_STATUS_LINK_UP 0 ∨ (s.owner ∧ !s.b .MIR_RESYNC_BUSY 0) then s
    else (s.setFs 0 [(.MIR_RESYNC_BUSY, 0), (.MIR_STATUS_SYNCED, 1)]).event 0xF004 0 0 0))

/-! ### Keys (R438) -/

/-- KEY_EXCHANGE: the key of a slot leaves under the pair key; ignored with CFG_ERR without KX_OK, a link or a key. -/
def execKeyExchange (ns : Fin 64) (s : State) : Outcome :=
  .next (s.onBlk .mir 0 (fun s =>
    if !s.b .MIR_CTRL_KX_OK 0 ∨ !s.b .MIR_STATUS_LINK_UP 0 ∨ !s.hasKey ns then s.cfgErrAt .mir .MIR_KX_GO 0
    else
      let s := s.setFs 0 [(.MIR_KX_NSIDX, ns), (.MIR_KX_BUSY, 1), (.MIR_KX_DONE, 0)]
      let d := Config.wrapPair (Tbl.get s.sec.key 0 ns - 1) ns (Tbl.get s.sec.gen 0 ns)
      (s.updMir (fun m => { m with keySeq := some m.nextSeq })).sendFrame 4 ns d 0 none))

/-- KEY_FRAME: SEC loads the key into its slot and shows its own wrapped key. A wrap that does not check loads nothing. -/
def execKeyFrame (h : FrameHdr) (wrapped : List Byte) (s : State) : Outcome :=
  .next (s.frameSeq h (fun s =>
    match Config.unwrapPair wrapped with
    | none => s
    | some (k, i, g) =>
      if 64 ≤ i then s else
      let k := k % 2 ^ 512
      let g := g % 2 ^ 32
      let s := (s.setKey i (k + 1)).updSec (fun x => { x with gen := Tbl.set x.gen 0 i g })
      (s.setWrap (Config.wrapKey k i g)).setB .SEC_STATUS_KEY_EV 0 true))

/-! ### Takeover and fencing (R428, R439, R440) -/

/-- The takeover itself: term, lines, TAKE_EV; the term record follows (log entry 46). -/
def State.takeNow (s : State) : State :=
  let t := (s.term + 1) % 256
  let s := s.setF .MIR_TERM_TERM 0 t
  let s := (s.updMir (fun m => { m with termRecord := some (t, s.pos == 1) })).mayDrive (fun m => { m with takeBegun := true, takePend := false })
  let s := if s.pos = 1 then s.linesTo false else s.mirShow
  (s.setB .MIR_STATUS_TAKE_EV 0 true).event 0xF005 t 0 0

/-- The write of FENCE: the microsecond of R439 starts anew. -/
def State.fenceWrite (s : State) (v : Bool) : State :=
  if s.b .MIR_CTRL_FENCE 0 = v then s else (s.setB .MIR_CTRL_FENCE 0 v).updMir (fun m => { m with fenceHeld := false })

/-- A standby takes over: at position 0 it first sets FENCE and waits for the lines. -/
def State.takeover (s : State) : State :=
  if s.pos = 1 then s.takeNow
  else (s.fenceWrite true).updMir (fun m => { m with takePend := true })

/-- AUTO_TAKEOVER: the partner's ALIVE has read 0 for 1 µs. -/
def execAutoTakeover (s : State) : Outcome :=
  .next (
    if !s.paired then s else
    let s := (s.updMir (fun m => { m with aliveIn := false })).mirShow
    if s.dom 12 ∧ s.b .MIR_CTRL_TAKE_AUTO 0 ∧ s.b .MIR_STATUS_SYNCED 0 ∧ !s.owner ∧ !s.plv.lost then s.takeover else s)

/-- The write of TAKE (R439). -/
def State.takeWrite (s : State) : State :=
  if s.paired ∧ !s.owner ∧ s.b .MIR_STATUS_SYNCED 0 ∧ (!s.mir.aliveIn ∨ (s.b .MIR_CTRL_FENCE 0 ∧ s.mir.fenceHeld)) then s.takeover
  else s.cfgErrAt .mir .MIR_CTRL_TAKE 0

/-- TAKEOVER_LINES_HIGH: position 1 has let go of every line. -/
def execTakeoverLinesHigh (s : State) : Outcome :=
  .next (if s.mir.takePend then (s.linesTo true).takeNow else s)

/-- TAKEOVER_ABANDON. -/
def execTakeoverAbandon (s : State) : Outcome :=
  .next (if s.mir.takePend then (s.updMir (fun m => { m with takePend := false })).event 0xF00A 0 0 0 else s)

/-- FENCED (R428): PAIR_FENCE_IN_N falls or rises. -/
def execFenced (low : Bool) (s : State) : Outcome :=
  .next (
    if !s.paired ∨ s.mir.fenceLow = low then s
    else if low then
      let s := (s.updMir (fun m => { m with fenceLow := true, fenced := true, aliveCleared := false })).event 0xF006 0 0 0
      if s.pos = 1 then s.linesTo true else s.mirShow
    else (s.updMir (fun m => { m with fenceLow := false, aliveCleared := false })).mirShow)

/-- A write of ALIVE (R428): 0, then 1, re-arms a fenced device once its input has risen. -/
def State.aliveWrite (s : State) (v : Bool) : State :=
  let s := s.setB .MIR_CTRL_ALIVE 0 v
  if !s.mir.fenced ∨ s.mir.fenceLow then s
  else if !v then s.updMir (fun m => { m with aliveCleared := true })
  else if s.mir.aliveCleared then (s.updMir (fun m => { m with fenced := false, aliveCleared := false })).mirShow
  else s

end Sys2Proof.Machine
end

