-- ==== Sys2Proof/Machine/RegWrite.lean ====
section
/-!
DEFINITION. Machine/RegWrite.lean: register access (R1-R10, R16-R29): a write reaches the fields at its address, each by
its access type and change class, and hands a field that commands something to that command's own meaning.
-/
namespace Sys2Proof.Machine

/-- The next state of a meaning, as the write that commands it has it. -/
def State.by (s : State) (g : State → Outcome) : State :=
  match g s with
  | .next t => t
  | _ => s

/-! ### Register groups (R7-R9, R21, R22) -/

/-- The COMMIT_PEND bit of a group and its copy. -/
def groupPend : Group → Fld × Nat
  | .pw p => (.HEP_PW_CTRL_COMMIT_PEND, p)
  | .sync l => (.CHN_SYNC_COMMIT_PEND, l)
  | .zt => (.CHN_ZT_COMMIT_PEND, 0)
  | .act a => (.SRV_ACT_CTRL_COMMIT_PEND, a)
  | .qeBank n => (.SRV_QE_CFG_COMMIT_PEND, n)
  | .paBank => (.MPD_SPN_TBL_COMMIT_PEND, 0)
  | .rdcfg => (.EFL_RDCFG_COMMIT_PEND, 0)

/-- The block of a group and the copy that says whether it is started. -/
def groupBlk : Group → Blk × Nat
  | .pw p => (.hep, p)
  | .sync l => (.chn, l)
  | .zt => (.chn, 8)
  | .act _ => (.srv, 0)
  | .qeBank _ => (.srv, 0)
  | .paBank => (.mpd, 0)
  | .rdcfg => (.efl, 0)

/-- The owning block of a group is disabled (R9, R226); eFlash has no enable. -/
def State.groupIdle (s : State) : Group → Bool
  | .pw p => !s.b .HEP_CTRL_EN p
  | .sync l => s.laneStopped l
  | .zt => (List.range 8).all s.laneStopped
  | .act _ => !s.b .SRV_CTRL_EN 0
  | .qeBank _ => !s.b .SRV_CTRL_EN 0
  | .paBank => !s.b .MPD_CTRL_EN 0
  | .rdcfg => false

/-- A group takes force. -/
def State.groupApply (s : State) : Group → State
  | .pw p => s.applyPw p
  | .sync l => s.syncApply l
  | .zt => s.ztApply
  | .act a => s.actApply a
  | .qeBank n => (s.apply .SRV_QE_CFG_BANK n).setB .SRV_QE_CFG_COMMIT_PEND n false
  | .paBank => s.tblApply
  | .rdcfg => (s.applyAll [.EFL_RDCFG_FSEL, .EFL_RDCFG_WS, .EFL_RDCFG_VTRACK] 0).setB .EFL_RDCFG_COMMIT_PEND 0 false

/-- The least WS that a COMMIT takes for its FSEL: the right-hand minimum of R350. -/
def minWs (fsel : Nat) : Nat :=
  match fsel with
  | 0 => 9
  | 1 => 4
  | _ => 1

/-- What a COMMIT is refused for (R72, R226, R350): the CFG_ERR it sets. -/
def State.commitBad (s : State) : Group → Option (CfgBlk × Fld × Nat)
  | .pw p => if s.f .HEP_PW_RING_SIZE_LOG2 p < 6 ∨ 16 < s.f .HEP_PW_RING_SIZE_LOG2 p then some (.hep p, .HEP_PW_CTRL_COMMIT, p) else none
  | .zt => if s.f .CHN_ZT_TIER 0 = 3 then some (.chnCom, .CHN_ZT_COMMIT, 0) else none
  | .rdcfg => if s.f .EFL_RDCFG_FSEL 0 = 3 ∨ s.f .EFL_RDCFG_WS 0 < minWs (s.f .EFL_RDCFG_FSEL 0) then some (.efl, .EFL_RDCFG_COMMIT, 0) else none
  | _ => none

/-- The port-1 copies of HEP take no write in one-port mode (R34); every other copy is there. -/
def State.copyOk (s : State) (b : Blk) (i : Nat) : Bool := b != .hep || s.portOk i

/-- A write of 1 to COMMIT. -/
def State.commit (s : State) (g : Group) : State :=
  let (x, i) := groupPend g
  if s.b x i then s
  else
    match s.commitBad g with
    | some (b, y, j) => s.cfgErrAt b y j
    | none => if s.groupIdle g then s.groupApply g else s.setB x i true

/-- COMMIT (R7-R9). -/
def execCommit (g : Group) (s : State) : Outcome :=
  .next (s.onBlk (groupBlk g).1 (groupBlk g).2 (fun s => if s.copyOk (groupBlk g).1 (groupBlk g).2 then s.commit g else s))

/-- The named boundary of a group is there: a window with an assembly open is not idle, and the zone table waits for the last
armed lane (R70, R226). -/
def State.groupReady (s : State) : Group → Bool
  | .pw p => s.asmBusy p == 0
  | .zt => s.noneArmed
  | _ => true

/-- SHADOW_APPLY (R5, R7, R21): a pending group meets its boundary. -/
def execShadowApply (g : Group) (s : State) : Outcome :=
  .next (s.inBlk (groupBlk g).1 (groupBlk g).2 (fun s =>
    if s.b (groupPend g).1 (groupPend g).2 && s.groupReady g then s.groupApply g else s))

/-! ### Change classes (R4-R8) -/

/-- The owning block of a class S field is enabled (R4; R218, R247, R276, R295, R389 for the fields whose owner is not the block). DESIGN
CHOICE: R389 names item n for CAL_ICFG alone; the class S fields of CAL_ICH go with their item's VALID too (log entry 117). -/
def State.held4 (s : State) (x : Fld) (i : Nat) : Bool :=
  match x.info.blk with
  | .hep => s.b .HEP_CTRL_EN i
  | .ciu => s.b .CIU_CTRL_EN 0
  | .ldg => s.b .LDG_CTRL_EN 0
  | .buf => s.b .BUF_DDR_CTRL_EN 0
  | .btl => s.b .BTL_CTRL_EN 0
  | .mwr => if x.info.count = 1 then s.b .MWR_CTRL_EN 0 else s.ringState i != 0
  | .chn => !(List.range 8).all s.laneStopped
  | .srv => if x = .SRV_QE_CFG_TRIG_SRC ∨ x = .SRV_QE_CFG_ACT then !s.qeStill (s.qeOf i) else s.b .SRV_CTRL_EN 0
  | .mpd => s.spn != 0
  | .cal => if x = .CAL_CFG_RING then s.b .CAL_CTRL_EN 0 else s.b .CAL_ICFG_VALID i
  | .plv => s.b .PLV_CTRL_EN 0
  | .mir => s.b .MIR_CTRL_EN 0
  | _ => false

/-- The CFG_ERR bit of the block in which a field stands. -/
def Fld.cfgBlk (x : Fld) (i : Nat) : CfgBlk :=
  match x.info.blk with
  | .hep => .hep i
  | .va => .hep i
  | .ciu => .ciu
  | .ldg => .ldg
  | .buf => .buf
  | .btl => .btl
  | .eng => .eng
  | .mwr => .mwr
  | .chn => match x.laneOf i with
    | some l => .lane l
    | none => .chnCom
  | .srv => .srv
  | .mpd => .mpd
  | .sup => .sup
  | .sec => .sec
  | .efl => .efl
  | .thm => .thm
  | .cal => .cal
  | .evr => .evr
  | .plv => .plv
  | .mir => .mir

/-- The fields that place a ring and its entries; the last four are the registers' BASE, LOG2, HEAD and TAIL (R206). -/
def ringPlace : List Fld :=
  [.MWR_RING_BASE_LO_BASE_LO, .MWR_RING_BASE_HI_BASE_HI, .MWR_RING_CFG_LOG2, .MWR_RING_PTR_HEAD, .MWR_RING_PTR_TAIL]

/-- A write to a class S field (R4). CAL_ICFG takes no MEAS or DEST of 3; a ring placed anew forgets what it had completed. -/
def State.writeS (s : State) (x : Fld) (i v : Nat) : State :=
  if s.f x i = v then s
  else if s.held4 x i then s.cfgErrAt (x.cfgBlk i) x i
  else if (x = .CAL_ICFG_MEAS ∨ x = .CAL_ICFG_DEST) ∧ v = 3 then s.cfgErrAt .cal x i
  else if ringPlace.contains x then (s.setF x i v).ringRewritten i
  else s.setF x i v

/-- The COMMIT_PEND bit that guards a shadow. -/
def Fld.guard (x : Fld) : Fld :=
  match x.info.blk with
  | .hep => .HEP_PW_CTRL_COMMIT_PEND
  | .chn => if x.info.base < 0x40780000 then .CHN_SYNC_COMMIT_PEND else .CHN_ZT_COMMIT_PEND
  | .srv => if x = .SRV_QE_CFG_BANK then .SRV_QE_CFG_COMMIT_PEND else .SRV_ACT_CTRL_COMMIT_PEND
  | .mpd => .MPD_SPN_TBL_COMMIT_PEND
  | _ => .EFL_RDCFG_COMMIT_PEND

/-- A write to a shadow (R5, R8). -/
def State.writeB (s : State) (x : Fld) (i v : Nat) : State :=
  if s.f x i = v then s
  else if s.b x.guard i then s.cfgErrAt (x.cfgBlk i) x i
  else s.setF x i v

/-! ### Fields that command something -/

/-- The bit of a register at which its operand fields pass to the register's own operation with the rest of the word; 32 where they
always do. -/
def Fld.opBit (x : Fld) : Option Nat :=
  if [Fld.CIU_ABT_REQ_CID, .CIU_ABT_REQ_SQID, .BUF_PPR_BANK, .BUF_PPR_ROW, .BUF_PPR_CH, .BUF_CMO_CTRL_COUNT, .BUF_CMO_CTRL_OP,
      .BUF_CMO_CTRL_MODE, .BUF_SRAM_INIT_ARRAY, .BUF_SPARE_ARRAY, .BUF_SPARE_ROW, .BUF_SPARE_PERM, .BTL_APP_CTRL_TYPE,
      .BTL_APP_CTRL_FLAGS, .BTL_HEAD_FAIL_HEAD, .ENG_CSL_CTRL_FIRST, .ENG_CSL_CTRL_COUNT, .ENG_CSL_CTRL_CLASS, .MWR_WITHDRAW_WD_TAG,
      .MWR_WITHDRAW_WD_RING, .SEC_ARB_ADV_CLASS, .SEC_ARB_ADV_SVN, .SEC_KEYREV_SLOT, .SEC_VFY_CTRL_CLASS, .SEC_KEY_CTRL_NSIDX,
      .SEC_KEY_CTRL_OP, .EFL_CMD_CODE, .EFL_CMD_COUNT, .EFL_RDP_TARGET, .EVR_SUB_CTRL_CODE, .EVR_SUB_CTRL_KEEP, .EVR_CLR_AREAS,
      .MIR_KX_NSIDX].contains x then some 31
  else if x = .BUF_FLIP_CTRL_CHECK ∨ x = .BUF_FLIP_CTRL_ARRAY then some 16
  else if [Fld.ENG_SPARE_CS_CLASS, .ENG_SPARE_CS_REPLACES, .ENG_SPARE_QE_REPLACES, .CHN_SPARE_DEC_LANE, .CHN_SPARE_DEC_DEC].contains x then some 32
  else none

/-- HEP and the vendor area (R32, R60, R61, R70, R73). Each indicator output follows the latest write of either port, and every port's
HEP_SLOT shows it; 0b00 changes nothing. HP_PRES_N is one pin: it is low while neither port's PRES_REL is 1, and PDS shows it (log entry 30). -/
def State.hepField (s : State) (x : Fld) (i b : Nat) : Option State :=
  if x = .HEP_CTRL_EN then some (s.hepEn i (b = 1))
  else if x = .HEP_PW_CTRL_COMMIT then some (if b = 1 then s.commit (.pw (Fin.ofNat 2 i)) else s)
  else if x = .HEP_PW_CTRL_CNT_CLR then some (if b = 1 then s.by (execCntClr (Fin.ofNat 2 i)) else s)
  else if x = .SLOT_CTL_PIC then
    some (if b = 0 then s else (s.ports.foldl (fun u p => u.setF .HEP_SLOT_PIC p b) (s.setF x i b)).updHep (fun h => { h with indP := b }))
  else if x = .SLOT_CTL_AIC then
    some (if b = 0 then s else (s.ports.foldl (fun u p => u.setF .HEP_SLOT_AIC p b) (s.setF x i b)).updHep (fun h => { h with indA := b }))
  else if x = .HEP_SLOT_PRES_REL then
    let s := s.setF x i b
    let low := (!(s.b .HEP_SLOT_PRES_REL 0 || s.b .HEP_SLOT_PRES_REL 1)).toNat
    some (s.ports.foldl (fun u p => u.setF .SLOT_STS_PDS p low) s)
  else none

/-- CIU and LDG. -/
def State.ciuField (s : State) (x : Fld) (b v : Nat) : Option State :=
  if x = .CIU_CTRL_EN then some (s.by (execCiuEn (b = 1)))
  else if x = .CIU_BUF_REL_SLOT then some (s.by (execBufferSlotRelease (BitVec.ofNat 17 b)))
  else if x = .CIU_ABT_REQ_GO then some (if b = 1 then s.by (execAbortLookup (BitVec.ofNat 11 (bits v 26 16)) (BitVec.ofNat 16 v)) else s)
  else if x = .LDG_CTRL_EN then some (s.by (execLdgEn (b = 1) (s.b .LDG_CTRL_MIRROR 0)))
  else none

/-- BUF (R120, R122, R129, R131, R132, R136). -/
def State.bufField (s : State) (x : Fld) (b v : Nat) : Option State :=
  if x = .BUF_DDR_CTRL_EN then some (s.by (execBufDdrEn (b = 1)))
  else if x = .BUF_BRM_CTRL_EN then some (if b = 1 then s.by execBrambleEnable else s.by execBrambleDisable)
  else if x = .BUF_PPR_GO then
    some (if b = 1 then s.by (execPostPackageRepair (BitVec.ofNat 4 v) (BitVec.ofNat 18 (bits v 21 4)) (bit v 22)) else s)
  else if x = .BUF_CMO_CTRL_GO then
    some (if b = 0 then s
          else if bits v 18 17 = 0 then s.cfgErrAt .buf .BUF_CMO_CTRL_GO 0
          else s.maintain (bits v 18 17) (bits v 16 0) (bit v 19))
  else if x = .BUF_FLIP_CTRL_ARM then
    some (if b = 1 then s.by (execFlipArm (BitVec.ofNat 8 (bits v 15 8)) (BitVec.ofNat 8 v)) else s.setF x 0 0)
  else if x = .BUF_SRAM_INIT_GO then some (if b = 1 then s.by (execSramInit (BitVec.ofNat 8 v)) else s)
  else if x = .BUF_SPARE_GO then
    some (if b = 1 then s.by (execSpareRow (BitVec.ofNat 8 v) (BitVec.ofNat 16 (bits v 23 8)) (bit v 29)) else s)
  else none

/-- BTL: an append through the register port takes its BODY from BTL_APP_B (R141). -/
def State.btlField (s : State) (x : Fld) (b v : Nat) : Option State :=
  if x = .BTL_CTRL_EN then some (s.by (execBtlEn (b = 1)))
  else if x = .BTL_MLOG_TRIM_INDEX then some (s.setF x 0 b).mlogShow
  else if x = .BTL_COMMITTED_COUNT ∨ x = .BTL_RESERVE_RESERVE then some (s.setF x 0 b).spareChanged
  else if x = .BTL_APP_CTRL_GO then
    some (if b = 0 then s
          else s.appendReg (bits v 7 0) (BitVec.ofNat 8 (bits v 15 8)) (((List.range 5).map (fun i => leBytes 4 (s.f .BTL_APP_B_BODY i))).flatten))
  else if x = .BTL_HEAD_FAIL_GO then some (if b = 1 then s.by (execHeadFailRecord (BitVec.ofNat 5 v)) else s)
  else none

/-- ENG (R172, R173, R175, R184, R187-R191, R194). A timer compare value, a threshold or a route that changes may let a stalled core go on. -/
def State.engField (s : State) (x : Fld) (i b v : Nat) : Option State :=
  let c : Cs := Fin.ofNat 44 i
  let q : Qe := Fin.ofNat 12 i
  if x = .ENG_CSL_CTRL_GO then
    some (if b = 1 then s.by (execControlStoreLoad (Fin.ofNat 8 (bits v 27 25)) (BitVec.ofNat 12 v) (BitVec.ofNat 13 (bits v 24 12))) else s)
  else if x = .ENG_SPARE_CS_BIND then
    some (s.by (execSpareCsBind (Fin.ofNat 2 i) (Fin.ofNat 8 (bits v 2 0)) (BitVec.ofNat 6 (bits v 13 8)) (b = 1)))
  else if x = .ENG_SPARE_QE_BIND then some (s.by (execSpareQeBind (BitVec.ofNat 4 v) (b = 1)))
  else if x = .ENG_IPI_SET then some (s.by (execIpiSet (BitVec.ofNat 8 b)))
  else if x = .ENG_IPI_CLR then some (s.by (execIpiClear (BitVec.ofNat 8 b)))
  else if x = .ENG_MTIMECMP_LO_CMP_LO ∨ x = .ENG_MTIMECMP_HI_CMP_HI ∨ x = .ENG_IRQ_THR_THR ∨ x = .ENG_IRQ_ROUTE_CORE ∨ x = .ENG_IRQ_ROUTE_PRIO then
    some (s.setF x i b).wakeCores
  else if x = .ENG_IRQ_CLAIM_SOURCE then some (s.by (execInterruptComplete (Fin.ofNat 8 i) (BitVec.ofNat 8 b)))
  else if x = .ENG_IQ_CTRL_RUN then some (s.by (execCoreRun (Fin.ofNat 8 i) (b = 1)))
  else if x = .ENG_CS_CTRL_START then some (if b = 1 then s.by (execCsStart c (BitVec.ofNat 12 (bits v 27 16))) else s)
  else if x = .ENG_CS_CTRL_STOP then some (if b = 1 then s.by (execCsStop c) else s)
  else if x = .ENG_CS_CTRL_KILL then some (if b = 1 then s.by (execKill c) else s)
  else if x = .ENG_CS_CTRL_ABANDON then some (if b = 1 then s.by (execAbandon c) else s)
  else if x = .ENG_QE_CTRL_START then some (if b = 1 then s.by (execQeStart q) else s)
  else if x = .ENG_QE_CTRL_STOP then some (if b = 1 then s.by (execQeStop q) else s)
  else none

/-- MWR_RING_CTRL in the order of R461: ABORT, RESUME, CLR_OVR, then EN as written. -/
def State.ringCtrl (s : State) (r v : Nat) : State :=
  let s := if bit v 1 then s.ringAbort r else s
  let s := if bit v 2 then s.ringResume r else s
  let s := if bit v 3 then s.ringClrOvr r else s
  if bit v 0 then s.ringEnable r else s.ringDisable r

/-- MWR. -/
def State.mwrField (s : State) (x : Fld) (i b v : Nat) : Option State :=
  if x = .MWR_CTRL_EN then some (s.by (execMwrEn (b = 1)))
  else if x = .MWR_DOORBELL_TAIL then some s
  else if x = .MWR_DOORBELL_RING then some (s.doorbell b (bits v 15 0))
  else if x = .MWR_WITHDRAW_WD_GO then
    some (if b = 1 then s.by (execWithdraw (Fin.ofNat 1024 (bits v 25 16)) (BitVec.ofNat 16 v)) else s)
  else if x = .MWR_RING_CTRL_EN then some (s.ringCtrl i v)
  else none

/-- CHN (R226, R239, R243, R246, R377). -/
def State.chnField (s : State) (x : Fld) (i b v : Nat) : Option State :=
  if x = .CHN_CTRL_EN then some (s.laneEn i (b = 1))
  else if x = .CHN_CTRL_ADAPT_EN then
    some (if b = 1 then s.setF x i b else (s.setF x i b).updLane i (fun l => { l with adapting := false, adaptPend := false }))
  else if x = .CHN_SYNC_COMMIT then some (if b = 1 then s.commit (.sync (Fin.ofNat 8 i)) else s)
  else if x = .CHN_ASSIST_OK then some ((s.setF x i b).pairFlags i)
  else if x = .CHN_ZT_COMMIT then some (if b = 1 then s.commit .zt else s)
  else if x = .CHN_SPARE_DEC_BIND then
    some (s.by (execSpareDecoderBind (Fin.ofNat 2 i) (Fin.ofNat 8 (bits v 2 0)) (bit v 3) (b = 1)))
  else none

/-- SRV and MPD (R264, R276, R277, R280, R283, R291, R295). -/
def State.srvField (s : State) (x : Fld) (i b : Nat) : Option State :=
  if x = .SRV_CTRL_EN then some (s.by (execSrvEn (b = 1)))
  else if x = .SRV_ACT_CTRL_COMMIT then some (if b = 1 then s.commit (.act (Fin.ofNat 4 i)) else s)
  else if x = .SRV_QE_CFG_COMMIT then some (if b = 1 then s.commit (.qeBank (Fin.ofNat 12 i)) else s)
  else if x = .SRV_QE_STAT_MAX_CLR then some (if b = 1 then s.setF .SRV_QE_STAT_MAX i 0 else s)
  else if x = .MPD_CTRL_EN then some (s.by (execMpdEn (b = 1)))
  else if x = .MPD_CTRL_BRAKE_EN then some (s.setF x 0 b).spnBrake
  else if x = .MPD_STATUS_DRV_EV then some (if b = 1 then (s.setF x 0 0).clearTrips else s)
  else if x = .MPD_SPN_TBL_COMMIT then some (if b = 1 then s.commit .paBank else s)
  else if x = .MPD_PA_B0_E ∨ x = .MPD_PA_B1_E then
    some (if s.g .MPD_SPN_TBL_BANK 0 = (x = .MPD_PA_B1_E : Bool).toNat then s.cfgErrAt .mpd x i else s.setF x i b)
  else none

/-- SUP (R299, R307, R312, R315-R317, R319). -/
def State.supField (s : State) (x : Fld) (i b v : Nat) : Option State :=
  if x = .SUP_PLIM_PIN_MAX ∨ x = .SUP_PLIM_BUDGET then some (s.setF x i b).sloeShow
  else if x = .SUP_SLOE_REQ_FLUSH then some (if b = 1 ∧ !bit v 31 then s.sloeFlush else s)
  else if x = .SUP_SLOE_REQ_GO then
    some (if b = 1 then s.by (execSloeRequest (BitVec.ofNat 5 v) (bit v 8) (bit v 30)) else s)
  else if x = .SUP_DSTATE_REQ then some (s.by (execDeviceStateRequest (BitVec.ofNat 2 b)))
  else if x = .SUP_RST_GO then some (if b = 1 then s.by (execSwrst (BitVec.ofNat 16 v)) else s)
  else if x = .SUP_WDT_CFG_EN then some (if b = 1 then s.setF x i 1 else s)
  else if x = .SUP_WDT_KICK_KEY then some (s.by (execWdtKick (Fin.ofNat 8 i) (BitVec.ofNat 8 b)))
  else if x = .SUP_SWDT_EN then some (if b = 1 ∧ !s.b x 0 then (s.setF x 0 1).event 0xA00A 0 0 0 else s)
  else if x = .SUP_SWDT_KICK_KEY then some (s.by (execSysWdtKick (BitVec.ofNat 8 b)))
  else none

/-- SEC (R326, R327, R330, R334, R341): SEC_BOOT is read-only after LOCK. -/
def State.secField (s : State) (x : Fld) (b v : Nat) : Option State :=
  if x = .SEC_BOOT_SLOT ∨ x = .SEC_BOOT_TRIAL ∨ x = .SEC_BOOT_RECOVERY ∨ x = .SEC_BOOT_DBG_LV ∨ x = .SEC_BOOT_KEY then
    some (if s.b .SEC_LOCK_LOCK 0 then s.cfgErrAt .sec x 0 else s.setF x 0 b)
  else if x = .SEC_LOCK_LOCK then some (if b = 1 then s.by execSecLock else s)
  else if x = .SEC_ARB_ADV_GO then
    some (if b = 1 then s.by (execArbAdvance (BitVec.ofNat 4 v) (BitVec.ofNat 6 (bits v 13 8))) else s)
  else if x = .SEC_KEYREV_GO then some (if b = 1 then s.by (execKeyRevoke (Fin.ofNat 4 (bits v 17 16))) else s)
  else if x = .SEC_VFY_CTRL_GO then some (if b = 1 then s.by (execContainerVerify (BitVec.ofNat 4 v)) else s)
  else if x = .SEC_KEY_CTRL_GO then
    let n : Fin 64 := Fin.ofNat 64 (bits v 5 0)
    some (if b = 0 then s
          else match bits v 9 8 with
            | 1 => s.by (execGen n)
            | 2 => s.by (execKeyLoad n)
            | 3 => s.by (execClear n)
            | _ => s.cfgErrAt .sec x 0)
  else none

/-- EFL (R352, R353, R357, R365-R367). The page buffer takes writes while no command runs, or while an erase is suspended. -/
def State.eflField (s : State) (g : Agent) (x : Fld) (i b v : Nat) : Option State :=
  if x = .EFL_RDCFG_COMMIT then some (if b = 1 then s.commit .rdcfg else s)
  else if x = .EFL_UNLOCK_KEY then some (s.by (execEflUnlock (BitVec.ofNat 32 b)))
  else if x = .EFL_CMD_SUSPEND then some (if b = 1 then s.by execSuspend else s)
  else if x = .EFL_CMD_RESUME then some (if b = 1 then s.by execEraseResume else s)
  else if x = .EFL_CMD_GO then
    some (if b = 0 then s
          else if bits v 3 0 = 0 ∨ 5 < bits v 3 0 then s.cfgErrAt .efl x 0
          else s.eflGo g (bits v 3 0) (if bits v 3 0 = 1 ∨ bits v 3 0 = 4 then bits v 14 8 + 1 else 1))
  else if x = .EFL_RDP_GO then
    some (if b = 0 then s
          else if bits v 1 0 = 0 then s.by (execRdpLower g) else s.by (execRdpRaise g (BitVec.ofNat 2 v)))
  else if x = .EFL_PBUF_DATA then
    some (if s.b .EFL_RES_BUSY 0 ∧ s.efl.susp.isNone then s.cfgErrAt .efl x i
          else if g = .debug ∧ !s.eflDebugOk then s else s.setF x i b)
  else none

/-- THM, CAL and EVR (R372-R377, R385-R389, R401, R405). A threshold that changes is compared at once (R26). -/
def State.thmField (s : State) (x : Fld) (i b v : Nat) : Option State :=
  if x = .THM_CONV_REQ then some (s.requestConv b)
  else if x = .THM_THR_THR_WARN ∨ x = .THM_THR_THR_CRIT then some (((s.setF x 0 b).warnCheck).tripCheck)
  else if x = .THM_HOLD_FW_FW ∨ x = .THM_CTRL_ASSIST_OWN then some (s.setF x 0 b).holdShow
  else if x = .CAL_CTRL_EN then some (s.by (execCalEn (b = 1)))
  else if x = .CAL_SUBMIT_GO then
    some (if b = 0 then s else if bit v 30 then s.by execCalDiscard else s.by (execCalSubmit (BitVec.ofNat 16 v)))
  else if x = .CAL_ICFG_VALID then some (s.calValid i (b = 1))
  else if x = .CAL_ITOL_DUE then some (if b = 1 then s.by (execCalDue (Fin.ofNat 64 i)) else s)
  else if x = .CAL_ISCH_DT_HARD then some (s.setF x i b).holdShow
  else if x = .EVR_CTRL_EN then
    some (if b = 1 then s.by execEvrEn else if s.b x 0 then s.cfgErrAt .evr x 0 else s)
  else if x = .EVR_CTRL_FREEZE then some (s.setF x 0 b).clearDue
  else if x = .EVR_SUB_CTRL_GO then some (if b = 1 then s.by (execEventSubmit (BitVec.ofNat 16 v) (bit v 16)) else s)
  else if x = .EVR_CLR_GO then
    some (if b = 1 then s.by (execEventClear (BitVec.ofNat 16 v) (BitVec.ofNat 2 (bits v 17 16))) else s)
  else if x = .EVR_CODE_CODE ∨ x = .EVR_CODE_LIMIT ∨ x = .EVR_CODE_KEEP then
    some (if bits v 23 16 = 0xFF ∧ bit v 24 ∧ bits v 15 0 ≠ 0 then (if x = .EVR_CODE_CODE then s.cfgErrAt .evr x i else s) else s.setF x i b)
  else none

/-- PLV and MIR (R407, R425, R428, R435, R438, R439). What the dies answer at an enable comes from outside: free values. -/
def State.plvField (s : State) (x : Fld) (b v : Nat) : Option State :=
  if x = .PLV_CTRL_EN then
    let (d, s) := s.free
    let (p, s) := s.free
    let (n, s) := s.free
    some (s.by (execPlvEn (b = 1) (d % 2 = 1) (BitVec.ofNat 16 p) (BitVec.ofNat 16 n)))
  else if x = .PLV_CFG_MIN_RPM then some (s.setF x 0 b).speedFlags
  else if x = .MIR_CTRL_EN then some (s.by (execMirEn (b = 1)))
  else if x = .MIR_CTRL_ALIVE then some (s.aliveWrite (b = 1))
  else if x = .MIR_CTRL_FENCE then some (s.fenceWrite (b = 1))
  else if x = .MIR_CTRL_TAKE then some (if b = 1 then s.takeWrite else s)
  else if x = .MIR_RESYNC_GO then some (if b = 1 then s.by execResync else s)
  else if x = .MIR_KX_GO then some (if b = 1 then s.by (execKeyExchange (Fin.ofNat 64 (bits v 5 0))) else s)
  else none

/-- The field's own command, where it has one. -/
def State.ownField (s : State) (g : Agent) (x : Fld) (i b v : Nat) : Option State :=
  match x.info.blk with
  | .hep => s.hepField x i b
  | .va => s.hepField x i b
  | .ciu => s.ciuField x b v
  | .ldg => s.ciuField x b v
  | .buf => s.bufField x b v
  | .btl => s.btlField x b v
  | .eng => s.engField x i b v
  | .mwr => s.mwrField x i b v
  | .chn => s.chnField x i b v
  | .srv => s.srvField x i b
  | .mpd => s.srvField x i b
  | .sup => s.supField x i b v
  | .sec => s.secField x b v
  | .efl => s.eflField g x i b v
  | .thm => s.thmField x i b v
  | .cal => s.thmField x i b v
  | .evr => s.thmField x i b v
  | .plv => s.plvField x b v
  | .mir => s.plvField x b v

/-- The fields that hold an array identifier (R126). -/
def Fld.isArray (x : Fld) : Bool := [Fld.BUF_SRAM_INIT_ARRAY, .BUF_SPARE_ARRAY, .BUF_FLIP_CTRL_ARRAY].contains x

/-- A write to one field that is not of class S, from the bits of the word at its place (R3). -/
def State.writeField (s : State) (g : Agent) (x : Fld) (i v : Nat) : State :=
  let b := bits v x.info.hi x.info.lo
  match x.opBit with
  | some k => if k = 32 ∨ bit v k then s else if x.isArray then s.setArray x b else s.setF x i b
  | none =>
    match s.ownField g x i b v with
    | some t => t
    | none =>
      match x.info.acc with
      | .rw => if x.info.cls = .b then s.writeB x i b else s.setF x i b
      | .w1c => s.setF x i (s.f x i - (s.f x i &&& b))
      | .w1s => s.setF x i (s.f x i ||| b)
      | .ro => s
      | .wo => s

/-- The fields of a register: every field with a copy at the address, in the order of the tables. -/
def fieldsAt (blk : Blk) (a : Nat) : List (Fld × Nat) :=
  Fld.all.filterMap (fun x => if x.info.blk = blk then (x.indexAt a).map (fun i => (x, i)) else none)

/-- A write to a register: class S fields by the state before the write (R4), then the others. -/
def State.writeReg (s : State) (g : Agent) (l : List (Fld × Nat)) (v : Nat) : State :=
  let l := l.filter (fun e => s.copyOk e.1.info.blk e.2)
  let st := l.filter (fun e => decide (e.1.info.cls = .s))
  let rest := l.filter (fun e => decide (e.1.info.cls ≠ .s))
  let s := st.foldl (fun u e => u.writeS e.1 e.2 (bits v e.1.info.hi e.1.info.lo)) s
  rest.foldl (fun u e => u.writeField g e.1 e.2 v) s

/-! ### Memory windows of the register space (R25, R190, R226) -/

/-- A word of a Quince engine's memories: program, coefficients, and the halves of a state word, each a part of an ECC word (R128, R190). -/
def State.qeMemWrite (s : State) (n o v : Nat) : State :=
  let q := s.qe n
  let err := s.cfgErr .eng (0x40580000 + 0x4000 * n + o)
  if o < 0x1000 then
    if !s.qeStill n then err else (s.sramStore 0x0C (n * 1024 + o / 4) true).setQe n { q with prog := Tbl.set q.prog 0 (o / 4) v }
  else if o < 0x1800 then
    let k := (o - 0x1000) / 4
    if k / 256 = s.g .SRV_QE_CFG_BANK (s.qeRole n) then err
    else (s.sramStore 0x0D (n * 512 + k) true).setQe n { q with coef := Tbl.set q.coef 0 k (v % 65536) }
  else
    let k := (o - 0x2000) / 8
    let old := Tbl.get q.st 0 k
    let w := if o % 8 = 0 then old / 2 ^ 32 * 2 ^ 32 + v else old % 2 ^ 32 + v % 256 * 2 ^ 32
    if !s.qeStill n then err else (s.sramStore 0x0E (n * 256 + k) false).setQe n { q with st := Tbl.set q.st 0 k w }

/-- The offsets of a Quince engine's window at which it has memory (R190). -/
def qeOffset (o : Nat) : Bool := decide (o < 0x1800) || (decide (0x2000 ≤ o) && decide (o < 0x2800))

/-- A word of a zone-table bank. -/
def State.zoneWrite (s : State) (a v : Nat) : State :=
  let k := (a - 0x40790000) / 4
  if k / 16384 = s.g .CHN_ZT_BANK_SEL 0 then s.cfgErr .chnCom a
  else s.updChn (fun c => { c with zt := Tbl.set c.zt 0 k v })

/-- The addresses at which register space has memory. -/
def qeWindow (a : Nat) : Bool := decide (0x40580000 ≤ a) && decide (a < 0x40580000 + 12 * 0x4000) && qeOffset ((a - 0x40580000) % 0x4000)
def ztWindow (a : Nat) : Bool := decide (0x40790000 ≤ a) && decide (a < 0x407B0000)

/-- A word of that memory. -/
def State.windowWrite (s : State) (a v : Nat) : State :=
  if qeWindow a then s.qeMemWrite ((a - 0x40580000) / 0x4000) ((a - 0x40580000) % 0x4000) v else s.zoneWrite a v

/-! ### The agents' paths (R16-R18, R20, R63, R343) -/

/-- The block at a register address, and the copy whose domain decides (a lane for CHN, 8 for its common registers). -/
def blkAt (a : Nat) : Blk × Nat :=
  let n := (a - 0x40000000) / 2 ^ 20
  let b := [Blk.hep, .ciu, .ldg, .buf, .btl, .eng, .mwr, .chn, .srv, .mpd, .sup, .sec, .efl, .thm, .cal, .evr, .plv, .mir].getD n .mir
  (b, if b = .chn then min 8 (a % 2 ^ 20 / 2 ^ 16) else 0)

/-- An address in register space, and one that no register or memory of its block occupies. -/
def inRegs (a : Nat) : Bool := decide (0x40000000 ≤ a) && decide (a < 0x41200000)
def emptyReg (a : Nat) : Bool := (fieldsAt (blkAt a).1 a).isEmpty && !qeWindow a && !ztWindow a

/-- An aligned 32-bit write to register space: nothing but a mark in SUP while the block is not started, whatever the offset (R18); an access
fault at an offset that nothing occupies (R17). -/
def State.regSpaceWrite (s : State) (g : Agent) (a v : Nat) : State :=
  s.onBlk (blkAt a).1 (blkAt a).2 (fun s =>
    if emptyReg a then s.accFault g
    else if (fieldsAt (blkAt a).1 a).isEmpty then s.windowWrite a v
    else s.writeReg g (fieldsAt (blkAt a).1 a) v)

/-- A store to Work SRAM: aligned to its size by a core (R166); it waits while the array is being initialised (R129). -/
def State.workWrite (s : State) (g : Agent) (a size v : Nat) : State :=
  if isCore g ∧ a % size ≠ 0 then s.misaligned g else s.access { g := g, a := a, w := some (leBytes size v), whole := false }

/-- A write through the internal map, by a core or by the debug port with its grant (R16, R17, R343). DESIGN CHOICE: of a write in register space
that is narrower, wider or misaligned, R1's access fault comes before R18's silence about a block that is not started, and in place of
R166's address-misaligned exception; PMP (R169) comes before both (log entry 116). -/
def State.coreWrite (s : State) (g : Agent) (a size v : Nat) : State :=
  let dbg := fun (k : Nat) => decide (g ≠ .debug) || s.dbg k
  if !s.pmpOk g a size 1 then s.accFault g
  else if inRegs a then
    if !dbg 2 then s
    else if size ≠ 4 ∨ a % 4 ≠ 0 then s.accFault g
    else s.regSpaceWrite g a v
  else if inWork a size then (if dbg 3 then s.workWrite g a size v else s)
  else if dramBase ≤ a then s.by (execBrambleAccess g (BitVec.ofNat 48 a) (some (leBytes size v)) false)
  else if a < 0x20000 ∨ (0x20000000 ≤ a ∧ a < 0x21000000) then s
  else s.accFault g

/-- A word of an MSI-X table entry (R26, R54): address low, address high, data, vector control. -/
def State.msixWrite (s : State) (p o v : Nat) : State :=
  let n := o / 16
  let m := s.vec p n
  if 1024 < n then s
  else
    match o % 16 / 4 with
    | 0 => s.setVec p n { m with addr := m.addr / 2 ^ 32 * 2 ^ 32 + v }
    | 1 => s.setVec p n { m with addr := m.addr % 2 ^ 32 + v * 2 ^ 32 }
    | 2 => s.setVec p n { m with data := v }
    | _ => if v % 2 = 1 then s.setVec p n { m with masked := true } else s.by (execMsixVectorUnmask (Fin.ofNat 2 p) (Fin.ofNat 1025 n))

/-- The NVMe controller registers that the rules read (R26): CC, AQA, ASQ and ACQ, the last three only while CC.EN is 0. -/
def State.nvmeWrite (s : State) (p o v : Nat) : State :=
  let c := s.ctrl p
  if o = 0x14 then
    let s := s.setCtrl p { c with cc := v, wrr := if c.en then c.wrr else bits v 13 11 == 1 }
    if bit v 0 then s.by (execControllerEnable (Fin.ofNat 2 p)) else s.by (execControllerReset (Fin.ofNat 2 p))
  else if c.en then s
  else
    match o with
    | 0x24 => s.setCtrl p { c with asqs := bits v 11 0, acqs := bits v 27 16 }
    | 0x28 => s.setCtrl p { c with asq := c.asq / 2 ^ 32 * 2 ^ 32 + v }
    | 0x2C => s.setCtrl p { c with asq := c.asq % 2 ^ 32 + v * 2 ^ 32 }
    | 0x30 => s.setCtrl p { c with acq := c.acq / 2 ^ 32 * 2 ^ 32 + v }
    | 0x34 => s.setCtrl p { c with acq := c.acq % 2 ^ 32 + v * 2 ^ 32 }
    | _ => s

/-- The value a register field returns to a reader (R3): a WO field reads 0; PEND of ENG_IRQ_ROUTE is the source's level (R195). -/
def State.reads (s : State) (x : Fld) (i : Nat) : Nat :=
  if x = .ENG_IRQ_ROUTE_PEND then (s.irqLevel i).toNat
  else match x.info.acc with
    | .wo => 0
    | _ => s.f x i

/-- The word that fields spell. -/
def State.word32 (s : State) (l : List (Fld × Nat)) : Nat := l.foldl (fun w e => w + s.reads e.1 e.2 * 2 ^ e.1.info.lo) 0

/-- The fields of a port's vendor register (R63, R98). -/
def vendorFields (p o : Nat) : List (Fld × Nat) := (fieldsAt .va (o + p * 2 ^ 40)).filter (fun e => e.2 == p)

/-- The NVMe controller registers as a host reads them (R20, R26, R57, R75, R127): MQES, AMS, DSTRD, MPSMIN and MPSMAX of CAP; CSTS with RDY and CFS;
CMBLOC and CMBSZ. The other bits of CAP and the other registers are not given: a free value of Config (log entry 119). -/
def State.nvmeRead (s : State) (p o : Nat) : Nat :=
  let c := s.ctrl p
  let x := Config.nvmeReg o % 2 ^ 32
  match o with
  | 0x00 => bits x 31 19 * 2 ^ 19 + 1 * 2 ^ 17 + bits x 16 16 * 2 ^ 16 + 0x0FFF
  | 0x04 => bits x 31 24 * 2 ^ 24 + 4 * 2 ^ 20 + 0 * 2 ^ 16 + bits x 15 4 * 2 ^ 4 + 0
  | 0x14 => setBit c.cc 0 c.en
  | 0x1C => bits x 31 2 * 4 + 2 * c.cfs.toNat + c.rdy.toNat
  | 0x24 => c.asqs + c.acqs * 2 ^ 16
  | 0x28 => c.asq % 2 ^ 32
  | 0x2C => c.asq / 2 ^ 32
  | 0x30 => c.acq % 2 ^ 32
  | 0x34 => c.acq / 2 ^ 32
  | 0x38 => 2
  | 0x3C => 64 * 2 ^ 12 + 2 * 2 ^ 8 + 1 * 2 ^ 4 + 1 * 2 ^ 3 + 1 * 2 ^ 2 + 0 * 2 + 1
  | _ => x

/-- A word of the MSI-X table (R53, R54), and of its pending-bit array. -/
def State.msixRead (s : State) (p o : Nat) : Nat :=
  let m := s.vec p (o / 16)
  if 1024 < o / 16 then 0
  else
    match o % 16 / 4 with
    | 0 => m.addr % 2 ^ 32
    | 1 => m.addr / 2 ^ 32
    | 2 => m.data
    | _ => m.masked.toNat

def State.pbaRead (s : State) (p o : Nat) : Nat :=
  (List.range 32).foldr (fun i w => 2 * w + (decide (8 * o + i ≤ 1024) && (s.vec p (8 * o + i)).pending).toNat) 0

/-- The word at an offset of BAR0 (R20, R63): zero where the table reserves it. What a doorbell reads is not given: a free value of Config. -/
def State.bar0 (s : State) (p o : Nat) : Nat :=
  if o < 0x1000 then s.nvmeRead p o
  else if o < 0x3008 then Config.nvmeReg o % 2 ^ 32
  else if o < 0x4000 then 0
  else if o < 0x8000 then s.word32 (vendorFields p o)
  else if o < 0xE000 then s.msixRead p (o - 0x8000)
  else if o < 0x10000 then s.pbaRead p (o - 0xE000)
  else 0

/-- A host's write to BAR0 (R20, R32, R46, R63): EN does not matter to it. A doorbell, an MSI-X entry, a vendor register; any other offset
ignores it, and a poisoned one is discarded. DESIGN CHOICE: while the HOST domain is off the port answers nothing and records nothing, since R18
speaks of the internal map alone (log entry 118). -/
def State.hostWrite (s : State) (p a size v : Nat) (poisoned : Bool) : State :=
  s.inBlk .hep p (fun s => s.onPort p (fun s =>
    if poisoned then s.poisonedTlp p
    else if size ≠ 4 ∨ a % 4 ≠ 0 then s
    else if a < 0x1000 then s.nvmeWrite p a v
    else if a ≤ 0x3004 then
      let q : Fin 1025 := Fin.ofNat 1025 ((a - 0x1000) / 8)
      if a % 8 = 0 then s.by (execSqDoorbell (Fin.ofNat 2 p) q (BitVec.ofNat 16 v) false)
      else s.by (execCqHeadDoorbell (Fin.ofNat 2 p) q (BitVec.ofNat 16 v) false)
    else if 0x8000 ≤ a ∧ a < 0xE000 then s.msixWrite p (a - 0x8000) v
    else s.writeReg (.host (Fin.ofNat 2 p)) (vendorFields p a) v))

/-- A host's read of BAR0: one completion with the words at the address. -/
def State.hostRead (s : State) (p a size : Nat) : State :=
  s.inBlk .hep p (fun s => s.onPort p (fun s =>
    s.send (.cplTlp p 0 (leBytes size ((s.bar0 p (a / 4 * 4) + s.bar0 p (a / 4 * 4 + 4) * 2 ^ 32) / 2 ^ (8 * (a % 4)))) false)))

/-- A register write on its agent's path: a core's and the debug port's through the internal map, a host's through BAR0. Sequencers and DMA
engines have no path to the registers (R16). -/
def State.regWrite (s : State) (g : Agent) (a size v : Nat) (poisoned : Bool) : State :=
  match g with
  | .core _ => s.coreWrite g a size v
  | .debug => s.coreWrite g a size v
  | .host p => s.hostWrite p a size v poisoned
  | _ => s

/-- REGISTER_WRITE (R1-R6, R8, R10, R16-R18, R20, R343). An interrupt level that the write ends or raises is met by the cores in WFI (R166). -/
def execRegisterWrite (g : Agent) (a : Addr) (size : Nat) (v : WriteWord) (s : State) : Outcome :=
  .next ((s.wakeCores.regWrite g a.toNat size v.value.toNat v.poisoned).wakeCores)

/-! ### Reads with an effect of their own -/

/-- The halves of a split pair: fields (or the state memory word) of the low and the high register. -/
def State.pairHalves (s : State) : Pair → Nat × Nat
  | .eccLog => (s.f .BUF_ECC_LOG_LO_ADDR_LO 0 * 2 ^ 6, s.f .BUF_ECC_LOG_HI_ADDR_HI 0 + s.f .BUF_ECC_LOG_HI_UE 0 * 2 ^ 16)
  | .ldgSeq => (s.f .LDG_SEQ_LO_SEQ_LO 0, s.f .LDG_SEQ_HI_SEQ_HI 0)
  | .ldgHinfo p => (s.f .LDG_HINFO_LO_NEWEST_LO p, s.f .LDG_HINFO_HI_NEWEST_HI p)
  | .btlMseq => (s.f .BTL_MSEQ_LO_NEXT_LO 0, s.f .BTL_MSEQ_HI_NEXT_HI 0)
  | .btlGen => (s.f .BTL_GEN_LO_NEXT_LO 0, s.f .BTL_GEN_HI_NEXT_HI 0)
  | .appMseq => (s.f .BTL_APP_MSEQ_LO_MSEQ_LO 0, s.f .BTL_APP_MSEQ_HI_MSEQ_HI 0)
  | .appGen => (s.f .BTL_APP_GEN_LO_GEN_LO 0, s.f .BTL_APP_GEN_HI_GEN_HI 0)
  | .mtime => (s.f .ENG_MTIME_LO_MTIME_LO 0, s.f .ENG_MTIME_HI_MTIME_HI 0)
  | .aont => (s.f .SUP_AONT_LO_T_LO 0, s.f .SUP_AONT_HI_T_HI 0)
  | .uid => (s.f .SEC_UID_LO_UID_LO 0, s.f .SEC_UID_HI_UID_HI 0)
  | .plvImg => (s.f .PLV_IMG_LO_SEQ_LO 0, s.f .PLV_IMG_HI_SEQ_HI 0)
  | .qeState n w => (Tbl.get (s.qe n).st 0 w.toNat % 2 ^ 32, Tbl.get (s.qe n).st 0 w.toNat / 2 ^ 32)

/-- The key of a pair's latch. -/
def pairKey : Pair → Nat
  | .eccLog => 0
  | .ldgSeq => 1
  | .ldgHinfo p => 2 + p
  | .btlMseq => 4
  | .btlGen => 5
  | .appMseq => 6
  | .appGen => 7
  | .mtime => 8
  | .aont => 9
  | .uid => 10
  | .plvImg => 11
  | .qeState n w => 256 + n * 256 + w.toNat

/-- The block of a pair. -/
def pairBlk : Pair → Blk
  | .eccLog => .buf
  | .ldgSeq => .ldg
  | .ldgHinfo _ => .ldg
  | .btlMseq => .btl
  | .btlGen => .btl
  | .appMseq => .btl
  | .appGen => .btl
  | .mtime => .eng
  | .aont => .sup
  | .uid => .sec
  | .plvImg => .plv
  | .qeState _ _ => .eng

/-- What a read of the high half returns (R19): the latch, or the present value where no low read has loaded it. -/
def State.pairHigh (s : State) (p : Pair) : Nat := (Tbl.get s.dev.latch none (pairKey p)).getD (s.pairHalves p).2

/-- SPLIT_LOW_READ (R19, R98): the latch takes the high half and the reader gets the low one; of a block that is not started, 0 (R18). -/
def execSplitLowRead (p : Pair) (s : State) : Outcome :=
  .next (
    if !s.blkOn (pairBlk p) 0 then (s.unstarted (pairBlk p)).send (.readData 0)
    else (s.updDev (fun d => { d with latch := Tbl.set d.latch none (pairKey p) (some (s.pairHalves p).2) })).send (.readData (s.pairHalves p).1))

/-- An access through the internal map that no target takes (R1, R17): outside every region, at an offset that no register occupies of a
started block (R18), narrower or misaligned in register space, or at or above the end of DRAM. -/
def State.noTarget (s : State) (a size : Nat) : Bool :=
  if inRegs a then size != 4 || a % 4 != 0 || (s.blkOn (blkAt a).1 (blkAt a).2 && emptyReg a)
  else !(decide (a < 0x20000) || inWork a 1 || (decide (0x20000000 ≤ a) && decide (a < 0x21000000)) || s.inDram a 1)

/-- UNMAPPED_ACCESS (R1, R17): an access fault on the issuing core; a read returns 0, a write is discarded. A host's is one to BAR0 (R20), where
an offset without a target reads 0 and ignores writes: DESIGN CHOICE, the table has no row for a host's register read, and this one
answers every one of them (log entry 119). -/
def execUnmappedAccess (g : Agent) (a : Addr) (k : AccessKind) (s : State) : Outcome :=
  .next (
    match g with
    | .host p => if k.write then s else s.hostRead p a.toNat k.size
    | _ =>
      if !s.noTarget a.toNat k.size then s
      else if k.write then s.accFault g else (s.loadFault g).send (.readData 0))

/-- UNSTARTED_BLOCK_ACCESS (R18): no fault; a read returns 0, a write is discarded, and SUP records the block once. -/
def execUnstartedBlockAccess (a : Addr) (write : Bool) (s : State) : Outcome :=
  .next (
    if a.toNat < 0x40000000 ∨ 0x41200000 ≤ a.toNat ∨ s.blkOn (blkAt a.toNat).1 (blkAt a.toNat).2 then s
    else
      let s := s.unstarted (blkAt a.toNat).1
      if write then s else s.send (.readData 0))

end Sys2Proof.Machine
end

