-- ==== Sys2Proof/Machine/Dispatch.lean ====
section
/-!
DEFINITION. Machine/Dispatch.lean: one arm per command, each one call of its meaning.
-/
namespace Sys2Proof.Machine

def exec (i : Instr) (s : State) : Host.Outcome State Fault Refusal :=
  match i with
  | .registerWrite g a size v => Sys2Proof.Machine.execRegisterWrite g a size v s
  | .commit g => Sys2Proof.Machine.execCommit g s
  | .shadowApply g => Sys2Proof.Machine.execShadowApply g s
  | .splitLowRead p => Sys2Proof.Machine.execSplitLowRead p s
  | .unmappedAccess g a k => Sys2Proof.Machine.execUnmappedAccess g a k s
  | .unstartedBlockAccess a write => Sys2Proof.Machine.execUnstartedBlockAccess a write s
  | .hepEn p v => Sys2Proof.Machine.execHepEn p v s
  | .configurationRequest p r => Sys2Proof.Machine.execConfigurationRequest p r s
  | .completionTlp p tag data good poisoned expiring => Sys2Proof.Machine.execCompletionTlp p tag data good poisoned expiring s
  | .completionTimeout p tag => Sys2Proof.Machine.execCompletionTimeout p tag s
  | .quarantineHoldExpiry p tag => Sys2Proof.Machine.execQuarantineHoldExpiry p tag s
  | .cmbWrite p off data poisoned => Sys2Proof.Machine.execCmbWrite p off data poisoned s
  | .cmbRead p off len => Sys2Proof.Machine.execCmbRead p off len s
  | .peerWindowWrite p off data contiguous poisoned => Sys2Proof.Machine.execPeerWindowWrite p off data contiguous poisoned s
  | .peerWindowRead p off len => Sys2Proof.Machine.execPeerWindowRead p off len s
  | .assemblyTimeout p slot => Sys2Proof.Machine.execAssemblyTimeout p slot s
  | .windowIdleBoundary p => Sys2Proof.Machine.execWindowIdleBoundary p s
  | .forcedBoundary p => Sys2Proof.Machine.execForcedBoundary p s
  | .cntClr p => Sys2Proof.Machine.execCntClr p s
  | .flr p => Sys2Proof.Machine.execFlr p s
  | .linkDown p => Sys2Proof.Machine.execLinkDown p s
  | .perst p => Sys2Proof.Machine.execPerst p s
  | .translationCompletion p tag size host rd wr => Sys2Proof.Machine.execTranslationCompletion p tag size host rd wr s
  | .invalidateRequest p itag start size => Sys2Proof.Machine.execInvalidateRequest p itag start size s
  | .invalidateCompletion p => Sys2Proof.Machine.execInvalidateCompletion p s
  | .atsEnableClear p => Sys2Proof.Machine.execAtsEnableClear p s
  | .msixVectorUnmask p vec => Sys2Proof.Machine.execMsixVectorUnmask p vec s
  | .cqHeadDoorbell p q head poisoned => Sys2Proof.Machine.execCqHeadDoorbell p q head poisoned s
  | .attentionButtonPress => Sys2Proof.Machine.execAttentionButtonPress s
  | .logPageC8 t retain => Sys2Proof.Machine.execLogPageC8 t retain s
  | .sqDoorbell p q tail poisoned => Sys2Proof.Machine.execSqDoorbell p q tail poisoned s
  | .arbitrationGrant => Sys2Proof.Machine.execArbitrationGrant s
  | .commandIntake p q e => Sys2Proof.Machine.execCommandIntake p q e s
  | .overlapWaitEnd t => Sys2Proof.Machine.execOverlapWaitEnd t s
  | .bufferSlotWaitEnd t => Sys2Proof.Machine.execBufferSlotWaitEnd t s
  | .writeDataBuffered t => Sys2Proof.Machine.execWriteDataBuffered t s
  | .writeCompletionRelease t => Sys2Proof.Machine.execWriteCompletionRelease t s
  | .controllerEnable p => Sys2Proof.Machine.execControllerEnable p s
  | .controllerReset p => Sys2Proof.Machine.execControllerReset p s
  | .createIoSubmissionQueue t q cq size base prio => Sys2Proof.Machine.execCreateIoSubmissionQueue t q cq size base prio s
  | .createIoCompletionQueue t q size base vec inCmb => Sys2Proof.Machine.execCreateIoCompletionQueue t q size base vec inCmb s
  | .deleteIoSubmissionQueue t q => Sys2Proof.Machine.execDeleteIoSubmissionQueue t q s
  | .deleteIoCompletionQueue t q => Sys2Proof.Machine.execDeleteIoCompletionQueue t q s
  | .getLogPage t lid off len => Sys2Proof.Machine.execGetLogPage t lid off len s
  | .ledgerLogPage t off len => Sys2Proof.Machine.execLedgerLogPage t off len s
  | .bootChainLogPage t off len => Sys2Proof.Machine.execBootChainLogPage t off len s
  | .eventLogPage t off len => Sys2Proof.Machine.execEventLogPage t off len s
  | .identify t cns => Sys2Proof.Machine.execIdentify t cns s
  | .abort t q cid => Sys2Proof.Machine.execAbort t q cid s
  | .setFeatures t fid v => Sys2Proof.Machine.execSetFeatures t fid v s
  | .getFeatures t fid => Sys2Proof.Machine.execGetFeatures t fid s
  | .asynchronousEventRequest t => Sys2Proof.Machine.execAsynchronousEventRequest t s
  | .namespaceCreate t blocks msize zoned prot => Sys2Proof.Machine.execNamespaceCreate t blocks msize zoned prot s
  | .namespaceDelete t ns => Sys2Proof.Machine.execNamespaceDelete t ns s
  | .namespaceAttachment t ns p attach => Sys2Proof.Machine.execNamespaceAttachment t ns p attach s
  | .firmwareImageDownload t cls off data => Sys2Proof.Machine.execFirmwareImageDownload t cls off data s
  | .firmwareCommitWrite t slotB => Sys2Proof.Machine.execFirmwareCommitWrite t slotB s
  | .firmwareCommitWriteTrial t slotB => Sys2Proof.Machine.execFirmwareCommitWriteTrial t slotB s
  | .firmwareCommitTrialInPlace t slotB => Sys2Proof.Machine.execFirmwareCommitTrialInPlace t slotB s
  | .firmwareCommitResetRequired t slotB => Sys2Proof.Machine.execFirmwareCommitResetRequired t slotB s
  | .formatNvm t ns msize crypto => Sys2Proof.Machine.execFormatNvm t ns msize crypto s
  | .securitySend t proto req => Sys2Proof.Machine.execSecuritySend t proto req s
  | .securityReceive t proto len => Sys2Proof.Machine.execSecurityReceive t proto len s
  | .sanitizeCryptoErase t => Sys2Proof.Machine.execSanitizeCryptoErase t s
  | .sanitizeBlockErase t => Sys2Proof.Machine.execSanitizeBlockErase t s
  | .deviceSelfTest t code => Sys2Proof.Machine.execDeviceSelfTest t code s
  | .flush t => Sys2Proof.Machine.execFlush t s
  | .write t blocks e => Sys2Proof.Machine.execWrite t blocks e s
  | .read t media e => Sys2Proof.Machine.execRead t media e s
  | .writeZeroes t => Sys2Proof.Machine.execWriteZeroes t s
  | .compare t host media e => Sys2Proof.Machine.execCompare t host media e s
  | .datasetManagement t => Sys2Proof.Machine.execDatasetManagement t s
  | .verify t media e => Sys2Proof.Machine.execVerify t media e s
  | .reservationRegister t action cur new => Sys2Proof.Machine.execReservationRegister t action cur new s
  | .reservationReport t => Sys2Proof.Machine.execReservationReport t s
  | .reservationAcquire t action rtype cur preempt => Sys2Proof.Machine.execReservationAcquire t action rtype cur preempt s
  | .reservationRelease t clear cur => Sys2Proof.Machine.execReservationRelease t clear cur s
  | .zoneClose t => Sys2Proof.Machine.execZoneClose t s
  | .zoneFinish t => Sys2Proof.Machine.execZoneFinish t s
  | .zoneOpen t => Sys2Proof.Machine.execZoneOpen t s
  | .zoneReset t => Sys2Proof.Machine.execZoneReset t s
  | .zoneOffline t => Sys2Proof.Machine.execZoneOffline t s
  | .zoneManagementReceive t => Sys2Proof.Machine.execZoneManagementReceive t s
  | .zoneAppend t blocks e => Sys2Proof.Machine.execZoneAppend t blocks e s
  | .ciuEn v => Sys2Proof.Machine.execCiuEn v s
  | .bufferSlotRelease n => Sys2Proof.Machine.execBufferSlotRelease n s
  | .abortLookup q cid => Sys2Proof.Machine.execAbortLookup q cid s
  | .ldgEn v mirror => Sys2Proof.Machine.execLdgEn v mirror s
  | .bufDdrEn v => Sys2Proof.Machine.execBufDdrEn v s
  | .ddrTrainingEnd good => Sys2Proof.Machine.execDdrTrainingEnd good s
  | .dramFill a => Sys2Proof.Machine.execDramFill a s
  | .patrolScrub => Sys2Proof.Machine.execPatrolScrub s
  | .postPackageRepair bank row ch => Sys2Proof.Machine.execPostPackageRepair bank row ch s
  | .repairEnd good => Sys2Proof.Machine.execRepairEnd good s
  | .brambleAccess g a w whole => Sys2Proof.Machine.execBrambleAccess g a w whole s
  | .pipPrefetch a => Sys2Proof.Machine.execPipPrefetch a s
  | .evictionAccept => Sys2Proof.Machine.execEvictionAccept s
  | .evictionDone => Sys2Proof.Machine.execEvictionDone s
  | .clean count setWay => Sys2Proof.Machine.execClean count setWay s
  | .invalidate count setWay => Sys2Proof.Machine.execInvalidate count setWay s
  | .cleanAndInvalidate count setWay => Sys2Proof.Machine.execCleanAndInvalidate count setWay s
  | .maintenanceEnd => Sys2Proof.Machine.execMaintenanceEnd s
  | .brambleDisable => Sys2Proof.Machine.execBrambleDisable s
  | .disableWalkEnd => Sys2Proof.Machine.execDisableWalkEnd s
  | .brambleEnable => Sys2Proof.Machine.execBrambleEnable s
  | .sramInit array => Sys2Proof.Machine.execSramInit array s
  | .sramInitEnd => Sys2Proof.Machine.execSramInitEnd s
  | .spareRow array row perm => Sys2Proof.Machine.execSpareRow array row perm s
  | .spareRowEnd => Sys2Proof.Machine.execSpareRowEnd s
  | .flipArm array check => Sys2Proof.Machine.execFlipArm array check s
  | .btlEn v => Sys2Proof.Machine.execBtlEn v s
  | .openRecord flags band owner purpose nsidx acc => Sys2Proof.Machine.execOpenRecord flags band owner purpose nsidx acc s
  | .commitRecord flags new old owner upto nsidx hgen8 => Sys2Proof.Machine.execCommitRecord flags new old owner upto nsidx hgen8 s
  | .resetRecord flags band hgen => Sys2Proof.Machine.execResetRecord flags band hgen s
  | .retireRecord flags band cause => Sys2Proof.Machine.execRetireRecord flags band cause s
  | .mcPutRecord flags nsidx len lba pma => Sys2Proof.Machine.execMcPutRecord flags nsidx len lba pma s
  | .zoneWpRecord flags nsidx zone wp => Sys2Proof.Machine.execZoneWpRecord flags nsidx zone wp s
  | .sealRecord flags band hgen => Sys2Proof.Machine.execSealRecord flags band hgen s
  | .checkpointRecord flags pma covers => Sys2Proof.Machine.execCheckpointRecord flags pma covers s
  | .modeRecord flags degraded => Sys2Proof.Machine.execModeRecord flags degraded s
  | .headFailRecord head => Sys2Proof.Machine.execHeadFailRecord head s
  | .refreshQueueRead => Sys2Proof.Machine.execRefreshQueueRead s
  | .coreRun n v => Sys2Proof.Machine.execCoreRun n v s
  | .mtimeCompare n => Sys2Proof.Machine.execMtimeCompare n s
  | .ipiSet m => Sys2Proof.Machine.execIpiSet m s
  | .ipiClear m => Sys2Proof.Machine.execIpiClear m s
  | .interruptClaim n => Sys2Proof.Machine.execInterruptClaim n s
  | .interruptComplete n src => Sys2Proof.Machine.execInterruptComplete n src s
  | .wfi n mie => Sys2Proof.Machine.execWfi n mie s
  | .fenceI n => Sys2Proof.Machine.execFenceI n s
  | .lrScAmo n op dword a rd v => Sys2Proof.Machine.execLrScAmo n op dword a rd v s
  | .controlStoreLoad cls first count => Sys2Proof.Machine.execControlStoreLoad cls first count s
  | .controlStoreLoadEnd => Sys2Proof.Machine.execControlStoreLoadEnd s
  | .csStart n entry => Sys2Proof.Machine.execCsStart n entry s
  | .csStop n => Sys2Proof.Machine.execCsStop n s
  | .kill n => Sys2Proof.Machine.execKill n s
  | .abandon n => Sys2Proof.Machine.execAbandon n s
  | .spareCsBind k cls repl bind => Sys2Proof.Machine.execSpareCsBind k cls repl bind s
  | .spareQeBind m bind => Sys2Proof.Machine.execSpareQeBind m bind s
  | .qeStart n => Sys2Proof.Machine.execQeStart n s
  | .qeStop n => Sys2Proof.Machine.execQeStop n s
  | .qeTrigger n inputs => Sys2Proof.Machine.execQeTrigger n inputs s
  | .waitEnd n cause => Sys2Proof.Machine.execWaitEnd n cause s
  | .jump n next => Sys2Proof.Machine.execJump n next s
  | .cond1 n next c0 => Sys2Proof.Machine.execCond1 n next c0 s
  | .cond2 n next c0 c1 => Sys2Proof.Machine.execCond2 n next c0 c1 s
  | .cond3 n next c0 c1 c2 => Sys2Proof.Machine.execCond3 n next c0 c1 c2 s
  | .cond4 n next c0 c1 c2 c3 => Sys2Proof.Machine.execCond4 n next c0 c1 c2 c3 s
  | .call n next ret => Sys2Proof.Machine.execCall n next ret s
  | .ret n => Sys2Proof.Machine.execRet n s
  | .dispatch n next => Sys2Proof.Machine.execDispatch n next s
  | .loop n next => Sys2Proof.Machine.execLoop n next s
  | .halt n => Sys2Proof.Machine.execHalt n s
  | .aMov n d r => Sys2Proof.Machine.execAMov n d r s
  | .aLdi n d imm => Sys2Proof.Machine.execALdi n d imm s
  | .aLdh n d imm => Sys2Proof.Machine.execALdh n d imm s
  | .aAdd n d r => Sys2Proof.Machine.execAAdd n d r s
  | .aAddi n d imm => Sys2Proof.Machine.execAAddi n d imm s
  | .aSub n d r => Sys2Proof.Machine.execASub n d r s
  | .aAnd n d r => Sys2Proof.Machine.execAAnd n d r s
  | .aOr n d r => Sys2Proof.Machine.execAOr n d r s
  | .aXor n d r => Sys2Proof.Machine.execAXor n d r s
  | .aShr n d imm => Sys2Proof.Machine.execAShr n d imm s
  | .aShl n d imm => Sys2Proof.Machine.execAShl n d imm s
  | .aLdd n d imm => Sys2Proof.Machine.execALdd n d imm s
  | .aStd n r imm => Sys2Proof.Machine.execAStd n r imm s
  | .aLdlc n r => Sys2Proof.Machine.execALdlc n r s
  | .aCmp n d r => Sys2Proof.Machine.execACmp n d r s
  | .armRead n => Sys2Proof.Machine.execArmRead n s
  | .armWrite n => Sys2Proof.Machine.execArmWrite n s
  | .sector n => Sys2Proof.Machine.execSector n s
  | .replay n off set => Sys2Proof.Machine.execReplay n off set s
  | .zone n idx => Sys2Proof.Machine.execZone n idx s
  | .assist n code => Sys2Proof.Machine.execAssist n code s
  | .disarm n => Sys2Proof.Machine.execDisarm n s
  | .dmaFetch n => Sys2Proof.Machine.execDmaFetch n s
  | .fetchRaw n => Sys2Proof.Machine.execFetchRaw n s
  | .store n => Sys2Proof.Machine.execStore n s
  | .post n code => Sys2Proof.Machine.execPost n code s
  | .take n => Sys2Proof.Machine.execTake n s
  | .select n => Sys2Proof.Machine.execSelect n s
  | .ringFetch n r => Sys2Proof.Machine.execRingFetch n r s
  | .forward n r idx => Sys2Proof.Machine.execForward n r idx s
  | .complete n r idx code => Sys2Proof.Machine.execComplete n r idx code s
  | .ringError n r => Sys2Proof.Machine.execRingError n r s
  | .fetchSqe n p q => Sys2Proof.Machine.execFetchSqe n p q s
  | .tx n d => Sys2Proof.Machine.execTx n d s
  | .rx n lba dst data pi => Sys2Proof.Machine.execRx n lba dst data pi s
  | .postCqe n => Sys2Proof.Machine.execPostCqe n s
  | .msix n => Sys2Proof.Machine.execMsix n s
  | .prefetch n a => Sys2Proof.Machine.execPrefetch n a s
  | .alloc n => Sys2Proof.Machine.execAlloc n s
  | .release n => Sys2Proof.Machine.execRelease n s
  | .insert x => Sys2Proof.Machine.execInsert x s
  | .search n => Sys2Proof.Machine.execSearch n s
  | .remove n => Sys2Proof.Machine.execRemove n s
  | .appendAccepted n => Sys2Proof.Machine.execAppendAccepted n s
  | .ldgState n st => Sys2Proof.Machine.execLdgState n st s
  | .ldgFlags n f => Sys2Proof.Machine.execLdgFlags n f s
  | .lookup n => Sys2Proof.Machine.execLookup n s
  | .publish n => Sys2Proof.Machine.execPublish n s
  | .window n => Sys2Proof.Machine.execWindow n s
  | .demod n => Sys2Proof.Machine.execDemod n s
  | .pes n => Sys2Proof.Machine.execPes n s
  | .trigger n iMeas vel maPri maMate => Sys2Proof.Machine.execTrigger n iMeas vel maPri maMate s
  | .stamp n => Sys2Proof.Machine.execStamp n s
  | .wclk n err => Sys2Proof.Machine.execWclk n err s
  | .subRead n => Sys2Proof.Machine.execSubRead n s
  | .subWrite n => Sys2Proof.Machine.execSubWrite n s
  | .copyXor n => Sys2Proof.Machine.execCopyXor n s
  | .copyLog n => Sys2Proof.Machine.execCopyLog n s
  | .subVerify n => Sys2Proof.Machine.execSubVerify n s
  | .drv n d => Sys2Proof.Machine.execDrv n d s
  | .sample n m v => Sys2Proof.Machine.execSample n m v s
  | .vault n => Sys2Proof.Machine.execVault n s
  | .sloe n dom on => Sys2Proof.Machine.execSloe n dom on s
  | .qNop n => Sys2Proof.Machine.execQNop n s
  | .qClr n a => Sys2Proof.Machine.execQClr n a s
  | .qLda n a x => Sys2Proof.Machine.execQLda n a x s
  | .qLdp n a x t => Sys2Proof.Machine.execQLdp n a x t s
  | .qLds n a k => Sys2Proof.Machine.execQLds n a k s
  | .qSts n a k => Sys2Proof.Machine.execQSts n a k s
  | .qAdds n a k => Sys2Proof.Machine.execQAdds n a k s
  | .qMpy n a x k => Sys2Proof.Machine.execQMpy n a x k s
  | .qMac n a x k => Sys2Proof.Machine.execQMac n a x k s
  | .qMsu n a x k => Sys2Proof.Machine.execQMsu n a x k s
  | .qMpyx n a x t => Sys2Proof.Machine.execQMpyx n a x t s
  | .qMacx n a x t => Sys2Proof.Machine.execQMacx n a x t s
  | .qAdda n a => Sys2Proof.Machine.execQAdda n a s
  | .qSuba n a => Sys2Proof.Machine.execQSuba n a s
  | .qSha n a sh => Sys2Proof.Machine.execQSha n a sh s
  | .qClamp n a k => Sys2Proof.Machine.execQClamp n a k s
  | .qMov n d x => Sys2Proof.Machine.execQMov n d x s
  | .qLdi n d imm => Sys2Proof.Machine.execQLdi n d imm s
  | .qLdc n d k => Sys2Proof.Machine.execQLdc n d k s
  | .qIn n d p => Sys2Proof.Machine.execQIn n d p s
  | .qOut n x p => Sys2Proof.Machine.execQOut n x p s
  | .qAdd n d x t => Sys2Proof.Machine.execQAdd n d x t s
  | .qSub n d x t => Sys2Proof.Machine.execQSub n d x t s
  | .qMul n d x t => Sys2Proof.Machine.execQMul n d x t s
  | .qSth n d a => Sys2Proof.Machine.execQSth n d a s
  | .qStl n d a => Sys2Proof.Machine.execQStl n d a s
  | .qLim n d x k => Sys2Proof.Machine.execQLim n d x k s
  | .qAbs n d x => Sys2Proof.Machine.execQAbs n d x s
  | .qAnd n d x t => Sys2Proof.Machine.execQAnd n d x t s
  | .qOr n d x t => Sys2Proof.Machine.execQOr n d x t s
  | .qCmp n x t => Sys2Proof.Machine.execQCmp n x t s
  | .qCmpa n a => Sys2Proof.Machine.execQCmpa n a s
  | .qJmp n target => Sys2Proof.Machine.execQJmp n target s
  | .qBr n cond target => Sys2Proof.Machine.execQBr n cond target s
  | .qSig n bits => Sys2Proof.Machine.execQSig n bits s
  | .qEnd n => Sys2Proof.Machine.execQEnd n s
  | .illegalInstruction n => Sys2Proof.Machine.execIllegalInstruction n s
  | .mwrEn v => Sys2Proof.Machine.execMwrEn v s
  | .doorbell r tail => Sys2Proof.Machine.execDoorbell r tail s
  | .errorEntry r => Sys2Proof.Machine.execErrorEntry r s
  | .ringEnable r => Sys2Proof.Machine.execRingEnable r s
  | .ringDisable r => Sys2Proof.Machine.execRingDisable r s
  | .drainEnd r => Sys2Proof.Machine.execDrainEnd r s
  | .abortComplete r => Sys2Proof.Machine.execAbortComplete r s
  | .abortCompleteEnd r => Sys2Proof.Machine.execAbortCompleteEnd r s
  | .resume r => Sys2Proof.Machine.execResume r s
  | .clrOvr r => Sys2Proof.Machine.execClrOvr r s
  | .withdraw r tag => Sys2Proof.Machine.execWithdraw r tag s
  | .withdrawScanEnd => Sys2Proof.Machine.execWithdrawScanEnd s
  | .formatterRead l => Sys2Proof.Machine.execFormatterRead l s
  | .formatterWrite l => Sys2Proof.Machine.execFormatterWrite l s
  | .readCheck l => Sys2Proof.Machine.execReadCheck l s
  | .readRaw l samples => Sys2Proof.Machine.execReadRaw l samples s
  | .seek a => Sys2Proof.Machine.execSeek a s
  | .follow a => Sys2Proof.Machine.execFollow a s
  | .armMate a => Sys2Proof.Machine.execArmMate a s
  | .unload a => Sys2Proof.Machine.execUnload a s
  | .load a => Sys2Proof.Machine.execLoad a s
  | .copy n => Sys2Proof.Machine.execCopy n s
  | .bandVerify n bad => Sys2Proof.Machine.execBandVerify n bad s
  | .xor n => Sys2Proof.Machine.execXor n s
  | .log n => Sys2Proof.Machine.execLog n s
  | .portLog => Sys2Proof.Machine.execPortLog s
  | .start => Sys2Proof.Machine.execStart s
  | .stop => Sys2Proof.Machine.execStop s
  | .tier => Sys2Proof.Machine.execTier s
  | .retract => Sys2Proof.Machine.execRetract s
  | .measure => Sys2Proof.Machine.execMeasure s
  | .arm eraseGood => Sys2Proof.Machine.execArm eraseGood s
  | .save => Sys2Proof.Machine.execSave s
  | .restore => Sys2Proof.Machine.execRestore s
  | .scan => Sys2Proof.Machine.execScan s
  | .laneEn l v => Sys2Proof.Machine.execLaneEn l v s
  | .sectorStart l primary recovery => Sys2Proof.Machine.execSectorStart l primary recovery s
  | .sectorEnd l => Sys2Proof.Machine.execSectorEnd l s
  | .decodeEnd l dec field => Sys2Proof.Machine.execDecodeEnd l dec field s
  | .replayAttempt l sector off set => Sys2Proof.Machine.execReplayAttempt l sector off set s
  | .writeSector l => Sys2Proof.Machine.execWriteSector l s
  | .preampFault a => Sys2Proof.Machine.execPreampFault a s
  | .decoderFault l dec => Sys2Proof.Machine.execDecoderFault l dec s
  | .spareDecoderBind k l dec bind => Sys2Proof.Machine.execSpareDecoderBind k l dec bind s
  | .zoneTableCommit => Sys2Proof.Machine.execZoneTableCommit s
  | .preampControlFrame a frame ack => Sys2Proof.Machine.execPreampControlFrame a frame ack s
  | .srvEn v => Sys2Proof.Machine.execSrvEn v s
  | .samFound a mate time => Sys2Proof.Machine.execSamFound a mate time s
  | .windowEnd a mate => Sys2Proof.Machine.execWindowEnd a mate s
  | .demodDone a mate m => Sys2Proof.Machine.execDemodDone a mate m s
  | .faultHoldExpiry a => Sys2Proof.Machine.execFaultHoldExpiry a s
  | .mpdEn v => Sys2Proof.Machine.execMpdEn v s
  | .bemfCrossing valid angle => Sys2Proof.Machine.execBemfCrossing valid angle s
  | .pseudoStamp => Sys2Proof.Machine.execPseudoStamp s
  | .wedgeGapCheck residual => Sys2Proof.Machine.execWedgeGapCheck residual s
  | .measureEnd rpm backward => Sys2Proof.Machine.execMeasureEnd rpm backward s
  | .alignEnd => Sys2Proof.Machine.execAlignEnd s
  | .openLoopTimeout => Sys2Proof.Machine.execOpenLoopTimeout s
  | .holdTimeout => Sys2Proof.Machine.execHoldTimeout s
  | .reacquireTimeout => Sys2Proof.Machine.execReacquireTimeout s
  | .coastTimeout => Sys2Proof.Machine.execCoastTimeout s
  | .speedThreshold rpm => Sys2Proof.Machine.execSpeedThreshold rpm s
  | .driverTrip d c => Sys2Proof.Machine.execDriverTrip d c s
  | .retractParked a => Sys2Proof.Machine.execRetractParked a s
  | .retractTimeout a => Sys2Proof.Machine.execRetractTimeout a s
  | .harvestEnd mj => Sys2Proof.Machine.execHarvestEnd mj s
  | .railFault rail => Sys2Proof.Machine.execRailFault rail s
  | .lowvSet mv => Sys2Proof.Machine.execLowvSet mv s
  | .lowvClear mv => Sys2Proof.Machine.execLowvClear mv s
  | .governorTick pin vin => Sys2Proof.Machine.execGovernorTick pin vin s
  | .xtal32Detect found => Sys2Proof.Machine.execXtal32Detect found s
  | .xtal32Stop => Sys2Proof.Machine.execXtal32Stop s
  | .xtalBootRetry good => Sys2Proof.Machine.execXtalBootRetry good s
  | .sloeRequest dom on flush => Sys2Proof.Machine.execSloeRequest dom on flush s
  | .sloeFlush => Sys2Proof.Machine.execSloeFlush s
  | .domainStart => Sys2Proof.Machine.execDomainStart s
  | .domainOn => Sys2Proof.Machine.execDomainOn s
  | .domainStartFail pll => Sys2Proof.Machine.execDomainStartFail pll s
  | .domainStop => Sys2Proof.Machine.execDomainStop s
  | .sloeWaitTimeout => Sys2Proof.Machine.execSloeWaitTimeout s
  | .deviceStateRequest req => Sys2Proof.Machine.execDeviceStateRequest req s
  | .wake src => Sys2Proof.Machine.execWake src s
  | .wakeTimer => Sys2Proof.Machine.execWakeTimer s
  | .coreWdtFirstExpiry n => Sys2Proof.Machine.execCoreWdtFirstExpiry n s
  | .coreWdtSecondExpiry n => Sys2Proof.Machine.execCoreWdtSecondExpiry n s
  | .wdtKick n key => Sys2Proof.Machine.execWdtKick n key s
  | .sysWdtKick key => Sys2Proof.Machine.execSysWdtKick key s
  | .sysWdtExpiry => Sys2Proof.Machine.execSysWdtExpiry s
  | .por straps => Sys2Proof.Machine.execPor straps s
  | .resetN long => Sys2Proof.Machine.execResetN long s
  | .swrst key => Sys2Proof.Machine.execSwrst key s
  | .debugReset token => Sys2Proof.Machine.execDebugReset token s
  | .resetPerform straps => Sys2Proof.Machine.execResetPerform straps s
  | .bootRomRun => Sys2Proof.Machine.execBootRomRun s
  | .recoveryImageMessage cls image last => Sys2Proof.Machine.execRecoveryImageMessage cls image last s
  | .spdmGetCertificate slot => Sys2Proof.Machine.execSpdmGetCertificate slot s
  | .spdmChallenge slot nonce => Sys2Proof.Machine.execSpdmChallenge slot nonce s
  | .spdmGetMeasurements idx nonce => Sys2Proof.Machine.execSpdmGetMeasurements idx nonce s
  | .containerVerify cls => Sys2Proof.Machine.execContainerVerify cls s
  | .verifyEnd => Sys2Proof.Machine.execVerifyEnd s
  | .arbAdvance cls svn => Sys2Proof.Machine.execArbAdvance cls svn s
  | .arbAdvanceEnd => Sys2Proof.Machine.execArbAdvanceEnd s
  | .keyRevoke slot => Sys2Proof.Machine.execKeyRevoke slot s
  | .secLock => Sys2Proof.Machine.execSecLock s
  | .gen ns => Sys2Proof.Machine.execGen ns s
  | .keyLoad ns => Sys2Proof.Machine.execKeyLoad ns s
  | .clear ns => Sys2Proof.Machine.execClear ns s
  | .keyOperationEnd => Sys2Proof.Machine.execKeyOperationEnd s
  | .eflUnlock key => Sys2Proof.Machine.execEflUnlock key s
  | .program g count => Sys2Proof.Machine.execProgram g count s
  | .eraseRow g => Sys2Proof.Machine.execEraseRow g s
  | .eraseBlock g => Sys2Proof.Machine.execEraseBlock g s
  | .blankCheck g count => Sys2Proof.Machine.execBlankCheck g count s
  | .massErase g => Sys2Proof.Machine.execMassErase g s
  | .eflCommandEnd good => Sys2Proof.Machine.execEflCommandEnd good s
  | .suspend => Sys2Proof.Machine.execSuspend s
  | .suspendTakeEffect => Sys2Proof.Machine.execSuspendTakeEffect s
  | .eraseResume => Sys2Proof.Machine.execEraseResume s
  | .eflashWindowRead g off => Sys2Proof.Machine.execEflashWindowRead g off s
  | .rdpRaise g target => Sys2Proof.Machine.execRdpRaise g target s
  | .rdpLower g => Sys2Proof.Machine.execRdpLower g s
  | .conversionRequest m => Sys2Proof.Machine.execConversionRequest m s
  | .sensorScan => Sys2Proof.Machine.execSensorScan s
  | .aonSensorScan => Sys2Proof.Machine.execAonSensorScan s
  | .conversionEnd temp => Sys2Proof.Machine.execConversionEnd temp s
  | .throttleWindow => Sys2Proof.Machine.execThrottleWindow s
  | .restartWaitEnd => Sys2Proof.Machine.execRestartWaitEnd s
  | .calEn v => Sys2Proof.Machine.execCalEn v s
  | .calItemDue n => Sys2Proof.Machine.execCalItemDue n s
  | .calDue n => Sys2Proof.Machine.execCalDue n s
  | .calMeasurementStart => Sys2Proof.Machine.execCalMeasurementStart s
  | .calMeasurementEnd n v => Sys2Proof.Machine.execCalMeasurementEnd n v s
  | .calSubmit v => Sys2Proof.Machine.execCalSubmit v s
  | .calDiscard => Sys2Proof.Machine.execCalDiscard s
  | .calStarve n => Sys2Proof.Machine.execCalStarve n s
  | .evrEn => Sys2Proof.Machine.execEvrEn s
  | .evrScanEnd => Sys2Proof.Machine.execEvrScanEnd s
  | .eventEntry code a0 a1 a2 => Sys2Proof.Machine.execEventEntry code a0 a1 a2 s
  | .eventSubmit code keep => Sys2Proof.Machine.execEventSubmit code keep s
  | .recordProgram => Sys2Proof.Machine.execRecordProgram s
  | .operatingMinuteEnd => Sys2Proof.Machine.execOperatingMinuteEnd s
  | .freezeTimeout => Sys2Proof.Machine.execFreezeTimeout s
  | .eventClear key areas => Sys2Proof.Machine.execEventClear key areas s
  | .plvEn v diesGood ppb blocks => Sys2Proof.Machine.execPlvEn v diesGood ppb blocks s
  | .powerLossDetect => Sys2Proof.Machine.execPowerLossDetect s
  | .energyOkFall => Sys2Proof.Machine.execEnergyOkFall s
  | .vaultPageProgrammed good => Sys2Proof.Machine.execVaultPageProgrammed good s
  | .dumpEnd => Sys2Proof.Machine.execDumpEnd s
  | .railsOff => Sys2Proof.Machine.execRailsOff s
  | .mirEn v => Sys2Proof.Machine.execMirEn v s
  | .hello pos term protMib => Sys2Proof.Machine.execHello pos term protMib s
  | .writeFrame h data => Sys2Proof.Machine.execWriteFrame h data s
  | .servoFrame h x => Sys2Proof.Machine.execServoFrame h x s
  | .keyFrame h wrapped => Sys2Proof.Machine.execKeyFrame h wrapped s
  | .idleFrame h => Sys2Proof.Machine.execIdleFrame h s
  | .ackTimeout => Sys2Proof.Machine.execAckTimeout s
  | .resync => Sys2Proof.Machine.execResync s
  | .resyncEnd => Sys2Proof.Machine.execResyncEnd s
  | .keyExchange ns => Sys2Proof.Machine.execKeyExchange ns s
  | .autoTakeover => Sys2Proof.Machine.execAutoTakeover s
  | .takeoverLinesHigh => Sys2Proof.Machine.execTakeoverLinesHigh s
  | .takeoverAbandon => Sys2Proof.Machine.execTakeoverAbandon s
  | .fenced low => Sys2Proof.Machine.execFenced low s
  | .ownLineChange line high => Sys2Proof.Machine.execOwnLineChange line high s
  | .pcieLinkUp p speed width => Sys2Proof.Machine.execPcieLinkUp p speed width s
  | .medlarLinkUp => Sys2Proof.Machine.execMedlarLinkUp s
  | .resetNRelease straps => Sys2Proof.Machine.execResetNRelease straps s
  | .perstRelease p => Sys2Proof.Machine.execPerstRelease p s
  | .attentionButtonRelease => Sys2Proof.Machine.execAttentionButtonRelease s
  | .coalescingTimeExpiry p vec => Sys2Proof.Machine.execCoalescingTimeExpiry p vec s
  | .crystalFailure => Sys2Proof.Machine.execCrystalFailure s
  | .retractWaitEnd => Sys2Proof.Machine.execRetractWaitEnd s

end Sys2Proof.Machine
end

