-- ==== Sys2Proof/Machine/Tick.lean ====
section
/-!
DEFINITION. Machine/Tick.lean: what passes with 1 µs in which no command comes (log entry 1): the counters of time, the instructions that the
cores run in it, the walk of a Bramble disable, the DRAM controller's write queue, and the loss of a core's reservation.
-/
namespace Sys2Proof.Machine

/-- Every LR reservation is lost: it lasts 256 cycles, less than 1 µs (R168). -/
def State.dropResv (s : State) : State :=
  s.updEng (fun e => { e with core := (e.core.map (fun c => (c.1, { c.2 with resv := none }))).filter (fun c => decide (c.2 ≠ {})) })

/-- What a core runs in 1 µs has no row: minstret and the counts of instruction-cache misses and of cycles stalled on register space advance by
free values, while WFI does not stall it (R166, log entry 95). -/
def State.coreRuns (s : State) (n : Nat) : State :=
  if !s.b .ENG_IQ_CTRL_RUN n || (s.core n).wfi then s else
  let (i, s) := s.free
  let (m, s) := s.free
  let (r, s) := s.free
  let c := s.core n
  s.setCore n { c with minstret := (c.minstret + i) % 2 ^ 64, hpm3 := (c.hpm3 + m) % 2 ^ 64, hpm6 := (c.hpm6 + r) % 2 ^ 64 }

/-- 1 µs of the main clock: ENG_MTIME counts 100 of its periods (R173), the cores run 1,600 cycles (R166). -/
def State.mainTick (s : State) : State :=
  (List.range 8).foldl (fun u n => u.coreRuns n) ((s.setMtime (s.mtime + 100)).cyclesPass 1600)

/-- FENCE has read 1 for a microsecond where it reads 1 (R439). -/
def State.fenceTick (s : State) : State := { s with mir := { s.mir with fenceHeld := s.b .MIR_CTRL_FENCE 0 } }

/-- The DRAM controller works off its write queue (R113, log entry 99). -/
def State.wqTick (s : State) : State := s.updBuf (fun b => { b with wq := 0 })

/-- One microsecond: SUP_AONT counts it (R303), the main clock runs but in STANDBY, the disable walk passes a set (R123), and a core stalled
in WFI goes on when its timer has come (R166). -/
def State.tick (s : State) : State :=
  let s := s.setAont (s.aont + 1)
  let s := if s.f .SUP_DSTATE_NOW 0 = 2 then s else s.mainTick
  (s.wqTick.fenceTick.walkSet.dropResv).wakeCores

end Sys2Proof.Machine
end

