-- ==== Sys2Proof/Safety.lean ====
section
/-!
DEFINITION. Safety.lean: the well-formed states, in the terms the claims use: registers and memories in their canonical
form, every register field within its width.
-/
namespace Sys2Proof.Machine

/-- The canonical form of memory (DRAM and Work SRAM): addresses strictly rising, no entry equal to 0, what an unlisted byte reads. -/
def Memory.wf (m : List Host.Cell) : Bool := Tbl.wf (fun _ => 0) m

/-- The canonical form of the eFlash array: an unlisted byte reads 0xFF. -/
def Flash.wf (m : Tbl Byte) : Bool := Tbl.wf (fun _ => 0xFF) m

/-- The reset value that a key of the register table stands for. -/
def keyReset (k : Nat) : Nat := (keyFld k).resetAt (k % 2048)

/-- Register fields in their canonical form: keys strictly rising, no entry at its reset value, every value within its field's width. -/
def Regs.wf (t : Tbl Nat) : Bool := Tbl.wf keyReset t && t.all (fun e => decide (e.2 < 2 ^ (keyFld e.1).width))

/-- A well-formed state. -/
structure State.Wf (s : State) : Prop where
  regs : Regs.wf s.regs = true
  force : Regs.wf s.force = true
  mem : Memory.wf s.mem = true
  flash : Flash.wf s.efl.mem = true

/-- A run that has met nothing its programmer must answer for: no block has refused a configuration write, and no core has an access fault to take. -/
def State.quiet (s : State) : Prop := s.dev.cfgSeen = [] ∧ s.dev.accFault = []

/-- The command in a tag slot is the one with this opcode and is being served: the state in which a step of it takes effect. -/
def State.serving (s : State) (t : Nat) (admin : Bool) (opc : Nat) : Bool :=
  (s.cmd t).live && !(s.cmd t).posted && (s.cmd t).admin == admin && (s.cmd t).opc == opc &&
    ((s.cmd t).phase == .active || (s.cmd t).phase == .firmware || (s.cmd t).phase == .hit)

/-- An agent of the internal map that may write n bytes at an address of register space: a core that PMP lets (R169), or the debug port with its
grant (R343). -/
def State.mayWrite (s : State) (g : Agent) (a n : Nat) : Bool :=
  match g with
  | .core c => s.pmpAllows c a n 1
  | .debug => s.dbg 2
  | _ => false

/-- The shadows of a group (R70, R226, R273, R277, R280, R350). -/
def groupShadows : Group → List Fld
  | .pw _ => pwGroup
  | .sync _ => [.CHN_SYNC_SYNC_WIN, .CHN_SYNC_RSYNC_WIN, .CHN_SYNC_SM_TOL]
  | .zt => [.CHN_ZT_BANK_SEL, .CHN_ZT_TIER]
  | .act _ => [.SRV_ACT_LIM_ILIM, .SRV_ACT_LIM_MALIM, .SRV_ACT_OT_OT_WRITE, .SRV_ACT_OT_OT_READ, .SRV_ACT_OTC_OT_CNT_W, .SRV_ACT_OTC_OT_CNT_R]
  | .qeBank _ => [.SRV_QE_CFG_BANK]
  | .paBank => [.MPD_SPN_TBL_BANK]
  | .rdcfg => [.EFL_RDCFG_FSEL, .EFL_RDCFG_WS, .EFL_RDCFG_VTRACK]

/-! ### When a row of a Currant sequencer acts (R177, R178, R181) -/

/-- The word in execution holds the value in a command field of the class, which it has not issued yet, and its commands' turn has come. -/
def State.issues (s : State) (n cls : Nat) (e : Nat × Nat) (v : Nat) (ok : Nat → Bool) : Bool :=
  s.f .ENG_CS_STAT_STATE n == 1 && (s.cs n).part == 1 && s.csClass n == some cls && bits (s.curWord n) e.1 e.2 == v
    && !(s.cs n).issued.contains e.2 && ok (s.curWord n)

/-- What a formatter's command does, given what it does to its lane: nothing without a lane, or with the lane's domain off. -/
def State.atLane (s : State) (n : Nat) (g : Nat → State) : State :=
  (s.csTarget n).elim s (fun l => if s.blkOn .chn l = true then g l else s)

/-- What an intake command does, given what it does to the command in hand: nothing without one. -/
def State.inHand (s : State) (n : Nat) (g : Nat → Cmd → State) : State := (s.itemSlot n).elim s (fun t => g t (s.cmd t))

/-- What a wedge sequencer's command does, given what it does to its actuator: nothing without one, fault 5 while the servo is not enabled. -/
def State.atWedge (s : State) (n : Nat) (g : Nat → State) : State :=
  (s.csTarget n).elim s (fun t => if s.b .SRV_CTRL_EN 0 = true then g (t - 8) else s.csFault n 5)

/-- The sequencer with the field marked as issued. -/
def State.issuing (s : State) (n : Nat) (e : Nat × Nat) : State := s.updCs n (fun q => { q with issued := e.2 :: q.issued })

/-- The word in execution begins with this scratch operation. -/
def State.scratches (s : State) (n op : Nat) (ok : Nat → Bool) : Bool :=
  s.f .ENG_CS_STAT_STATE n == 1 && (s.cs n).part == 0 && wOp (s.curWord n) == op && ok (s.curWord n)

/-- After its scratch operation a word comes to its commands. -/
def State.scratched (s : State) (n : Nat) : State := (s.updCs n (fun q => { q with part := 1 })).advance n

/-- The word in execution has come to its branch, of this mode. -/
def State.branches (s : State) (n mode : Nat) (ok : Nat → Bool) : Bool :=
  s.f .ENG_CS_STAT_STATE n == 1 && (s.cs n).part == 2 && bits (s.curWord n) 131 128 == mode && ok (s.curWord n)

/-- A core executes an instruction: its RUN reads 1, WFI does not stall it, and the main clock runs (R166, R312). -/
def State.runsCore (s : State) (n : Nat) : Bool := s.b .ENG_IQ_CTRL_RUN n && !(s.core n).wfi && s.f .SUP_DSTATE_NOW 0 != 2

/-- The core with one more instruction retired. -/
def State.counted (s : State) (n : Nat) : State := s.setCore n { s.core n with minstret := ((s.core n).minstret + 1) % 2 ^ 64 }

/-- The state in which the append port of the registers works: BODY, TYPE and FLAGS as the record gives them (R165). -/
def State.appPort (s : State) (typ flags : Nat) (body : List Byte) : State :=
  ((List.range 5).foldl (fun u i => u.setF .BTL_APP_B_BODY i (leAt ((body ++ List.replicate 20 0).take 20) (4 * i) 4)) s).setFs 0
    [(.BTL_APP_CTRL_TYPE, typ), (.BTL_APP_CTRL_FLAGS, flags)]

/-- What reading a Quince engine's program word leaves: a correctable error corrected, counted and logged (R127). -/
def State.qeFetched (s : State) (n : Nat) : State := (s.sramRead 0x0C (n * 1024 + (s.qe n).pc)).2

/-- A Quince engine is RUNNING, and the word at its program counter can be read and is this one. -/
def State.qeReady (s : State) (n w : Nat) : Bool :=
  s.qeState n == 2 && (s.sramRead 0x0C (n * 1024 + (s.qe n).pc)).1 != 2 && Tbl.get (s.qe n).prog 0 (s.qe n).pc == w

/-- The engine of a row that stands for one Quince instruction, and the instruction's word (R270). -/
def qeRow (c : Instr) : Option (Nat × Nat) :=
  match c with
  | .qNop n => some (n, qWord 0x0 0 0 false 0)
  | .qClr n a => some (n, qWord 0x1 0 0 a 0)
  | .qLda n a x => some (n, qWord 0x2 0 x a 0)
  | .qLdp n a x t => some (n, qWord 0x3 0 x a t)
  | .qLds n a k => some (n, qWord 0x4 0 0 a k.toNat)
  | .qSts n a k => some (n, qWord 0x5 0 0 a k.toNat)
  | .qAdds n a k => some (n, qWord 0x6 0 0 a k.toNat)
  | .qMpy n a x k => some (n, qWord 0x7 0 x a k.toNat)
  | .qMac n a x k => some (n, qWord 0x8 0 x a k.toNat)
  | .qMsu n a x k => some (n, qWord 0x9 0 x a k.toNat)
  | .qMpyx n a x t => some (n, qWord 0xA 0 x a t)
  | .qMacx n a x t => some (n, qWord 0xB 0 x a t)
  | .qAdda n a => some (n, qWord 0xC 0 0 a 0)
  | .qSuba n a => some (n, qWord 0xD 0 0 a 0)
  | .qSha n a sh => some (n, qWord 0xE 0 0 a sh.toNat)
  | .qClamp n a k => some (n, qWord 0xF 0 0 a k.toNat)
  | .qMov n d x => some (n, qWord 0x10 d x false 0)
  | .qLdi n d imm => some (n, qWord 0x11 d 0 false imm.toNat)
  | .qLdc n d k => some (n, qWord 0x12 d 0 false k.toNat)
  | .qIn n d p => some (n, qWord 0x13 d 0 false p)
  | .qOut n x p => some (n, qWord 0x14 0 x false p)
  | .qAdd n d x t => some (n, qWord 0x15 d x false t)
  | .qSub n d x t => some (n, qWord 0x16 d x false t)
  | .qMul n d x t => some (n, qWord 0x17 d x false t)
  | .qSth n d a => some (n, qWord 0x18 d 0 a 0)
  | .qStl n d a => some (n, qWord 0x19 d 0 a 0)
  | .qLim n d x k => some (n, qWord 0x1A d x false k.toNat)
  | .qAbs n d x => some (n, qWord 0x1B d x false 0)
  | .qAnd n d x t => some (n, qWord 0x1C d x false t)
  | .qOr n d x t => some (n, qWord 0x1D d x false t)
  | .qCmp n x t => some (n, qWord 0x20 0 x false t)
  | .qCmpa n a => some (n, qWord 0x21 0 0 a 0)
  | .qJmp n target => some (n, qWord 0x22 0 0 false target.toNat)
  | .qBr n cond target => some (n, qWord 0x23 cond.toNat 0 false target.toNat)
  | .qSig n bits => some (n, qWord 0x24 0 0 false bits.toNat)
  | .qEnd n => some (n, qWord 0x3F 0 0 false 0)
  | _ => none

/-- The engine past the instruction that it executes. -/
def Quince.next (q : Quince) : Quince := { q with pc := q.pc + 1, count := q.count + 1 }

/-- The index of a coefficient of the bank in force (R273), its value, and what reading its word answers and leaves. -/
def State.coefIx (s : State) (n k : Nat) : Nat := s.g .SRV_QE_CFG_BANK (s.qeRole n) * 256 + k
def State.coefAt (s : State) (n k : Nat) : Int := signed 16 (Tbl.get (s.qe n).coef 0 (s.coefIx n k))
def State.coefRead (s : State) (n k : Nat) : Nat × State := s.sramRead 0x0D (n * 512 + s.coefIx n k)

/-- A state word of an engine, and what reading it answers and leaves. -/
def State.wordAt (s : State) (n k : Nat) : Int := signed 40 (Tbl.get (s.qe n).st 0 k)
def State.wordRead (s : State) (n k : Nat) : Nat × State := s.sramRead 0x0E (n * 256 + k)

/-- The item that the sequencer of a target holds and runs with, once the target's queue has handed over what it can. -/
def State.itemOf (s : State) (tgt opc : Nat) : Option (State × Nat × List Nat) :=
  (s.handOver tgt).heldBy tgt [opc] |>.map (fun e => (s.handOver tgt, e.1, e.2))

end Sys2Proof.Machine
end

