-- ==== Sys2Proof/WellFormed.lean ====
section
/-!
DEFINITION. WellFormed.lean: which commands are well formed: an access within its window, a list as long as its message can
be. Meanings are total; nothing outside depends on a command being well formed.
-/
namespace Sys2Proof

/-- Bytes of one access to a 64 MiB window (R20): 1 to 4,096, within it. -/
def inWindow (off n : Nat) : Bool := decide (0 < n) && decide (n ≤ 4096) && decide (off + n ≤ 2 ^ 26)

/-- A translation's size: a power of two of at least 4,096 (R48). -/
def pageSize (n : Nat) : Bool := decide (4096 ≤ n) && (n &&& (n - 1)) == 0

/-- Offset and length of an NVMe log page or image download: whole dwords, at least one. -/
def wholeDwords (off n : Nat) : Bool := off % 4 == 0 && n % 4 == 0 && decide (0 < n)

/-- A logical block with its metadata (R75). -/
def blockSize (b : List Byte) : Bool := b.length == 4096 || b.length == 4112 || b.length == 4160

/-- Whether a command is well formed. -/
def Instr.wf : Instr → Bool
  | .registerWrite _ _ size _ => size == 1 || size == 2 || size == 4 || size == 8
  | .commit _ => true
  | .shadowApply _ => true
  | .splitLowRead _ => true
  | .unmappedAccess _ _ k => k.size == 1 || k.size == 2 || k.size == 4 || k.size == 8
  | .unstartedBlockAccess _ _ => true
  | .hepEn _ _ => true
  | .configurationRequest _ _ => true
  | .completionTlp _ tag data _ _ _ => decide (tag < 1024) && decide (data.length ≤ 4096)
  | .completionTimeout _ tag => decide (tag < 1024)
  | .quarantineHoldExpiry _ tag => decide (tag < 1024)
  | .cmbWrite _ off data _ => inWindow off.toNat data.length
  | .cmbRead _ off len => inWindow off.toNat len
  | .peerWindowWrite _ off data _ _ => inWindow off.toNat data.length
  | .peerWindowRead _ off len => inWindow off.toNat len
  | .assemblyTimeout _ _ => true
  | .windowIdleBoundary _ => true
  | .forcedBoundary _ => true
  | .cntClr _ => true
  | .flr _ => true
  | .linkDown _ => true
  | .perst _ => true
  | .translationCompletion _ tag size _ _ _ => decide (tag < 1024) && pageSize size
  | .invalidateRequest _ _ _ size => pageSize size
  | .invalidateCompletion _ => true
  | .atsEnableClear _ => true
  | .msixVectorUnmask _ _ => true
  | .cqHeadDoorbell _ _ _ _ => true
  | .attentionButtonPress => true
  | .logPageC8 _ _ => true
  | .sqDoorbell _ _ _ _ => true
  | .arbitrationGrant => true
  | .commandIntake _ _ e => decide (e.ranges.length ≤ 256)
  | .overlapWaitEnd _ => true
  | .bufferSlotWaitEnd _ => true
  | .writeDataBuffered _ => true
  | .writeCompletionRelease _ => true
  | .controllerEnable _ => true
  | .controllerReset _ => true
  | .createIoSubmissionQueue _ _ _ _ _ _ => true
  | .createIoCompletionQueue _ _ _ _ _ _ => true
  | .deleteIoSubmissionQueue _ _ => true
  | .deleteIoCompletionQueue _ _ => true
  | .getLogPage _ _ off len => wholeDwords off len
  | .ledgerLogPage _ off len => wholeDwords off len
  | .bootChainLogPage _ off len => wholeDwords off len
  | .eventLogPage _ off len => wholeDwords off len
  | .identify _ _ => true
  | .abort _ _ _ => true
  | .setFeatures _ _ _ => true
  | .getFeatures _ _ => true
  | .asynchronousEventRequest _ => true
  | .namespaceCreate _ _ _ _ _ => true
  | .namespaceDelete _ _ => true
  | .namespaceAttachment _ _ _ _ => true
  | .firmwareImageDownload _ _ off data => wholeDwords off data.length
  | .firmwareCommitWrite _ _ => true
  | .firmwareCommitWriteTrial _ _ => true
  | .firmwareCommitTrialInPlace _ _ => true
  | .firmwareCommitResetRequired _ _ => true
  | .formatNvm _ _ _ _ => true
  | .securitySend _ _ _ => true
  | .securityReceive _ _ _ => true
  | .sanitizeCryptoErase _ => true
  | .sanitizeBlockErase _ => true
  | .deviceSelfTest _ _ => true
  | .flush _ => true
  | .write _ blocks _ => blocks.all blockSize
  | .read _ media _ => media.all blockSize
  | .writeZeroes _ => true
  | .compare _ host media _ => host.all blockSize && media.all blockSize
  | .datasetManagement _ => true
  | .verify _ media _ => media.all blockSize
  | .reservationRegister _ _ _ _ => true
  | .reservationReport _ => true
  | .reservationAcquire _ _ _ _ _ => true
  | .reservationRelease _ _ _ => true
  | .zoneClose _ => true
  | .zoneFinish _ => true
  | .zoneOpen _ => true
  | .zoneReset _ => true
  | .zoneOffline _ => true
  | .zoneManagementReceive _ => true
  | .zoneAppend _ blocks _ => blocks.all blockSize
  | .ciuEn _ => true
  | .bufferSlotRelease _ => true
  | .abortLookup _ _ => true
  | .ldgEn _ _ => true
  | .bufDdrEn _ => true
  | .ddrTrainingEnd _ => true
  | .dramFill _ => true
  | .patrolScrub => true
  | .postPackageRepair _ _ _ => true
  | .repairEnd _ => true
  | .brambleAccess _ a w _ => match w with | none => true | some d => decide (0 < d.length) && decide (a.toNat % 128 + d.length ≤ 128)
  | .pipPrefetch _ => true
  | .evictionAccept => true
  | .evictionDone => true
  | .clean _ _ => true
  | .invalidate _ _ => true
  | .cleanAndInvalidate _ _ => true
  | .maintenanceEnd => true
  | .brambleDisable => true
  | .disableWalkEnd => true
  | .brambleEnable => true
  | .sramInit _ => true
  | .sramInitEnd => true
  | .spareRow _ _ _ => true
  | .spareRowEnd => true
  | .flipArm _ _ => true
  | .btlEn _ => true
  | .openRecord _ _ _ _ _ _ => true
  | .commitRecord _ _ _ _ _ _ _ => true
  | .resetRecord _ _ _ => true
  | .retireRecord _ _ _ => true
  | .mcPutRecord _ _ _ _ _ => true
  | .zoneWpRecord _ _ _ _ => true
  | .sealRecord _ _ _ => true
  | .checkpointRecord _ _ _ => true
  | .modeRecord _ _ => true
  | .headFailRecord _ => true
  | .refreshQueueRead => true
  | .coreRun _ _ => true
  | .mtimeCompare _ => true
  | .ipiSet _ => true
  | .ipiClear _ => true
  | .interruptClaim _ => true
  | .interruptComplete _ _ => true
  | .wfi _ _ => true
  | .fenceI _ => true
  | .lrScAmo _ _ _ _ _ _ => true
  | .controlStoreLoad _ _ _ => true
  | .controlStoreLoadEnd => true
  | .csStart _ _ => true
  | .csStop _ => true
  | .kill _ => true
  | .abandon _ => true
  | .spareCsBind _ _ _ _ => true
  | .spareQeBind _ _ => true
  | .qeStart _ => true
  | .qeStop _ => true
  | .qeTrigger _ inputs => decide (inputs.length ≤ 32)
  | .waitEnd _ _ => true
  | .jump _ _ => true
  | .cond1 _ _ _ => true
  | .cond2 _ _ _ _ => true
  | .cond3 _ _ _ _ _ => true
  | .cond4 _ _ _ _ _ _ => true
  | .call _ _ _ => true
  | .ret _ => true
  | .dispatch _ _ => true
  | .loop _ _ => true
  | .halt _ => true
  | .aMov _ _ _ => true
  | .aLdi _ _ _ => true
  | .aLdh _ _ _ => true
  | .aAdd _ _ _ => true
  | .aAddi _ _ _ => true
  | .aSub _ _ _ => true
  | .aAnd _ _ _ => true
  | .aOr _ _ _ => true
  | .aXor _ _ _ => true
  | .aShr _ _ _ => true
  | .aShl _ _ _ => true
  | .aLdd _ _ _ => true
  | .aStd _ _ _ => true
  | .aLdlc _ _ => true
  | .aCmp _ _ _ => true
  | .armRead _ => true
  | .armWrite _ => true
  | .sector _ => true
  | .replay _ _ _ => true
  | .zone _ _ => true
  | .assist _ _ => true
  | .disarm _ => true
  | .dmaFetch _ => true
  | .fetchRaw _ => true
  | .store _ => true
  | .post _ _ => true
  | .take _ => true
  | .select _ => true
  | .ringFetch _ _ => true
  | .forward _ _ _ => true
  | .complete _ _ _ _ => true
  | .ringError _ _ => true
  | .fetchSqe _ _ _ => true
  | .tx _ _ => true
  | .rx _ _ _ _ _ => true
  | .postCqe _ => true
  | .msix _ => true
  | .prefetch _ _ => true
  | .alloc _ => true
  | .release _ => true
  | .insert _ => true
  | .search _ => true
  | .remove _ => true
  | .appendAccepted _ => true
  | .ldgState _ _ => true
  | .ldgFlags _ _ => true
  | .lookup _ => true
  | .publish _ => true
  | .window _ => true
  | .demod _ => true
  | .pes _ => true
  | .trigger _ _ _ _ _ => true
  | .stamp _ => true
  | .wclk _ _ => true
  | .subRead _ => true
  | .subWrite _ => true
  | .copyXor _ => true
  | .copyLog _ => true
  | .subVerify _ => true
  | .drv _ _ => true
  | .sample _ _ _ => true
  | .vault _ => true
  | .sloe _ _ _ => true
  | .qNop _ => true
  | .qClr _ _ => true
  | .qLda _ _ _ => true
  | .qLdp _ _ _ _ => true
  | .qLds _ _ _ => true
  | .qSts _ _ _ => true
  | .qAdds _ _ _ => true
  | .qMpy _ _ _ _ => true
  | .qMac _ _ _ _ => true
  | .qMsu _ _ _ _ => true
  | .qMpyx _ _ _ _ => true
  | .qMacx _ _ _ _ => true
  | .qAdda _ _ => true
  | .qSuba _ _ => true
  | .qSha _ _ _ => true
  | .qClamp _ _ _ => true
  | .qMov _ _ _ => true
  | .qLdi _ _ _ => true
  | .qLdc _ _ _ => true
  | .qIn _ _ _ => true
  | .qOut _ _ _ => true
  | .qAdd _ _ _ _ => true
  | .qSub _ _ _ _ => true
  | .qMul _ _ _ _ => true
  | .qSth _ _ _ => true
  | .qStl _ _ _ => true
  | .qLim _ _ _ _ => true
  | .qAbs _ _ _ => true
  | .qAnd _ _ _ _ => true
  | .qOr _ _ _ _ => true
  | .qCmp _ _ _ => true
  | .qCmpa _ _ => true
  | .qJmp _ _ => true
  | .qBr _ _ _ => true
  | .qSig _ _ => true
  | .qEnd _ => true
  | .illegalInstruction _ => true
  | .mwrEn _ => true
  | .doorbell _ _ => true
  | .errorEntry _ => true
  | .ringEnable _ => true
  | .ringDisable _ => true
  | .drainEnd _ => true
  | .abortComplete _ => true
  | .abortCompleteEnd _ => true
  | .resume _ => true
  | .clrOvr _ => true
  | .withdraw _ _ => true
  | .withdrawScanEnd => true
  | .formatterRead _ => true
  | .formatterWrite _ => true
  | .readCheck _ => true
  | .readRaw _ samples => decide (samples.length ≤ 6144)
  | .seek _ => true
  | .follow _ => true
  | .armMate _ => true
  | .unload _ => true
  | .load _ => true
  | .copy _ => true
  | .bandVerify _ _ => true
  | .xor _ => true
  | .log _ => true
  | .portLog => true
  | .start => true
  | .stop => true
  | .tier => true
  | .retract => true
  | .measure => true
  | .arm _ => true
  | .save => true
  | .restore => true
  | .scan => true
  | .laneEn _ _ => true
  | .sectorStart _ _ _ => true
  | .sectorEnd _ => true
  | .decodeEnd _ _ field => match field with | none => true | some f => f.length == 4160
  | .replayAttempt _ _ _ _ => true
  | .writeSector _ => true
  | .preampFault _ => true
  | .decoderFault _ _ => true
  | .spareDecoderBind _ _ _ _ => true
  | .zoneTableCommit => true
  | .preampControlFrame _ _ _ => true
  | .srvEn _ => true
  | .samFound _ _ _ => true
  | .windowEnd _ _ => true
  | .demodDone _ _ _ => true
  | .faultHoldExpiry _ => true
  | .mpdEn _ => true
  | .bemfCrossing _ _ => true
  | .pseudoStamp => true
  | .wedgeGapCheck _ => true
  | .measureEnd _ _ => true
  | .alignEnd => true
  | .openLoopTimeout => true
  | .holdTimeout => true
  | .reacquireTimeout => true
  | .coastTimeout => true
  | .speedThreshold _ => true
  | .driverTrip _ _ => true
  | .retractParked _ => true
  | .retractTimeout _ => true
  | .harvestEnd _ => true
  | .railFault _ => true
  | .lowvSet _ => true
  | .lowvClear _ => true
  | .governorTick _ _ => true
  | .xtal32Detect _ => true
  | .xtal32Stop => true
  | .xtalBootRetry _ => true
  | .sloeRequest _ _ _ => true
  | .sloeFlush => true
  | .domainStart => true
  | .domainOn => true
  | .domainStartFail _ => true
  | .domainStop => true
  | .sloeWaitTimeout => true
  | .deviceStateRequest _ => true
  | .wake _ => true
  | .wakeTimer => true
  | .coreWdtFirstExpiry _ => true
  | .coreWdtSecondExpiry _ => true
  | .wdtKick _ _ => true
  | .sysWdtKick _ => true
  | .sysWdtExpiry => true
  | .por _ => true
  | .resetN _ => true
  | .swrst _ => true
  | .debugReset token => decide (token.length ≤ 8256)
  | .resetPerform _ => true
  | .bootRomRun => true
  | .recoveryImageMessage _ _ _ => true
  | .spdmGetCertificate _ => true
  | .spdmChallenge _ nonce => nonce.length == 32
  | .spdmGetMeasurements _ nonce => nonce.length == 32
  | .containerVerify _ => true
  | .verifyEnd => true
  | .arbAdvance _ _ => true
  | .arbAdvanceEnd => true
  | .keyRevoke _ => true
  | .secLock => true
  | .gen _ => true
  | .keyLoad _ => true
  | .clear _ => true
  | .keyOperationEnd => true
  | .eflUnlock _ => true
  | .program _ _ => true
  | .eraseRow _ => true
  | .eraseBlock _ => true
  | .blankCheck _ _ => true
  | .massErase _ => true
  | .eflCommandEnd _ => true
  | .suspend => true
  | .suspendTakeEffect => true
  | .eraseResume => true
  | .eflashWindowRead _ _ => true
  | .rdpRaise _ _ => true
  | .rdpLower _ => true
  | .conversionRequest _ => true
  | .sensorScan => true
  | .aonSensorScan => true
  | .conversionEnd _ => true
  | .throttleWindow => true
  | .restartWaitEnd => true
  | .calEn _ => true
  | .calItemDue _ => true
  | .calDue _ => true
  | .calMeasurementStart => true
  | .calMeasurementEnd _ _ => true
  | .calSubmit _ => true
  | .calDiscard => true
  | .calStarve _ => true
  | .evrEn => true
  | .evrScanEnd => true
  | .eventEntry _ _ _ _ => true
  | .eventSubmit _ _ => true
  | .recordProgram => true
  | .operatingMinuteEnd => true
  | .freezeTimeout => true
  | .eventClear _ _ => true
  | .plvEn _ _ _ _ => true
  | .powerLossDetect => true
  | .energyOkFall => true
  | .vaultPageProgrammed _ => true
  | .dumpEnd => true
  | .railsOff => true
  | .mirEn _ => true
  | .hello _ _ _ => true
  | .writeFrame _ data => decide (0 < data.length) && decide (data.length ≤ 256) && data.length % 32 == 0
  | .servoFrame _ _ => true
  | .keyFrame _ wrapped => wrapped.length == 80
  | .idleFrame _ => true
  | .ackTimeout => true
  | .resync => true
  | .resyncEnd => true
  | .keyExchange _ => true
  | .autoTakeover => true
  | .takeoverLinesHigh => true
  | .takeoverAbandon => true
  | .fenced _ => true
  | .ownLineChange _ _ => true
  | .pcieLinkUp _ _ _ => true
  | .medlarLinkUp => true
  | .resetNRelease _ => true
  | .perstRelease _ => true
  | .attentionButtonRelease => true
  | .coalescingTimeExpiry _ _ => true
  | .crystalFailure => true
  | .retractWaitEnd => true

end Sys2Proof
end

