-- ==== Sys2Proof/Certificates/Slice0/Obligations.lean ====
section
/-!
DEFINITION. Certificates/Slice0/Obligations.lean: the statements for the provers, each a conjunction of clauses over all states and operands.
-/
open Sys2Proof Sys2Proof.Machine

/-- Step of a state whose queue begins with c is exec of c on the state with the queue's rest; and for every command, with whatever operands and in whatever state, exec answers a next state: none ends in a fault or a refusal. The queue is the model's own (log entry 1). (What each step holds: the table of operations and events) -/
def Obligations.StepRunsTheFrontCommand : Prop :=
  (∀ (c : Instr) (rest : List Instr) (s : State), 
      step { s with pending := c :: rest } = exec c { s with pending := rest }) ∧
  (∀ (c : Instr) (s : State), 
      ∃ t, exec c s = .next t)

/-- On an empty queue a step answers a next state: the counts of time, the write queue, FENCE, one set of a disable walk, the reservations and the cores in WFI, in that order. Where no disable walk is under way, SUP_AONT has counted 1, ENG_MTIME 100 but in STANDBY, no core holds a reservation, FENCE counts as held where it reads 1, and memory and the queue are as before. That an idle step stands for 1 µs is the model's choice (log entry 1). (Supplies, Clocks and Staged Start; Engines and Microcode; Paired Operation) -/
def Obligations.IdleStepCountsTime : Prop :=
  (∀ (s : State), (s.pending = []) → 
      ∃ t, step s = .next t ∧ t = s.tick ∧
     s.tick = ((if s.f .SUP_DSTATE_NOW 0 = 2 then s.setAont (s.aont + 1) else (s.setAont (s.aont + 1)).mainTick).wqTick.fenceTick.walkSet.dropResv).wakeCores) ∧
  (∀ (s : State), (s.pending = []) → (s.b .BUF_BRM_CTRL_DISABLE_PENDING 0 = false) → 
      ∃ t, step s = .next t ∧ t.f .SUP_AONT_LO_T_LO 0 = (s.aont + 1) % 2 ^ 32 ∧
     t.f .SUP_AONT_HI_T_HI 0 = (s.aont + 1) / 2 ^ 32 % 2 ^ 32 ∧
     (s.f .SUP_DSTATE_NOW 0 ≠ 2 → t.f .ENG_MTIME_LO_MTIME_LO 0 = (s.mtime + 100) % 2 ^ 32) ∧
     (s.f .SUP_DSTATE_NOW 0 = 2 → t.f .ENG_MTIME_LO_MTIME_LO 0 = s.f .ENG_MTIME_LO_MTIME_LO 0) ∧
     (∀ n, (Tbl.get t.eng.core {} n).resv = none) ∧ t.mir.fenceHeld = s.b .MIR_CTRL_FENCE 0 ∧ t.mem = s.mem ∧ t.pending = [])

/-- After reset every field reads, and every shadow has in force, the value of its table (for fuse and strap values, the model's choice of log entry 4), every byte of memory reads 0 (the model's choice, log entry 2), nothing has been sent and no command waits; BOOT and AON are the domains that are on. (The register tables of the chapters (Reset column); Supplies, Clocks and Staged Start) -/
def Obligations.ResetLeavesTheTableValues : Prop :=
  (∀ (x : Fld) (i a : Nat), 
      State.reset.f x i = x.resetAt i ∧ State.reset.g x i = x.resetAt i ∧ State.reset.byteAt a = 0) ∧
  (
      State.reset.out = [] ∧ State.reset.pending = [] ∧ State.reset.f .SUP_DOM_ON_ON 0 = 3)

/-- The state after reset is well formed: registers, values in force, memory and the eFlash array in canonical form, every register value within its width. (Scope and Conventions; Embedded Flash) -/
def Obligations.ResetIsWellFormed : Prop :=
  
      State.reset.Wf

/-- From every well-formed state, whatever command comes (or none), a step's next state is well formed: the register table, the values in force, memory and the eFlash array keep their canonical form (the model's own, log entry 2), and no register field holds a value wider than the field. (Scope and Conventions; Embedded Flash) -/
def Obligations.StepKeepsWf : Prop :=
  ∀ (s t : State), s.Wf → (step s = .next t) → 
      t.Wf

/-- After a field's copy is set, it reads the value cut to its width; every other field and every other copy reads as before, in the registers and in force; memory, the queue and what was sent are as before. (Scope and Conventions) -/
def Obligations.FieldReadsWhatWasSet : Prop :=
  (∀ (s : State) (x y : Fld) (i j v : Nat), (i < 2048) → 
      (s.setF x i v).f y j = (if x = y ∧ i = j then v % 2 ^ x.width else s.f y j) ∧ (s.setF x i v).g y j = s.g y j ∧
     (s.setF x i v).mem = s.mem ∧ (s.setF x i v).pending = s.pending ∧ (s.setF x i v).out = s.out) ∧
  (∀ (s : State) (x y : Fld) (i j v : Nat), (i < 2048) → 
      (s.setG x i v).g y j = (if x = y ∧ i = j then v % 2 ^ x.width else s.g y j) ∧ (s.setG x i v).f y j = s.f y j ∧
     (s.setG x i v).mem = s.mem ∧ (s.setG x i v).pending = s.pending ∧ (s.setG x i v).out = s.out)

/-- A write of bytes to Work SRAM, or to DRAM while Bramble is off and no granule holds an error, by one of an unpaired device's own agents leaves each of its bytes at its address, and every byte outside the range as it was. A write to the protected state from the freeze on changes no byte. (Buffer Memory, the Bramble Cache and Data Integrity; Power Loss and Recovery; Paired Operation) -/
def Obligations.MemoryReadsWhatWasWritten : Prop :=
  (∀ (s : State) (a b : Nat) (d : List Byte), (s.paired = false) → (inWork a d.length = true) → (s.protOffset a = none) → 
      (s.wr a d).byteAt b = if a ≤ b ∧ b < a + d.length then d.getD (b - a) 0 else s.byteAt b) ∧
  (∀ (s : State) (a b : Nat) (d : List Byte), (s.paired = false) → (s.inDram a d.length = true) → (s.b .BUF_BRM_CTRL_EN 0 = false) → (s.buf.err = []) → (s.protOffset a = none) → 
      (s.wr a d).byteAt b = if a ≤ b ∧ b < a + d.length then d.getD (b - a) 0 else s.byteAt b) ∧
  (∀ (s : State) (a b : Nat) (d : List Byte), ((s.protOffset a).isSome = true) → (s.b .PLV_STATUS_FROZEN 0 = true) → 
      (s.wr a d).byteAt b = s.byteAt b)

/-- A register write of any agent completes: what its path does, with the cores in WFI meeting the interrupt levels before and after it. On the internal map, by a core that PMP lets or the debug port with its grant: an aligned 32-bit write to a started block goes to the register's fields; to a block that is not started it is only recorded; a narrower, wider or misaligned one, and one to an offset that nothing occupies in a started block, is discarded and faults a core; a core that PMP does not let takes an access fault, a debug port without its grant nothing. A host's poisoned write is discarded and logged; an aligned one to the vendor area goes to its fields; one between the doorbells and the vendor area does nothing. A sequencer or a DMA engine reaches no register. A class S field whose block is enabled, or a shadow whose group is pending, keeps its value and CFG_ERR is set; a write of the value it holds changes nothing; otherwise the field takes the value, a shadow leaving the value in force as it is. W1C bits written 1 clear, W1S bits set, RO and WO fields without a command of their own keep their value. That a wrong size faults before the block is asked whether it is started is the model's choice (log entry 116), as is what a host's write meets while HOST is off (log entry 118). (Scope and Conventions; The CV-4820 at a Glance; Host Endpoint; Boot, Measurement and Keys) -/
def Obligations.RegisterWriteClasses : Prop :=
  (∀ (g : Agent) (a : Addr) (size : Nat) (v : Word) (po : Bool) (s : State), 
      exec (.registerWrite g a size ⟨v, po⟩) s = .next ((s.wakeCores.regWrite g a.toNat size v.toNat po).wakeCores)) ∧
  (∀ (g : Agent) (a v : Nat) (po : Bool) (s : State), (s.mayWrite g a 4 = true) → (inRegs a = true) → (a % 4 = 0) → (s.blkOn (blkAt a).1 (blkAt a).2 = true) → fieldsAt (blkAt a).1 a ≠ [] → 
      s.regWrite g a 4 v po = s.writeReg g (fieldsAt (blkAt a).1 a) v) ∧
  (∀ (g : Agent) (a v : Nat) (po : Bool) (s : State), (s.mayWrite g a 4 = true) → (inRegs a = true) → (a % 4 = 0) → (s.blkOn (blkAt a).1 (blkAt a).2 = false) → 
      s.regWrite g a 4 v po = s.unstarted (blkAt a).1) ∧
  (∀ (n : Core) (a size v : Nat) (po : Bool) (s : State), (s.pmpAllows n a size 1 = true) → (inRegs a = true) → (size ≠ 4 ∨ a % 4 ≠ 0 ∨ (s.blkOn (blkAt a).1 (blkAt a).2 = true ∧ emptyReg a = true)) → 
      s.regWrite (.core n) a size v po = { s with dev := { s.dev with accFault := Tbl.set s.dev.accFault 0 n.val 1 } } ∧
     (s.dbg 2 = true → s.regWrite .debug a size v po = s)) ∧
  (∀ (n : Core) (a size v : Nat) (po : Bool) (s : State), (s.pmpAllows n a size 1 = false) → 
      s.regWrite (.core n) a size v po = { s with dev := { s.dev with accFault := Tbl.set s.dev.accFault 0 n.val 1 } }) ∧
  (∀ (a size v : Nat) (po : Bool) (s : State), (s.dbg 2 = false) → (inRegs a = true) → 
      s.regWrite .debug a size v po = s) ∧
  (∀ (p : Port) (a size v : Nat) (s : State), (s.dom 3 = true) → (s.portOk p = true) → 
      s.regWrite (.host p) a size v true = s.poisonedTlp p ∧
     (a % 4 = 0 → 0x4000 ≤ a → a < 0x8000 → s.regWrite (.host p) a 4 v false = s.writeReg (.host p) (vendorFields p a) v) ∧
     (a % 4 = 0 → 0x3008 ≤ a → a < 0x4000 → vendorFields p a = [] → s.regWrite (.host p) a 4 v false = s)) ∧
  (∀ (g : Agent) (n : Cs) (p : Port) (a size v : Nat) (po : Bool) (s : State), (g = .seq n ∨ g = .hepDma p ∨ g = .link) → 
      s.regWrite g a size v po = s) ∧
  (∀ (s : State) (x y : Fld) (i j v : Nat), (x.info.cls = .s) → (i < 2048) → s.f x i ≠ v → (s.held4 x i = true) → (y.info.cls = .s) → 
      (s.writeS x i v).f y j = s.f y j ∧ (s.writeS x i v).b (x.cfgBlk i).fld (x.cfgBlk i).idx = true) ∧
  (∀ (s : State) (x : Fld) (i : Nat), 
      s.writeS x i (s.f x i) = s ∧ s.writeB x i (s.f x i) = s) ∧
  (∀ (s : State) (x : Fld) (i v : Nat), (s.held4 x i = false) → ((x ≠ .CAL_ICFG_MEAS ∧ x ≠ .CAL_ICFG_DEST) ∨ v ≠ 3) → s.f x i ≠ v → 
      s.writeS x i v = if ringPlace.contains x then (s.setF x i v).ringRewritten i else s.setF x i v) ∧
  (∀ (s : State) (x y : Fld) (i j v : Nat), (x.info.cls = .b) → (i < 2048) → s.f x i ≠ v → (s.b x.guard i = true) → (y.info.cls = .b) → 
      (s.writeB x i v).f y j = s.f y j ∧ (s.writeB x i v).b (x.cfgBlk i).fld (x.cfgBlk i).idx = true) ∧
  (∀ (s : State) (x y : Fld) (i j v : Nat), s.f x i ≠ v → (s.b x.guard i = false) → 
      s.writeB x i v = s.setF x i v ∧ (s.writeB x i v).g y j = s.g y j) ∧
  (∀ (s : State) (g : Agent) (x : Fld) (i v : Nat), (x.opBit = none) → (s.ownField g x i (bits v x.info.hi x.info.lo) v = none) → 
      (x.info.acc = .w1c → s.writeField g x i v = s.setF x i (s.f x i - (s.f x i &&& bits v x.info.hi x.info.lo))) ∧
     (x.info.acc = .w1s → s.writeField g x i v = s.setF x i (s.f x i ||| bits v x.info.hi x.info.lo)) ∧
     (x.info.acc = .ro → s.writeField g x i v = s) ∧ (x.info.acc = .wo → s.writeField g x i v = s) ∧
     (x.info.acc = .rw → x.info.cls ≠ .b → s.writeField g x i v = s.setF x i (bits v x.info.hi x.info.lo)))

/-- COMMIT of a group completes: while the group's block is not started it is only recorded; of port 1 in one-port mode, or while the group is pending, it has no effect; a group whose shadows are refused sets CFG_ERR; otherwise COMMIT_PEND is set while the block is enabled, and the shadows apply at once where it is disabled. At a group's boundary a pending group of a started block takes force, and nothing happens where it is not pending or the boundary is not there. A group that takes force has every shadow in force and COMMIT_PEND 0, and changes no shadow. (Scope and Conventions; The CV-4820 at a Glance; Host Endpoint) -/
def Obligations.CommitAndBoundary : Prop :=
  (∀ (g : Group) (s : State), 
      exec (.commit g) s = .next (if s.blkOn (groupBlk g).1 (groupBlk g).2 = false then s.unstarted (groupBlk g).1
       else if s.copyOk (groupBlk g).1 (groupBlk g).2 = false ∨ s.b (groupPend g).1 (groupPend g).2 = true then s
       else match s.commitBad g with
         | some (b, x, i) => s.cfgErr b (x.addr i)
         | none => if s.groupIdle g = true then s.groupApply g else s.setB (groupPend g).1 (groupPend g).2 true)) ∧
  (∀ (g : Group) (s : State), 
      exec (.shadowApply g) s = .next (if s.blkOn (groupBlk g).1 (groupBlk g).2 = true ∧ s.b (groupPend g).1 (groupPend g).2 = true ∧
       s.groupReady g = true then s.groupApply g else s)) ∧
  (∀ (g : Group) (s : State) (x : Fld), x ∈ groupShadows g → 
      (s.groupApply g).g x (groupPend g).2 = s.f x (groupPend g).2 % 2 ^ x.width ∧ (s.groupApply g).b (groupPend g).1 (groupPend g).2 = false ∧
     (s.groupApply g).f x (groupPend g).2 = s.f x (groupPend g).2 ∧ (s.groupApply g).mem = s.mem)

/-- A read of a pair's low half in a started block loads the pair's latch with the high half, returns the low half and changes nothing else; in a block that is not started it returns 0 and is recorded. A core's access with no target raises an access fault on that core: a write changes nothing else, a read also counts as a load access fault and returns 0. The debug port's takes no fault; an access that has a target is none of these. A host's write by this row does nothing, and its read of BAR0, of a present port while HOST's domain is on, returns the bytes there in one completion, 0 from 0x3008 to 0x3FFF (that this row answers a host's read is the model's choice, log entry 119); else it does nothing. An access to a block whose domain is not started faults nobody, returns 0 for a read, and is recorded by SUP once per power-up. (The CV-4820 at a Glance; Scope and Conventions; Host Endpoint) -/
def Obligations.AccessesWithNoEffectOfTheirOwn : Prop :=
  (∀ (p : Pair) (s : State), (s.blkOn (pairBlk p) 0 = true) → 
      ∃ t, exec (.splitLowRead p) s = .next t ∧ t.pairHigh p = (s.pairHalves p).2 ∧
     t = { s with dev := { s.dev with latch := Tbl.set s.dev.latch none (pairKey p) (some (s.pairHalves p).2) },
                  out := s.out ++ [.readData (s.pairHalves p).1] }) ∧
  (∀ (p : Pair) (s : State), (s.blkOn (pairBlk p) 0 = false) → 
      exec (.splitLowRead p) s = .next ((s.unstarted (pairBlk p)).send (.readData 0))) ∧
  (∀ (g : Agent) (a : Addr) (k : AccessKind) (s : State), (∀ p, g ≠ .host p) → 
      exec (.unmappedAccess g a k) s = .next (if s.noTarget a.toNat k.size = false then s else if k.write = true then s.accFault g else (s.loadFault g).send (.readData 0))) ∧
  (∀ (n : Core) (s : State), 
      s.accFault (.core n) = { s with dev := { s.dev with accFault := Tbl.set s.dev.accFault 0 n.val 1 } } ∧ s.accFault .debug = s ∧ s.loadFault .debug = s ∧
     (s.loadFault (.core n)).dev.accFault = Tbl.set s.dev.accFault 0 n.val 1 ∧ (s.loadFault (.core n)).mem = s.mem ∧ (s.loadFault (.core n)).regs = s.regs) ∧
  (∀ (p : Port) (a : Addr) (size : Nat) (write : Bool) (s : State), 
      exec (.unmappedAccess (.host p) a ⟨size, write⟩) s = .next (if write = true ∨ s.dom 3 = false ∨ s.portOk p = false then s
     else s.send (.cplTlp p 0 (leBytes size ((s.bar0 p (a.toNat / 4 * 4) + s.bar0 p (a.toNat / 4 * 4 + 4) * 2 ^ 32) / 2 ^ (8 * (a.toNat % 4)))) false)) ∧
     (∀ o, 0x3008 ≤ o → o < 0x4000 → s.bar0 p o = 0)) ∧
  (∀ (a : Addr) (s : State), (0x40000000 ≤ a.toNat) → (a.toNat < 0x41200000) → (s.blkOn (blkAt a.toNat).1 (blkAt a.toNat).2 = false) → 
      exec (.unstartedBlockAccess a true) s = .next (s.unstarted (blkAt a.toNat).1) ∧
     exec (.unstartedBlockAccess a false) s = .next ((s.unstarted (blkAt a.toNat).1).send (.readData 0))) ∧
  (∀ (b : Blk) (s : State), (Tbl.get s.dev.unstartSeen false b.num = false) → 
      s.unstarted b = (({ s with dev := { s.dev with unstartSeen := Tbl.set s.dev.unstartSeen false b.num true } }).setF .SUP_UNSTART_BLK 0
     (setBit (s.f .SUP_UNSTART_BLK 0) b.num true)).event 0xA00C 0 0 0 ∧ (s.unstarted b).dev.accFault = s.dev.accFault) ∧
  (∀ (b : Blk) (s : State), (Tbl.get s.dev.unstartSeen false b.num = true) → 
      s.unstarted b = s)

/-- While READY reads 1, an event whose code is neither muted nor at its limit enters a queue of fewer than 64 records with the next SEQ, which rises by one; one at its limit is counted as suppressed and one that meets a full queue as dropped, and neither uses a SEQ; a muted code leaves no trace. No event changes a field outside the event recorder, or memory. (Event Recorder) -/
def Obligations.EventsEnterTheRecorder : Prop :=
  (∀ (s : State) (code a0 a1 a2 : Nat), (s.evrMuted code = false) → (s.b .EVR_STATUS_READY 0 = true) → (s.evrLimit code = 0 ∨ Tbl.get s.evr.entered 0 code < s.evrLimit code) → (s.evr.queue.length < 64) → 
      (s.event code a0 a1 a2).evr.queue = s.evr.queue ++ [s.evrRecord code a0 a1 a2 false false] ∧
     (s.event code a0 a1 a2).f .EVR_SEQ_NEXT 0 = (s.f .EVR_SEQ_NEXT 0 + 1) % 2 ^ 32 ∧
     (s.evrRecord code a0 a1 a2 false false).seq = s.f .EVR_SEQ_NEXT 0 ∧
     (s.evrRecord code a0 a1 a2 false false).code = code) ∧
  (∀ (s : State) (code a0 a1 a2 : Nat), (s.evrMuted code = false) → (s.b .EVR_STATUS_READY 0 = true) → s.evrLimit code ≠ 0 → (s.evrLimit code ≤ Tbl.get s.evr.entered 0 code) → 
      s.event code a0 a1 a2 = ({ s with evr := { s.evr with suppressed := Tbl.upd s.evr.suppressed 0 code (· + 1) } }).inc .EVR_CNT_SUPPRESSED 0 1) ∧
  (∀ (s : State) (code a0 a1 a2 : Nat), (s.evrMuted code = true) → 
      s.event code a0 a1 a2 = s) ∧
  (∀ (s : State) (code a0 a1 a2 : Nat), (s.evrMuted code = false) → (s.evrLimit code = 0) → (s.evr.queue.length = 64) → 
      s.event code a0 a1 a2 =
     (({ s with evr := { s.evr with dropPend := s.evr.dropPend + 1 } }).inc .EVR_CNT_DROPPED 0 1).setB .EVR_STATUS_DROP_EV 0 true) ∧
  (∀ (s : State) (code a0 a1 a2 i : Nat) (x : Fld), x.info.blk ≠ .evr → 
      (s.event code a0 a1 a2).f x i = s.f x i ∧ (s.event code a0 a1 a2).mem = s.mem ∧ (s.event code a0 a1 a2).out = s.out)

/-- Setting or clearing EN of a port whose HOST domain is off is only recorded, and of a port that does not exist does nothing. EN is set when the CMB backing lies in DRAM and is refused with CFG_ERR otherwise; setting it again does nothing; it is cleared, and a pending window group takes force, only while CIU_CTRL.EN reads 0, and is refused with CFG_ERR otherwise. A configuration request of a port that does not exist, or whose HOST domain is off, does nothing; any other is answered with retry status while EN reads 0; else a read returns the field's value and a write is done first, and each of them is answered with success. CNT_CLR clears the four drop counters and no other field. An FLR is recorded as 0x100C, ends the port's requests, its controller's commands and its translations, and resets its function; a link-down as 0x100A, with the link shown down; PERST does as a link-down and is held until its release. The reset function has no MSI-X entry, ATS off, no assembly and a controller register set at reset values; the ended requests leave none outstanding or waiting, their tags quarantined. A link comes up at a speed and width of R30. (Host Endpoint; Command Intake and the Ledger; Scope and Conventions) -/
def Obligations.HostPortControl : Prop :=
  (∀ (p : Port) (v : Bool) (s : State), 
      exec (.hepEn p v) s = .next (if s.dom 3 = false then s.unstarted .hep else if s.portOk p = true then s.hepEn p v else s)) ∧
  (∀ (p : Nat) (s : State), (s.b .HEP_CTRL_EN p = false) → 
      (s.inDram (s.cmbBase p) (2 ^ 26) = true → s.hepEn p true = s.setB .HEP_CTRL_EN p true) ∧
     (s.inDram (s.cmbBase p) (2 ^ 26) = false → s.hepEn p true = s.cfgErr (.hep p) (Fld.HEP_CTRL_EN.addr p))) ∧
  (∀ (p : Nat) (s : State), 
      (s.b .HEP_CTRL_EN p = true → s.hepEn p true = s) ∧
     (s.b .CIU_CTRL_EN 0 = true → s.hepEn p false = s.cfgErr (.hep p) (Fld.HEP_CTRL_EN.addr p)) ∧
     (s.b .CIU_CTRL_EN 0 = false → s.hepEn p false = if s.b .HEP_PW_CTRL_COMMIT_PEND p = true
       then (s.setB .HEP_CTRL_EN p false).applyPw p else s.setB .HEP_CTRL_EN p false)) ∧
  (∀ (p : Port) (w : CfgWrite) (x : CfgRead) (s : State), 
      exec (.configurationRequest p (.write w)) s = .next (if s.dom 3 = false ∨ s.portOk p = false then s else if s.b .HEP_CTRL_EN p = false then s.send (.cplTlp p 1 [] false)
       else (s.cfgWrite p w).send (.cplTlp p 0 [] false)) ∧
     exec (.configurationRequest p (.read x)) s = .next (if s.dom 3 = false ∨ s.portOk p = false then s else if s.b .HEP_CTRL_EN p = false then s.send (.cplTlp p 1 [] false)
       else s.send (.cplTlp p 0 (leBytes 4 (s.cfgValue p x)) false))) ∧
  (∀ (p : Nat) (s : State) (b : Bool), 
      s.cfgWrite p (.tag10 b) = s.setHp p { s.hp p with tag10 := b } ∧ s.cfgWrite p (.relaxed b) = s.setHp p { s.hp p with relaxed := b } ∧
     s.cfgWrite p (.ats true) = s.setHp p { s.hp p with ats := true } ∧ s.cfgWrite p (.ats false) = s.atsOff p ∧
     s.cfgWrite p (.functionMask b) = (s.setHp p { s.hp p with fnMask := b }).flushVecs p ∧
     s.cfgValue p .msixTableSize = 1024 ∧ s.cfgValue p .ctoRanges = 1 ∧ s.cfgValue p .ctoDisable = 0 ∧ s.cfgValue p .atsQueueDepth = 0) ∧
  (∀ (p : Port) (s : State) (x : Fld), (s.dom 3 = true) → (s.portOk p = true) → (x ≠ .HEP_PW_DROP_A_STRADDLE ∧ x ≠ .HEP_PW_DROP_A_FULL ∧ x ≠ .HEP_PW_DROP_B_CHECK ∧ x ≠ .HEP_PW_DROP_B_TIMEOUT) → 
      ∃ t, exec (.cntClr p) s = .next t ∧ t.f .HEP_PW_DROP_A_STRADDLE p = 0 ∧ t.f .HEP_PW_DROP_A_FULL p = 0 ∧
     t.f .HEP_PW_DROP_B_CHECK p = 0 ∧ t.f .HEP_PW_DROP_B_TIMEOUT p = 0 ∧ (∀ i, t.f x i = s.f x i) ∧ t.mem = s.mem ∧ t.hep = s.hep) ∧
  (∀ (p : Port) (s : State), (s.portOk p = true) → 
      exec (.flr p) s = .next (((((s.event 0x100C 0 0 0).endRequests p).endController p).dropAtc p).resetFunction p) ∧
     exec (.perst p) s = .next (let u := (if s.b .HEP_STATUS_LINK_UP p = true then s.event 0x100A 0 0 0 else s).portDown p
       u.setHp p { u.hp p with perst := true })) ∧
  (∀ (p : Port) (s : State), 
      exec (.linkDown p) s = .next (if s.b .HEP_STATUS_LINK_UP p = true then (s.event 0x100A 0 0 0).portDown p else s) ∧
     s.portDown p = (((((s.setQuar p []).endRequests p).endController p).dropAtc p).resetFunction p).setFs p
       [(.HEP_STATUS_LINK_UP, 0), (.HEP_STATUS_SPEED, 0), (.HEP_STATUS_WIDTH, 0)]) ∧
  (∀ (p : Port) (s : State), 
      ((s.resetFunction p).hp p).msix = [] ∧ ((s.resetFunction p).hp p).ats = false ∧ ((s.resetFunction p).hp p).asm = [] ∧
     (s.resetFunction p).ctrl p = {} ∧ ((s.endRequests p).hp p).reqs = [] ∧ ((s.endRequests p).hp p).xwait = [] ∧
     ((s.endRequests p).hp p).quar = (s.hp p).quar ++ (s.hp p).reqs.map (fun r => { tag := r.tag, remaining := r.remaining, quiet := true }) ∧
     (s.dropAtc p).hep.atc = s.hep.atc.filter (fun e => e.port != p.val)) ∧
  (∀ (p : Port) (s : State), 
      exec (.perstRelease p) s = .next (s.setHp p { s.hp p with perst := false })) ∧
  (∀ (p : Port) (s : State) (speed : Fin 6) (width : Fin 5), (s.dom 3 = true) → (s.portOk p = true) → ((s.hp p).perst = false) → speed ≠ 0 → (width = 1 ∨ width = 2 ∨ (width = 4 ∧ s.b .SUP_STRAP_PORT 0 = false)) → 
      exec (.pcieLinkUp p speed width) s = .next (s.setFs p [(.HEP_STATUS_LINK_UP, 1), (.HEP_STATUS_SPEED, speed), (.HEP_STATUS_WIDTH, width)]))

/-- A timeout of an outstanding request ends it, quarantines its tag with the bytes still due, logs in AER, records 0x1002 and fails its DMA; one of any other tag does nothing. The DMA that fails raises DMA_ERR at the sequencer that issued it, and completes the command whose tag is live with Data Transfer Error, or ends the command whose entry was being fetched. A completion of a present port is taken as follows. One with an unknown tag leaves an AER entry and event 0x1004. For an outstanding tag: the last data in time ends the request and delivers all of it; earlier data lowers what is due; an unsuccessful status ends the request and fails its DMA; a poisoned one for data is logged with 0x1005 and fails the DMA with 0x1002; a poisoned entry fetch is repeated once. For a quarantined tag one is logged, counted in LATE and recorded as 0x1003, or passes without a trace where an FLR or link-down quarantined it, and the tag is freed by the last. One that arrives with the expiry is taken after the timeout. A quarantine ends with event 0x1007 when its hold expires. A translation with a read permission is cached with its size bounded to 4 KiB and 1 GiB (256 entries; the oldest use makes room); one that an invalidation overlapped is recorded as 0x1008 and asked for again. An invalidation drops the entries of its range, is noted by the port's requests, and is completed in order once no read that used one is outstanding; clearing ATS Enable drops the port's entries. That only the first poisoned fetch is repeated in silence, and that the silence of a quarantine of R43 covers a poisoned completion, are the model's choices (log entries 107 and 108). (Host Endpoint) -/
def Obligations.HostRequestsEnd : Prop :=
  (∀ (p : Port) (tag : Nat) (s : State), 
      (∀ r, (s.hp p).reqs.find? (fun r => r.tag == tag) = some r → exec (.completionTimeout p tag) s = .next (((((s.dropReq p tag).setQuar p ((s.hp p).quar ++
       [{ tag := tag, remaining := r.remaining, quiet := false }])).aer p 0).event 0x1002 0 0 0).failDma p r.kind)) ∧
     ((s.hp p).reqs.find? (fun r => r.tag == tag) = none → exec (.completionTimeout p tag) s = .next s)) ∧
  (∀ (s : State) (p tag dst cs q o : Nat) (again : Bool), 
      s.failDma p (.sqe q cs o again) = (s.raiseDone cs 0x46).fetchEnd ∧
     (s.tagLive tag = true → (s.cmd (tag / 8)).live = true → s.failDma p (.data tag dst cs) =
       ((s.raiseDone cs 0x46).dropBlocks (tag / 8)).finish (tag / 8) 0 4 0)) ∧
  (∀ (p : Port) (tag : Nat) (data : List Byte) (good poisoned expiring : Bool) (s : State), (s.portOk p = true) → 
      exec (.completionTlp p tag data good poisoned expiring) s = .next (s.completion p tag data good poisoned expiring)) ∧
  (∀ (p tag : Nat) (data : List Byte) (good : Bool) (s : State), ((s.hp p).reqs.find? (fun r => r.tag == tag) = none) → ((s.hp p).quar.find? (fun q => q.tag == tag) = none) → 
      s.completion p tag data good false false = (s.aer p 1).event 0x1004 0 0 0) ∧
  (∀ (p tag : Nat) (data : List Byte) (s : State) (r : HostReq), ((s.hp p).reqs.find? (fun r => r.tag == tag) = some r) → ((s.hp p).quar.any (fun q => q.tag == tag) = false) → 
      (r.remaining ≤ data.length → s.completion p tag data true false false = s.requestDone p r (r.got ++ data)) ∧
     s.completion p tag data false false false = ((s.dropReq p r.tag).pump p).failDma p r.kind ∧
     s.completion p tag data true false true = (s.timeout p tag).completion p tag data true false false) ∧
  (∀ (p tag dst cs : Nat) (data : List Byte) (s : State) (r : HostReq), (r.kind = .data tag dst cs) → ((s.hp p).xwait = []) → (s.tagLive tag = true) → ((s.cmd (tag / 8)).live = true) → 
      s.requestDone p r data = (let u := (s.dropReq p r.tag).pump p; ((u.wrTag dst data (some tag)).setCmd (tag / 8) { u.cmd (tag / 8) with moved := true }).raiseDone cs 0x45)) ∧
  (∀ (p tag : Nat) (data : List Byte) (s : State) (r : HostReq), ((s.hp p).reqs.find? (fun r => r.tag == tag) = some r) → ((s.hp p).quar.any (fun q => q.tag == tag) = false) → (data.length < r.remaining) → (r.kind.fetches = true) → 
      s.completion p tag data true false false = s.setHp p { s.hp p with reqs := (s.hp p).reqs.map (fun x =>
       if x.tag = r.tag then { x with remaining := x.remaining - data.length, got := x.got ++ data } else x) }) ∧
  (∀ (p tag t dst cs qn o : Nat) (data : List Byte) (good : Bool) (s : State) (r : HostReq), ((s.hp p).reqs.find? (fun r => r.tag == tag) = some r) → ((s.hp p).quar.any (fun q => q.tag == tag) = false) → 
      ∃ u, u = s.poisonedTlp p ∧ ((u.hp p).reqs.find? (fun r => r.tag == tag) = some r → (u.hp p).quar.any (fun q => q.tag == tag) = false →
     (r.kind = .data t dst cs → s.completion p tag data good true false =
        ((((u.dropReq p r.tag).pump p).aer p 0).event 0x1002 0 0 0).failDma p r.kind) ∧
     (r.kind = .sqe qn cs o false → s.completion p tag data good true false =
        (u.dropReq p r.tag).request p (.sqe qn cs o true) r.addr 64))) ∧
  (∀ (p tag : Nat) (data : List Byte) (s : State) (q : Quar), ((s.hp p).reqs.find? (fun r => r.tag == tag) = none) → ((s.hp p).quar.find? (fun q => q.tag == tag) = some q) → (q.remaining ≤ data.length) → 
      (q.quiet = false → ∃ u, u = ((s.aer p 1).inc .HEP_TAG_STAT_LATE p 1).event 0x1003 0 0 0 ∧
     s.completion p tag data true false false = (u.setQuar p ((u.hp p).quar.filter (fun x => x.tag != q.tag))).pump p) ∧
     (q.quiet = true → s.completion p tag data true false false = (s.setQuar p ((s.hp p).quar.filter (fun x => x.tag != q.tag))).pump p)) ∧
  (∀ (p : Port) (tag : Nat) (s : State), 
      exec (.quarantineHoldExpiry p tag) s = .next (if (s.hp p).quar.any (fun q => q.tag == tag) = true
       then ((s.event 0x1007 0 0 0).setQuar p ((s.hp p).quar.filter (fun q => q.tag != tag))).pump p else s)) ∧
  (∀ (p : Port) (tag size page : Nat) (host : BitVec 64) (rd wr : Bool) (s : State) (r : HostReq) (inv : List (Nat × Nat)), (s.portOk p = true) → ((s.hp p).reqs.find? (fun r => r.tag == tag) = some r) → (r.kind = .xlate page inv) → 
      exec (.translationCompletion p tag size host rd wr) s = .next ((s.dropReq p tag).translated p page inv size host.toNat rd wr)) ∧
  (∀ (p page size host : Nat) (inv : List (Nat × Nat)) (wr : Bool) (s : State), ((s.hp p).ats = true) → 
      (inv.any (fun r => rangesMeet (page / max 4096 size * max 4096 size, max 4096 size) r) = true → ∀ rd,
       s.translated p page inv size host rd wr = (s.event 0x1008 0 0 0).askPage p page) ∧
     (inv = [] → 4096 ≤ size → size ≤ 2 ^ 30 → s.translated p page inv size host true wr =
       (s.updHep (fun h => { h with atc := (h.atc ++ [({ port := p, start := page / size * size, size := size, host := host, rd := true, wr := wr } : Atc)]).drop (h.atc.length + 1 - 256) })).pump p)) ∧
  (∀ (p : Port) (itag : Fin 32) (start : BitVec 64) (size : Nat) (s : State) (e : Atc), (s.portOk p = true) → e ∈ s.hep.atc → 
      ∃ t, exec (.invalidateRequest p itag start size) s = .next t ∧
     (e ∈ t.hep.atc ↔ ¬(e.port = p.val ∧ rangesMeet (e.start, e.size) (start.toNat, size) = true)) ∧
     (t.hp p).inval = (s.hp p).inval ++ [itag.val] ∧ t.regs = s.regs ∧ t.mem = s.mem ∧ t.out = s.out) ∧
  (∀ (p : Port) (s : State) (i : Nat) (r : List Nat), (s.portOk p = true) → ((s.hp p).inval = i :: r) → 
      exec (.invalidateCompletion p) s = .next (if (s.hp p).reqs.any (fun x => x.holds.contains i) = true then s
       else (s.setHp p { s.hp p with inval := r }).send (.invalDone p i))) ∧
  (∀ (p : Port) (s : State), (s.portOk p = true) → 
      exec (.atsEnableClear p) s = .next (((s.setHp p { s.hp p with ats := false }).dropAtc p).pump p))

/-- Of a present port: a CMB write lands at the CMB's backing (a poisoned one is logged with 0x1005 and marks its granules) while DRAM is in service; a CMB read within one payload answers one completion with the bytes read and EP where a granule of them is bad, and is answered with Completer Abort while DRAM is out of service. A read of the peer window returns zeros. A peer write of one whole block goes to the checks of R67; with the window off in force nothing changes, poisoned writes excepted, which are logged; one with a hole, and one across a block's end, is counted in TIMEOUT. A message that passes the checks is written unchanged at PROD and PROD advances; one that fails counts in CHECK, one that meets a full ring in FULL. An assembly timeout drops its assembly and counts it; the window-idle boundary applies a pending group while no assembly is open; the forced one drops every assembly, counts each, records 0x1009 once and applies. The applied group sets PROD and CONS to 0 where the ring's base or size changed. (Host Endpoint; Buffer Memory, the Bramble Cache and Data Integrity) -/
def Obligations.CmbAndPeerWindow : Prop :=
  (∀ (p : Port) (off : BitVec 26) (data : List Byte) (s : State), (s.portOk p = true) → (s.b .BUF_STATUS_READY 0 = true) → 
      exec (.cmbWrite p off data false) s = .next (s.wr (s.cmbBase p + off.toNat) data) ∧
     ((s.poisonedTlp p).b .BUF_STATUS_READY 0 = true → exec (.cmbWrite p off data true) s =
       .next ((s.poisonedTlp p).wrPoison ((s.poisonedTlp p).cmbBase p + off.toNat) data))) ∧
  (∀ (p : Port) (off : BitVec 26) (data : List Byte) (s : State), (s.portOk p = true) → (s.b .BUF_STATUS_READY 0 = false) → 
      exec (.cmbWrite p off data false) s = .next s) ∧
  (∀ (p : Port) (off : BitVec 26) (len : Nat) (s : State), (s.portOk p = true) → (s.b .BUF_STATUS_READY 0 = true) → (0 < len) → (len ≤ s.payload p) → 
      exec (.cmbRead p off len) s = .next (let x := s.fetchMarked (.host p) (s.cmbBase p + off.toNat) len
       x.2.2.send (.cplTlp p 0 x.1 (x.2.1.any id)))) ∧
  (∀ (p : Port) (off : BitVec 26) (len : Nat) (s : State), (s.portOk p = true) → (s.b .BUF_STATUS_READY 0 = false) → 
      exec (.cmbRead p off len) s = .next (s.send (.cplTlp p 2 [] false))) ∧
  (∀ (p : Port) (off : BitVec 26) (len : Nat) (s : State), (s.portOk p = true) → 
      exec (.peerWindowRead p off len) s = .next (s.send (.cplTlp p 0 (List.replicate len 0) false))) ∧
  (∀ (p : Port) (off : BitVec 26) (data : List Byte) (s : State), (s.portOk p = true) → (s.g .HEP_PW_CTRL_PW_EN p = 1) → (off.toNat % 64 = 0) → (data.length = 64) → 
      exec (.peerWindowWrite p off data true false) s = .next (s.peerDeliver p (off.toNat / 64) data)) ∧
  (∀ (p : Port) (off : BitVec 26) (data : List Byte) (c : Bool) (s : State), (s.portOk p = true) → 
      (s.g .HEP_PW_CTRL_PW_EN p = 0 → exec (.peerWindowWrite p off data c false) s = .next s) ∧
     ((s.poisonedTlp p).g .HEP_PW_CTRL_PW_EN p = 0 → exec (.peerWindowWrite p off data c true) s = .next (s.poisonedTlp p)) ∧
     (s.g .HEP_PW_CTRL_PW_EN p ≠ 0 → data ≠ [] → exec (.peerWindowWrite p off data false false) s = .next (s.inc .HEP_PW_DROP_B_TIMEOUT p 1)) ∧
     (s.g .HEP_PW_CTRL_PW_EN p ≠ 0 → data ≠ [] → off.toNat % 64 ≠ 0 → off.toNat / 64 ≠ (off.toNat + data.length - 1) / 64 →
       exec (.peerWindowWrite p off data true false) s = .next (s.inc .HEP_PW_DROP_B_TIMEOUT p 1))) ∧
  (∀ (p : Nat) (block : Nat) (m : List Byte) (s : State), (s.peerOk p (block * 64 / 4096) m = true) → (s.f .HEP_PW_PROD_PROD p + 1) % 2 ^ s.g .HEP_PW_RING_SIZE_LOG2 p ≠ s.f .HEP_PW_CONS_CONS p → (p < 2) → 
      (s.peerDeliver p block m).f .HEP_PW_PROD_PROD p = (s.f .HEP_PW_PROD_PROD p + 1) % 2 ^ s.g .HEP_PW_RING_SIZE_LOG2 p % 2 ^ Fld.width .HEP_PW_PROD_PROD ∧
     (s.peerDeliver p block m).mem = (s.wr (s.pwRing p + 64 * s.f .HEP_PW_PROD_PROD p) m).mem) ∧
  (∀ (p : Nat) (block : Nat) (m : List Byte) (s : State), 
      (s.peerOk p (block * 64 / 4096) m = false → s.peerDeliver p block m = s.inc .HEP_PW_DROP_B_CHECK p 1) ∧
     (s.peerOk p (block * 64 / 4096) m = true → (s.f .HEP_PW_PROD_PROD p + 1) % 2 ^ s.g .HEP_PW_RING_SIZE_LOG2 p = s.f .HEP_PW_CONS_CONS p →
       s.peerDeliver p block m = s.inc .HEP_PW_DROP_A_FULL p 1)) ∧
  (∀ (p : Port) (slot : Fin 8) (s : State), 
      exec (.assemblyTimeout p slot) s = .next (if (Tbl.get (s.hp p).asm none slot).isNone = true then s
       else (s.setHp p { s.hp p with asm := Tbl.set (s.hp p).asm none slot none }).inc .HEP_PW_DROP_B_TIMEOUT p 1)) ∧
  (∀ (p : Port) (s : State), 
      exec (.windowIdleBoundary p) s = .next (if s.b .HEP_PW_CTRL_COMMIT_PEND p = true ∧ s.asmBusy p = 0 then s.applyPw p else s) ∧
     exec (.forcedBoundary p) s = .next (if s.b .HEP_PW_CTRL_COMMIT_PEND p = false then s else if s.asmBusy p = 0 then s.applyPw p
       else (((s.setHp p { s.hp p with asm := [] }).inc .HEP_PW_DROP_A_STRADDLE p (s.asmBusy p)).event 0x1009 0 0 0).applyPw p)) ∧
  (∀ (p : Nat) (s : State), (p < 2) → (s.f .HEP_PW_RING_LO_BASE_LO p ≠ s.g .HEP_PW_RING_LO_BASE_LO p ∨ s.f .HEP_PW_RING_SIZE_LOG2 p ≠ s.g .HEP_PW_RING_SIZE_LOG2 p) → 
      (s.applyPw p).f .HEP_PW_PROD_PROD p = 0 ∧ (s.applyPw p).f .HEP_PW_CONS_CONS p = 0 ∧ (s.applyPw p).b .HEP_PW_CTRL_COMMIT_PEND p = false)

/-- Unmasking a vector clears its mask, and sends its message and clears the bit where its pending bit is 1 and Function Mask is off. A completion-head doorbell of a present port: a poisoned one is only logged; one of a queue that is not there does nothing; one beyond the queue is an invalid doorbell; otherwise the head moves, and the vector's pending bit clears where it is masked with its queues empty. The expiry of the coalescing time sends one message for those held, or leaves it pending on a masked vector; with none held it does nothing. A press sets the button's state and its latches on every port, counts, and records 0x100B; the release clears the state. Log page 0xC8 returns the presses and the indicators in 8 bytes, completes the command, and arms the event again unless Retain is set. (Host Endpoint) -/
def Obligations.VectorsButtonsAndHeads : Prop :=
  (∀ (p : Port) (vec : Fin 1025) (s : State), 
      exec (.msixVectorUnmask p vec) s = .next (let u := s.setVec p vec { s.vec p vec with masked := false }
       if (u.vec p vec).pending = true ∧ (u.hp p).fnMask = false then u.sendMsix p vec else u)) ∧
  (∀ (p : Port) (q : Fin 1025) (head : BitVec 16) (s : State), (s.portOk p = true) → 
      exec (.cqHeadDoorbell p q head true) s = .next (s.poisonedTlp p) ∧
     exec (.cqHeadDoorbell p q head false) s = .next (if (s.cq p q).live = false then s else if (s.cq p q).size ≤ head.toNat then s.badDoorbell p
       else (s.setCq p q { s.cq p q with head := head.toNat }).settleVec p (s.cq p q).vec)) ∧
  (∀ (p v : Nat) (s : State), 
      s.settleVec p v = (if s.vecMasked p v = true ∧ s.vecIdle p v = true then s.setVec p v { s.vec p v with pending := false } else s) ∧
     s.sendMsix p v = (s.setVec p v { s.vec p v with pending := false, held := 0 }).send (.msix p v (s.vec p v).addr (s.vec p v).data)) ∧
  (∀ (p : Port) (vec : Fin 1025) (s : State), 
      exec (.coalescingTimeExpiry p vec) s = .next (if (s.vec p vec).held = 0 then s
       else if s.vecMasked p vec = true then (s.setVec p vec { s.vec p vec with held := 0, pending := true }).settleVec p vec else s.sendMsix p vec)) ∧
  (∀ (s : State), 
      exec .attentionButtonPress s = .next (s.press.ports.foldl (fun u p => if u.b .SLOT_CTL_ABP_AEN p = true ∧ (u.hp p).btnArmed = true then
       (u.setHp p { u.hp p with btnArmed := false }).asyncEvent p 7 0xA0 0xC8 else u) s.press)) ∧
  (∀ (p : Port) (s : State), (s.portOk p = true) → 
      s.press.b .SLOT_STS_ABP p = true ∧ s.press.b .HEP_SLOT_BTN_EV p = true ∧ s.press.b .SLOT_STS_BTN p = true ∧
     s.press.hep.presses = s.hep.presses + 1 ∧ s.press.ports = s.ports ∧ s.press.mem = s.mem ∧ s.press.out = s.out) ∧
  (∀ (p : Port) (s : State), (s.portOk p = true) → 
      ∃ t, exec .attentionButtonRelease s = .next t ∧ t.b .SLOT_STS_BTN p = false ∧ t.b .HEP_SLOT_BTN p = false ∧
     t.hep.presses = s.hep.presses ∧ t.mem = s.mem ∧ t.out = s.out) ∧
  (∀ (t : Slot) (s : State), (s.serving t true 2 = true) → 
      exec (.logPageC8 t true) s = .next ((s.sendData (s.cmd t).port (s.cmd t).cid
       (leBytes 4 s.hep.presses ++ leBytes 1 (s.hep.indP + 4 * s.hep.indA) ++ leBytes 3 0) false).finish t 0 0 0) ∧
     exec (.logPageC8 t false) s = .next (((s.setHp (s.cmd t).port { s.hp (s.cmd t).port with btnArmed := true }).sendData (s.cmd t).port (s.cmd t).cid
       (leBytes 4 s.hep.presses ++ leBytes 1 (s.hep.indP + 4 * s.hep.indA) ++ leBytes 3 0) false).finish t 0 0 0))

/-- A tail doorbell of an absent port does nothing, a poisoned one is only logged, one that names the tail as it stands does nothing, one beyond the queue is an invalid doorbell, any other moves the tail and makes the queue eligible. Arbitration grants nothing while intake is off or held or no queue may be granted; otherwise it grants one of the queues that may be granted, of the strictest rank among them: min(waiting, room, burst) entries, all that wait for a burst of 7. A fetched entry that was granted leaves the grants: one whose identifier is in use completes with Command ID Conflict, one that fails a check with the status of the check, one that passes takes the free list's head, counts in flight, is journalled, and starts or waits for the overlap rule; without a grant nothing happens. A wait for the overlap rule ends when nothing earlier holds the command, one for slots when a slot is free; otherwise each stays. A served write with every block in its slot becomes BUFFERED. A BUFFERED write completes once protection is in force, the device is not fenced and the partner's acknowledgement is not awaited. A completion writes its Ledger state, posts its entry (a fenced device posts none for a write), sets POSTED and frees the tag: the epoch rises and the slot joins the free list's tail. Which check decides when several fail is the model's choice (log entry 18), as is the waiting for earlier entries that have not come to the overlap table (log entry 102). (Command Intake and the Ledger; Power Loss and Recovery; The CV-4820 at a Glance; Paired Operation) -/
def Obligations.CommandIntakeAndRelease : Prop :=
  (∀ (p : Port) (q : Fin 1025) (tail : BitVec 16) (s : State), 
      (s.portOk p = false → ∀ b, exec (.sqDoorbell p q tail b) s = .next s) ∧
     (s.portOk p = true → exec (.sqDoorbell p q tail true) s = .next (s.poisonedTlp p)) ∧
     (s.portOk p = true → exec (.sqDoorbell p q tail false) s = .next (if tail.toNat = (s.sq p q).tail then s
       else if (s.sq p q).size ≤ tail.toNat then s.badDoorbell p else s.setSq p q { s.sq p q with tail := tail.toNat, eligible := true }))) ∧
  (∀ (s : State), 
      (s.b .CIU_CTRL_EN 0 = false ∨ s.b .CIU_CTRL_FETCH_HOLD 0 = true ∨ s.candidates = [] → exec .arbitrationGrant s = .next s) ∧
     (s.b .CIU_CTRL_EN 0 = true → s.b .CIU_CTRL_FETCH_HOLD 0 = false → s.candidates ≠ [] → (∀ e ∈ s.candidates, e.2.cls ≤ 4) →
       ∃ e ∈ s.candidates, (∀ d ∈ s.candidates, s.rank e.1 e.2 ≤ s.rank d.1 d.2) ∧
         ∃ c ab, exec .arbitrationGrant s = .next ((s.updCiu (fun x => { x with credits := c, ab := ab })).grant e.1 e.2))) ∧
  (∀ (s : State) (k n : Nat) (x : SubQ), (n = min (min x.waiting (s.grantRoom (k % 2048))) (if s.ciu.ab = 7 then x.waiting else 2 ^ s.ciu.ab)) → 
      (s.grant k x).ciu.grants = s.ciu.grants ++ (List.range n).map (fun i =>
       { p := k / 2048, q := k % 2048, i := (x.head + i) % x.size, order := s.ciu.nextOrder + i }) ∧
     ((s.grant k x).sq (k / 2048) (k % 2048)).head = (x.head + n) % x.size ∧ (s.grant k x).ciu.nextOrder = s.ciu.nextOrder + n ∧
     (s.grant k x).b .CIU_STATUS_IDLE 0 = false ∧ (s.grant k x).mem = s.mem ∧ (s.grant k x).out = s.out) ∧
  (∀ (p : Port) (q : Fin 1025) (e : Sqe) (s : State), 
      (s.ciu.grants.find? (fun g => g.p == p.val && g.q == q.val) = none → exec (.commandIntake p q e) s = .next s) ∧
     (∀ g, s.ciu.grants.find? (fun g => g.p == p.val && g.q == q.val) = some g →
       ∃ u, u = (s.updCiu (fun c => { c with grants := c.grants.erase g })).takeIn p q g.order e ∧
         exec (.commandIntake p q e) s = .next (u.setInflight (u.f .CIU_OVL_STAT_INFLIGHT 0)))) ∧
  (∀ (p q o : Nat) (e : Sqe) (s : State), 
      (s.cidUsed p q e.cid.toNat o = true → s.takeIn p q o e = ((s.inc .CIU_TAG_STAT_IDCONF 0 1).event 0x2007 0 0 0).postCqe p q e.cid.toNat 0 3 0) ∧
     (s.cidUsed p q e.cid.toNat o = false → ∀ sct sc, s.intakeStatus p e (sqeCmd e p q o) = some (sct, sc) →
       s.takeIn p q o e = s.postCqe p q e.cid.toNat sct sc 0) ∧
     (s.cidUsed p q e.cid.toNat o = false → s.intakeStatus p e (sqeCmd e p q o) = none → ∀ t, s.nextSlot = some t →
       s.takeIn p q o e = s.enterFlight t (sqeCmd e p q o))) ∧
  (∀ (t : Nat) (c : Cmd) (s u v w : State), (u = (s.tableUse 0x10).takeSlot.setCmd t c) → (v = u.setInflight (u.f .CIU_OVL_STAT_INFLIGHT 0 + 1)) → (w = if v.b .CIU_STATUS_LIMIT 0 = true then v.eventOnce 0x2003 0x2003 0 0 0 else v) → 
      s.enterFlight t c = (let x := if c.journalled = true ∧ w.b .LDG_CTRL_EN 0 = true then w.ledgerAppend t else w
     if x.blocked t = true then (x.setCmd t { x.cmd t with phase := .overlap }).inc .CIU_OVL_STAT_WAITS 0 1 else x.startCmd t)) ∧
  (∀ (t : Nat) (s : State), 
      ((s.cmd t).admin = true → s.startCmd t = s.setCmd t { s.cmd t with phase := .firmware }) ∧
     ((s.cmd t).admin = false → (s.cmd t).opc = 1 ∨ (s.cmd t).opc = 8 ∨ (s.cmd t).opc = 0x7D → s.startCmd t = s.setCmd t { s.cmd t with phase := .active }) ∧
     ((s.cmd t).admin = false → (s.cmd t).opc = 2 → s.b .CIU_CTRL_HIT_EN 0 = true → (s.cmd t).blocks ≤ 32 →
       (∀ i < (s.cmd t).blocks, (s.bufIdx ((s.cmd t).nsid - 1) ((s.cmd t).slba + i)).isSome = true) → ((s.startCmd t).cmd t).phase = .hit)) ∧
  (∀ (t : Slot) (s : State), 
      exec (.overlapWaitEnd t) s = .next (if (s.cmd t).live = true ∧ (s.cmd t).phase = .overlap ∧ s.blocked t = false then s.startCmd t else s)) ∧
  (∀ (t : Slot) (s u : State), (u = s.setCmd t { s.cmd t with phase := .active }) → 
      exec (.bufferSlotWaitEnd t) s = .next (if (s.cmd t).live = true ∧ (s.cmd t).phase = .slots ∧ 0 < s.slotsFree then
     u.updCiu (fun x => { x with starved := x.cmd.any (fun e => e.2.live && e.2.phase == .slots) }) else s)) ∧
  (∀ (t : Slot) (s : State), 
      (s.serving t false 1 = true ∨ s.serving t false 8 = true ∨ s.serving t false 0x7D = true →
       exec (.writeDataBuffered t) s = .next (if (s.cmd t).slots.length = (s.cmd t).blocks then s.becomeBuffered t else s)) ∧
     (s.serving t false 1 = false → s.serving t false 8 = false → s.serving t false 0x7D = false → exec (.writeDataBuffered t) s = .next s) ∧
     ((s.becomeBuffered t).cmd t).phase = .buffered) ∧
  (∀ (t : Slot) (s : State), 
      exec (.writeCompletionRelease t) s = .next (if (s.cmd t).live = true ∧ (s.cmd t).phase = .buffered ∧ s.protected = true ∧ s.mir.fenced = false ∧
       Tbl.get s.ciu.awaitMirror false t = false then s.finish t 0 0 (if (s.cmd t).opc = 0x7D then (s.cmd t).slba else 0) else s)) ∧
  (∀ (t sct sc dw0 i : Nat) (s u v : State), 
      ((s.cmd t).ledger = none → s.mir.fenced = false ∨ (s.cmd t).cls ≠ 2 →
       s.finish t sct sc dw0 = (s.postCqe (s.cmd t).port (s.cmd t).sq (s.cmd t).cid sct sc dw0).leave t) ∧
     ((s.cmd t).ledger = none → s.mir.fenced = true → (s.cmd t).cls = 2 → s.finish t sct sc dw0 = s.leave t) ∧
     ((s.cmd t).ledger = some i → s.mir.fenced = false → u = s.ledgerState i (finalState sct sc) (sct * 256 + sc) (some (s.tagOf t)) →
       u.mir.fenced = false → v = u.postCqe (s.cmd t).port (s.cmd t).sq (s.cmd t).cid sct sc dw0 →
       s.finish t sct sc dw0 = (v.ledgerFlags i 2 (some (s.tagOf t))).leave t)) ∧
  (∀ (t : Nat) (s : State), ((s.cmd t).reading = []) → 
      (s.leave t).cmd t = {} ∧ Tbl.get (s.leave t).ciu.epoch 0 t = (Tbl.get s.ciu.epoch 0 t + 1) % 8 ∧
     (s.leave t).ciu.released = s.ciu.released ++ [t] ∧ (s.leave t).mem = s.mem ∧ (s.leave t).out = s.out)

/-- CC.EN rising on a present port of a started block takes AQA, ASQ and ACQ into force and raises RDY; it does nothing where CC.EN is 1 already, the port is absent or HOST is off; its clearing ends the controller and does nothing where CC.EN is 0. Served, a queue is created from an unused identifier other than 0, an existing completion queue and a size of 2 to 4,096 entries, else completed with NVMe's status (log entry 12), and a completion queue in the CMB with status 0/0x12; a submission queue is deleted when it exists: its commands end, BUFFERED writes successfully and others with 0/0x08, its entries being fetched end, and it is gone; a completion queue is deleted unless a submission queue uses it. Not served, each does nothing. Intake is enabled only within its checks, and disabled only while IDLE; the Ledger only with a region that is protected, a SEQ that is not 0 and, for MIRROR, a partner, and it is not disabled while intake runs; a refusal sets CFG_ERR; on a stopped domain each is only recorded. A release frees a slot that no hit reads, defers one that a hit reads, and is refused with CFG_ERR for one not allocated. An abort ends a command that has moved no data, with status 0/0x07 and event 0x2004, and reports 1 where none is found and 2 where data has moved; the register's result, and bit 0 of the admin command's dword 0, say which. (Command Intake and the Ledger; Host Endpoint; The CV-4820 at a Glance; Scope and Conventions) -/
def Obligations.ControllerQueuesAndEnables : Prop :=
  (∀ (p : Port) (s : State), 
      (s.dom 3 = true → s.portOk p = true → (s.ctrl p).en = false → exec (.controllerEnable p) s = .next (((s.setCtrl p
       { s.ctrl p with en := true, rdy := true, cfs := false }).setSq p 0
       { live := true, size := (s.ctrl p).asqs + 1, base := (s.ctrl p).asq, cls := 0, cq := 0 }).setCq p 0
       { live := true, size := (s.ctrl p).acqs + 1, base := (s.ctrl p).acq, vec := 0 })) ∧
     (s.dom 3 = false ∨ s.portOk p = false ∨ (s.ctrl p).en = true → exec (.controllerEnable p) s = .next s)) ∧
  (∀ (p : Port) (s : State), 
      exec (.controllerReset p) s = .next (if s.dom 3 = true ∧ (s.ctrl p).en = true then s.endController p else s) ∧
     ((s.endController p).ctrl p).en = false ∧ ((s.endController p).ctrl p).rdy = false) ∧
  (∀ (t : Slot) (q cq : Fin 1025) (size : BitVec 16) (base : QueuePlace) (prio : Fin 4) (s : State), 
      (s.serving t true 1 = true → exec (.createIoSubmissionQueue t q cq size base prio) s = .next (
       if q = 0 ∨ (s.sq (s.cmd t).port q).live = true then s.finish t 1 1 0
       else if cq = 0 ∨ (s.cq (s.cmd t).port cq).live = false then s.finish t 1 0 0
       else if size.toNat = 0 ∨ 4095 < size.toNat then s.finish t 1 2 0
       else (s.setSq (s.cmd t).port q { live := true, size := size.toNat + 1, base := base.base.toNat, cls := prio.val + 1, cq := cq, cmb := base.inCmb }).finish t 0 0 0)) ∧
     (s.serving t true 1 = false → exec (.createIoSubmissionQueue t q cq size base prio) s = .next s)) ∧
  (∀ (t : Slot) (q : Fin 1025) (size : BitVec 16) (base : BitVec 64) (vec : Fin 1025) (inCmb : Bool) (s : State), 
      (s.serving t true 5 = true → exec (.createIoCompletionQueue t q size base vec inCmb) s = .next (
       if q = 0 ∨ (s.cq (s.cmd t).port q).live = true then s.finish t 1 1 0
       else if size.toNat = 0 ∨ 4095 < size.toNat then s.finish t 1 2 0
       else if inCmb = true then s.finish t 0 0x12 0
       else (s.setCq (s.cmd t).port q { live := true, size := size.toNat + 1, base := base.toNat, vec := vec }).finish t 0 0 0)) ∧
     (s.serving t true 5 = false → exec (.createIoCompletionQueue t q size base vec inCmb) s = .next s)) ∧
  (∀ (t : Slot) (q : Fin 1025) (s : State), 
      (s.serving t true 0 = true → exec (.deleteIoSubmissionQueue t q) s = .next (
       if q = 0 ∨ (s.sq (s.cmd t).port q).live = false then s.finish t 1 1 0
       else (((((s.ciu.cmd.filter (fun e => e.2.live && e.2.port == (s.cmd t).port && e.2.sq == q.val)).map Prod.fst).foldl (fun u k =>
           if (u.cmd k).posted = true then u.leave k else if (u.cmd k).phase = .buffered then u.finish k 0 0 0 else (u.dropBlocks k).finish k 0 8 0) s).endFetches
         (s.cmd t).port q).setSq (s.cmd t).port q {}).finish t 0 0 0)) ∧
     (s.serving t true 0 = false → exec (.deleteIoSubmissionQueue t q) s = .next s)) ∧
  (∀ (t : Slot) (q : Fin 1025) (s : State), 
      (s.serving t true 4 = true → exec (.deleteIoCompletionQueue t q) s = .next (
       if q = 0 ∨ (s.cq (s.cmd t).port q).live = false then s.finish t 1 1 0
       else if s.ciu.sq.any (fun e => e.1 / 2048 == (s.cmd t).port && e.2.live && e.2.cq == q.val) = true then s.finish t 1 0x0C 0
       else ((s.setCq (s.cmd t).port q {}).settleVec (s.cmd t).port (s.cq (s.cmd t).port q).vec).finish t 0 0 0)) ∧
     (s.serving t true 4 = false → exec (.deleteIoCompletionQueue t q) s = .next s)) ∧
  (∀ (s : State), (s.dom 3 = true) → 
      exec (.ciuEn true) s = .next (if s.b .CIU_CTRL_EN 0 = true then s
       else if 64 ≤ s.f .CIU_CFG_MAX_INFLIGHT 0 ∧ s.f .CIU_CFG_MAX_INFLIGHT 0 ≤ 8192 ∧ 8 ≤ s.f .CIU_CFG_ADMIN_RSV 0 ∧
         s.f .CIU_CFG_ADMIN_RSV 0 ≤ s.f .CIU_CFG_MAX_INFLIGHT 0 - 1 ∧
         s.inDram (s.f .CIU_BIDX_LO_BASE_LO 0 * 2 ^ 20 + s.f .CIU_BIDX_HI_BASE_HI 0 * 2 ^ 32) (2 ^ 20) = true ∧
         s.inProt (s.slotAddr 0) (4160 * s.f .CIU_SLOTS_COUNT 0) = true ∧ s.b .LDG_CTRL_EN 0 = true then s.setB .CIU_CTRL_EN 0 true
       else s.cfgErr .ciu (Fld.CIU_CTRL_EN.addr 0)) ∧
     exec (.ciuEn false) s = .next (if s.b .CIU_STATUS_IDLE 0 = true then s.setB .CIU_CTRL_EN 0 false else s.cfgErr .ciu (Fld.CIU_CTRL_EN.addr 0))) ∧
  (∀ (s : State) (mirror : Bool), (s.dom 3 = true) → 
      exec (.ldgEn true mirror) s = .next (let u := s.setB .LDG_CTRL_MIRROR 0 mirror; if s.b .LDG_CTRL_EN 0 = true then s
       else if u.inProt u.ldgBase (2 ^ 19) = true ∧ u.ldgSeq ≠ 0 ∧ (mirror = false ∨ u.paired = true) then u.setB .LDG_CTRL_EN 0 true
       else u.cfgErr .ldg (Fld.LDG_CTRL_EN.addr 0)) ∧
     exec (.ldgEn false mirror) s = .next (if s.b .CIU_CTRL_EN 0 = true then s.cfgErr .ldg (Fld.LDG_CTRL_EN.addr 0) else s.setB .LDG_CTRL_EN 0 false)) ∧
  (∀ (n : BitVec 17) (s : State), (s.dom 3 = true) → 
      exec (.bufferSlotRelease n) s = .next (if Tbl.get s.ciu.alloc false n.toNat = false then s.cfgErr .ciu (Fld.CIU_BUF_REL_SLOT.addr 0)
       else if s.slotRead n.toNat = true then s.updCiu (fun c => { c with deferred := c.deferred ++ [n.toNat] }) else s.freeSlot n.toNat)) ∧
  (∀ (n : BitVec 17) (v mirror : Bool) (q : BitVec 11) (cid : BitVec 16) (s : State), (s.dom 3 = false) → 
      exec (.ciuEn v) s = .next (s.unstarted .ciu) ∧ exec (.ldgEn v mirror) s = .next (s.unstarted .ldg) ∧
     exec (.bufferSlotRelease n) s = .next (s.unstarted .ciu) ∧ exec (.abortLookup q cid) s = .next (s.unstarted .ciu)) ∧
  (∀ (q : BitVec 11) (cid : BitVec 16) (s u : State), (s.dom 3 = true) → (u = s.setFs 0 [(.CIU_ABT_REQ_CID, cid.toNat), (.CIU_ABT_REQ_SQID, q.toNat)]) → 
      exec (.abortLookup q cid) s = .next (let x := u.abortFind none q.toNat cid.toNat
     x.2.2.setFs 0 [(.CIU_ABT_RES_DONE, 1), (.CIU_ABT_RES_RESULT, x.1), (.CIU_ABT_RES_TAG, x.2.1)])) ∧
  (∀ (p : Option Nat) (q cid t : Nat) (s : State), 
      (s.findCid p q cid = none → s.abortFind p q cid = (1, 0, s)) ∧
     (s.findCid p q cid = some t → (s.cmd t).moved = true ∨ (s.cmd t).phase = .buffered → s.abortFind p q cid = (2, s.tagOf t, s)) ∧
     (s.findCid p q cid = some t → (s.cmd t).moved = false → (s.cmd t).phase ≠ .buffered →
       s.abortFind p q cid = (0, s.tagOf t, (((s.askAbort t).dropBlocks t).finish t 0 7 0).event 0x2004 0 0 0))) ∧
  (∀ (t : Slot) (q : Fin 1025) (cid : BitVec 16) (s : State), 
      (s.serving t true 8 = true → exec (.abort t q cid) s = .next (let x := s.abortFind (some (s.cmd t).port) q cid.toNat
       (x.2.2.setFs 0 [(.CIU_ABT_REQ_CID, cid.toNat), (.CIU_ABT_REQ_SQID, q), (.CIU_ABT_RES_DONE, 1), (.CIU_ABT_RES_RESULT, x.1),
         (.CIU_ABT_RES_TAG, x.2.1)]).finish t 0 0 (if x.1 = 0 then 0 else 1))) ∧
     (s.serving t true 8 = false → exec (.abort t q cid) s = .next s))

/-- Of a served command: the Ledger page answers from the Ledger's memory, the boot page from its record, the event page the records, with FREEZE set at offset 0 and cleared after the last byte; an offset or length that is not in whole units, or that passes the end of the page, completes with Invalid Field (the end is the model's choice, log entry 110). Other pages of NVMe answer free bytes, unlisted ones complete with 1/0x09. Identify answers the controller's or the namespace's structure, with the given fields laid over free bytes, zeros for a namespace that does not exist, 0/0x0B for a number out of range; the Zoned structure has the zone limits and sizes. Set Features 0x01 sets CIU_ARB, 0x02 the power limit of the state (none above 4), each listed feature is kept, others complete with Invalid Field; Get Features returns CIU_ARB, the queue counts or what was set. An Asynchronous Event Request that waits goes on waiting, else takes the oldest event that waits, or waits itself. A self-test code 1, 2 or 15 is accepted, others not. A command that is not served does nothing. Codes and layouts that the manual leaves to NVMe are log entry 12's. (Command Intake and the Ledger; Boot, Measurement and Keys; Event Recorder; Supplies, Clocks and Staged Start; Band Translation Layer; Host Endpoint) -/
def Obligations.LogPagesIdentifyAndFeatures : Prop :=
  (∀ (t : Slot) (off len : Nat) (s : State), (s.serving t true 2 = true) → 
      exec (.ledgerLogPage t off len) s = .next (if pageOk 32 524288 off len = true then s.answerFrom t (s.ldgBase + off) len else s.finish t 0 2 0) ∧
     exec (.bootChainLogPage t off len) s = .next (if pageOk 1024 65536 off len = true then s.answer t (s.eflRd (0x10000 + off) len) else s.finish t 0 2 0) ∧
     exec (.eventLogPage t off len) s = .next (if pageOk 32 2162688 off len = false then s.finish t 0 2 0 else
       let u := if off = 0 then s.setB .EVR_CTRL_FREEZE 0 true else s
       let v := u.answer t ((List.range len).map (fun i =>
         if off + i < 0x10000 then u.eflByte (keepBase + off + i) else u.eflByte (circBase + (off + i - 0x10000))))
       if off + len = 2162688 ∧ 0 < len then (v.setB .EVR_CTRL_FREEZE 0 false).clearDue else v)) ∧
  (∀ (t : Nat) (a n : Nat) (s u : State) (d : List Byte) (bad : List Bool), (s.fetchMarked .link a n = (d, bad, u)) → 
      (bad.any id = false → s.answerFrom t a n = u.answer t d) ∧
     (bad.any id = true → s.answerFrom t a n = (((u.sendMarked (u.cmd t).port (u.cmd t).cid d bad).event 0x1006 0 0 0).setCmd t
       { u.cmd t with moved := true }).finish t 0 4 0) ∧
     u.answer t d = ((u.sendData (u.cmd t).port (u.cmd t).cid d false).setCmd t { u.cmd t with moved := true }).finish t 0 0 0) ∧
  (∀ (t : Slot) (lid : Byte) (off len : Nat) (s : State), (s.serving t true 2 = true) → 
      exec (.getLogPage t lid off len) s = .next (if lid.toNat ∈ logPages then (s.freeBytes len).2.answer t (s.freeBytes len).1 else s.finish t 1 9 0)) ∧
  (∀ (t : Slot) (cns : Byte) (s : State), (s.serving t true 6 = true) → 
      exec (.identify t cns) s = .next (let d := (s.freeBytes 4096).1; let u := (s.freeBytes 4096).2
     if cns = 1 then u.answer t (u.identifyCtrl (s.cmd t).port d)
     else if cns = 0 ∨ cns = 0x11 ∨ cns = 5 then
       if (s.cmd t).nsid = 0 ∨ 64 < (s.cmd t).nsid then u.finish t 0 0x0B 0
       else if (u.nsp ((s.cmd t).nsid - 1)).live = false then u.answer t (List.replicate 4096 0)
       else if cns = 5 then u.answer t (if (u.nsp ((s.cmd t).nsid - 1)).zoned = true then u.identifyZns d else d)
       else u.answer t (u.identifyNs ((s.cmd t).nsid - 1) d)
     else u.answer t d)) ∧
  (∀ (t : Slot) (fid : Byte) (v : Word) (s k : State), (s.serving t true 9 = true) → (k = s.setCtrl (s.cmd t).port { s.ctrl (s.cmd t).port with features := Tbl.set (s.ctrl (s.cmd t).port).features 0 fid.toNat v.toNat }) → 
      (fid = 1 → exec (.setFeatures t fid v) s = .next ((k.setFs 0 [(.CIU_ARB_AB, v.toNat), (.CIU_ARB_LPW, v.toNat / 2 ^ 8),
       (.CIU_ARB_MPW, v.toNat / 2 ^ 16), (.CIU_ARB_HPW, v.toNat / 2 ^ 24)]).finish t 0 0 0)) ∧
     (fid = 2 → ∀ n, powerUnits[v.toNat % 32]? = some n → exec (.setFeatures t fid v) s = .next ((k.setF .SUP_PLIM_PIN_MAX 0 n).finish t 0 0 0)) ∧
     (fid = 2 → powerUnits[v.toNat % 32]? = none → exec (.setFeatures t fid v) s = .next (s.finish t 0 2 0)) ∧
     (fid = 7 → exec (.setFeatures t fid v) s = .next (k.finish t 0 0 (1023 + 1023 * 2 ^ 16))) ∧
     (fid ≠ 1 → fid ≠ 2 → fid ≠ 7 → exec (.setFeatures t fid v) s = .next (
       if fid.toNat ∈ [0x04, 0x05, 0x08, 0x09, 0x0A, 0x0B, 0x0C, 0x0E, 0x0F, 0x10, 0x16, 0x81, 0x82, 0x83] then k.finish t 0 0 0 else s.finish t 0 2 0))) ∧
  (∀ (t : Slot) (fid : Byte) (s : State), (s.serving t true 10 = true) → 
      exec (.getFeatures t fid) s = .next (
     if fid = 1 then s.finish t 0 0 (s.f .CIU_ARB_AB 0 + 2 ^ 8 * s.f .CIU_ARB_LPW 0 + 2 ^ 16 * s.f .CIU_ARB_MPW 0 + 2 ^ 24 * s.f .CIU_ARB_HPW 0)
     else if fid = 7 then s.finish t 0 0 (1023 + 1023 * 2 ^ 16)
     else if fid.toNat ∈ [0x02, 0x04, 0x05, 0x08, 0x09, 0x0A, 0x0B, 0x0C, 0x0E, 0x0F, 0x10, 0x16, 0x81, 0x82, 0x83] then
       s.finish t 0 0 (Tbl.get (s.ctrl (s.cmd t).port).features 0 fid.toNat)
     else s.finish t 0 2 0)) ∧
  (∀ (t : Slot) (s : State), (s.serving t true 12 = true) → 
      (t.val ∈ (s.ctrl (s.cmd t).port).aers → exec (.asynchronousEventRequest t) s = .next s) ∧
     (t.val ∉ (s.ctrl (s.cmd t).port).aers → (s.ctrl (s.cmd t).port).aenPend = [] → exec (.asynchronousEventRequest t) s =
       .next (s.setCtrl (s.cmd t).port { s.ctrl (s.cmd t).port with aers := (s.ctrl (s.cmd t).port).aers ++ [t.val] })) ∧
     (t.val ∉ (s.ctrl (s.cmd t).port).aers → ∀ d r, (s.ctrl (s.cmd t).port).aenPend = d :: r → exec (.asynchronousEventRequest t) s =
       .next ((s.setCtrl (s.cmd t).port { s.ctrl (s.cmd t).port with aenPend := r }).finish t 0 0 d))) ∧
  (∀ (t : Slot) (code : Fin 16) (s : State), (s.serving t true 20 = true) → 
      exec (.deviceSelfTest t code) s = .next (if code.val = 1 ∨ code.val = 2 ∨ code.val = 15
     then (s.updCiu (fun c => { c with selfTest := if code.val = 15 then 0 else code.val })).finish t 0 0 0 else s.finish t 0 2 0)) ∧
  (∀ (t : Slot) (off len : Nat) (lid cns fid : Byte) (v : Word) (code : Fin 16) (s : State), 
      (s.serving t true 2 = false → exec (.ledgerLogPage t off len) s = .next s ∧ exec (.bootChainLogPage t off len) s = .next s ∧
       exec (.eventLogPage t off len) s = .next s ∧ exec (.getLogPage t lid off len) s = .next s) ∧
     (s.serving t true 6 = false → exec (.identify t cns) s = .next s) ∧ (s.serving t true 9 = false → exec (.setFeatures t fid v) s = .next s) ∧
     (s.serving t true 10 = false → exec (.getFeatures t fid) s = .next s) ∧
     (s.serving t true 12 = false → exec (.asynchronousEventRequest t) s = .next s) ∧
     (s.serving t true 20 = false → exec (.deviceSelfTest t code) s = .next s))

/-- Of a served command: Namespace Create refuses stripe parity of a zoned namespace or of a single-actuator device with Invalid Field, too few spare bands with 1/0x15, no free index with 1/0x16, and otherwise makes the namespace in the lowest free index and commits its bands; Delete ends its key, its data, zones and reservations and gives the bands back; Attachment attaches and detaches a controller that exists, once. Format writes the new metadata format and drops what the buffer and the zones hold, with a new key for a cryptographic erase; each names 0/0x0B for a namespace that does not exist. Sanitize does so for every namespace. A firmware image is staged by class. A commit that writes is refused (1/0x06) for the active slot or a write-protected one, (1/0x07) unless a set is staged and each of it verifies, and otherwise writes the slot; actions 001b and 011b then put it on trial where what was written verifies in place; action 010b puts a slot that verifies on trial unless it is the active one. Security Send of protocol 0xE8 prepares the response that Security Receive returns; other protocols complete with Invalid Field. A command that is not served does nothing. Status values are NVMe's (log entry 12). (Band Translation Layer; Boot, Measurement and Keys; Command Intake and the Ledger; Embedded Flash) -/
def Obligations.NamespacesFirmwareAndSecurity : Prop :=
  (∀ (t : Slot) (blocks : Nat) (msize : Fin 3) (zoned prot : Bool) (s : State), (s.serving t true 0x0D = true) → 
      (prot = true → zoned = true ∨ s.actuators ≤ 1 → exec (.namespaceCreate t blocks msize zoned prot) s = .next (s.finish t 0 2 0)) ∧
     ((prot = true → zoned = false ∧ 1 < s.actuators) → s.f .BTL_SPARE_SPARE 0 < s.bandsFor blocks prot →
       exec (.namespaceCreate t blocks msize zoned prot) s = .next (s.finish t 1 0x15 0)) ∧
     ((prot = true → zoned = false ∧ 1 < s.actuators) → s.bandsFor blocks prot ≤ s.f .BTL_SPARE_SPARE 0 →
       (firstFrom 64 0 (fun i => !(s.nsp i).live) = none → exec (.namespaceCreate t blocks msize zoned prot) s = .next (s.finish t 1 0x16 0)) ∧
       (∀ i, firstFrom 64 0 (fun i => !(s.nsp i).live) = some i → ∃ u, u = s.setNs i
           { live := true, blocks := blocks, fmt := msize, zoned := zoned, prot := prot, att0 := false, att1 := false } ∧
         exec (.namespaceCreate t blocks msize zoned prot) s = .next ((u.commitBands (u.f .BTL_COMMITTED_COUNT 0 + s.bandsFor blocks prot)).finish t 0 0 (i + 1))))) ∧
  (∀ (t : Slot) (ns : Fin 64) (s : State), (s.serving t true 0x0D = true) → 
      ((s.nsp ns).live = false → exec (.namespaceDelete t ns) s = .next (s.finish t 0 0x0B 0)) ∧
     ((s.nsp ns).live = true → ∃ u, u = (((s.rekey ns).dropNs ns).setNs ns {}).updCiu (fun c => { c with resv := Tbl.set c.resv {} ns.val {} }) ∧
       exec (.namespaceDelete t ns) s = .next ((u.commitBands (u.f .BTL_COMMITTED_COUNT 0 - s.bandsFor (s.nsp ns).blocks (s.nsp ns).prot)).finish t 0 0 0))) ∧
  (∀ (t : Slot) (ns : Fin 64) (p : Port) (attach : Bool) (s : State), (s.serving t true 0x15 = true) → 
      exec (.namespaceAttachment t ns p attach) s = .next (let n := s.nsp ns; let on := if p = 0 then n.att0 else n.att1
     if n.live = false then s.finish t 0 0x0B 0
     else if s.portOk p = false then s.finish t 1 0x1C 0
     else if attach = true ∧ on = true then s.finish t 1 0x18 0
     else if attach = false ∧ on = false then s.finish t 1 0x1A 0
     else (s.setNs ns (if p = 0 then { n with att0 := attach } else { n with att1 := attach })).finish t 0 0 0)) ∧
  (∀ (t : Slot) (ns : Fin 64) (msize : Fin 3) (crypto : Bool) (s : State), (s.serving t true 0x80 = true) → 
      exec (.formatNvm t ns msize crypto) s = .next (if (s.nsp ns).live = false then s.finish t 0 0x0B 0
     else (((if crypto = true then s.rekey ns else s).dropNs ns).setNs ns { s.nsp ns with fmt := msize }).finish t 0 0 0)) ∧
  (∀ (t : Slot) (s : State), (s.serving t true 0x84 = true) → 
      exec (.sanitizeCryptoErase t) s = .next ((s.liveNs.foldl (fun u i => (u.rekey i).dropNs i) s).finish t 0 0 0) ∧
     exec (.sanitizeBlockErase t) s = .next ((s.liveNs.foldl (fun u i => u.dropNs i) s).finish t 0 0 0)) ∧
  (∀ (t : Slot) (cls : Fin 9) (off : Nat) (data : List Byte) (s : State), (s.serving t true 0x11 = true) → 
      exec (.firmwareImageDownload t cls off data) s = .next (let l := Tbl.get s.sec.stage [] cls.val
     (s.updSec (fun x => { x with stage := Tbl.set x.stage [] cls.val (patch (l ++ List.replicate (off - l.length) 0) off data) })).finish t 0 0 0)) ∧
  (∀ (t : Slot) (slotB : Bool) (s : State) (active : Nat), (s.serving t true 0x10 = true) → (s.bootControl.2.2.1 = active) → 
      (active = slotB.toNat ∨ s.eflWp (slotBase slotB.toNat / 65536) = true → exec (.firmwareCommitWrite t slotB) s = .next (s.finish t 1 6 0) ∧
       exec (.firmwareCommitWriteTrial t slotB) s = .next (s.finish t 1 6 0) ∧ exec (.firmwareCommitResetRequired t slotB) s = .next (s.finish t 1 6 0)) ∧
     (active ≠ slotB.toNat → s.eflWp (slotBase slotB.toNat / 65536) = false →
       (s.sec.stage = [] ∨ (∃ e ∈ s.sec.stage, s.verify e.2 e.1 (classAllot e.1) false false ≠ 0) → exec (.firmwareCommitWrite t slotB) s = .next (s.finish t 1 7 0) ∧
         exec (.firmwareCommitWriteTrial t slotB) s = .next (s.finish t 1 7 0) ∧ exec (.firmwareCommitResetRequired t slotB) s = .next (s.finish t 1 7 0)) ∧
       (s.sec.stage ≠ [] → (∀ e ∈ s.sec.stage, s.verify e.2 e.1 (classAllot e.1) false false = 0) → ∃ u, u = s.writeSlot slotB.toNat ∧
         exec (.firmwareCommitWrite t slotB) s = .next (u.finish t 0 0 0) ∧
         exec (.firmwareCommitWriteTrial t slotB) s = .next (if (u.slotFails slotB.toNat).isSome = true then u.finish t 1 7 0
           else (u.putBootControl active 1 3).finish t 0 0 0) ∧
         exec (.firmwareCommitResetRequired t slotB) s = .next (if (u.slotFails slotB.toNat).isSome = true then u.finish t 1 7 0
           else (u.putBootControl active 1 3).finish t 1 0x0B 0)))) ∧
  (∀ (t : Slot) (slotB : Bool) (s : State), (s.serving t true 0x10 = true) → 
      exec (.firmwareCommitTrialInPlace t slotB) s = .next (if (s.slotFails slotB.toNat).isSome = true then s.finish t 1 7 0
     else if s.bootControl.2.2.1 = slotB.toNat then s.finish t 0 0 0 else (s.putBootControl s.bootControl.2.2.1 1 3).finish t 0 0 0)) ∧
  (∀ (t : Slot) (proto : Byte) (req : SpdmReq) (s : State), (s.serving t true 0x81 = true) → 
      exec (.securitySend t proto req) s = .next (if proto = 0xE8 then (s.updCiu (fun x => { x with
     spdm := Tbl.set x.spdm [] (s.cmd t).port (s.spdmAnswer req) })).finish t 0 0 0 else s.finish t 0 2 0)) ∧
  (∀ (t : Slot) (proto : Byte) (len : Nat) (s : State), (s.serving t true 0x82 = true) → 
      exec (.securityReceive t proto len) s = .next (if proto = 0xE8 then s.answer t ((Tbl.get s.ciu.spdm [] (s.cmd t).port ++ List.replicate len 0).take len)
     else s.finish t 0 2 0)) ∧
  (∀ (t : Slot) (blocks : Nat) (msize : Fin 3) (zoned prot slotB crypto : Bool) (ns : Fin 64) (p : Port) (cls : Fin 9) (data : List Byte) (proto : Byte) (req : SpdmReq) (s : State), 
      (s.serving t true 0x0D = false → exec (.namespaceCreate t blocks msize zoned prot) s = .next s ∧ exec (.namespaceDelete t ns) s = .next s) ∧
     (s.serving t true 0x15 = false → exec (.namespaceAttachment t ns p crypto) s = .next s) ∧
     (s.serving t true 0x80 = false → exec (.formatNvm t ns msize crypto) s = .next s) ∧
     (s.serving t true 0x84 = false → exec (.sanitizeCryptoErase t) s = .next s ∧ exec (.sanitizeBlockErase t) s = .next s) ∧
     (s.serving t true 0x11 = false → exec (.firmwareImageDownload t cls blocks data) s = .next s) ∧
     (s.serving t true 0x10 = false → exec (.firmwareCommitWrite t slotB) s = .next s ∧ exec (.firmwareCommitWriteTrial t slotB) s = .next s ∧
       exec (.firmwareCommitResetRequired t slotB) s = .next s ∧ exec (.firmwareCommitTrialInPlace t slotB) s = .next s) ∧
     (s.serving t true 0x81 = false → exec (.securitySend t proto req) s = .next s) ∧
     (s.serving t true 0x82 = false → exec (.securityReceive t proto blocks) s = .next s))

/-- A served write or Zone Append ends with the status of a failed end of firmware's work, else takes its data from the host, or from the CMB, where poison ends it with Data Transfer Error. Data of a write to a namespace without zones takes new slots, one a block, in block order, encrypted with its block check, while slots are free, and waits, with event 0x2009 once an episode, at the first block that finds none; a failed check of protection information that PRCHK selects ends the write, with none of its blocks changed; a write to a zone that its state does not allow ends with the status. Write Zeroes is such a write of zeros. A read with good blocks answers them; one with bad blocks sends them with EP on what is bad, records 0x1006 and ends with Data Transfer Error; an unreadable block ends it with Unrecovered Read Error. Compare ends with Compare Failure unless the data agree; Verify only checks. Flush completes at once. Dataset Management deallocates its ranges when it carries the attribute. A command that is not served does nothing. (Command Intake and the Ledger; Buffer Memory, the Bramble Cache and Data Integrity; Host Endpoint; Boot, Measurement and Keys; Band Translation Layer) -/
def Obligations.BlockCommands : Prop :=
  (∀ (t : Slot) (s : State), (s.serving t false 0 = true) → 
      exec (.flush t) s = .next (s.finish t 0 0 0)) ∧
  (∀ (t : Slot) (blocks : List (List Byte)) (src : Option (BitVec 26)) (pi : PiResult) (fin : MediaEnd) (s : State), 
      (s.serving t false 1 = true → exec (.write t blocks ⟨src, pi, fin⟩) s = .next (s.writeFrom t blocks src pi fin)) ∧
     (s.serving t false 0x7D = true → exec (.zoneAppend t blocks ⟨src, pi, fin⟩) s = .next (s.writeFrom t blocks src pi fin)) ∧
     (s.serving t false 8 = true → exec (.writeZeroes t) s = .next (s.writeData t (List.replicate (s.cmd t).blocks
       (List.replicate (hostBlock false (s.nsp ((s.cmd t).nsid - 1)).fmt) 0)) .ok))) ∧
  (∀ (t : Nat) (blocks : List (List Byte)) (src : Option (BitVec 26)) (pi : PiResult) (fin : MediaEnd) (s : State), 
      (∀ sct sc, mediaStatus fin = some (sct, sc) → s.writeFrom t blocks src pi fin = (s.dropBlocks t).finish t sct sc 0) ∧
     s.writeFrom t blocks none pi .ok = s.writeData t blocks pi) ∧
  (∀ (t : Nat) (blocks : List (List Byte)) (off : BitVec 26) (pi : PiResult) (s u : State) (r : Option (List (List Byte))), (s.cmbBlocks (s.cmd t).port off.toNat (hostBlock (s.cmd t).pract (s.nsp ((s.cmd t).nsid - 1)).fmt) ((s.cmd t).blocks - (s.cmd t).slots.length) = (r, u)) → 
      (∀ l, r = some l → s.writeFrom t blocks (some off) pi .ok = u.writeData t l pi) ∧
     (r = none → s.writeFrom t blocks (some off) pi .ok = (u.dropBlocks t).finish t 0 4 0)) ∧
  (∀ (t i was : Nat) (blocks d : List (List Byte)) (pi : PiResult) (s u v : State), (i = (s.cmd t).nsid - 1) → (was = (s.cmd t).slots.length) → (d = blocks.take ((s.cmd t).blocks - was)) → (u = ((s.setCmd t { s.cmd t with moved := (s.cmd t).moved || ((s.cmd t).opc != 0x08 && !(d.take s.slotsFree).isEmpty) }).storeBlocks t i (s.nsp i).fmt (s.landing (s.cmd t) + was) (d.take s.slotsFree)).publishPieces t was) → (v = u.setCmd t { u.cmd t with phase := .slots }) → ((s.nsp i).zoned = false ∨ was ≠ 0) → 
      s.writeData t blocks pi = (if (s.cmd t).piBad (s.nsp i).fmt pi = true ∧ (s.cmd t).pract = false then ((s.setCmd t { s.cmd t with moved := true }).dropBlocks t).finish t 2 (piCode pi) 0
     else if d.length ≤ s.slotsFree then u else if v.ciu.starved = true then v else (v.updCiu (fun x => { x with starved := true })).event 0x2009 0 0 0)) ∧
  (∀ (t : Nat) (blocks : List (List Byte)) (pi : PiResult) (s : State), ((s.nsp ((s.cmd t).nsid - 1)).zoned = true) → ((s.cmd t).slots = []) → 
      ∀ a b, s.zoneWriteStatus (s.cmd t) = some (a, b) → s.writeData t blocks pi = s.finish t a b 0) ∧
  (∀ (t : Nat) (blocks : List (List Byte)) (pi : PiResult) (s : State) (sct sc : Nat), ((s.nsp ((s.cmd t).nsid - 1)).zoned = true) → ((s.cmd t).slots = []) → (s.zoneWriteStatus (s.cmd t) = some (sct, sc)) → 
      s.writeData t blocks pi = s.finish t sct sc 0) ∧
  (∀ (t : Nat) (ns fmt lba n : Nat) (d : List Byte) (s u : State), (n = s.findSlot 0) → (u = (s.takeBuf n).wrTag (s.slotAddr n) (slotBytes fmt lba (s.encrypt ns lba (withPi (s.cmd t).pract fmt lba d))) (some (s.tagOf t))) → 
      s.storeBlocks t ns fmt lba [d] = u.setCmd t { u.cmd t with slots := (u.cmd t).slots ++ [n] }) ∧
  (∀ (t : Slot) (media : List (List Byte)) (pi : PiResult) (fin : MediaEnd) (s u : State) (st : Option (Nat × Nat)) (l : List (List Byte × List Bool)), (s.serving t false 2 = true) → (s.fetchBlocks (s.cmd t) media = (st, l, u)) → 
      (∀ sct sc, mediaStatus fin = some (sct, sc) → exec (.read t media ⟨pi, fin⟩) s = .next (s.finish t sct sc 0)) ∧
     (st = some (0, 4) → exec (.read t media ⟨pi, .ok⟩) s = .next ((((u.sendBlocks (s.cmd t).port (s.cmd t).cid l).event 0x1006 0 0 0).setCmd t
       { u.cmd t with moved := true }).finish t 0 4 0)) ∧
     (st = some (2, 0x81) → exec (.read t media ⟨pi, .ok⟩) s = .next (u.finish t 2 0x81 0)) ∧
     (st = none → exec (.read t media ⟨pi, .ok⟩) s = .next (if (s.cmd t).piBad (u.nsp ((s.cmd t).nsid - 1)).fmt pi = true then u.finish t 2 (piCode pi) 0
       else u.answer t (l.map Prod.fst).flatten))) ∧
  (∀ (t : Slot) (host media : List (List Byte)) (pi : PiResult) (fin : MediaEnd) (s u : State) (st : Option (Nat × Nat)) (l : List (List Byte × List Bool)), (s.serving t false 5 = true) → (s.fetchBlocks (s.cmd t) media = (st, l, u)) → 
      (∀ sct sc, mediaStatus fin = some (sct, sc) → exec (.compare t host media ⟨pi, fin⟩) s = .next (s.finish t sct sc 0)) ∧
     (∀ sct sc, st = some (sct, sc) → exec (.compare t host media ⟨pi, .ok⟩) s = .next (u.finish t sct sc 0)) ∧
     (st = none → exec (.compare t host media ⟨pi, .ok⟩) s = .next (if (s.cmd t).piBad (u.nsp ((s.cmd t).nsid - 1)).fmt pi = true then u.finish t 2 (piCode pi) 0
       else if (l.map Prod.fst).flatten = host.flatten then u.finish t 0 0 0 else u.finish t 2 0x85 0))) ∧
  (∀ (t : Slot) (media : List (List Byte)) (pi : PiResult) (fin : MediaEnd) (s u : State) (st : Option (Nat × Nat)) (l : List (List Byte × List Bool)), (s.serving t false 12 = true) → (s.fetchBlocks (s.cmd t) media = (st, l, u)) → 
      (∀ sct sc, mediaStatus fin = some (sct, sc) → exec (.verify t media ⟨pi, fin⟩) s = .next (s.finish t sct sc 0)) ∧
     (∀ sct sc, st = some (sct, sc) → exec (.verify t media ⟨pi, .ok⟩) s = .next (u.finish t sct sc 0)) ∧
     (st = none → exec (.verify t media ⟨pi, .ok⟩) s = .next (if (s.cmd t).piBad (u.nsp ((s.cmd t).nsid - 1)).fmt pi = true then u.finish t 2 (piCode pi) 0
       else u.finish t 0 0 0))) ∧
  (∀ (c : Cmd) (media : List (List Byte)) (s : State) (l : List (List Byte × List Bool)) (bad gone : Bool) (u : State), (s.fetchFrom c media 0 c.blocks = (l, bad, gone, u)) → 
      s.fetchBlocks c media = (if bad = true then some (0, 4) else if gone = true then some (2, 0x81) else none, l, u)) ∧
  (∀ (t : Slot) (s : State), (s.serving t false 9 = true) → 
      exec (.datasetManagement t) s = .next ((if (s.cmd t).cls = 2 then (s.cmd t).ranges.foldl (fun u r => u.deallocate ((s.cmd t).nsid - 1) r) s else s).finish t 0 0 0)) ∧
  (∀ (t : Slot) (blocks media : List (List Byte)) (src : Option (BitVec 26)) (pi : PiResult) (fin : MediaEnd) (s : State), 
      (s.serving t false 0 = false → exec (.flush t) s = .next s) ∧ (s.serving t false 1 = false → exec (.write t blocks ⟨src, pi, fin⟩) s = .next s) ∧
     (s.serving t false 2 = false → exec (.read t media ⟨pi, fin⟩) s = .next s) ∧ (s.serving t false 5 = false → exec (.compare t blocks media ⟨pi, fin⟩) s = .next s) ∧
     (s.serving t false 8 = false → exec (.writeZeroes t) s = .next s) ∧ (s.serving t false 9 = false → exec (.datasetManagement t) s = .next s) ∧
     (s.serving t false 12 = false → exec (.verify t media ⟨pi, fin⟩) s = .next s) ∧ (s.serving t false 0x7D = false → exec (.zoneAppend t blocks ⟨src, pi, fin⟩) s = .next s))

/-- A served Zone Management Send that names one zone moves it to the state that NVMe gives, Open and Finish of an empty zone within the free pool and Open within the active limit; what a zone's state does not allow completes with Invalid Zone State Transition (1/0xBF). With Select All it does so to each zone of the namespace that can take the action, and completes. Zone Management Receive reports the zones from SLBA on. A registrant registers, replaces and unregisters its key, acquires a free namespace, preempts another's registration, releases what it holds, clears and reports, by its key; another's key or a wrong one ends with Reservation Conflict (0/0x83). A command that is not served does nothing. Zone and reservation details are NVMe's (log entry 12). (Band Translation Layer; Command Intake and the Ledger) -/
def Obligations.ZonesAndReservations : Prop :=
  (∀ (t : Slot) (i n : Nat) (z : Zone) (s : State), (s.serving t false 0x79 = true) → ((s.cmd t).selectAll = false) → (i = (s.cmd t).nsid - 1) → (n = (s.cmd t).slba / zoneSize) → (z = s.zone i n) → 
      exec (.zoneClose t) s = .next (if z.st = .implicitOpen ∨ z.st = .explicitOpen then (s.setZone i n { z with st := if z.wp = 0 then .empty else .closed }).finish t 0 0 0
     else if z.st = .closed then (s.setZone i n z).finish t 0 0 0 else s.finish t 1 0xBF 0) ∧
     exec (.zoneFinish t) s = .next (if z.st = .offline then s.finish t 1 0xBF 0
       else if z.st = .empty ∧ s.f .BTL_POOL_FREE 0 ≤ s.f .BTL_RESERVE_RESERVE 0 then s.finish t 0 0x81 0 else (s.setZone i n { z with st := .full }).finish t 0 0 0) ∧
     exec (.zoneOpen t) s = .next (if z.st = .empty then s.activate.elim ((s.setZone i n { z with st := .explicitOpen }).finish t 0 0 0) (fun x => s.finish t x.1 x.2 0)
       else if z.st = .full ∨ z.st = .offline then s.finish t 1 0xBF 0 else (s.setZone i n { z with st := .explicitOpen }).finish t 0 0 0) ∧
     exec (.zoneReset t) s = .next (if z.st = .offline then s.finish t 1 0xBF 0 else (s.setZone i n {}).finish t 0 0 0) ∧
     exec (.zoneOffline t) s = .next (if z.st = .offline then (s.setZone i n z).finish t 0 0 0 else s.finish t 1 0xBF 0)) ∧
  (∀ (t : Slot) (s : State) (g : State → Zone → (Nat × Nat) ⊕ Zone), (s.serving t false 0x79 = true) → ((s.cmd t).selectAll = true) → 
      s.onZones t g = ((List.range (((s.nsp ((s.cmd t).nsid - 1)).blocks + zoneSize - 1) / zoneSize)).foldl (fun u n =>
     match g u (u.zone ((s.cmd t).nsid - 1) n) with
     | .inr z => u.setZone ((s.cmd t).nsid - 1) n z
     | .inl _ => u) s).finish t 0 0 0) ∧
  (∀ (t : Slot) (s : State), 
      s.serving t false 0x79 = true → (s.cmd t).selectAll = true →
     exec (.zoneReset t) s = .next (((List.range (((s.nsp ((s.cmd t).nsid - 1)).blocks + zoneSize - 1) / zoneSize)).foldl (fun u n =>
       if (u.zone ((s.cmd t).nsid - 1) n).st = .offline then u else u.setZone ((s.cmd t).nsid - 1) n {}) s).finish t 0 0 0)) ∧
  (∀ (t : Slot) (i n first : Nat) (s : State), (s.serving t false 0x7A = true) → (i = (s.cmd t).nsid - 1) → (n = ((s.nsp i).blocks + zoneSize - 1) / zoneSize) → (first = (s.cmd t).slba / zoneSize) → 
      exec (.zoneManagementReceive t) s = .next (s.answer t (leBytes 8 (n - first) ++ leBytes 56 0 ++ ((List.range (n - first)).map (fun k => [0x02] ++ leBytes 1 ((s.zone i (first + k)).st.code * 16) ++ leBytes 6 0 ++
     leBytes 8 zoneSize ++ leBytes 8 ((first + k) * zoneSize) ++ leBytes 8 ((first + k) * zoneSize + (s.zone i (first + k)).wp) ++ leBytes 32 0)).flatten))) ∧
  (∀ (t : Slot) (action : Fin 3) (cur new : BitVec 64) (s : State) (r : Resv) (k : Nat), (s.serving t false 0x0D = true) → (s.resv ((s.cmd t).nsid - 1) = r) → (r.key (s.cmd t).port = k) → 
      exec (.reservationRegister t action cur new) s = .next (if action.val = 0 then
       if k ≠ 0 ∧ k ≠ new.toNat then s.finish t 0 0x83 0
       else (s.setResv ((s.cmd t).nsid - 1) { r.setKey (s.cmd t).port new.toNat with gen := r.gen + 1 }).finish t 0 0 0
     else if k = 0 ∨ k ≠ cur.toNat then s.finish t 0 0x83 0
     else (s.setResv ((s.cmd t).nsid - 1) { (r.setKey (s.cmd t).port (if action.val = 1 then 0 else new.toNat)).tidy with gen := r.gen + 1 }).finish t 0 0 0)) ∧
  (∀ (t : Slot) (action : Fin 3) (rtype : Fin 8) (cur preempt : BitVec 64) (s u : State) (r x y : Resv) (p i : Nat) (hit : Bool), (s.serving t false 0x11 = true) → (i = (s.cmd t).nsid - 1) → (r = s.resv i) → (p = (s.cmd t).port) → (hit = (decide (r.key (1 - p) ≠ 0) && decide (r.key (1 - p) = preempt.toNat))) → (x = (if hit = true then r.setKey (1 - p) 0 else r)) → (y = (if (hit = true ∧ r.holder = 1 - p + 1) ∨ x.holder = p + 1 then { x with holder := p + 1, rtype := rtype.val } else x)) → (u = (if action.val = 2 ∧ hit = true then ((s.ciu.cmd.filter (fun e => e.2.live && !e.2.admin && e.2.port == 1 - p && e.2.nsid == (s.cmd t).nsid)).map Prod.fst).foldl
     (fun v k => (v.abortFind (some (1 - p)) (v.cmd k).sq (v.cmd k).cid).2.2) s else s)) → 
      exec (.reservationAcquire t action rtype cur preempt) s = .next (if r.key p = 0 ∨ r.key p ≠ cur.toNat then s.finish t 0 0x83 0
     else if rtype.val = 0 ∨ rtype.val = 7 then s.finish t 0 2 0
     else if action.val = 0 then (if r.holder = 0 then (s.setResv i { r with holder := p + 1, rtype := rtype.val }).finish t 0 0 0
       else if r.holder = p + 1 ∧ r.rtype = rtype.val then s.finish t 0 0 0 else s.finish t 0 0x83 0)
     else (u.setResv i { y with gen := y.gen + 1 }).finish t 0 0 0)) ∧
  (∀ (t : Slot) (clear : Bool) (cur : BitVec 64) (s : State) (r : Resv), (s.serving t false 0x15 = true) → (s.resv ((s.cmd t).nsid - 1) = r) → 
      exec (.reservationRelease t clear cur) s = .next (if r.key (s.cmd t).port = 0 ∨ r.key (s.cmd t).port ≠ cur.toNat then s.finish t 0 0x83 0
     else if clear = true then (s.setResv ((s.cmd t).nsid - 1) { gen := r.gen + 1 }).finish t 0 0 0
     else if r.holder = (s.cmd t).port + 1 then (s.setResv ((s.cmd t).nsid - 1) { r with holder := 0, rtype := 0 }).finish t 0 0 0
     else s.finish t 0 0 0)) ∧
  (∀ (t : Slot) (r : Resv) (who : List Nat) (s : State), (s.serving t false 0x0E = true) → (r = s.resv ((s.cmd t).nsid - 1)) → (who = [0, 1].filter (fun p => r.key p != 0)) → 
      exec (.reservationReport t) s = .next (s.answer t (leBytes 4 r.gen ++ leBytes 1 r.rtype ++ leBytes 2 who.length ++ leBytes 17 0 ++ (who.map (fun p => leBytes 2 (s.cntlid p) ++
     leBytes 1 (if r.holder = p + 1 then 1 else 0) ++ leBytes 5 0 ++ leBytes 8 (Tbl.get (s.ctrl p).features 0 0x81) ++ leBytes 8 (r.key p))).flatten))) ∧
  (∀ (t : Slot) (action : Fin 3) (rtype : Fin 8) (cur new : BitVec 64) (clear : Bool) (s : State), 
      (s.serving t false 0x79 = false → exec (.zoneClose t) s = .next s ∧ exec (.zoneFinish t) s = .next s ∧ exec (.zoneOpen t) s = .next s ∧
       exec (.zoneReset t) s = .next s ∧ exec (.zoneOffline t) s = .next s) ∧
     (s.serving t false 0x7A = false → exec (.zoneManagementReceive t) s = .next s) ∧
     (s.serving t false 0x0D = false → exec (.reservationRegister t action cur new) s = .next s) ∧
     (s.serving t false 0x11 = false → exec (.reservationAcquire t action rtype cur new) s = .next s) ∧
     (s.serving t false 0x15 = false → exec (.reservationRelease t clear cur) s = .next s) ∧
     (s.serving t false 0x0E = false → exec (.reservationReport t) s = .next s))

/-- Of a started block: setting EN starts the check and training unless EN reads 1; EN is cleared, with READY, unless a client of DRAM, Bramble or a repair is at work, in which case CFG_ERR is set; a repair GO is taken, its operands latched, unless one is BUSY (CFG_ERR). On a block that is not started each is only recorded. A training under way ends with DRAM in service, or, when bad, with CFG_ERR; without one nothing happens. A scrub does nothing with DRAM out of service or the scrub off; else it works on the next granule and goes on, at the end of a pass to the first with event 0x300A; it leaves a granule without an error as it is. A fill of a line that Bramble does not hold allocates it clean; with DRAM out of service or outside it a fill does nothing, and it waits where an access would wait. A repair's end writes its row back, records the result with event 0x3006 and lets what waited go on; without a repair it does nothing. (Buffer Memory, the Bramble Cache and Data Integrity; Scope and Conventions; Engines and Microcode) -/
def Obligations.DramServiceAndRepair : Prop :=
  (∀ (s : State), (s.dom 2 = true) → 
      exec (.bufDdrEn true) s = .next (if s.b .BUF_DDR_CTRL_EN 0 = true then s else s.updBuf (fun b => { b with training := true })) ∧
     exec (.bufDdrEn false) s = .next (if [Fld.BUF_BRM_CTRL_EN, .BUF_BRM_CTRL_DISABLE_PENDING, .BUF_PPR_BUSY, .HEP_CTRL_EN, .CIU_CTRL_EN, .LDG_CTRL_EN,
         .BTL_CTRL_EN, .MWR_CTRL_EN, .PLV_CTRL_EN, .MIR_CTRL_EN, .CAL_CTRL_EN].any (fun x => s.b x 0) = true ∨ s.b .HEP_CTRL_EN 1 = true
       then s.cfgErr .buf (Fld.BUF_DDR_CTRL_EN.addr 0)
       else (s.updBuf (fun b => { b with training := false })).setFs 0 [(.BUF_DDR_CTRL_EN, 0), (.BUF_STATUS_READY, 0)])) ∧
  (∀ (bank : BitVec 4) (row : BitVec 18) (ch v : Bool) (s : State), 
      (s.dom 2 = true → exec (.postPackageRepair bank row ch) s = .next (if s.b .BUF_PPR_BUSY 0 = true then s.cfgErr .buf (Fld.BUF_PPR_GO.addr 0)
       else (s.setFs 0 [(.BUF_PPR_BANK, bank.toNat), (.BUF_PPR_ROW, row.toNat), (.BUF_PPR_CH, ch.toNat), (.BUF_PPR_BUSY, 1)]).latch
         [.BUF_PPR_BANK, .BUF_PPR_ROW, .BUF_PPR_CH])) ∧
     (s.dom 2 = false → exec (.bufDdrEn v) s = .next (s.unstarted .buf) ∧ exec (.postPackageRepair bank row ch) s = .next (s.unstarted .buf))) ∧
  (∀ (s : State) (good : Bool), 
      (s.buf.training = false → exec (.ddrTrainingEnd good) s = .next s) ∧
     (s.buf.training = true → exec (.ddrTrainingEnd true) s = .next ((s.updBuf (fun b => { b with training := false })).setFs 0
         [(.BUF_DDR_CTRL_EN, 1), (.BUF_STATUS_READY, 1)]) ∧
       exec (.ddrTrainingEnd false) s = .next ((s.updBuf (fun b => { b with training := false })).cfgErr .buf (Fld.BUF_DDR_CTRL_EN.addr 0)))) ∧
  (∀ (s u : State), (u = s.scrubGranule (dramBase / 64 + s.buf.scrub)) → 
      exec .patrolScrub s = .next (if s.b .BUF_STATUS_READY 0 = false ∨ s.f .BUF_DDR_CFG_SCRUB_HRS 0 = 0 then s
       else if (u.dramEnd - dramBase) / 64 ≤ u.buf.scrub + 1 then (u.updBuf (fun b => { b with scrub := 0 })).event 0x300A 0 0 0
       else u.updBuf (fun b => { b with scrub := b.scrub + 1 })) ∧
     (errKind (Tbl.get s.buf.err 0 (dramBase / 64 + s.buf.scrub)) = 0 → u = s)) ∧
  (∀ (s : State) (a : Addr), 
      (s.b .BUF_STATUS_READY 0 = false ∨ s.inDram a.toNat 1 = false → exec (.dramFill a) s = .next s) ∧
     (s.b .BUF_STATUS_READY 0 = true → s.inDram a.toNat 1 = true → exec (.dramFill a) s = .next (
       if s.mustWait a.toNat = true then s.updBuf (fun b => { b with waiting := b.waiting ++ [{ g := .link, a := a.toNat, w := none, whole := true }] })
       else s.fillLine (a.toNat / 128))) ∧
     (s.brmOn = true → s.absent (a.toNat / 128) = true → s.fillLine (a.toNat / 128) =
       (s.fill (a.toNat / 128)).2.allocLine (a.toNat / 128) false (s.fill (a.toNat / 128)).1) ∧
     (s.brmOn = true → s.absent (a.toNat / 128) = false → s.fillLine (a.toNat / 128) = s)) ∧
  (∀ (s : State) (good : Bool), 
      exec (.repairEnd good) s = .next (if s.b .BUF_PPR_BUSY 0 = true then
     ((s.rowBack.setFs 0 [(.BUF_PPR_BUSY, 0), (.BUF_PPR_RESULT, if good = true then 1 else 2)]).event 0x3006 (if good = true then 1 else 2) 0 0).retry else s))

/-- An access that meets DRAM out of service or lies outside it faults a core, whose read returns 0, and is fault 0x5 of a sequencer; one of the debug port without its grant does nothing; one that PMP does not let faults its core; a core's misaligned store is its misaligned exception. Any other access waits, where an older one to its line, a repair of its channel, or want of room in the eviction buffer holds it, and else is performed: a read of a DMA agent returns the 8 bytes around its address, a write goes to memory. A prefetch does nothing with DRAM out of service. The oldest eviction not yet accepted is, while the write queue has room, and the oldest accepted one ends with its line in DRAM. Maintenance of a started block is refused with CFG_ERR while one is under way, during the disable walk, or for a bad count, and otherwise reads BUSY until its end, its lines worked on where Bramble is on (log entry 20). Disabling starts a walk, whose end leaves Bramble off and empty with event 0x3008; enabling starts with every line invalid. On a block that is not started each is only recorded. (Buffer Memory, the Bramble Cache and Data Integrity; The CV-4820 at a Glance; Engines and Microcode) -/
def Obligations.BrambleAccessAndMaintenance : Prop :=
  (∀ (g : Agent) (a : Addr) (w : Option (List Byte)) (whole : Bool) (s : State), (s.b .BUF_STATUS_READY 0 = false ∨ s.inDram a.toNat 1 = false) → 
      (∀ p, g = .hepDma p → exec (.brambleAccess g a w whole) s = .next (if w.isSome = true then s else s.send (.readData 0))) ∧
     (∀ n, g = .core n → exec (.brambleAccess g a w whole) s = .next (if w.isSome = true then { s with dev := { s.dev with accFault := Tbl.set s.dev.accFault 0 n.val 1 } }
       else (s.loadFault g).send (.readData 0))) ∧
     (∀ n, g = .seq n → exec (.brambleAccess g a w whole) s = .next (s.seqDramFault n))) ∧
  (∀ (a : Addr) (w : Option (List Byte)) (whole : Bool) (s : State), (s.dbg 3 = false) → 
      exec (.brambleAccess .debug a w whole) s = .next s) ∧
  (∀ (g : Agent) (a : Addr) (w : Option (List Byte)) (whole : Bool) (s : State), (s.b .BUF_STATUS_READY 0 = true) → (s.inDram a.toNat 1 = true) → (g ≠ .debug ∨ s.dbg 3 = true) → 
      exec (.brambleAccess g a w whole) s = .next (if s.pmpOk g a.toNat ((w.map List.length).getD 1) w.isSome.toNat = false then (if w.isSome = true then s.accFault g else (s.loadFault g).send (.readData 0))
       else if w.isSome = true ∧ whole = false ∧ (w.map List.length).getD 1 ∈ [2, 4, 8] ∧ a.toNat % (w.map List.length).getD 1 ≠ 0 ∧ isCore g = true then s.misaligned g
       else s.access { g := g, a := a.toNat, w := w, whole := whole })) ∧
  (∀ (x : Access) (s : State), 
      (s.mustWait x.a = true → s.access x = s.updBuf (fun b => { b with waiting := b.waiting ++ [x] })) ∧
     (s.mustWait x.a = false → s.access x = s.perform x) ∧
     (∀ p a, x = { g := .hepDma p, a := a, w := none, whole := false } → s.perform x =
       ((s.fetch (.hepDma p) (a / 8 * 8) 8).2.send (.readData (ofLe (s.fetch (.hepDma p) (a / 8 * 8) 8).1)))) ∧
     (∀ p a d, x = { g := .hepDma p, a := a, w := some d, whole := false } → s.perform x = s.wrTagBy (.hepDma p) a (d.take (128 - a % 128)) none)) ∧
  (∀ (a : Addr) (s : State), 
      exec (.pipPrefetch a) s = .next (if s.b .BUF_STATUS_READY 0 = true then s.prefetch (a.toNat / 128) else s) ∧
     exec .evictionAccept s = .next (if s.wqLevel < 64 then s.setEvq (acceptFirst s.buf.evq) else s) ∧
     exec .evictionDone s = .next (if s.buf.evq.head?.any (fun e => e.issued) = true then s.evictionDone.retry else s) ∧
     exec .maintenanceEnd s = .next (s.setB .BUF_CMO_CTRL_BUSY 0 false)) ∧
  (∀ (e : Evict) (l r : List Evict), (∀ x ∈ l, x.issued = true) → (e.issued = false) → 
      acceptFirst (l ++ e :: r) = l ++ { e with issued := true } :: r ∧ acceptFirst l = l) ∧
  (∀ (s : State) (e : Evict) (r : List Evict), (s.buf.evq = e :: r) → 
      s.evictionDone = ((s.dramWrite e.addr e.snap).setEvq r).rindDone e.addr ∧ s.evictionDone.buf.evq = r) ∧
  (∀ (count : BitVec 17) (setWay : Bool) (s : State), 
      exec (.clean count setWay) s = .next (s.maintain 1 count.toNat setWay) ∧ exec (.invalidate count setWay) s = .next (s.maintain 2 count.toNat setWay) ∧
     exec (.cleanAndInvalidate count setWay) s = .next (s.maintain 3 count.toNat setWay)) ∧
  (∀ (op count : Nat) (setWay : Bool) (s u : State) (line la : Nat), (line = s.f .BUF_CMO_LINE_LINE 0) → (la = s.f .BUF_CMO_ADDR_LO_ADDR_LO 0 + s.f .BUF_CMO_ADDR_HI_ADDR_HI 0 * 2 ^ 25) → (u = s.setFs 0 [(.BUF_CMO_CTRL_COUNT, count), (.BUF_CMO_CTRL_OP, op), (.BUF_CMO_CTRL_MODE, setWay.toNat), (.BUF_CMO_CTRL_BUSY, 1)]) → 
      s.maintain op count setWay = (if s.dom 2 = false then s.unstarted .buf
     else if s.b .BUF_CMO_CTRL_BUSY 0 = true ∨ count = 0 ∨ 65536 < count ∨ (setWay = true ∧ 65536 < line + count) ∨
       s.b .BUF_BRM_CTRL_DISABLE_PENDING 0 = true then s.cfgErr .buf (Fld.BUF_CMO_CTRL_GO.addr 0)
     else if u.brmOn = false then u
     else if setWay = true then (List.range count).foldl (fun v i => v.cmoWay op (line + i)) u
     else (List.range count).foldl (fun v i => v.cmoAddr op (la + i)) u)) ∧
  (∀ (op n : Nat) (s : State), (op = 1 ∨ op = 2 ∨ op = 3) → 
      s.cmoWay op n = (if op = 1 then s.cleanWay n else if op = 2 then s.dropWay n else (s.cleanWay n).dropWay n) ∧
     ((Tbl.get s.buf.line {} n).valid = false ∨ (Tbl.get s.buf.line {} n).dirty = false → s.cleanWay n = s) ∧
     ((Tbl.get s.buf.line {} n).valid = false → s.dropWay n = s)) ∧
  (∀ (s : State), (s.dom 2 = true) → 
      exec .brambleDisable s = .next (if s.b .BUF_BRM_CTRL_EN 0 = true ∧ s.b .BUF_BRM_CTRL_DISABLE_PENDING 0 = false
       then (s.updBuf (fun b => { b with walk := 0 })).setB .BUF_BRM_CTRL_DISABLE_PENDING 0 true else s) ∧
     exec .brambleEnable s = .next (if s.b .BUF_BRM_CTRL_DISABLE_PENDING 0 = true then s.cfgErr .buf (Fld.BUF_BRM_CTRL_EN.addr 0)
       else if s.b .BUF_BRM_CTRL_EN 0 = true then s
       else (s.updBuf (fun b => { b with line := [], mru := [], pip := [], rind := [], evq := [], stream := [] })).setFs 0
         [(.BUF_BRM_CTRL_EN, 1), (.BUF_BRM_STAT_DIRTY, 0), (.BUF_BRM_STAT_EVQ, 0)])) ∧
  (∀ (s : State), (s.dom 2 = false) → 
      exec .brambleDisable s = .next (s.unstarted .buf) ∧ exec .brambleEnable s = .next (s.unstarted .buf)) ∧
  (∀ (s u v : State), (u = (s.buf.evq.map (fun e => e.addr)).foldl (fun x la => x.evictNow la) s) → (v = ((u.buf.line.map Prod.fst).foldl (fun x n => x.cleanWay n) u).updBuf (fun b => { b with line := [], mru := [], pip := [], rind := [], evq := [], stream := [], walk := 0 })) → 
      exec .disableWalkEnd s = .next (if s.b .BUF_BRM_CTRL_DISABLE_PENDING 0 = false then s
       else (((v.buf.dram.map Prod.fst).foldl (fun x la => x.dropCopy la) v).setFs 0 [(.BUF_BRM_CTRL_EN, 0), (.BUF_BRM_CTRL_DISABLE_PENDING, 0), (.BUF_BRM_STAT_DIRTY, 0), (.BUF_BRM_STAT_EVQ, 0)]).event 0x3008 0 0 0))

/-- Of a started block: SRAM_INIT of array 0x00, 0x0D or 0x0E reads BUSY until its end; another array, or a second GO, is refused with CFG_ERR; SPARE_ROW of an array of R126 reads BUSY with its operands latched, and is refused with CFG_ERR while BUSY or for another array; FLIP_ARM arms an injection for an array identifier of R126 and is refused with CFG_ERR for another. On a block that is not started each is only recorded. The initialisation's end clears BUSY, the errors of the array and its words; what waited for Work SRAM goes on. The spare row's end answers NO_SPARE where the row's four spares are used (which spares a row has is the model's choice, log entry 21), else takes one, copies the row, and for PERM burns it while fuses are left, and records 0x3007 with the result. Without the operation an end does nothing. A word read with no bit wrong is good; with one it is corrected, counted and logged with 0x3004; with more it is uncorrectable, counted and logged with 0x3005. (Buffer Memory, the Bramble Cache and Data Integrity; Scope and Conventions) -/
def Obligations.SramArrays : Prop :=
  (∀ (array : Byte) (s : State), (s.dom 2 = true) → 
      exec (.sramInit array) s = .next (if s.b .BUF_SRAM_INIT_BUSY 0 = true ∨ (array ≠ 0 ∧ array ≠ 0x0D ∧ array ≠ 0x0E)
     then s.cfgErr .buf (Fld.BUF_SRAM_INIT_GO.addr 0)
     else (s.setFs 0 [(.BUF_SRAM_INIT_ARRAY, array.toNat), (.BUF_SRAM_INIT_BUSY, 1)]).latch [.BUF_SRAM_INIT_ARRAY])) ∧
  (∀ (a : Nat) (s u : State), (a = s.opnd .BUF_SRAM_INIT_ARRAY) → (u = (s.setB .BUF_SRAM_INIT_BUSY 0 false).updBuf (fun b => { b with sramErr := b.sramErr.filter (fun e => e.1 / 2 ^ 24 != a) })) → 
      exec .sramInitEnd s = .next (if s.b .BUF_SRAM_INIT_BUSY 0 = false then s
       else if a = 0 then (({ u with mem := u.mem.filter (fun c => !(decide (workBase ≤ c.1) && decide (c.1 < workBase + workSize))) }).coresSee workBase workSize).retry
       else { u with eng := { u.eng with qe := (u.eng.qe.map (fun e => (e.1, if a = 0x0D then { e.2 with coef := [] } else { e.2 with st := [] }))).filter (fun e => decide (e.2 ≠ {})) } })) ∧
  (∀ (array : Byte) (row : BitVec 16) (perm : Bool) (s : State), (s.dom 2 = true) → 
      exec (.spareRow array row perm) s = .next (if s.b .BUF_SPARE_BUSY 0 = true ∨ 0x12 < array.toNat then s.cfgErr .buf (Fld.BUF_SPARE_GO.addr 0)
     else (s.setFs 0 [(.BUF_SPARE_ARRAY, array.toNat), (.BUF_SPARE_ROW, row.toNat), (.BUF_SPARE_PERM, perm.toNat), (.BUF_SPARE_BUSY, 1)]).latch
       [.BUF_SPARE_ARRAY, .BUF_SPARE_ROW, .BUF_SPARE_PERM])) ∧
  (∀ (a row k r : Nat) (s u v w : State), (a = s.opnd .BUF_SPARE_ARRAY) → (row = s.opnd .BUF_SPARE_ROW) → (u = s.setB .BUF_SPARE_BUSY 0 false) → (k = Tbl.get u.buf.spares 0 (spareKey (a, row))) → (v = ((u.rowCopy a row).updBuf (fun b => { b with spares := Tbl.set b.spares 0 (spareKey (a, row)) (k + 1), soft := b.soft ++ [(a, row)] })).setF .BUF_SPARE_STAT_SOFT 0 (min 255 (u.f .BUF_SPARE_STAT_SOFT 0 + 1))) → (r = (if (s.opnd .BUF_SPARE_PERM == 1 && decide (128 ≤ v.buf.fuseMap.length)) = true then 3 else 1)) → (w = (if (s.opnd .BUF_SPARE_PERM == 1 && r == 1) = true then (v.updBuf (fun b => { b with fuseMap := b.fuseMap ++ [(a, row)] })).setF .BUF_SPARE_STAT_FUSED 0 (v.buf.fuseMap.length + 1) else v)) → 
      exec .spareRowEnd s = .next (if s.b .BUF_SPARE_BUSY 0 = false then s else if 4 ≤ k then (u.setF .BUF_SPARE_STAT_RESULT 0 2).event 0x3007 2 0 0
       else (w.setF .BUF_SPARE_STAT_RESULT 0 r).event 0x3007 r 0 0)) ∧
  (∀ (array check : Byte) (s : State), (s.dom 2 = true) → 
      exec (.flipArm array check) s = .next (if arrayId array.toNat = false then s.cfgErr .buf (Fld.BUF_FLIP_CTRL_ARM.addr 0)
     else s.setFs 0 [(.BUF_FLIP_CTRL_ARRAY, array.toNat), (.BUF_FLIP_CTRL_CHECK, check.toNat), (.BUF_FLIP_CTRL_ARM, 1)])) ∧
  (∀ (array check : Byte) (row : BitVec 16) (perm : Bool) (s : State), (s.dom 2 = false) → 
      exec (.sramInit array) s = .next (s.unstarted .buf) ∧ exec (.spareRow array row perm) s = .next (s.unstarted .buf) ∧
     exec (.flipArm array check) s = .next (s.unstarted .buf)) ∧
  (∀ (array word m : Nat) (s t : State), (m = Tbl.get s.buf.sramErr 0 (array * 2 ^ 24 + word)) → (t = (s.setF .BUF_SRAM_ERR_ARRAY 0 array).setF .BUF_SRAM_WORD_WORD 0 word) → 
      s.sramRead array word = if popcount 72 m = 0 then (0, s)
     else if popcount 72 m = 1 then (1, ((t.updBuf (fun b => { b with sramErr := Tbl.set b.sramErr 0 (array * 2 ^ 24 + word) 0 })).inc .BUF_SRAM_CNT_CE 0 1).event 0x3004 0 0 0)
     else (2, ((t.setB .BUF_SRAM_ERR_UE 0 true).inc .BUF_SRAM_CNT_UE 0 1).event 0x3005 0 0 0))

/-- Each record command hands the append port its type, its FLAGS and its BODY laid out as R145 gives; the port of a started block stores them, appends, and shows RESULT, and for an append that is performed the MSEQ (and for OPEN the HGEN) of the record. HEAD_FAIL stores the head and appends its record, or for a head above 23 sets CFG_ERR. A read of the refresh queue returns the oldest band with VALID and takes it out. BTL_EN set does nothing where EN reads 1, is refused with CFG_ERR where a check fails, and otherwise finds TAIL and DEGRADED again and counts the pool; cleared, it is refused with CFG_ERR while a group is open. On a block that is not started each is only recorded. (Band Translation Layer; Scope and Conventions) -/
def Obligations.MapLogRecords : Prop :=
  (∀ (flags : Byte) (band owner : BitVec 32) (purpose nsidx acc : Byte) (s : State), 
      exec (.openRecord flags band owner purpose nsidx acc) s =
     .next (s.appendReg 1 flags (leBytes 4 band.toNat ++ leBytes 4 owner.toNat ++ [purpose, nsidx, acc]))) ∧
  (∀ (flags : Byte) (new old owner : BitVec 32) (upto : BitVec 48) (nsidx hgen8 : Byte) (s : State), 
      exec (.commitRecord flags new old owner upto nsidx hgen8) s = .next (s.appendReg 2 flags
     (leBytes 4 new.toNat ++ leBytes 4 old.toNat ++ leBytes 4 owner.toNat ++ leBytes 6 upto.toNat ++ [nsidx, hgen8]))) ∧
  (∀ (flags : Byte) (band : BitVec 32) (hgen : BitVec 48) (cause : Byte) (s : State), 
      exec (.resetRecord flags band hgen) s = .next (s.appendReg 3 flags (leBytes 4 band.toNat ++ leBytes 6 hgen.toNat)) ∧
     exec (.retireRecord flags band cause) s = .next (s.appendReg 4 flags (leBytes 4 band.toNat ++ [cause])) ∧
     exec (.sealRecord flags band hgen) s = .next (s.appendReg 7 flags (leBytes 4 band.toNat ++ leBytes 6 hgen.toNat))) ∧
  (∀ (flags nsidx len : Byte) (lba pma : BitVec 64) (zone wp : BitVec 32) (covers : BitVec 48) (degraded : Bool) (s : State), 
      exec (.mcPutRecord flags nsidx len lba pma) s = .next (s.appendReg 5 flags ([nsidx, len, 0, 0] ++ leBytes 8 lba.toNat ++ leBytes 8 pma.toNat)) ∧
     exec (.zoneWpRecord flags nsidx zone wp) s = .next (s.appendReg 6 flags ([nsidx, 0, 0, 0] ++ leBytes 4 zone.toNat ++ leBytes 4 wp.toNat)) ∧
     exec (.checkpointRecord flags pma covers) s = .next (s.appendReg 8 flags (leBytes 8 pma.toNat ++ leBytes 6 covers.toNat)) ∧
     exec (.modeRecord flags degraded) s = .next (s.appendReg 9 flags (leBytes 1 degraded.toNat))) ∧
  (∀ (head : BitVec 5) (s : State), 
      (s.dom 4 = true → head.toNat ≤ 23 → exec (.headFailRecord head) s =
       .next ((s.setF .BTL_HEAD_FAIL_HEAD 0 head.toNat).append 10 0 (leBytes 4 head.toNat)).2.2) ∧
     (s.dom 4 = true → 23 < head.toNat → exec (.headFailRecord head) s = .next ((s.setF .BTL_HEAD_FAIL_HEAD 0 head.toNat).cfgErr .btl (Fld.BTL_HEAD_FAIL_HEAD.addr 0))) ∧
     (s.dom 4 = false → exec (.headFailRecord head) s = .next (s.unstarted .btl))) ∧
  (∀ (typ : Nat) (flags : Byte) (body : List Byte) (v : Bool) (s : State), (s.dom 4 = false) → 
      s.appendReg typ flags body = s.unstarted .btl ∧ exec .refreshQueueRead s = .next (s.unstarted .btl) ∧ exec (.btlEn v) s = .next (s.unstarted .btl)) ∧
  (∀ (typ : Nat) (flags : Byte) (body : List Byte) (s v : State) (r : Nat) (b : List Byte), (s.dom 4 = true) → ((s.appPort typ flags.toNat body).append typ flags.toNat ((body ++ List.replicate 20 0).take 20) = (r, b, v)) → 
      (r ≠ 0 → s.appendReg typ flags body = v.setF .BTL_APP_CTRL_RESULT 0 r) ∧
     (r = 0 → typ ≠ 1 → s.appendReg typ flags body =
       (v.setF .BTL_APP_CTRL_RESULT 0 0).setFs 0 [(.BTL_APP_MSEQ_LO_MSEQ_LO, leAt b 0 4), (.BTL_APP_MSEQ_HI_MSEQ_HI, leAt b 4 2)]) ∧
     (r = 0 → typ = 1 → s.appendReg typ flags body =
       ((v.setF .BTL_APP_CTRL_RESULT 0 0).setFs 0 [(.BTL_APP_MSEQ_LO_MSEQ_LO, leAt b 0 4), (.BTL_APP_MSEQ_HI_MSEQ_HI, leAt b 4 2)]).setFs 0
         [(.BTL_APP_GEN_LO_GEN_LO, leAt b 20 4), (.BTL_APP_GEN_HI_GEN_HI, leAt b 24 2)])) ∧
  (∀ (s : State), (s.dom 4 = true) → 
      exec .refreshQueueRead s = .next ((s.send (.readData (s.f .BTL_RQ_BAND 0 + 2 ^ 31 * s.f .BTL_RQ_VALID 0))).setRq s.btl.rq.tail) ∧
     (s.setRq s.btl.rq.tail).btl.rq = s.btl.rq.tail) ∧
  (∀ (s : State), (s.dom 4 = true) → 
      exec (.btlEn true) s = .next (if s.b .BTL_CTRL_EN 0 = true then s
       else if s.btlOk = true then (s.setB .BTL_CTRL_EN 0 true).mlogResume.degradedResume.recount.mlogShow.degrade else s.cfgErr .btl (Fld.BTL_CTRL_EN.addr 0)) ∧
     exec (.btlEn false) s = .next (if s.b .BTL_CTRL_EN 0 = true ∧ s.btl.group ≠ [] then s.cfgErr .btl (Fld.BTL_CTRL_EN.addr 0) else s.setB .BTL_CTRL_EN 0 false))

/-- An append with BTL disabled is refused with STATE; of an unknown type, or of one with an operand out of range, with MALFORMED; to a full log with FULL; against the interlocks, checked with the effects of the open group, with STATE and event 0x4008; each refusal counts and writes no record. One that is performed writes its 32 bytes at TAIL with the next MSEQ and the CRC, and TAIL and MSEQ go on, and GEN too where it is an OPEN; a record of an open group waits with it, any other closes the group and takes effect with it; the counts and MLOG_FULL follow. The effect of a record alone: RESET leads to FREE; COMMIT and SEAL to SEALED; the old band of a COMMIT goes to STALE or, with RETIRE_OLD, to RETIRED (a zone's band moved with no spare left finishes the zone; the last rebuild records 0x400E); RETIRE takes an OPEN or SEALED band to RETIRING with event 0x4002 and any other to RETIRED; HEAD_FAIL works on every entry of its head. (Band Translation Layer) -/
def Obligations.AppendsAndBandStates : Prop :=
  (∀ (typ flags tail gen mseq : Nat) (body b r : List Byte) (s u v w x : State), (tail = s.f .BTL_MLOG_TAIL_INDEX 0) → (gen = s.f .BTL_GEN_LO_NEXT_LO 0 + 2 ^ 32 * s.f .BTL_GEN_HI_NEXT_HI 0) → (mseq = s.f .BTL_MSEQ_LO_NEXT_LO 0 + 2 ^ 32 * s.f .BTL_MSEQ_HI_NEXT_HI 0) → (b = (body ++ List.replicate 20 0).take 20) → (r = recBytes mseq typ flags (if typ = 1 then patch b 12 (leBytes 6 gen) else b)) → (u = (if [1, 2, 3, 4, 7].contains typ = true then s.touchBand (leAt r 8 4) else s)) → (v = (if typ = 2 then u.touchBand (leAt r 12 4) else u)) → (w = (v.wr (v.mlogBase + 32 * tail) r).setFs 0 [(.BTL_MLOG_TAIL_INDEX, (tail + 1) % (v.wr (v.mlogBase + 32 * tail) r).mlogSize), (.BTL_MSEQ_LO_NEXT_LO, mseq + 1), (.BTL_MSEQ_HI_NEXT_HI, (mseq + 1) / 2 ^ 32)]) → (x = (if typ = 1 then w.setFs 0 [(.BTL_GEN_LO_NEXT_LO, gen + 1), (.BTL_GEN_HI_NEXT_HI, (gen + 1) / 2 ^ 32)] else w)) → 
      s.append0 typ flags body = (if s.b .BTL_CTRL_EN 0 = false then (2, [], s.inc .BTL_CNT_REFUSED 0 1)
       else if typ = 0 ∨ 10 < typ ∨ (typ = 5 ∧ 63 < leAt b 1 1) ∨ (typ = 1 ∧ 6 < leAt b 8 1) then (3, [], s.inc .BTL_CNT_REFUSED 0 1)
       else if (tail + 1) % s.mlogSize = s.f .BTL_MLOG_TRIM_INDEX 0 then (1, [], s.mlogShow.inc .BTL_CNT_REFUSED 0 1)
       else if v.groupView.recLegal r = false then (2, [], (v.event 0x4008 0 0 0).inc .BTL_CNT_REFUSED 0 1)
       else (0, r, (if bit flags 0 = true then x.updBtl (fun z => { z with group := z.group ++ [r] }) else (x.groupView.recApply r).updBtl (fun z => { z with group := [] })).recount.mlogShow))) ∧
  (∀ (s : State) (p : Nat) (r : List Byte), (p = leAt r 8 4) → 
      (recType r = 3 → s.recApply r = s.bandTo p 0) ∧
     (recType r = 7 → s.recApply r = s.bandTo p 2) ∧
     (recType r = 2 → leAt r 12 4 = 0xFFFFFFFF → s.recApply r = s.bandTo p 2) ∧
     (recType r = 2 → leAt r 12 4 ≠ 0xFFFFFFFF → bit (recFlags r) 1 = false → s.recApply r = (s.bandTo p 2).bandTo (leAt r 12 4) 3) ∧
     (recType r = 2 → leAt r 12 4 ≠ 0xFFFFFFFF → bit (recFlags r) 1 = true → s.recApply r =
       (((s.bandTo p 2).retired (leAt r 12 4)).zoneMoved (bandRole (s.band (leAt r 12 4))) (leAt r 26 1) (leAt r 16 4)).rebuilt (s.band (leAt r 12 4))) ∧
     (recType r = 4 → bandState (s.band p) = 1 ∨ bandState (s.band p) = 2 → s.recApply r = (s.retiring p).event 0x4002 0 0 0) ∧
     (recType r = 4 → bandState (s.band p) ≠ 1 → bandState (s.band p) ≠ 2 → s.recApply r = s.retired p) ∧
     (recType r = 10 → s.recApply r = s.headFailed (leAt r 8 1)))

/-- Of a started block: RUN releases a core at its entry unless it runs, or holds it; a fused-off core sets CFG_ERR; IPI bits are set and cleared; a claim answers the best pending source and holds it back until the core that claimed it completes it, another core's completion changing nothing. On a block that is not started each is only recorded. The timer's compare does nothing in STANDBY, and else advances the counters to it. An instruction row of a core that runs counts in minstret and does its work: WFI stalls the core and wakes it where an interrupt enabled in its mie is pending, FENCE.I makes its instruction cache agree with memory; of a core that does not run it does nothing. An LR, SC or AMO that is misaligned is the misaligned exception; one outside Work SRAM and DRAM in service, or that PMP does not let, faults the core; any other is an access, performed at once or in its turn: LR loads and leaves a reservation, SC with it writes and answers 0, SC without it answers 1 and writes nothing, an AMO loads and writes; data that is bad faults the core. (Engines and Microcode; Buffer Memory, the Bramble Cache and Data Integrity; Supplies, Clocks and Staged Start; Scope and Conventions) -/
def Obligations.CoresAndInterrupts : Prop :=
  (∀ (n : Core) (s : State), (s.dom 4 = true) → 
      (bit (s.f .ENG_FUSED_HI_IQ 0) n = true → ∀ v, exec (.coreRun n v) s = .next (s.cfgErr .eng (Fld.ENG_IQ_CTRL_RUN.addr n))) ∧
     (bit (s.f .ENG_FUSED_HI_IQ 0) n = false → exec (.coreRun n false) s =
       .next (((s.setCore n {}).updDev (fun d => { d with accFault := Tbl.set d.accFault 0 n.val 0 })).setB .ENG_IQ_CTRL_RUN n false)) ∧
     (bit (s.f .ENG_FUSED_HI_IQ 0) n = false → exec (.coreRun n true) s = .next (if s.b .ENG_IQ_CTRL_RUN n = true then s
       else ((s.setCore n { pc := s.f .ENG_IQ_ENTRY_LO_ENTRY_LO n * 2 + s.f .ENG_IQ_ENTRY_HI_ENTRY_HI n * 2 ^ 32 }).updEng
         (fun x => { x with coherent := setBit x.coherent n true })).setB .ENG_IQ_CTRL_RUN n true))) ∧
  (∀ (n : Core) (s : State), 
      exec (.mtimeCompare n) s = .next (if s.f .SUP_DSTATE_NOW 0 = 2 then s else (((s.setMtime (s.mtime + (s.mtimeCmp n - s.mtime))).setAont
     (s.aont + (s.mtimeCmp n - s.mtime) / 100)).cyclesPass (16 * (s.mtimeCmp n - s.mtime))).wakeCores)) ∧
  (∀ (n : Core) (m src : Byte) (s : State), (s.dom 4 = true) → 
      exec (.ipiSet m) s = .next (s.setF .ENG_IPI_PEND 0 (s.f .ENG_IPI_PEND 0 ||| m.toNat)).wakeCores ∧
     exec (.ipiClear m) s = .next (s.setF .ENG_IPI_PEND 0 (s.f .ENG_IPI_PEND 0 &&& (255 - m.toNat))) ∧
     exec (.interruptClaim n) s = .next (if s.irqBest n = 0 then s.send (.readData 0) else ((s.send (.readData (s.irqBest n))).updEng
       (fun e => { e with claimed := Tbl.set e.claimed 0 (s.irqBest n) (n.val + 1) })).setB .ENG_IRQ_ROUTE_CLAIMED (s.irqBest n) true) ∧
     exec (.interruptComplete n src) s = .next (if Tbl.get s.eng.claimed 0 src.toNat = n.val + 1 then ((s.updEng (fun e => { e with
       claimed := Tbl.set e.claimed 0 src.toNat 0 })).setB .ENG_IRQ_ROUTE_CLAIMED src.toNat false).wakeCores else s)) ∧
  (∀ (n : Core) (v : Bool) (m src : Byte) (s : State), (s.dom 4 = false) → 
      exec (.coreRun n v) s = .next (s.unstarted .eng) ∧ exec (.ipiSet m) s = .next (s.unstarted .eng) ∧ exec (.ipiClear m) s = .next (s.unstarted .eng) ∧
     exec (.interruptClaim n) s = .next (s.unstarted .eng) ∧ exec (.interruptComplete n src) s = .next (s.unstarted .eng)) ∧
  (∀ (n : Core) (mie : BitVec 3) (s u v : State), (u = s.wakeCores) → (v = u.counted n) → 
      exec (.wfi n mie) s = .next (if u.runsCore n = true then (v.setCore n { v.core n with wfi := true, mie := mie.toNat }).wakeCores else u) ∧
     exec (.fenceI n) s = .next (if u.runsCore n = true then v.updEng (fun e => { e with coherent := setBit e.coherent n true }) else u)) ∧
  (∀ (n : Core) (op : AmoOp) (dword : Bool) (a : Addr) (rd : Fin 32) (x : BitVec 64) (s u v : State) (k : Nat), (u = s.wakeCores) → (v = u.counted n) → (k = (if dword = true then 8 else 4)) → 
      exec (.lrScAmo n op dword a rd x) s = .next (if u.runsCore n = false then u
     else if a.toNat % k ≠ 0 then v.misaligned (.core n)
     else if (inWork a.toNat k = false ∧ (v.inDram a.toNat k = false ∨ v.b .BUF_STATUS_READY 0 = false)) ∨ (op ≠ .sc ∧ v.pmpOk (.core n) a.toNat k 0 = false) ∨
       (op ≠ .lr ∧ v.pmpOk (.core n) a.toNat k 1 = false) then (if op = .lr then v.loadFault (.core n) else v.accFault (.core n))
     else v.access { g := .core n, a := a.toNat, w := none, whole := false, amo := some (op, dword, rd.val, x.toNat) })) ∧
  (∀ (n a rd x k val : Nat) (g : Agent) (op : AmoOp) (dword : Bool) (d : List Byte) (s u v w : State), (k = (if dword = true then 8 else 4)) → (val = x % 2 ^ (8 * k)) → ((d, u) = s.fetch g a k) → (v = (if u.poisoned a k = true then u.eccLog (a / 64) true else u)) → (w = (if op = .sc then s.asCore n (fun s => s.wrTagBy g a (leBytes k val) none) else if op = .lr then u.setX n rd (loaded dword (ofLe d)) else u.asCore n (fun s => s.wrTagBy g a (leBytes k (amoValue op (8 * k) (ofLe d) val)) none))) → 
      s.amoAccess g n a op dword rd x = (if op = .sc then (if (s.core n).resv = some (a / 128) then (w.setCore n { w.core n with resv := none }).setX n rd 0 else (s.setCore n { s.core n with resv := none }).setX n rd 1)
     else if u.bad a k = true then (if op = .lr then v.loadFault g else v.accFault g)
     else if op = .lr then w.setCore n { w.core n with resv := some (a / 128) } else w.setX n rd (loaded dword (ofLe d))))

/-- Of a started block: a control-store load is refused with CFG_ERR while one is under way, past the store, of no word or of no class, and otherwise reads BUSY with its class. A start stores ENTRY, is refused with CFG_ERR for a sequencer that is bound elsewhere, fused or not loaded, does nothing where it runs, and otherwise clears its state and comes to ENTRY; STOP raises STOP_REQ and KILL its own request of one that runs; ABANDON drops the held item of a stopped or faulted sequencer, whose work ends, with 0x5006, and is refused with CFG_ERR otherwise. A spare is bound and unbound with 0x5005 where R193 lets it (log entry 25). On a block that is not started each is only recorded. A load's end clears BUSY and shows RESULT, DONE and LOAD_EV; LOADED only where every word was written. A wait ends by its condition, its timeout or a KILL, and otherwise stays. A branch row acts where the word in execution has come to its branch and spells it, and else does nothing: JUMP to NEXT, COND1 to COND4 to NEXT with the sampled conditions in the low bits, CALL with the return address stacked (fault 0x2 at four), RET to the top (fault 0x3 when empty), DISPATCH by the opcode, LOOP by LC, and HALT stops it; a KILL requested stops any other branch with fault 0x4. That a row acts only where the stored word spells it is the model's choice (log entry 13). (Engines and Microcode; Scope and Conventions; Command Intake and the Ledger) -/
def Obligations.SequencerControl : Prop :=
  (∀ (cls : Fin 8) (first : BitVec 12) (count : BitVec 13) (s : State), (s.dom 4 = true) → 
      exec (.controlStoreLoad cls first count) s = .next (if s.b .ENG_CSL_CTRL_BUSY 0 = true ∨ 4096 < first.toNat + count.toNat ∨ count.toNat = 0 ∨ 5 < cls.val
     then s.cfgErr .eng (Fld.ENG_CSL_CTRL_GO.addr 0)
     else ((s.setFs 0 [(.ENG_CSL_CTRL_FIRST, first.toNat), (.ENG_CSL_CTRL_COUNT, count.toNat), (.ENG_CSL_CTRL_CLASS, cls), (.ENG_CSL_CTRL_BUSY, 1),
       (.ENG_CSL_STAT_DONE, 0)]).latch [.ENG_CSL_CTRL_CLASS]).loadStore cls first.toNat count.toNat)) ∧
  (∀ (r : Nat) (s u : State), (r = s.eng.loadRes) → (u = (s.setFs 0 [(.ENG_CSL_CTRL_BUSY, 0), (.ENG_CSL_STAT_DONE, 1), (.ENG_CSL_STAT_RESULT, r), (.ENG_CSL_STAT_BAD_ADDR, s.eng.loadBad), (.ENG_STATUS_LOAD_EV, 1)]).updEng (fun e => { e with loadRes := 0, loadBad := 0 })) → 
      exec .controlStoreLoadEnd s = .next (if s.b .ENG_CSL_CTRL_BUSY 0 = false then s
       else if r = 0 then u.setF .ENG_STATUS_LOADED 0 (setBit (u.f .ENG_STATUS_LOADED 0) (u.opnd .ENG_CSL_CTRL_CLASS) true) else u.event 0x5004 r s.eng.loadBad 0)) ∧
  (∀ (n : Cs) (entry : BitVec 12) (s u : State), (u = s.setF .ENG_CS_CTRL_ENTRY n entry.toNat) → 
      exec (.csStart n entry) s = .next (if s.blkOn .eng 0 = false then s.unstarted .eng
     else if (u.csClass n).any (fun c => bit (u.f .ENG_STATUS_LOADED 0) c) = false ∨ u.csAs n = none ∨ u.csFused n = true then u.cfgErr .eng (Fld.ENG_CS_CTRL_START.addr n)
     else if u.csRuns n = true then u
     else ((u.updCs n (fun q => { q with s := [], lc := 0, stack := [], z := false, n := false, timeout := false, stopReq := false })).setF .ENG_CS_STAT_FAULT n 0).arrive n entry.toNat)) ∧
  (∀ (n : Cs) (s : State), (s.dom 4 = true) → 
      exec (.csStop n) s = .next (if s.csRuns n = true then s.updCs n (fun q => { q with stopReq := true }) else s) ∧
     exec (.kill n) s = .next (if s.csRuns n = true then s.updCs n (fun q => { q with killReq := true }) else s)) ∧
  (∀ (n : Cs) (s : State), (s.dom 4 = true) → 
      (s.csStill n = false ∨ s.b .ENG_CS_STAT_HELD n = false → exec (.abandon n) s = .next (s.cfgErr .eng (Fld.ENG_CS_CTRL_ABANDON.addr n))) ∧
     (s.csStill n = true → s.b .ENG_CS_STAT_HELD n = true →
       (∀ w r i, (s.cs n).item = some { words := w, src := .ring r i } → exec (.abandon n) s = .next (((s.dropItem n).descDone r i 1 0 0).event 0x5006 0 0 0)) ∧
       (∀ w t, (s.cs n).item = some { words := w, src := .intake t } → exec (.abandon n) s = .next (((s.dropItem n).endUnposted t).event 0x5006 0 0 0)) ∧
       (∀ w p q o, (s.cs n).item = some { words := w, src := .sqe p q o } → exec (.abandon n) s =
         .next ((if (s.cs n).posted = true then s.dropItem n else (s.dropItem n).fetchEnd).event 0x5006 0 0 0)) ∧
       ((s.cs n).item = none → exec (.abandon n) s = .next ((s.dropItem n).event 0x5006 0 0 0)))) ∧
  (∀ (k : Fin 2) (cls : Fin 8) (repl : BitVec 6) (s : State), (s.dom 4 = true) → 
      (s.b .ENG_SPARE_CS_BIND k = false → exec (.spareCsBind k cls repl false) s =
       .next (s.setFs k [(.ENG_SPARE_CS_CLASS, cls), (.ENG_SPARE_CS_REPLACES, repl.toNat), (.ENG_SPARE_CS_BIND, 0)])) ∧
     (s.b .ENG_SPARE_CS_BIND k = false → s.spareOk k cls repl.toNat = true → ∃ u, u = s.setFs k [(.ENG_SPARE_CS_CLASS, cls), (.ENG_SPARE_CS_REPLACES, repl.toNat), (.ENG_SPARE_CS_BIND, 1)] ∧
       exec (.spareCsBind k cls repl true) s = .next ((if repl.toNat < 42 then u.setFs repl.toNat [(.ENG_CS_STAT_BOUND, 1), (.ENG_CS_STAT_STATE, 0)] else u).event 0x5005 0 0 0)) ∧
     (s.b .ENG_SPARE_CS_BIND k = false → s.spareOk k cls repl.toNat = false → exec (.spareCsBind k cls repl true) s = .next (s.cfgErr .eng (Fld.ENG_SPARE_CS_BIND.addr k))) ∧
     (s.b .ENG_SPARE_CS_BIND k = true → exec (.spareCsBind k cls repl true) s = .next (s.cfgErr .eng (Fld.ENG_SPARE_CS_BIND.addr k))) ∧
     (s.b .ENG_SPARE_CS_BIND k = true → s.spareOk k (s.f .ENG_SPARE_CS_CLASS k) (s.f .ENG_SPARE_CS_REPLACES k) = false →
       exec (.spareCsBind k cls repl false) s = .next (s.cfgErr .eng (Fld.ENG_SPARE_CS_BIND.addr k))) ∧
     (s.b .ENG_SPARE_CS_BIND k = true → s.spareOk k (s.f .ENG_SPARE_CS_CLASS k) (s.f .ENG_SPARE_CS_REPLACES k) = true →
       ∃ u m, u = s.setFs k [(.ENG_SPARE_CS_CLASS, cls), (.ENG_SPARE_CS_REPLACES, repl.toNat), (.ENG_SPARE_CS_BIND, 0)] ∧ m = s.f .ENG_SPARE_CS_REPLACES k ∧
       exec (.spareCsBind k cls repl false) s = .next ((if m < 42 then u.setFs m [(.ENG_CS_STAT_BOUND, 0), (.ENG_CS_STAT_STATE, 0)] else u).event 0x5005 0 0 0))) ∧
  (∀ (n : Cs) (k : Fin 2) (cls : Fin 8) (repl : BitVec 6) (first entry : BitVec 12) (count : BitVec 13) (v : Bool) (s : State), (s.dom 4 = false) → 
      exec (.controlStoreLoad cls first count) s = .next (s.unstarted .eng) ∧ exec (.csStart n entry) s = .next (s.unstarted .eng) ∧
     exec (.csStop n) s = .next (s.unstarted .eng) ∧ exec (.kill n) s = .next (s.unstarted .eng) ∧ exec (.abandon n) s = .next (s.unstarted .eng) ∧
     exec (.spareCsBind k cls repl v) s = .next (s.unstarted .eng)) ∧
  (∀ (n : Cs) (s : State), 
      (s.f .ENG_CS_STAT_STATE n ≠ 2 → ∀ x, exec (.waitEnd n x) s = .next s) ∧
     (s.f .ENG_CS_STAT_STATE n = 2 → exec (.waitEnd n .cond) s = .next (if s.cond n (wSel (s.curWord n)) = true then s.sample n else s) ∧
       exec (.waitEnd n .timeout) s = .next (if wTimeout (s.curWord n) = 0 then s else (s.updCs n (fun q => { q with timeout := true })).sample n) ∧
       exec (.waitEnd n .kill) s = .next (if (s.cs n).killReq = true then s.sample n else s))) ∧
  (∀ (n : Cs) (next ret : BitVec 12) (c0 c1 c2 c3 : Byte) (s : State), 
      exec (.jump n next) s = .next (if s.branches n 0 (fun w => wNext w == next.toNat) = true then s.branch n next.toNat else s) ∧
     exec (.cond1 n next c0) s = .next (if s.branches n 1 (fun w => wNext w == next.toNat && wCsel w 0 == c0.toNat) = true
       then s.branch n (next.toNat ||| (s.cs n).sampled % 2 ^ 1) else s) ∧
     exec (.cond2 n next c0 c1) s = .next (if s.branches n 2 (fun w => wNext w == next.toNat && (wCsel w 0 == c0.toNat && wCsel w 1 == c1.toNat)) = true
       then s.branch n (next.toNat ||| (s.cs n).sampled % 2 ^ 2) else s) ∧
     exec (.cond3 n next c0 c1 c2) s = .next (if s.branches n 3 (fun w => wNext w == next.toNat && (wCsel w 0 == c0.toNat && (wCsel w 1 == c1.toNat &&
       wCsel w 2 == c2.toNat))) = true then s.branch n (next.toNat ||| (s.cs n).sampled % 2 ^ 3) else s) ∧
     exec (.cond4 n next c0 c1 c2 c3) s = .next (if s.branches n 4 (fun w => wNext w == next.toNat && (wCsel w 0 == c0.toNat && (wCsel w 1 == c1.toNat &&
       (wCsel w 2 == c2.toNat && wCsel w 3 == c3.toNat)))) = true then s.branch n (next.toNat ||| (s.cs n).sampled % 2 ^ 4) else s) ∧
     exec (.dispatch n next) s = .next (if s.branches n 7 (fun w => wNext w == next.toNat) = true then s.branch n (next.toNat ||| (s.itemWord n 0 % 16)) else s) ∧
     exec (.call n next ret) s = .next (if s.branches n 5 (fun w => wNext w == next.toNat && bits w 107 96 == ret.toNat) = true then
       (if 4 ≤ (s.cs n).stack.length then s.csFault n 2 else (s.updCs n (fun q => { q with stack := ret.toNat :: q.stack })).branch n next.toNat) else s) ∧
     exec (.loop n next) s = .next (if s.branches n 8 (fun w => wNext w == next.toNat) = true then
       (s.updCs n (fun q => { q with lc := ((s.cs n).lc + 65535) % 65536 })).branch n (next.toNat ||| (((s.cs n).lc + 65535) % 65536 == 0).toNat) else s) ∧
     exec (.halt n) s = .next (if s.branches n 9 anyWord = true then (s.updCs n (fun q => { q with killReq := false, prev := none })).setF .ENG_CS_STAT_STATE n 0 else s)) ∧
  (∀ (n : Cs) (s : State), 
      (s.branches n 6 anyWord = false → exec (.ret n) s = .next s) ∧
     (s.branches n 6 anyWord = true → (s.cs n).stack = [] → exec (.ret n) s = .next (s.csFault n 3)) ∧
     (s.branches n 6 anyWord = true → ∀ a r, (s.cs n).stack = a :: r → exec (.ret n) s = .next ((s.updCs n (fun q => { q with stack := r })).branch n a))) ∧
  (∀ (n a : Nat) (s : State), 
      s.branch n a = (if (s.cs n).killReq = true then s.csFault n 4 else s.arrive n a)) ∧
  (∀ (n code : Nat) (s : State), (n < 44) → (code < 16) → 
      (s.csFault n code).f .ENG_CS_STAT_STATE n = 3 ∧ (s.csFault n code).f .ENG_CS_STAT_FAULT n = code ∧ (s.csFault n code).b .ENG_STATUS_FAULT_EV 0 = true ∧
     (s.csFault n code).mem = s.mem)

/-- A scratch row acts where the word in execution begins with its operation and operand fields, and else does nothing (the model's choice, log entry 13); it sets its register to the 32-bit result: MOV, LDI, LDH, ADD, ADDI (immediate sign-extended), SUB, AND, OR, XOR, SHR, SHL, LDD from the item's words (a free value without an item); STD writes an item word, LDLC the loop counter, CMP the flags Z and N of the 32-bit difference; the word then comes to its commands. A register write changes no other register, no other sequencer, no register field and no memory. (Engines and Microcode) -/
def Obligations.ScratchOperations : Prop :=
  (∀ (n : Cs) (d r : Fin 16) (imm : BitVec 16) (s : State), 
      exec (.aMov n d r) s = .next (if s.scratches n 1 (fun w => wD d w && wS r w) = true then (s.setSreg n d (s.sreg n r)).scratched n else s) ∧
     exec (.aLdi n d imm) s = .next (if s.scratches n 2 (fun w => wD d w && wI imm.toNat w) = true then (s.setSreg n d imm.toNat).scratched n else s) ∧
     exec (.aLdh n d imm) s = .next (if s.scratches n 3 (fun w => wD d w && wI imm.toNat w) = true then (s.setSreg n d (s.sreg n d % 2 ^ 16 + imm.toNat * 2 ^ 16)).scratched n else s) ∧
     exec (.aAdd n d r) s = .next (if s.scratches n 4 (fun w => wD d w && wS r w) = true then (s.setSreg n d (s.sreg n d + s.sreg n r)).scratched n else s) ∧
     exec (.aAddi n d imm) s = .next (if s.scratches n 5 (fun w => wD d w && wI imm.toNat w) = true then (s.setSreg n d (s.sreg n d + unsigned 32 (signed 16 imm.toNat))).scratched n else s) ∧
     exec (.aSub n d r) s = .next (if s.scratches n 6 (fun w => wD d w && wS r w) = true then (s.setSreg n d (s.sreg n d + 2 ^ 32 - s.sreg n r)).scratched n else s) ∧
     exec (.aAnd n d r) s = .next (if s.scratches n 7 (fun w => wD d w && wS r w) = true then (s.setSreg n d (s.sreg n d &&& s.sreg n r)).scratched n else s) ∧
     exec (.aOr n d r) s = .next (if s.scratches n 8 (fun w => wD d w && wS r w) = true then (s.setSreg n d (s.sreg n d ||| s.sreg n r)).scratched n else s) ∧
     exec (.aXor n d r) s = .next (if s.scratches n 9 (fun w => wD d w && wS r w) = true then (s.setSreg n d (s.sreg n d ^^^ s.sreg n r)).scratched n else s) ∧
     exec (.aShr n d imm) s = .next (if s.scratches n 0xA (fun w => wD d w && wI imm.toNat w) = true then (s.setSreg n d (s.sreg n d / 2 ^ (imm.toNat % 32))).scratched n else s) ∧
     exec (.aShl n d imm) s = .next (if s.scratches n 0xB (fun w => wD d w && wI imm.toNat w) = true then (s.setSreg n d (s.sreg n d * 2 ^ (imm.toNat % 32))).scratched n else s)) ∧
  (∀ (n : Cs) (d r : Fin 16) (imm : BitVec 16) (s : State) (x : Nat), (x = (s.sreg n d + 2 ^ 32 - s.sreg n r) % 2 ^ 32) → 
      exec (.aLdlc n r) s = .next (if s.scratches n 0xE (wS r) = true then (s.updCs n (fun q => { q with lc := s.sreg n r % 2 ^ 16 })).scratched n else s) ∧
     exec (.aCmp n d r) s = .next (if s.scratches n 0xF (fun w => wD d w && wS r w) = true then (s.updCs n (fun q => { q with z := x == 0, n := bit x 31 })).scratched n else s) ∧
     exec (.aLdd n d imm) s = .next (if s.scratches n 0xC (fun w => wD d w && wI imm.toNat w) = true then
       (if (s.cs n).item.isSome = true ∨ (s.cs n).desc.length = 16 then s.setSreg n d (s.itemWord n (imm.toNat % 16)) else s.free.2.setSreg n d s.free.1).scratched n else s)) ∧
  (∀ (n : Cs) (r : Fin 16) (imm : BitVec 16) (s : State), 
      exec (.aStd n r imm) s = .next (if s.scratches n 0xD (fun w => wS r w && wI imm.toNat w) = true then (s.updCs n (fun q => q.item.elim { q with desc := q.desc.set (imm.toNat % 16) (s.sreg n r) }
     (fun it => { q with item := some { it with words := it.words.set (imm.toNat % 16) (s.sreg n r) } }))).scratched n else s)) ∧
  (∀ (n m d k v : Nat) (s : State), 
      (s.setSreg n d v).sreg m k = (if m = n ∧ k = d then v % 2 ^ 32 else s.sreg m k) ∧ (s.setSreg n d v).regs = s.regs ∧
     (s.setSreg n d v).mem = s.mem ∧ (s.setSreg n d v).out = s.out)

/-- START of an engine that is fused off or replaced sets CFG_ERR (log entry 26); of one ARMED or RUNNING it does nothing; else it arms the engine and clears its fault code, a loop engine's next trigger begins a soft start, and its actuator's hold ends when neither of its engines is faulted. STOP stops an ARMED engine at once and a RUNNING one at its END. Binding QE11, both engines still and neither out of range, gives it or takes from it the place of the engine it replaces, with event 0x5005, a bound loop engine's place beginning a soft start; anything else is CFG_ERR, but a write without BIND while none is bound only stores REPLACES (log entry 25). While the engines' domain is not started each of these is only recorded. A trigger of an engine's own source does nothing where its configuration names no source, where another engine has its place or its domain is off, nor at a loop's place in UNLOADED; else the engine of the place is triggered with what its ports carry. A triggered engine that is still does nothing; a RUNNING one faults with code 5 after a committed bank took force; an ARMED one becomes RUNNING with these inputs, cleared registers, accumulators and flags, word 0 next, and its memories and published outputs kept. (Engines and Microcode; Servo and Quince Engines; Supplies, Clocks and Staged Start) -/
def Obligations.QuinceControl : Prop :=
  (∀ (n : Qe) (m : Nat) (s u : State), (s.dom 4 = true) → (m = s.qeRole n) → (u = ((s.setFs n [(.ENG_QE_CTRL_STATE, 1), (.ENG_QE_CTRL_FAULT, 0)]).setQe n { s.qe n with trigs := 0, stopPend := false }).softStart m) → 
      exec (.qeStart n) s = .next (if s.qeFused n = true ∨ s.b .ENG_QE_CTRL_BOUND n = true then s.cfgErr .eng (Fld.ENG_QE_CTRL_START.addr n)
     else if s.qeStill n = false then s
     else if m < 8 ∧ u.qeState (u.qeOf (m / 2 * 2)) ≠ 3 ∧ u.qeState (u.qeOf (m / 2 * 2 + 1)) ≠ 3 then u.setAct (m / 2) { u.act (m / 2) with hold := false }
     else u)) ∧
  (∀ (m : Nat) (s : State), 
      s.softStart m = (if m < 8 then s.setAct (m / 2) { s.act (m / 2) with softPend := true } else s)) ∧
  (∀ (n : Qe) (s : State), (s.dom 4 = true) → 
      exec (.qeStop n) s = .next (if s.qeState n = 1 then s.setF .ENG_QE_CTRL_STATE n 0
     else if s.qeState n = 2 then s.setQe n { s.qe n with stopPend := true } else s)) ∧
  (∀ (m : BitVec 4) (bind on : Bool) (r : Nat) (s u : State), (s.dom 4 = true) → (on = s.b .ENG_SPARE_QE_BIND 0) → (r = (if on = true then s.f .ENG_SPARE_QE_REPLACES 0 else m.toNat)) → (u = (s.setFs 0 [(.ENG_SPARE_QE_REPLACES, m.toNat), (.ENG_SPARE_QE_BIND, bind.toNat)]).setFs r [(.ENG_QE_CTRL_BOUND, bind.toNat), (.ENG_QE_CTRL_STATE, 0)]) → 
      exec (.spareQeBind m bind) s = .next (if on = false ∧ bind = false then s.setF .ENG_SPARE_QE_REPLACES 0 m.toNat
     else if on = bind ∨ 10 < r ∨ s.qeStill 11 = false ∨ s.qeStill r = false ∨ s.qeFused 11 = true then s.cfgErr .eng (Fld.ENG_SPARE_QE_BIND.addr 0)
     else if bind = true then (u.softStart r).event 0x5005 0 0 0 else u.event 0x5005 0 0 0)) ∧
  (∀ (n : Qe) (m : BitVec 4) (bind : Bool) (s : State), (s.dom 4 = false) → 
      exec (.qeStart n) s = .next (s.unstarted .eng) ∧ exec (.qeStop n) s = .next (s.unstarted .eng) ∧ exec (.spareQeBind m bind) s = .next (s.unstarted .eng)) ∧
  (∀ (n : Qe) (inputs : List (BitVec 16)) (m : Nat) (v : Nat → Nat) (s : State), (m = s.qeRole n) → (v = (fun i => (inputs.map BitVec.toNat).getD i 0)) → 
      exec (.qeTrigger n inputs) s = .next (if s.dom 4 = false ∨ s.f .SRV_QE_CFG_TRIG_SRC m = 0 ∨ s.qeOf m ≠ n ∨ (m < 8 ∧ s.mode (m / 2) = 0) then s
     else if m < 8 then if m % 2 = 0 then (s.rampStep (m / 2) (v 5) 0 0).qeTrigger m ((s.rampStep (m / 2) (v 5) 0 0).coarseInputs (m / 2) (v 5) (v 8))
       else (s.rampStep (m / 2) 0 (v 6) (v 7)).qeTrigger m ((s.rampStep (m / 2) 0 (v 6) (v 7)).fineInputs (m / 2) (v 6) (v 7))
     else if m = 8 then s.fireSpindle [v 0, v 1, v 2, v 3] (signed 16 (v 4)) (v 6)
     else if m = 9 ∨ m = 10 then s.fireThermal m
     else s.qeTrigger m (inputs.map BitVec.toNat))) ∧
  (∀ (k : Nat) (s t : State), (t = s.qeTrigger k (s.thermalInputs (k - 8))) → 
      s.fireThermal k = (if k = 9 ∧ s.qeState (s.qeOf 9) = 1 then t.sampleTrims else t)) ∧
  (∀ (m n : Nat) (inp : List Nat) (s t : State), (n = s.qeOf m) → (t = s.bankApply m) → 
      s.qeTrigger m inp = (if s.qeStill n = true then s else if t.qeState n = 2 then t.qeFault n 5
     else (t.setQe n { prog := (t.qe n).prog, coef := (t.qe n).coef, st := (t.qe n).st, outp := (t.qe n).outp, trigs := (t.qe n).trigs + 1, inp := (inp.mapIdx (fun i v => (i, v % 65536))).foldl (fun t e => Tbl.set t 0 e.1 e.2) ([] : Tbl Nat), lim := t.f .SRV_QE_LIM_RUN_LIM m }).setF .ENG_QE_CTRL_STATE n 2)) ∧
  (∀ (m : Nat) (s : State), 
      s.bankApply m = (if s.b .SRV_QE_CFG_COMMIT_PEND m = true then (s.apply .SRV_QE_CFG_BANK m).setB .SRV_QE_CFG_COMMIT_PEND m false else s))

/-- A row stands for one instruction word of an engine and acts where that is the word at the engine's program counter (log entry 13). Where the engine runs and the word is this one and can be read, the instruction writes its destination and nothing else but the engine's own record with the counter advanced, and the read of the program word: the accumulator wraps modulo 2^40, a product of two Q15 values is shifted left once, STH, ADD, SUB, MUL and ABS saturate and set SF, CMP and CMPA set Z and N exactly, SHA shifts left or toward minus infinity to the right, IN reads a sampled input and OUT holds its value until END. A result whose counter passes word 1,023 faults the engine with code 4 after it is written. (Engines and Microcode; Servo and Quince Engines) -/
def Obligations.QuinceRegisterInstructions : Prop :=
  (∀ (n : Qe) (s : State), (s.qeReady n (qWord 0x0 0 0 false 0) = true) → 
      exec (.qNop n) s = .next ((s.qeFetched n).qePut n ((s.qe n).next))) ∧
  (∀ (n : Qe) (a : Bool) (s : State), (s.qeReady n (qWord 0x1 0 0 a 0) = true) → 
      exec (.qClr n a) s = .next ((s.qeFetched n).qePut n ((s.qe n).next.setAcc a 0))) ∧
  (∀ (n : Qe) (a : Bool) (x : Fin 16) (s : State), (s.qeReady n (qWord 0x2 0 x a 0) = true) → 
      exec (.qLda n a x) s = .next ((s.qeFetched n).qePut n ((s.qe n).next.setAcc a ((s.qe n).next.reg x * 2 ^ 16)))) ∧
  (∀ (n : Qe) (a : Bool) (x t : Fin 16) (s : State), (s.qeReady n (qWord 0x3 0 x a t) = true) → 
      exec (.qLdp n a x t) s = .next ((s.qeFetched n).qePut n ((s.qe n).next.setAcc a (signed 32 (unsigned 16 ((s.qe n).next.reg x) * 2 ^ 16 + unsigned 16 ((s.qe n).next.reg t)))))) ∧
  (∀ (n : Qe) (a : Bool) (x t : Fin 16) (s : State), (s.qeReady n (qWord 0xA 0 x a t) = true) → 
      exec (.qMpyx n a x t) s = .next ((s.qeFetched n).qePut n ((s.qe n).next.setAcc a (2 * ((s.qe n).next.reg x * (s.qe n).next.reg t))))) ∧
  (∀ (n : Qe) (a : Bool) (x t : Fin 16) (s : State), (s.qeReady n (qWord 0xB 0 x a t) = true) → 
      exec (.qMacx n a x t) s = .next ((s.qeFetched n).qePut n ((s.qe n).next.setAcc a ((s.qe n).next.acc a + 2 * ((s.qe n).next.reg x * (s.qe n).next.reg t))))) ∧
  (∀ (n : Qe) (a : Bool) (s : State), (s.qeReady n (qWord 0xC 0 0 a 0) = true) → 
      exec (.qAdda n a) s = .next ((s.qeFetched n).qePut n ((s.qe n).next.setAcc a ((s.qe n).next.acc a + (s.qe n).next.acc (!a))))) ∧
  (∀ (n : Qe) (a : Bool) (s : State), (s.qeReady n (qWord 0xD 0 0 a 0) = true) → 
      exec (.qSuba n a) s = .next ((s.qeFetched n).qePut n ((s.qe n).next.setAcc a ((s.qe n).next.acc a - (s.qe n).next.acc (!a))))) ∧
  (∀ (n : Qe) (a : Bool) (sh : BitVec 4) (s : State), (s.qeReady n (qWord 0xE 0 0 a sh.toNat) = true) → 
      exec (.qSha n a sh) s = .next ((s.qeFetched n).qePut n ((s.qe n).next.setAcc a (if 0 ≤ sh.toInt then (s.qe n).next.acc a * 2 ^ sh.toInt.toNat else (s.qe n).next.acc a / 2 ^ (-sh.toInt).toNat)))) ∧
  (∀ (n : Qe) (d x : Fin 16) (s : State), (s.qeReady n (qWord 0x10 d x false 0) = true) → 
      exec (.qMov n d x) s = .next ((s.qeFetched n).qePut n ((s.qe n).next.setReg d ((s.qe n).next.reg x)))) ∧
  (∀ (n : Qe) (d : Fin 16) (imm : BitVec 16) (s : State), (s.qeReady n (qWord 0x11 d 0 false imm.toNat) = true) → 
      exec (.qLdi n d imm) s = .next ((s.qeFetched n).qePut n ((s.qe n).next.setReg d imm.toInt))) ∧
  (∀ (n : Qe) (d : Fin 16) (p : Fin 32) (s : State), (s.qeReady n (qWord 0x13 d 0 false p) = true) → 
      exec (.qIn n d p) s = .next ((s.qeFetched n).qePut n ((s.qe n).next.setReg d (signed 16 (Tbl.get (s.qe n).inp 0 p))))) ∧
  (∀ (n : Qe) (x : Fin 16) (p : Fin 32) (s : State), (s.qeReady n (qWord 0x14 0 x false p) = true) → 
      exec (.qOut n x p) s = .next ((s.qeFetched n).qePut n ({ (s.qe n).next with outPend := Tbl.set (s.qe n).outPend 0 p (unsigned 16 ((s.qe n).next.reg x) + 1) }))) ∧
  (∀ (n : Qe) (d x t : Fin 16) (s : State), (s.qeReady n (qWord 0x15 d x false t) = true) → 
      exec (.qAdd n d x t) s = .next ((s.qeFetched n).qePut n ((s.qe n).next.satReg d ((s.qe n).next.reg x + (s.qe n).next.reg t)))) ∧
  (∀ (n : Qe) (d x t : Fin 16) (s : State), (s.qeReady n (qWord 0x16 d x false t) = true) → 
      exec (.qSub n d x t) s = .next ((s.qeFetched n).qePut n ((s.qe n).next.satReg d ((s.qe n).next.reg x - (s.qe n).next.reg t)))) ∧
  (∀ (n : Qe) (d x t : Fin 16) (s : State), (s.qeReady n (qWord 0x17 d x false t) = true) → 
      exec (.qMul n d x t) s = .next ((s.qeFetched n).qePut n ((s.qe n).next.satReg d ((2 * ((s.qe n).next.reg x * (s.qe n).next.reg t) + 2 ^ 15) / 2 ^ 16)))) ∧
  (∀ (n : Qe) (d : Fin 16) (a : Bool) (s : State), (s.qeReady n (qWord 0x18 d 0 a 0) = true) → 
      exec (.qSth n d a) s = .next ((s.qeFetched n).qePut n ((s.qe n).next.satReg d (((s.qe n).next.acc a + 2 ^ 15) / 2 ^ 16)))) ∧
  (∀ (n : Qe) (d : Fin 16) (a : Bool) (s : State), (s.qeReady n (qWord 0x19 d 0 a 0) = true) → 
      exec (.qStl n d a) s = .next ((s.qeFetched n).qePut n ((s.qe n).next.setReg d ((s.qe n).next.acc a)))) ∧
  (∀ (n : Qe) (d x : Fin 16) (s : State), (s.qeReady n (qWord 0x1B d x false 0) = true) → 
      exec (.qAbs n d x) s = .next ((s.qeFetched n).qePut n ((s.qe n).next.satReg d |(s.qe n).next.reg x|))) ∧
  (∀ (n : Qe) (d x t : Fin 16) (s : State), (s.qeReady n (qWord 0x1C d x false t) = true) → 
      exec (.qAnd n d x t) s = .next ((s.qeFetched n).qePut n ({ (s.qe n).next with x := Tbl.set (s.qe n).x 0 d (Tbl.get (s.qe n).x 0 x &&& Tbl.get (s.qe n).x 0 t) }))) ∧
  (∀ (n : Qe) (d x t : Fin 16) (s : State), (s.qeReady n (qWord 0x1D d x false t) = true) → 
      exec (.qOr n d x t) s = .next ((s.qeFetched n).qePut n ({ (s.qe n).next with x := Tbl.set (s.qe n).x 0 d (Tbl.get (s.qe n).x 0 x ||| Tbl.get (s.qe n).x 0 t) }))) ∧
  (∀ (n : Qe) (x t : Fin 16) (s : State), (s.qeReady n (qWord 0x20 0 x false t) = true) → 
      exec (.qCmp n x t) s = .next ((s.qeFetched n).qePut n ({ (s.qe n).next with z := (s.qe n).next.reg x == (s.qe n).next.reg t, n := decide ((s.qe n).next.reg x < (s.qe n).next.reg t) }))) ∧
  (∀ (n : Qe) (a : Bool) (s : State), (s.qeReady n (qWord 0x21 0 0 a 0) = true) → 
      exec (.qCmpa n a) s = .next ((s.qeFetched n).qePut n ({ (s.qe n).next with z := (s.qe n).next.acc a == 0, n := decide ((s.qe n).next.acc a < 0) }))) ∧
  (∀ (s : State) (n : Nat) (q : Quince), 
      s.qePut n q = (if q.pc < 1024 then s.setQe n q else (s.setQe n q).qeFault n 4)) ∧
  (∀ (q : Quince) (a : Bool) (d : Fin 16) (v : Int), 
      (q.setAcc a v).acc a = (BitVec.ofInt 40 v).toInt ∧ (q.setAcc a v).acc (!a) = q.acc (!a) ∧
     (q.setReg d v).reg d = (BitVec.ofInt 16 v).toInt ∧ (q.satReg d v).reg d = max (-32768) (min 32767 v) ∧
     ((q.satReg d v).sf = true ↔ q.sf = true ∨ v < -32768 ∨ 32767 < v) ∧ (∀ e, e ≠ d.val → (q.satReg d v).reg e = q.reg e ∧ (q.setReg d v).reg e = q.reg e)) ∧
  (∀ (q : Quince) (v : Int) (a : Bool) (d : Fin 16), 
      (∃ m, q.setAcc a v = (if a = true then { q with acb := m } else { q with aca := m })) ∧ (∃ y, q.setReg d v = { q with x := y }) ∧
     (∃ y f, q.satReg d v = { q with x := y, sf := f }))

/-- Where the engine runs and its word is this one and can be read: LDS and ADDS take a state word, STS stores all 40 bits of an accumulator, MPY, MAC, MSU and LDC take a coefficient of the bank in force; CLAMP and LIM hold a value between a pair of coefficients and set CF when they change it, the pair at the last coefficient being fault 4. While the array is being initialised the instruction does not complete and is executed again; an uncorrectable coefficient faults the engine with code 2, an uncorrectable state word with code 3. The program word's own read corrects and counts a single error. (Engines and Microcode; Servo and Quince Engines; Buffer Memory, the Bramble Cache and Data Integrity) -/
def Obligations.QuinceMemoryInstructions : Prop :=
  (∀ (n : Qe) (a : Bool) (x : Fin 16) (k : Byte) (s : State), (s.qeReady n (qWord 0x7 0 x a k.toNat) = true) → 
      exec (.qMpy n a x k) s = .next (if (s.qeFetched n).initBusy 0x0D = true then s.qeFetched n
     else if ((s.qeFetched n).coefRead n k.toNat).1 = 2 then ((s.qeFetched n).coefRead n k.toNat).2.qeFault n 2
     else ((s.qeFetched n).coefRead n k.toNat).2.qePut n ((s.qe n).next.setAcc a (2 * ((s.qe n).next.reg x * (s.qeFetched n).coefAt n k.toNat))))) ∧
  (∀ (n : Qe) (a : Bool) (x : Fin 16) (k : Byte) (s : State), (s.qeReady n (qWord 0x8 0 x a k.toNat) = true) → 
      exec (.qMac n a x k) s = .next (if (s.qeFetched n).initBusy 0x0D = true then s.qeFetched n
     else if ((s.qeFetched n).coefRead n k.toNat).1 = 2 then ((s.qeFetched n).coefRead n k.toNat).2.qeFault n 2
     else ((s.qeFetched n).coefRead n k.toNat).2.qePut n ((s.qe n).next.setAcc a ((s.qe n).next.acc a + 2 * ((s.qe n).next.reg x * (s.qeFetched n).coefAt n k.toNat))))) ∧
  (∀ (n : Qe) (a : Bool) (x : Fin 16) (k : Byte) (s : State), (s.qeReady n (qWord 0x9 0 x a k.toNat) = true) → 
      exec (.qMsu n a x k) s = .next (if (s.qeFetched n).initBusy 0x0D = true then s.qeFetched n
     else if ((s.qeFetched n).coefRead n k.toNat).1 = 2 then ((s.qeFetched n).coefRead n k.toNat).2.qeFault n 2
     else ((s.qeFetched n).coefRead n k.toNat).2.qePut n ((s.qe n).next.setAcc a ((s.qe n).next.acc a - 2 * ((s.qe n).next.reg x * (s.qeFetched n).coefAt n k.toNat))))) ∧
  (∀ (n : Qe) (d : Fin 16) (k : Byte) (s : State), (s.qeReady n (qWord 0x12 d 0 false k.toNat) = true) → 
      exec (.qLdc n d k) s = .next (if (s.qeFetched n).initBusy 0x0D = true then s.qeFetched n
     else if ((s.qeFetched n).coefRead n k.toNat).1 = 2 then ((s.qeFetched n).coefRead n k.toNat).2.qeFault n 2
     else ((s.qeFetched n).coefRead n k.toNat).2.qePut n ((s.qe n).next.setReg d ((s.qeFetched n).coefAt n k.toNat)))) ∧
  (∀ (n : Qe) (a : Bool) (k : Byte) (s : State), (s.qeReady n (qWord 0x4 0 0 a k.toNat) = true) → 
      exec (.qLds n a k) s = .next (if (s.qeFetched n).initBusy 0x0E = true then s.qeFetched n
     else if ((s.qeFetched n).wordRead n k.toNat).1 = 2 then ((s.qeFetched n).wordRead n k.toNat).2.qeFault n 3
     else ((s.qeFetched n).wordRead n k.toNat).2.qePut n ((s.qe n).next.setAcc a ((s.qeFetched n).wordAt n k.toNat)))) ∧
  (∀ (n : Qe) (a : Bool) (k : Byte) (s : State), (s.qeReady n (qWord 0x6 0 0 a k.toNat) = true) → 
      exec (.qAdds n a k) s = .next (if (s.qeFetched n).initBusy 0x0E = true then s.qeFetched n
     else if ((s.qeFetched n).wordRead n k.toNat).1 = 2 then ((s.qeFetched n).wordRead n k.toNat).2.qeFault n 3
     else ((s.qeFetched n).wordRead n k.toNat).2.qePut n ((s.qe n).next.setAcc a ((s.qe n).next.acc a + (s.qeFetched n).wordAt n k.toNat)))) ∧
  (∀ (n : Qe) (a : Bool) (k : Byte) (s : State), (s.qeReady n (qWord 0x5 0 0 a k.toNat) = true) → 
      exec (.qSts n a k) s = .next (if (s.qeFetched n).initBusy 0x0E = true then s.qeFetched n
     else ((s.qeFetched n).sramWritten 0x0E (n * 256 + k.toNat)).qePut n { (s.qe n).next with st := Tbl.set (s.qe n).st 0 k.toNat (unsigned 40 ((s.qe n).acc a)) })) ∧
  (∀ (n : Qe) (a : Bool) (k : Byte) (s u v : State) (q : Quince) (lo hi m : Int), (s.qeReady n (qWord 0xF 0 0 a k.toNat) = true) → (u = s.qeFetched n) → (v = (u.coefRead n k.toNat).2) → (q = (s.qe n).next) → (lo = u.coefAt n k.toNat) → (hi = v.coefAt n (k.toNat + 1)) → (m = max (lo * 2 ^ 16) (min (hi * 2 ^ 16) (q.acc a))) → 
      exec (.qClamp n a k) s = .next (if k.toNat = 255 then u.qeFault n 4 else if u.initBusy 0x0D = true then u
     else if (u.coefRead n k.toNat).1 = 2 then v.qeFault n 2 else if v.initBusy 0x0D = true then v
     else if (v.coefRead n (k.toNat + 1)).1 = 2 then (v.coefRead n (k.toNat + 1)).2.qeFault n 2
     else (v.coefRead n (k.toNat + 1)).2.qePut n { q.setAcc a m with cf := q.cf || decide (m ≠ q.acc a) })) ∧
  (∀ (n : Qe) (d x : Fin 16) (k : Byte) (s u v : State) (q : Quince) (lo hi m : Int), (s.qeReady n (qWord 0x1A d x false k.toNat) = true) → (u = s.qeFetched n) → (v = (u.coefRead n k.toNat).2) → (q = (s.qe n).next) → (lo = u.coefAt n k.toNat) → (hi = v.coefAt n (k.toNat + 1)) → (m = max lo (min hi (q.reg x))) → 
      exec (.qLim n d x k) s = .next (if k.toNat = 255 then u.qeFault n 4 else if u.initBusy 0x0D = true then u
     else if (u.coefRead n k.toNat).1 = 2 then v.qeFault n 2 else if v.initBusy 0x0D = true then v
     else if (v.coefRead n (k.toNat + 1)).1 = 2 then (v.coefRead n (k.toNat + 1)).2.qeFault n 2
     else (v.coefRead n (k.toNat + 1)).2.qePut n { q.setReg d m with cf := q.cf || decide (m ≠ q.reg x) })) ∧
  (∀ (n k : Nat) (s : State), 
      s.coefAt n k = signed 16 (Tbl.get (s.qe n).coef 0 (s.g .SRV_QE_CFG_BANK (s.qeRole n) * 256 + k)) ∧
     s.coefRead n k = s.sramRead 0x0D (n * 512 + (s.g .SRV_QE_CFG_BANK (s.qeRole n) * 256 + k)) ∧
     s.wordAt n k = signed 40 (Tbl.get (s.qe n).st 0 k) ∧ s.wordRead n k = s.sramRead 0x0E (n * 256 + k) ∧
     (s.qeFetched n).qe n = s.qe n ∧ (s.coefRead n k).2.qe n = s.qe n ∧ (s.wordRead n k).2.qe n = s.qe n)

/-- Where the engine runs and its word is this one and can be read: JMP goes to its target; BR to its target when its condition holds, else on, and a condition above 9 faults the engine with code 4; SIG shows its bits, sets SIG_EV and records event 0x8009; END publishes the held outputs together, reports the run and its length, and arms the engine again or stops it where STOP has been written, and what it published is handed to what the engine's place drives. A word that R271 calls illegal faults the engine with code 4. Of every row of an instruction: the engine not RUNNING, or the word at its counter another one, it changes nothing (log entry 13); an uncorrectable program word faults the engine with code 1. A fault ends the run in FAULT with its code, sets FAULT_EV, drops the held outputs, records event 0x5003 and begins the hold of a loop's outputs with event 0x8006. (Engines and Microcode; Servo and Quince Engines; Scope and Conventions) -/
def Obligations.QuinceFlowAndEnd : Prop :=
  (∀ (n : Qe) (target : BitVec 10) (s : State), (s.qeReady n (qWord 0x22 0 0 false target.toNat) = true) → 
      exec (.qJmp n target) s = .next ((s.qeFetched n).qePut n ({ (s.qe n).next with pc := target.toNat }))) ∧
  (∀ (n : Qe) (cond : BitVec 4) (target : BitVec 10) (s : State), (s.qeReady n (qWord 0x23 cond.toNat 0 false target.toNat) = true) → 
      exec (.qBr n cond target) s = .next (if 9 < cond.toNat then (s.qeFetched n).qeFault n 4
     else (s.qeFetched n).qePut n (if (s.qe n).next.brCond cond.toNat = true then { (s.qe n).next with pc := target.toNat } else (s.qe n).next))) ∧
  (∀ (n : Qe) (b : BitVec 4) (s : State), (s.qeReady n (qWord 0x24 0 0 false b.toNat) = true) → 
      exec (.qSig n b) s = .next (((((s.qeFetched n).setF .SRV_QE_STAT_SIG ((s.qeFetched n).qeRole n) b.toNat).setB .SRV_STATUS_SIG_EV 0 true).event 0x8009 0 0 0).qePut n (s.qe n).next)) ∧
  (∀ (n : Qe) (s : State), (s.qeReady n (qWord 0x3F 0 0 false 0) = true) → 
      exec (.qEnd n) s = .next (((s.qeFetched n).qeFinish n (s.qe n).next).drive ((s.qeFetched n).qeRole n))) ∧
  (∀ (c : Nat) (q : Quince), (c ≤ 9) → 
      q.brCond c = (if c = 0 then q.z else if c = 1 then !q.z else if c = 2 then q.n else if c = 3 then !q.n else if c = 4 then q.cf
     else if c = 5 then !q.cf else if c = 6 then q.sf else if c = 7 then !q.sf else if c = 8 then q.z || q.n else !q.z && !q.n)) ∧
  (∀ (n : Qe) (w : Nat) (s : State), (w = Tbl.get (s.qe n).prog 0 (s.qe n).pc) → 
      exec (.illegalInstruction n) s = .next (if s.qeState n ≠ 2 then s
     else if (s.sramRead 0x0C (n * 1024 + (s.qe n).pc)).1 = 2 then (s.qeFetched n).qeFault n 1
     else if qIllegal w = true then ((s.qeFetched n).setQe n (s.qe n).next).qeFault n 4 else s)) ∧
  (∀ (c : Instr) (n w : Nat) (s : State), (qeRow c = some (n, w)) → 
      (s.qeState n ≠ 2 → exec c s = .next s) ∧
     (s.qeState n = 2 → (s.sramRead 0x0C (n * 1024 + (s.qe n).pc)).1 = 2 → exec c s = .next ((s.qeFetched n).qeFault n 1)) ∧
     (s.qeState n = 2 → (s.sramRead 0x0C (n * 1024 + (s.qe n).pc)).1 ≠ 2 → Tbl.get (s.qe n).prog 0 (s.qe n).pc ≠ w → exec c s = .next s)) ∧
  (∀ (n : Nat) (q : Quince) (s t u v : State) (m len : Nat), (m = s.qeRole n) → (len = min 4095 q.count) → (t = (s.setQe n { q with outp := q.outPend.foldl (fun t e => Tbl.set t 0 e.1 (e.2 - 1)) q.outp, outPend := [], stopPend := false }).setF .ENG_QE_CTRL_STATE n (if q.stopPend = true then 0 else 1)) → (u = (t.setFs m [(.SRV_QE_STAT_LAST, len), (.SRV_QE_STAT_MAX, max len (t.f .SRV_QE_STAT_MAX m)), (.SRV_QE_STAT_CF, q.cf.toNat), (.SRV_QE_STAT_SF, q.sf.toNat)]).inc .SRV_QE_CNT_RUNS m 1) → (v = (if q.cf = true then u.inc .SRV_QE_CNT_CLAMPS m 1 else u)) → 
      s.qeFinish n q = (if q.lim < q.count then ((v.setB .SRV_QE_STAT_LATE m true).setB .SRV_STATUS_LATE_EV 0 true).event 0x8005 0 0 0 else v)) ∧
  (∀ (n c m : Nat) (s t : State), (m = s.qeRole n) → (t = (((s.setQe n { s.qe n with outPend := [], stopPend := false }).setFs n [(.ENG_QE_CTRL_STATE, 3), (.ENG_QE_CTRL_FAULT, c)]).setB .ENG_STATUS_FAULT_EV 0 true).event 0x5003 n c 0) → 
      s.qeFault n c = (if m < 8 then (t.setAct (m / 2) { t.act (m / 2) with hold := true }).event 0x8006 0 0 0 else t))

/-- Each command is issued once, where the word in execution spells it and its turn in the word has come (log entry 13), and does nothing otherwise; it acts on the sequencer's lane while the lane's domain is on. ARM_READ and ARM_WRITE arm the lane for the head and track of the address in S0-S1, and begin the ring item in hand if the lane has none; they end the item MALFORMED instead with DETAIL 0x25 where the partner lane has the head, 0x24 for a write on an odd lane, 0x20 for a head of another actuator. SECTOR writes the next sector, of a lane that is armed for writing and ready: the parity sector after a group's data, the header of an opened band first, else the field last fetched, and ends the item POISONED where that is bad. REPLAY has the oldest sector that waits take the step named; ZONE selects a zone entry that the armed head and track and the tier agree with, and with any other ends the item MALFORMED with DETAIL 0x21; ASSIST sets the code of the item's later sectors; DISARM lets go. DMA_FETCH and FETCH_RAW bring a field in and tell whether it was good, with and without the block check, STORE puts one out; each is refused with fault 5 outside fitted memory or in DRAM out of service. (Engines and Microcode; Recording Channels; Buffer Memory, the Bramble Cache and Data Integrity; Thermal Management and Calibration) -/
def Obligations.FormatterCommands : Prop :=
  (∀ (n : Cs) (s u : State), (u = s.issuing n laneCmd) → 
      exec (.armRead n) s = .next (if s.issues n 0 laneCmd 1 anyWord = true then (u.atLane n (fun l => u.armItem n l false)).advance n else s) ∧
     exec (.armWrite n) s = .next (if s.issues n 0 laneCmd 2 anyWord = true then (u.atLane n (fun l => u.armItem n l true)).advance n else s) ∧
     exec (.disarm n) s = .next (if s.issues n 0 laneCmd 7 anyWord = true then (u.atLane n (fun l => (u.laneDrop l).disarmLane l)).advance n else s)) ∧
  (∀ (n l pma : Nat) (wr : Bool) (s t : State), (pma = s.sreg n 0 + 2 ^ 32 * s.sreg n 1) → (t = s.armLane l (pmaHead pma) (pmaTrack pma) wr) → 
      s.armItem n l wr = (if s.b .CHN_STATUS_ARMED (partner l) = true ∧ s.laneHead (partner l) = pmaHead pma then s.post n 2 0x25 0
     else if wr = true ∧ l % 2 = 1 then s.post n 2 0x24 0
     else if pmaHead pma / 6 ≠ l / 2 then s.post n 2 0x20 0
     else if (t.lane l).op = none then (t.ringItem n).elim t (fun e => (t.laneHeader (dOpc e.1) pma).2.updLane l (fun x => { x with
       op := some { laneOpOf (.ring e.2.1 e.2.2) e.1 pma with header := (t.laneHeader (dOpc e.1) pma).1 } }))
     else t)) ∧
  (∀ (n : Cs) (s u v : State), (u = s.issuing n laneCmd) → (v = (u.setDone n 0x41 false).setDone n 0x42 false) → 
      exec (.sector n) s = .next (if s.issues n 0 laneCmd 3 anyWord = true then (u.atLane n (fun l => v.onWrite l (fun t o =>
     if isParity (zSpt (t.lane l).zone) o.next = true then (t.putSector l o (fieldOf o.acc)).writeEnd l
     else if o.bandHeader.isSome = true then (t.putSector l o (o.bandHeader.getD [])).writeEnd l
     else if (t.lane l).bufBad = true then t.laneFinish l 7 0 o.done
     else (t.putSector l o (fieldOf (t.lane l).buf)).writeEnd l))).advance n else s)) ∧
  (∀ (l : Nat) (g : State → LaneOp → State) (s : State), 
      s.onWrite l g = (s.lane l).op.elim s (fun o => if o.opc ≠ 2 then s else (s.writeStop l o).elim
     (if s.b .CHN_STATUS_PA_FLT l = true then s.writeFault l 2 else if s.b .CHN_STATUS_LANE_READY l = true ∧ (s.lane l).armWrite = true then g (s.laneGap l) o else s)
     (fun c => s.laneFinish l c 0 o.done))) ∧
  (∀ (n : Cs) (off : BitVec 5) (set : BitVec 3) (idx : BitVec 10) (code : Byte) (s u : State), (u = s.issuing n laneCmd) → 
      exec (.replay n off set) s = .next (if s.issues n 0 laneCmd 4 (fun w => bits (wImm w) 4 0 == off.toNat && bits (wImm w) 7 5 == set.toNat) = true then
       (u.atLane n (fun l => (u.firstIn l 3).elim u (fun x => u.replay l x.pos off.toInt set.toNat))).advance n else s) ∧
     exec (.assist n code) s = .next (if s.issues n 0 laneCmd 6 (fun w => wImm w % 256 == code.toNat) = true then
       (u.atLane n (fun l => u.updOp l (fun o => { o with assist := some code.toNat }))).advance n else s) ∧
     exec (.zone n idx) s = .next (if s.issues n 0 laneCmd 5 (fun w => bits (wImm w) 9 0 == idx.toNat) = true then
       (u.atLane n (fun l => if u.b .CHN_STATUS_ARMED l = true ∧ zoneOk (u.zoneEntry (u.f .CHN_ZT_ACTIVE 0) idx.toNat) (u.laneHead l) (u.lane l).track
           (u.f .CHN_ZT_TIER_NOW 0) = true then u.zoneTake l idx.toNat (u.zoneEntry (u.f .CHN_ZT_ACTIVE 0) idx.toNat)
         else if ((u.zoneRefuse l).lane l).op.isSome = true then (u.zoneRefuse l).laneFinish l 2 0x21 0 else (u.zoneRefuse l).post n 2 0x21 0)).advance n else s)) ∧
  (∀ (n : Cs) (a : Nat) (s u v : State), (u = s.issuing n dmaCmd) → (a = u.spair n 2) → (v = (u.fetch (.seq n) a 4160).2) → 
      exec (.dmaFetch n) s = .next (if s.issues n 0 dmaCmd 1 anyWord = true then (u.atLane n (fun l => if u.refused a 4160 = true then u.csFault n 5
       else (if fieldCheck ((v.lane l).op.elim 0 (fun o => o.seedLba o.next)) (u.fetch (.seq n) a 4160).1 = true
         then (v.updLane l (fun x => { x with buf := (u.fetch (.seq n) a 4160).1, bufBad := v.bad a 4160 })).setDone n 0x45 (v.bad a 4160)
         else ((v.event 0x3009 0 0 0).updLane l (fun x => { x with buf := (u.fetch (.seq n) a 4160).1, bufBad := true })).setDone n 0x45 true).setDone n 0x44 true)).advance n
       else s) ∧
     exec (.fetchRaw n) s = .next (if s.issues n 0 dmaCmd 2 anyWord = true then (u.atLane n (fun l => if u.refused a 4160 = true then u.csFault n 5
       else ((v.updLane l (fun x => { x with buf := (u.fetch (.seq n) a 4160).1, bufBad := v.bad a 4160 })).setDone n 0x45 (v.bad a 4160)).setDone n 0x44 true)).advance n
       else s) ∧
     exec (.store n) s = .next (if s.issues n 0 dmaCmd 3 anyWord = true then (u.atLane n (fun l => if u.refused a 4160 = true then u.csFault n 5
       else (u.wr a (fieldOf (u.lane l).buf)).setDone n 0x44 true)).advance n else s))

/-- Each command is issued once, where the word in execution spells it and its turn in the word has come (log entry 13), and does nothing otherwise. POST, of a class that has it, completes the ring item that its sequencer holds with CODE; a lane's item ends on its lane. How many units it reports is the model's choice (log entry 28). TAKE, after a POST of the same word, goes on with the next descriptor of the chain when it waits and its target is the same; one with a stale tag completes STALE_EPOCH instead. SELECT puts the next ring by weight in S15. RING_FETCH grants the ring in S15 (log entry 112), when eligible and its entries not in Work SRAM under initialisation, a chain: it is fetched, checked, and the fetch index advances. FORWARD queues a waiting descriptor, the first not done of its chain, at the word's target, or completes it STALE_EPOCH or THERMAL_DEFERRED; the pause gate keeps it back, a full queue shows FULL. COMPLETE completes a descriptor in progress wherever it stands, a stale tag being counted (log entry 111). RING_ERROR stops the ring's fetching at its index. (Engines and Microcode; Media Work Rings; Command Intake and Ledger; Thermal Management and Calibration; Buffer Memory, the Bramble Cache and Data Integrity) -/
def Obligations.PostAndRingCommands : Prop :=
  (∀ (n : Cs) (code : Byte) (cls : Nat) (s u : State), (cls = (s.csClass n).getD 1) → (u = s.issuing n (postBit cls)) → 
      exec (.post n code) s = .next (if cls = 1 ∨ cls = 2 ∨ s.issues n cls (postBit cls) 1 (fun w => postCode cls w == code.toNat) = false then s
     else ((u.ringItem n).elim u (fun e => if u.csClass n = some 0 ∧ (u.csTarget n).isSome = true then
         ((u.lane ((u.csTarget n).getD 0)).op.elim (u.post n code.toNat 0 (if code = 0 then dCount e.1 else 0))
           (fun o => u.laneFinish ((u.csTarget n).getD 0) code.toNat 0 (if code = 0 then o.count else o.done)))
       else u.post n code.toNat (u.cs n).detail (if code = 0 then dCount e.1 else 0))).advance n)) ∧
  (∀ (n : Cs) (cls : Nat) (s u : State), (cls = (s.csClass n).getD 1) → (u = s.issuing n (takeBit cls)) → 
      exec (.take n) s = .next (if (cls ≠ 0 ∧ cls ≠ 4) ∨ (bits (s.curWord n) (postBit cls).1 (postBit cls).2 = 1 ∧ (s.cs n).issued.contains (postBit cls).2 = false) ∨
       s.issues n cls (takeBit cls) 1 anyWord = false then s
     else (u.takeNext n).advance n)) ∧
  (∀ (n r i t : Nat) (c : Chain) (d : Desc) (s : State), ((s.cs n).item = none) → ((s.cs n).prev = some (r, i)) → (s.csTarget n = some t) → ((s.ring r).chains.find? (fun c => c.descs.any (fun d => d.idx == i)) = some c) → (c.descs.find? (fun d => d.st != .done) = some d) → 
      s.takeNext n = (if d.st ≠ .waiting ∨ dTarget d.words ≠ t then s else if dTagged d.words = true ∧ s.tagLive (dTag d.words) = false
     then s.stale.descDone r d.idx 8 0 0 else s.takeDesc n r d.idx d.words)) ∧
  (∀ (n : Nat) (s : State), ((s.cs n).item ≠ none ∨ (s.cs n).prev = none ∨ s.csTarget n = none) → 
      s.takeNext n = s) ∧
  (∀ (n : Cs) (m : Nat) (s u : State), (u = s.issuing n unitCmd) → (u.csAs n = some m) → 
      exec (.select n) s = .next (if s.issues n 1 unitCmd 1 anyWord = true then
     ((u.selectRing (m - 16)).1.elim (u.selectRing (m - 16)).2 (fun r => (u.selectRing (m - 16)).2.setSreg n 15 r)).advance n else s)) ∧
  (∀ (n : Cs) (r : Ring) (i : BitVec 16) (code : Byte) (s u : State), (u = s.issuing n unitCmd) → 
      exec (.ringFetch n r) s = .next (if s.issues n 1 unitCmd 2 anyWord = true then (if u.csAs n = some (16 + r.val % 8) ∧ u.sreg n 15 = r ∧ u.eligible r = true ∧
       ¬ (u.initBusy 0 = true ∧ inWork (u.ringBase r) 1 = true) then u.grantChain n r else u).advance n else s) ∧
     exec (.forward n r i) s = .next (if s.issues n 1 unitCmd 3 anyWord = true then
       (if u.csAs n = some (16 + r.val % 8) then u.forward n r i.toNat (u.wordTarget n) else u).advance n else s) ∧
     exec (.complete n r i code) s = .next (if s.issues n 1 unitCmd 4 (fun w => bits w 39 32 == code.toNat) = true then
       (if u.csAs n = some (16 + r.val % 8) then (u.descOf r i.toNat).elim (u.setDone n 0x43 false) (fun d =>
         (((((List.range 44).foldl (fun v m => if (v.ringItem m).map Prod.snd = some (r.val, i.toNat) then v.dropItem m else v) u).unqueue r i.toNat).descDone r i.toNat
           code.toNat 0 0).ringStale d.words).setDone n 0x43 false) else u).advance n else s) ∧
     exec (.ringError n r) s = .next (if s.issues n 1 unitCmd 5 anyWord = true then
       (if u.csAs n = some (16 + r.val % 8) ∧ (u.ringState r = 1 ∨ u.ringState r = 2) ∧ (u.ring r).stop = none then
         (u.setRing r { u.ring r with stop := some (u.ringFetch r, 0, u.ringFetch r) }).setFs r [(.MWR_RING_ERR_ERR_INDEX, u.ringFetch r), (.MWR_RING_FETCH_ERR_DETAIL, 0)]
        else u).advance n else s)) ∧
  (∀ (n r : Nat) (s t u v : State), (t = s.updMwr (fun m => { m with last := Tbl.set m.last 0 (2 * (r % 8) + (if s.b .MWR_RING_CFG_PRIO r = true then 0 else 1)) r })) → (u = (t.fetchChain r).updCs n (fun q => { q with desc := t.entryWords r (t.ringFetch r) })) → (v = ((u.fetchSkip r (u.ring r).fin.length).roundEnd (r % 8)).setDone n 0x41 true) → 
      s.grantChain n r = v.setDone n 0x44 ((u.ring r).chains.length == (t.ring r).chains.length)) ∧
  (∀ (n r i t : Nat) (c : Chain) (d : Desc) (s : State), (s.chainOf r i = some c) → (c.descs.find? (fun d => d.st != .done) = some d) → 
      s.forward n r i t = (if d.idx ≠ i ∨ d.st ≠ .waiting then s
     else if dTagged d.words = true ∧ s.tagLive (dTag d.words) = false then (s.setDone n 0x45 true).stale.descDone r i 8 0 0
     else if (dOpc d.words = 0x02 ∨ dOpc d.words = 0x21) ∧ s.headHeld (pmaHead (dPma d.words)) = true ∧ s.calRing r = false then s.descDone r i 6 0 0
     else if s.gated d.words = true then s
     else if queueLimit t ≤ (s.tq t).length then s.setDone n 0x42 true
     else (((s.setDone n 0x42 false).setDesc r i .queued).setTq t (s.tq t ++ [(r, i)])).handOver t)) ∧
  (∀ (n r i t : Nat) (s : State), (s.chainOf r i = none) → 
      s.forward n r i t = s)

/-- Each command is issued once, where the word in execution spells it and its turn in the word has come (log entry 13), and does nothing otherwise; one that needs a command in hand does nothing more without it. FETCH_SQE does nothing while the next grant is of another queue than the one it names (log entry 13), and only ends without a grant or with a command in hand; else it takes that grant: the entry is asked of host memory, or read in the CMB, where a CMB outside memory or in DRAM out of service is fault 5; the command is in flight from then on, event 0x2003 being recorded while LIMIT stands. TX sends the blocks of a hit, whose slots are then read, or what firmware has ready at an address; what is bad goes out marked, with event 0x1006 and Data Transfer Error or the block check's status in S13, and a protection-information mismatch sends nothing and leaves its status there. RX takes a block from the CMB, or asks host memory for it, or stores the one that came; a mismatch is not stored. Either is fault 5 where the memory named is refused. POST_CQE posts the completion with the status in S13, once, unless it must wait; MSIX raises the vector of its completion queue; PREFETCH brings in a line, and is fault 5 with DRAM out of service. How entries and status fields are laid out is presumed from NVMe (log entry 12). (Engines and Microcode; Host Endpoint; Command Intake and Ledger; Buffer Memory, the Bramble Cache and Data Integrity; Boot, Measurement and Keys) -/
def Obligations.HostCommands : Prop :=
  (∀ (n : Cs) (p : Port) (q : Fin 1025) (s u : State), (u = s.issuing n unitCmd) → (u.ciu.grants = [] ∨ (u.cs n).idle = false) → 
      exec (.fetchSqe n p q) s = .next (if s.grantIs p q = true ∧ s.issues n 2 unitCmd 1 anyWord = true then u.advance n else s)) ∧
  (∀ (n : Cs) (p : Port) (q : Fin 1025) (s : State), 
      s.grantIs p q = s.ciu.grants.head?.all (fun g => g.p == p.val && g.q == q.val) ∧ (s.grantIs p q = false → exec (.fetchSqe n p q) s = .next s)) ∧
  (∀ (n : Cs) (q : Fin 1025) (g : Grant) (rest : List Grant) (p : Port) (s u v w : State), (u = s.issuing n unitCmd) → (u.ciu.grants = g :: rest) → ((u.cs n).idle = true) → (g.p = p.val) → (g.q = q.val) → (v = ((((u.dropItem n).updCiu (fun c => { c with grants := rest })).setDone n 0x41 false).setDone n 0x46 false).setInflight (((u.dropItem n).updCiu (fun c => { c with grants := rest })).f .CIU_OVL_STAT_INFLIGHT 0 + 1)) → (w = (if (u.sq p g.q).cmb = true then v.fetchCmb n p g else v.request p (.sqe g.q n g.order false) ((u.sq p g.q).base + 64 * g.i) 64)) → 
      exec (.fetchSqe n p q) s = .next (if s.issues n 2 unitCmd 1 anyWord = true then
     (if (u.sq p g.q).cmb = true ∧ u.refused (u.cmbBase p) (2 ^ 26) = true then u.csFault n 5
      else if w.b .CIU_STATUS_LIMIT 0 = true then w.eventOnce 0x2003 0x2003 0 0 0 else w).advance n else s)) ∧
  (∀ (n : Cs) (src dst : Addr) (len : Nat) (pi : PiResult) (lba : BitVec 64) (data : RxData) (s u : State), (u = s.issuing n unitCmd) → (u.itemSlot n = none) → 
      exec (.tx n ⟨src, len, pi⟩) s = .next (if s.issues n 2 unitCmd 2 anyWord = true then u.advance n else s) ∧
     exec (.rx n lba dst data pi) s = .next (if s.issues n 2 unitCmd 3 anyWord = true then u.advance n else s)) ∧
  (∀ (n : Cs) (t : Nat) (c : Cmd) (src : Addr) (len : Nat) (pi : PiResult) (f : Option (Nat × Nat) × List (List Byte × List Bool) × State) (s u v w : State), (u = s.issuing n unitCmd) → (u.itemSlot n = some t) → (c = u.cmd t) → (c.posted = false) → (c.phase = .hit) → (f = u.fetchBlocks c []) → (v = f.2.2.endReading t) → (w = (if f.1.isSome = true then (v.sendBlocks c.port c.cid f.2.1).event 0x1006 0 0 0 else v.sendBlocks c.port c.cid f.2.1)) → 
      exec (.tx n ⟨src, len, pi⟩) s = .next (if s.issues n 2 unitCmd 2 anyWord = true then
     (if f.1.isSome = true then (w.setCmd t { w.cmd t with moved := true }).dmaEnd n f.1
      else if (v.piEnd c pi).isSome = true then v.dmaEnd n (v.piEnd c pi)
      else (w.setCmd t { w.cmd t with moved := true }).dmaEnd n none).advance n else s)) ∧
  (∀ (n : Cs) (t : Nat) (c : Cmd) (src : Addr) (len : Nat) (pi : PiResult) (f : List Byte × List Bool × State) (s u v w : State), (u = s.issuing n unitCmd) → (u.itemSlot n = some t) → (c = u.cmd t) → c.phase ≠ .hit → (f = u.fetchMarked (.seq n) src.toNat len) → (v = (f.2.2.sendMarked c.port c.cid f.1 f.2.1).event 0x1006 0 0 0) → (w = f.2.2.sendData c.port c.cid f.1 false) → 
      exec (.tx n ⟨src, len, pi⟩) s = .next (if s.issues n 2 unitCmd 2 anyWord = true then
     (if c.posted = true then u else if u.refused src.toNat len = true then u.csFault n 5
      else if f.2.1.any id = true then (v.setCmd t { v.cmd t with moved := true }).dmaEnd n (some (0, 4))
      else if c.admin = false ∧ c.opc = 0x02 ∧ (f.2.2.piEnd c pi).isSome = true then f.2.2.dmaEnd n (f.2.2.piEnd c pi)
      else (w.setCmd t { w.cmd t with moved := true }).dmaEnd n none).advance n else s)) ∧
  (∀ (n : Cs) (t : Nat) (c : Cmd) (src : Addr) (len : Nat) (pi : PiResult) (s u : State), (u = s.issuing n unitCmd) → (u.itemSlot n = some t) → (c = u.cmd t) → (c.posted = true) → 
      exec (.tx n ⟨src, len, pi⟩) s = .next (if s.issues n 2 unitCmd 2 anyWord = true then u.advance n else s)) ∧
  (∀ (n : Cs) (t : Nat) (c : Cmd) (lba : BitVec 64) (dst : Addr) (off : BitVec 26) (data : List Byte) (pi : PiResult) (s u : State), (u = s.issuing n unitCmd) → (u.itemSlot n = some t) → (c = u.cmd t) → 
      exec (.rx n lba dst (.cmb off) pi) s = .next (if s.issues n 2 unitCmd 3 anyWord = true then
       (if c.posted = true then u else if u.refused dst.toNat 4160 = true then u.csFault n 5 else u.rxCmb n t c lba.toNat dst.toNat off.toNat pi).advance n else s) ∧
     exec (.rx n lba dst (.host data) pi) s = .next (if s.issues n 2 unitCmd 3 anyWord = true then
       (if c.posted = true then u else if u.refused dst.toNat 4160 = true then u.csFault n 5
        else if data = [] then (u.setDone n 0x45 false).request c.port (.data (u.tagOf t) dst.toNat n) (dw (u.cs n).words 6 + 2 ^ 32 * dw (u.cs n).words 7)
          (hostBlock c.pract (u.nsp (c.nsid - 1)).fmt)
        else u.rxBlock n t c lba.toNat dst.toNat data pi).advance n else s)) ∧
  (∀ (n t lba dst off : Nat) (c : Cmd) (pi : PiResult) (l : List (List Byte)) (m : Option (List (List Byte)) × State) (s : State), (m = s.cmbBlocks c.port off (hostBlock c.pract (s.nsp (c.nsid - 1)).fmt) 1) → 
      s.rxCmb n t c lba dst off pi = m.2.rxGot n t c lba dst pi m.1 ∧
     s.rxGot n t c lba dst pi (some l) = s.rxBlock n t c lba dst l.flatten pi ∧
     s.rxGot n t c lba dst pi none = ((s.dropBlocks t).finish t 0 4 0).dmaEnd n (some (0, 4))) ∧
  (∀ (n : Cs) (t lba dst : Nat) (c : Cmd) (d : List Byte) (pi : PiResult) (fmt k : Nat) (s u v w : State), (u = s.setCmd t { c with moved := true }) → (fmt = (s.nsp (c.nsid - 1)).fmt) → (v = u.wrTag dst (slotBytes fmt lba (u.encrypt (c.nsid - 1) lba (withPi c.pract fmt lba d))) (some (u.tagOf t))) → (k = (dst - v.slotAddr 0) / 4160) → (w = (v.takeBuf k).setCmd t { v.cmd t with slots := (v.cmd t).slots ++ [k] }) → 
      s.rxBlock n t c lba dst d pi = (if c.pract = false ∧ (u.piEnd c pi).isSome = true then u.dmaEnd n (u.piEnd c pi)
     else if v.slotAddr 0 ≤ dst ∧ (dst - v.slotAddr 0) % 4160 = 0 ∧ k < v.f .CIU_SLOTS_COUNT 0 ∧ Tbl.get v.ciu.alloc false k = false then
       (w.publishPieces t (v.cmd t).slots.length).dmaEnd n none
     else v.dmaEnd n none)) ∧
  (∀ (n : Cs) (p q i st : Nat) (w : List Nat) (s u : State), (u = s.issuing n unitCmd) → ((u.cs n).item = some { words := w, src := .sqe p q i }) → (st = u.sreg n 13) → 
      exec (.postCqe n) s = .next (if s.issues n 2 unitCmd 4 anyWord = true then (if (u.cs n).posted = true then u
       else ((u.putCqe p (u.sq p q).cq q (dw w 0 / 2 ^ 16 % 2 ^ 16) (st / 256 % 8) (st % 256) 0).updCs n (fun x => { x with posted := true })).fetchEnd).advance n else s) ∧
     exec (.msix n) s = .next (if s.issues n 2 unitCmd 5 anyWord = true then (u.raiseVec p (u.cq p (u.sq p q).cq).vec).advance n else s)) ∧
  (∀ (n : Cs) (t st : Nat) (c : Cmd) (w : List Nat) (s u : State), (u = s.issuing n unitCmd) → ((u.cs n).item = some { words := w, src := .intake t }) → (st = u.sreg n 13) → (c = u.cmd t) → 
      exec (.postCqe n) s = .next (if s.issues n 2 unitCmd 4 anyWord = true then (if c.live = false ∨ c.posted = true ∨ u.completionHeld t (st % 2048) = true then u
       else ((u.putCqe c.port (u.sq c.port c.sq).cq c.sq c.cid (st / 256 % 8) (st % 256) 0).setCmd t { c with posted := true }).fetchEnd).advance n else s) ∧
     exec (.msix n) s = .next (if s.issues n 2 unitCmd 5 anyWord = true then (u.raiseVec c.port (u.cq c.port (u.sq c.port c.sq).cq).vec).advance n else s)) ∧
  (∀ (n : Cs) (a : Addr) (s u : State), (u = s.issuing n unitCmd) → 
      exec (.prefetch n a) s = .next (if s.issues n 2 unitCmd 6 anyWord = true then
       (if u.b .BUF_STATUS_READY 0 = true then u.prefetch (a.toNat / 128) else u.csFault n 5).advance n else s) ∧
     ((u.cs n).item = none → exec (.postCqe n) s = .next (if s.issues n 2 unitCmd 4 anyWord = true then u.advance n else s) ∧
       exec (.msix n) s = .next (if s.issues n 2 unitCmd 5 anyWord = true then u.advance n else s)))

/-- Each command is issued once, where the word in execution spells it and its turn in the word has come (log entry 13), and does nothing otherwise. ALLOC gives the fetched entry not yet completed the tag slot at the head of the free list and its tag in S12, or shows that there was none; an entry whose identifier an earlier command of its queue carries completes with Command ID Conflict instead. RELEASE has the command of a live tag leave, and of a stale one changes only the count. Of the command in hand, INSERT and REMOVE put it into and out of the overlap table, SEARCH tells whether an earlier command holds it, which it then waits for; APPEND_ACCEPTED appends its Ledger entry if the Ledger is enabled and it has none, LDG_STATE and LDG_FLAGS change it; LOOKUP tells whether a read of at most 32 blocks is a hit, and PUBLISH makes a write whose every block has its slot BUFFERED. Without a command in hand these do nothing more. (Engines and Microcode; Command Intake and Ledger) -/
def Obligations.TagAndLedgerCommands : Prop :=
  (∀ (n : Cs) (w : List Nat) (p q o cid : Nat) (s u : State), (u = s.issuing n tagCmd) → ((u.cs n).item = some { words := w, src := .sqe p q o }) → (cid = dw w 0 / 2 ^ 16 % 2 ^ 16) → 
      exec (.alloc n) s = .next (if s.issues n 2 tagCmd 1 anyWord = true then (if (u.cs n).posted = true then u
     else if u.cidUsed p q cid o = true then (((u.cidConflict p q cid).updCs n (fun x => { x with posted := true })).fetchEnd).setDone n 0x42 false
     else u.nextSlot.elim (u.setDone n 0x42 false) (fun t => u.giveTag n t p q o w)).advance n else s)) ∧
  (∀ (n t p q o : Nat) (w : List Nat) (s u : State), (u = ((s.tableUse 0x10).takeSlot.setCmd t { sqeCmd (sqeOf w) p q o with cls := 0, seen := false }).updCs n (fun x => { x with item := some { words := w, src := .intake t } })) → 
      s.giveTag n t p q o w = (u.setSreg n 12 (u.tagOf t)).setDone n 0x42 true) ∧
  (∀ (n : Cs) (tag : Nat) (s u : State), (u = s.issuing n tagCmd) → (tag = u.sreg n 12 % 2 ^ 16) → 
      ((∀ w p q o, (u.cs n).item ≠ some { words := w, src := .sqe p q o }) → exec (.alloc n) s = .next (if s.issues n 2 tagCmd 1 anyWord = true then u.advance n else s)) ∧
     exec (.release n) s = .next (if s.issues n 2 tagCmd 2 anyWord = true then (if u.tagLive tag = false then u.stale
       else if (u.cmd (tag / 8)).live = true then (if u.itemSlot n = some (tag / 8) then u.dropItem n else u).leave (tag / 8) else u).advance n else s)) ∧
  (∀ (n : Cs) (ranges : List (Nat × Nat)) (s u : State), (u = s.issuing n ovlCmd) → 
      exec (.insert ⟨n, ranges⟩) s = .next (if s.issues n 2 ovlCmd 1 anyWord = true then (u.inHand n (fun t c => u.setCmd t { c with
       cls := (sqeCmd (sqeOf (u.cs n).words) c.port c.sq 0).cls, seen := true, ranges := if c.opc = 0x09 ∧ c.admin = false then ranges else c.ranges })).advance n else s) ∧
     exec (.remove n) s = .next (if s.issues n 2 ovlCmd 3 anyWord = true then (u.inHand n (fun t c => u.setCmd t { c with cls := 0, seen := true })).advance n else s) ∧
     exec (.search n) s = .next (if s.issues n 2 ovlCmd 2 anyWord = true then (u.inHand n (fun t c => if u.blocked t = true then
         (if c.phase = .overlap then u.setDone n 0x43 true else ((u.setDone n 0x43 true).setCmd t { c with phase := .overlap }).inc .CIU_OVL_STAT_WAITS 0 1)
       else (u.setDone n 0x43 false).setCmd t { c with phase := if c.admin = false ∧ (c.opc = 0x01 ∨ c.opc = 0x08 ∨ c.opc = 0x7D) then .active else .firmware })).advance n else s)) ∧
  (∀ (n : Cs) (st : BitVec 4) (f : Byte) (s u : State), (u = s.issuing n ldgCmd) → 
      exec (.appendAccepted n) s = .next (if s.issues n 2 ldgCmd 1 anyWord = true then
       (u.inHand n (fun t c => if u.b .LDG_CTRL_EN 0 = true ∧ c.ledger = none then u.ledgerAppend t else u)).advance n else s) ∧
     exec (.ldgState n st) s = .next (if s.issues n 2 ldgCmd 2 (fun w => wImm w % 16 == st.toNat) = true then
       (u.inHand n (fun t c => match c.ledger with | some i => (u.ledgerRead i).2.ledgerState i st.toNat (leAt (u.ledgerRead i).1 6 2) (some ((u.ledgerRead i).2.tagOf t)) | none => u)).advance n
       else s) ∧
     exec (.ldgFlags n f) s = .next (if s.issues n 2 ldgCmd 3 (fun w => wImm w % 256 == f.toNat) = true then
       (u.inHand n (fun t c => match c.ledger with | some i => u.ledgerFlags i f.toNat (some (u.tagOf t)) | none => u)).advance n else s)) ∧
  (∀ (n : Cs) (s u : State) (idx : Cmd → List (Option Nat)), (u = s.issuing n idxCmd) → (idx = (fun c => (List.range c.blocks).map (fun i => u.bufIdx (c.nsid - 1) (c.slba + i)))) → 
      exec (.lookup n) s = .next (if s.issues n 2 idxCmd 1 anyWord = true then (u.inHand n (fun t c =>
       if c.admin = false ∧ c.opc = 0x02 ∧ u.b .CIU_CTRL_HIT_EN 0 = true ∧ c.blocks ≤ 32 ∧ (idx c).all Option.isSome = true ∧ u.blocked t = false then
         (u.setCmd t { c with phase := .hit, reading := (idx c).filterMap id }).setDone n 0x44 true
       else u.setDone n 0x44 false)).advance n else s) ∧
     exec (.publish n) s = .next (if s.issues n 2 idxCmd 2 anyWord = true then (u.inHand n (fun t c =>
       if c.posted = false ∧ c.admin = false ∧ (c.opc = 0x01 ∨ c.opc = 0x08 ∨ c.opc = 0x7D) ∧ c.phase ≠ .buffered ∧ c.slots.length = c.blocks then u.becomeBuffered t
       else u)).advance n else s))

/-- Each command is issued once, where the word in execution spells it and its turn in the word has come (log entry 13), and does nothing otherwise; while the servo is not enabled it faults the sequencer with code 5. WINDOW opens a search window of the heads named, in which nothing is known of the wedge yet, DEMOD asks for the values of an open one, PES does State.pes to the actuator. TRIGGER, outside UNLOADED, moves a soft start on and takes the measured current, then triggers every engine whose source is this actuator's TRIGGER, the loops only outside UNLOADED. STAMP does nothing while the motor driver's domain is off; else it counts for its actuator and, as the first of its wedge number, does State.stampFirst, which sets the period and the angle, and triggers the engines of source 2. WCLK brings the wedge-time error to the lock of the actuator's lanes: locked after four wedges within the tolerance. (Engines and Microcode; Servo and Quince Engines; Recording Channels; Spindle and Actuator Drivers) -/
def Obligations.WedgeCommands : Prop :=
  (∀ (n : Cs) (s u : State), (u = s.issuing n unitCmd) → 
      exec (.window n) s = .next (if s.issues n 3 unitCmd 1 anyWord = true then (u.atWedge n (fun a => (((List.range 6).foldl (fun v k =>
         v.updHd a k (fun h => { h with samNow := false, tidOk := false, missed := false }))
         (u.updAct a (fun x => { x with window := true, demod := false, windowSel := headSel (u.curWord n) }))).wedgeDone a 0x40 false).wedgeDone a 0x41 false)).advance n
       else s) ∧
     exec (.demod n) s = .next (if s.issues n 3 unitCmd 2 anyWord = true then
       (u.atWedge n (fun a => u.updAct a (fun x => { x with demod := x.window, demodSel := headSel (u.curWord n) }))).advance n else s) ∧
     exec (.pes n) s = .next (if s.issues n 3 unitCmd 3 anyWord = true then (u.atWedge n (fun a => u.pes a)).advance n else s) ∧
     exec (.stamp n) s = .next (if s.issues n 3 unitCmd 5 anyWord = true then (u.atWedge n (fun a => u.stampAct n a)).advance n else s)) ∧
  (∀ (n : Cs) (iMeas vel maPri maMate : BitVec 16) (err : Int) (s u : State), (u = s.issuing n unitCmd) → 
      exec (.trigger n iMeas vel maPri maMate) s = .next (if s.issues n 3 unitCmd 4 anyWord = true then (u.atWedge n (fun a =>
       (List.range 11).foldl (fun v k => v.triggerEngine a iMeas.toNat vel.toNat maPri.toNat maMate.toNat k) (if u.mode a = 0 then u
         else ((u.rampStep a iMeas.toNat maPri.toNat maMate.toNat).setF .MPD_VCM_STAT_I_MEAS a iMeas.toNat).wedgeDone a 0x43 false))).advance n else s) ∧
     exec (.wclk n err) s = .next (if s.issues n 3 unitCmd 6 anyWord = true then (u.atWedge n (fun a =>
       ([2 * a, 2 * a + 1].foldl (fun v l => (v.updLane l (fun x => { x with goodWedges :=
           if -(max 1 (v.f .CHN_WCLK_LOCK_TOL l) : Nat) ≤ err ∧ err ≤ (max 1 (v.f .CHN_WCLK_LOCK_TOL l) : Nat) then min 4 ((v.lane l).goodWedges + 1) else 0 })).setB .CHN_STATUS_LOCK l
         ((if -(max 1 (v.f .CHN_WCLK_LOCK_TOL l) : Nat) ≤ err ∧ err ≤ (max 1 (v.f .CHN_WCLK_LOCK_TOL l) : Nat) then min 4 ((v.lane l).goodWedges + 1) else 0) == 4)) u).pairFlags (2 * a))).advance n
       else s)) ∧
  (∀ (a i vel p m k : Nat) (s : State), 
      s.triggerEngine a i vel p m k = (if s.f .SRV_QE_CFG_TRIG_SRC k ≠ 1 ∨ s.f .SRV_QE_CFG_ACT k ≠ a ∨ (k < 8 ∧ s.mode a = 0) then s
     else if k = 8 then s.fireSpindleBlind else if 8 < k then s.fireThermal k
     else s.qeTrigger k (if k % 2 = 0 then s.coarseInputs (k / 2) i vel else s.fineInputs (k / 2) p m))) ∧
  (∀ (n a w t : Nat) (s u : State), (w = s.sreg n 1 % 1024 % 560) → (t = s.sreg n 3) → (u = s.countStamp a w t) → 
      s.stampAct n a = (if s.blkOn .mpd 0 = false then s else if u.srv.stamped = w + 1 then u
     else (List.range 11).foldl State.stampEngine (u.stampFirst a w t (Tbl.get s.mpd.wedge 0 a) (Tbl.get s.mpd.stamp 0 a)))) ∧
  (∀ (k v : Nat) (s u : State), ((v, u) = s.free) → 
      s.stampEngine k = (if k = 8 ∨ s.f .SRV_QE_CFG_TRIG_SRC k ≠ 2 ∨ (k < 8 ∧ s.mode (k / 2) = 0) then s
     else if 8 < k then s.fireThermal k
     else u.qeTrigger k (if k % 2 = 0 then u.coarseInputs (k / 2) (v % 65536) (v / 65536 % 65536) else u.fineInputs (k / 2) (v % 65536) (v / 65536 % 65536)))) ∧
  (∀ (a w t prevW prevT d span : Nat) (known : Bool) (s v : State), (d = wedgesFrom (s.srv.stamped - 1) w) → (span = (t + 2 ^ 32 - s.mpd.lastAt) % 2 ^ 32) → (known = (s.srv.stamped != 0 && decide (d ≤ span))) → (v = (s.updSrv (fun v => { v with stamped := w + 1 })).updMpd (fun x => { x with lastAt := t, period := if known = true then span / d else 0, theta := (w * s.f .MPD_SPN_CFG_PP 0 * 4096 / 560 + s.f .MPD_AOFS_AOFS a) % 4096 })) → s.spn ≠ 6 → 
      s.stampFirst a w t prevW prevT = v)

/-- Each command is issued once, where the word in execution spells it and its turn in the word has come (log entry 13), and does nothing otherwise. SUB_READ, SUB_WRITE and SUB_VERIFY begin an item on the lane named in S14 and clear SUB_DONE and SUB_ERR; a lane that is not enabled faults the sequencer with code 5, one that has an item takes none, and one whose domain is off does nothing. The registers that hold their operands are presumed (log entry 37). COPY_XOR folds one range into another, and is fault 5 where either is refused; COPY_LOG appends the record of the item in hand and leaves it, with the answer, in the item. DRV sends S0 to a driver, SAMPLE puts a measurement in S1, SLOE queues a domain request. VAULT performs the NAND operation of the vault item in hand while no dump runs: one that is refused shows VAULT_ERR, one that ends at once VAULT_DONE and how, and any other neither until its end. (Engines and Microcode; Band Translation; Buffer Memory, the Bramble Cache and Data Integrity; Media Work Rings; Supplies, Clocks and Staged Start; Power Loss and Recovery) -/
def Obligations.CopyAndMotorCommands : Prop :=
  (∀ (n : Cs) (l pma z : Nat) (e : Nat → State) (s u v : State), (u = s.issuing n unitCmd) → (l = u.sreg n 14 % 8) → (pma = u.sreg n 0 + 2 ^ 32 * u.sreg n 1) → (z = (u.zoneFor (pmaHead pma) (pmaTrack pma)).getD 0) → (v = (u.setDone n 0x40 false).setDone n 0x41 false) → (e = (fun opc => if u.blkOn .chn l = false then u else if u.b .CHN_CTRL_EN l = false then u.csFault n 5 else if (u.lane l).op.isSome = true then u else v.laneBegin l (.copy n) (subWords opc l (v.sreg n 6) pma (v.spair n 2) 0 false z))) → 
      exec (.subRead n) s = .next (if s.issues n 4 unitCmd 1 anyWord = true then (e 1).advance n else s) ∧
     exec (.subWrite n) s = .next (if s.issues n 4 unitCmd 2 anyWord = true then (e 2).advance n else s) ∧
     exec (.subVerify n) s = .next (if s.issues n 4 unitCmd 5 anyWord = true then (e 3).advance n else s)) ∧
  (∀ (n : Cs) (s u : State), (u = s.issuing n unitCmd) → 
      exec (.copyXor n) s = .next (if s.issues n 4 unitCmd 3 anyWord = true then
       (if u.refused (u.spair n 2) (u.sreg n 6) = true ∨ u.refused (u.spair n 4) (u.sreg n 6) = true then u.csFault n 5
        else ((u.xorInto n (u.spair n 2) (u.spair n 4) (u.sreg n 6)).2).setDone n 0x44 true).advance n else s) ∧
     exec (.copyLog n) s = .next (if s.issues n 4 unitCmd 4 anyWord = true then
       ((u.ringItem n).elim u (fun e => u.copyLogItem n e.2.1 e.2.2 e.1)).advance n else s)) ∧
  (∀ (n : Cs) (src dst k : Nat) (s t u : State), (t = (s.fetch (.seq n) src k).2) → (u = (t.fetch (.seq n) dst k).2) → 
      (s.xorInto n src dst k).2 = (if u.bad src k = true ∨ u.bad dst k = true then u.wrPoison dst (xorBytes (t.fetch (.seq n) dst k).1 (s.fetch (.seq n) src k).1)
     else u.wr dst (xorBytes (t.fetch (.seq n) dst k).1 (s.fetch (.seq n) src k).1))) ∧
  (∀ (n r i : Nat) (w : List Nat) (f : AppResult × List Byte × State) (s u : State), (f = s.logDesc r i w) → (u = f.2.2.updCs n (fun q => { q with item := some { words := w.take 8 ++ (List.range 8).map (fun k => leAt f.2.1 (4 * k) 4), src := .ring r i }, detail := logDetail f.1 })) → 
      s.copyLogItem n r i w = (u.setDone n 0x42 (f.1 == 0)).setDone n 0x43 (f.1 != 0)) ∧
  (∀ (n : Cs) (d dom : BitVec 5) (on : Bool) (m : Byte) (v : Word) (s u : State), (u = s.issuing n unitCmd) → 
      exec (.drv n d) s = .next (if s.issues n 5 unitCmd 1 (fun w => bits (wImm w) 4 0 == d.toNat) = true then
       ((u.send (.driver d.toNat (u.sreg n 0))).setDone n 0x41 true).advance n else s) ∧
     exec (.sample n m v) s = .next (if s.issues n 5 unitCmd 2 (fun w => wImm w % 256 == m.toNat) = true then
       ((u.setSreg n 1 v.toNat).setDone n 0x42 true).advance n else s) ∧
     exec (.sloe n dom on) s = .next (if s.issues n 5 unitCmd 4 anyWord = true then (u.sloePush dom.toNat on).advance n else s) ∧
     exec (.vault n) s = .next (if s.issues n 5 unitCmd 3 anyWord = true then ((u.cs n).item.elim u (fun it =>
       if dOpc it.words / 16 ≠ 4 ∨ u.plv.dump.isSome = true then u
       else if (u.vaultRefusal it.words).isSome = true then (u.setDone n 0x43 true).setDone n 0x44 true
       else (u.vaultOp it.words true).1.elim (((u.vaultOp it.words true).2.setDone n 0x43 false).setDone n 0x44 false)
         (fun r => ((u.vaultOp it.words true).2.setDone n 0x43 true).setDone n 0x44 (r.1 != 0)))).advance n else s))

/-- While the servo's domain is off these do nothing, and EN's write is only recorded. An item that the wedge sequencer of an actuator holds, the target's oldest descriptor being handed over first (log entry 13), is taken once: under ABORT_REQ it ends ABORTED, a refused one with its code and DETAIL; SEEK, FOLLOW and ARM_MATE leave a target for the next PES command, a SEEK in FAULT beginning softly, UNLOAD in UNLOADED is done and otherwise starts the retract, LOAD enters mode LOAD with a soft start and lets a braked spindle coast. EN = 1 is refused with CFG_ERR unless the conditions of R276 hold, EN = 0 unless every actuator is UNLOADED, when it takes the committed groups into force. A hold that expires puts a loop mode in FAULT with cause 4 and retracts. (Servo and Quince Engines; Spindle and Actuator Drivers; Scope and Conventions) -/
def Obligations.ServoItems : Prop :=
  (∀ (a : Act) (s : State), 
      exec (.seek a) s = .next (if s.blkOn .srv 0 = true then s.servoItem a 0x10 (fun u _ w => u.aim a w) else s) ∧
     exec (.follow a) s = .next (if s.blkOn .srv 0 = true then s.servoItem a 0x11 (fun u _ w => u.aim a w) else s) ∧
     exec (.armMate a) s = .next (if s.blkOn .srv 0 = true then s.servoItem a 0x12 (fun u _ w => u.aim a w) else s) ∧
     exec (.unload a) s = .next (if s.blkOn .srv 0 = true then s.servoItem a 0x13 (fun u n _ => if u.mode a = 0 then u.servoEnd a n 0 0 else u.retract a true) else s) ∧
     exec (.load a) s = .next (if s.blkOn .srv 0 = true then s.servoItem a 0x14 (fun u _ _ => u.loadHeads a) else s)) ∧
  (∀ (a opc n r i : Nat) (w w' : List Nat) (g : State → Nat → List Nat → State) (s u : State), (s.itemOf (8 + a) opc = some (u, n, w)) → ((u.cs n).item = some { words := w', src := .ring r i }) → 
      s.servoItem a opc g = (if (u.act a).taken = some (r, i) then u else if (u.cs n).abortReq = true then u.post n 1 0 0
     else (u.servoRefusal a w).elim (g (u.updAct a (fun x => { x with taken := some (r, i) })) n w) (fun e => u.post n e.1 e.2 0))) ∧
  (∀ (a opc : Nat) (g : State → Nat → List Nat → State) (s : State), (s.itemOf (8 + a) opc = none) → 
      s.servoItem a opc g = s.handOver (8 + a)) ∧
  (∀ (a : Nat) (w : List Nat) (s v x : State), (v = (s.setMode a 1).setF .SRV_ACT_STAT_MATE a 7) → (x = v.updAct a (fun x => { x with target := { opc := 0x14, slot := v.pri a, track := x.target.track }, pend := none, slot := [], loadCnt := 0, seekCnt := 0, softPend := true })) → 
      s.loadHeads a = (if x.f .MPD_SPN_STAT_STATE 0 = 8 then x.setF .MPD_SPN_STAT_STATE 0 2 else x) ∧
     s.aim a w = s.updAct a (fun x => { x with pend := some (targetOf w), left := dCount w, spent := 0, softPend := x.softPend || (dOpc w == 0x10 && s.mode a == 7) })) ∧
  (∀ (v : Bool) (s : State), 
      exec (.srvEn v) s = .next (if s.blkOn .srv 0 = false then s.unstarted .srv
     else if s.b .SRV_CTRL_EN 0 = v then s
     else if v = true then (if s.srvOk = true then s.setB .SRV_CTRL_EN 0 true else s.cfgErr .srv (Fld.SRV_CTRL_EN.addr 0))
     else if s.mode 0 ≠ 0 ∨ s.mode 1 ≠ 0 ∨ s.mode 2 ≠ 0 ∨ s.mode 3 ≠ 0 then s.cfgErr .srv (Fld.SRV_CTRL_EN.addr 0)
     else (List.range 12).foldl (fun u m => u.bankApply m)
       ((List.range 4).foldl (fun u a => if u.b .SRV_ACT_CTRL_COMMIT_PEND a = true then u.actApply a else u) (s.setB .SRV_CTRL_EN 0 false)))) ∧
  (∀ (a : Act) (s u v : State), (u = s.updAct a (fun x => { x with hold := false, vcm := 0, ma0 := 0, ma1 := 0 })) → (v = (if loopMode (u.mode a) = true then u.faultAct a 4 else u)) → 
      exec (.faultHoldExpiry a) s = .next (if (s.act a).hold = true then v.retract a false else s))

/-- While the servo's domain is off, with no window open, of a slot that the window's heads do not name, or of a head whose mark has been found or missed, SAM_FOUND and WINDOW_END change nothing. Else the mark is kept with its time and the interval since the last one; and a window that ends with no mark is a missed wedge of the head: it counts, ON_TRACK of the head falls, and MISS_MAX of them in a row put a loop mode in FAULT with cause 1, of the mate of a pair end the pair. DEMOD_DONE of a demodulation asked for, of a head with its mark found or missed, does State.demodDone, and otherwise nothing; that of a head with its wedge found sets its position from the burst values, its number and track from the wedge, or predicted where a field is bad; all bursts zero make it a missed wedge first. (Servo and Quince Engines; Scope and Conventions) -/
def Obligations.WedgesOfAHead : Prop :=
  (∀ (a : Act) (mate : Bool) (time : Word) (k : Nat) (s : State), (k = s.wedgeSlot a (s.act a).windowSel mate) → 
      exec (.samFound a mate time) s = .next (if s.blkOn .srv 0 = false ∨ (s.act a).window = false ∨ k = 7 ∨ (s.hd a k).samNow = true ∨ (s.hd a k).missed = true then s
       else (s.updHd a k (fun x => { x with samNow := true, sam := time.toNat, found := min 2 (x.found + 1), dsam := if x.found = 0 then 0 else (time.toNat + 2 ^ 32 - x.sam) % 2 ^ 32 })).wedgeDone a 0x40 true) ∧
     exec (.windowEnd a mate) s = .next (if s.blkOn .srv 0 = false ∨ (s.act a).window = false ∨ k = 7 ∨ (s.hd a k).samNow = true ∨ (s.hd a k).missed = true then s
       else s.missed a k)) ∧
  (∀ (a k : Nat) (s u v : State), (u = (s.updHd a k (fun h => { h with missed := true, run := h.run + 1 })).inc .SRV_ACT_CNT_MISSED a 1) → (v = (if k = u.pri a then u.setF .SRV_ACT_STAT_MISSES a (min 15 (u.hd a k).run) else u)) → 
      s.missed a k = (((v.dropOnt a k).wedgeDone a 0x41 true).actFlags a).missLimits a) ∧
  (∀ (a mx : Nat) (s : State), (mx = max 1 (s.f .SRV_CFG_MISS_MAX 0)) → 
      (loopMode (s.mode a) = true → mx ≤ (s.hd a (s.pri a)).run → s.missLimits a = s.faultAct a 1) ∧
     ((loopMode (s.mode a) = false ∨ (s.hd a (s.pri a)).run < mx) → (s.mode a ≠ 5 ∨ (s.hd a (s.mate a)).run < mx) → s.missLimits a = s)) ∧
  (∀ (a : Act) (mate : Bool) (m : WedgeMeas) (k : Nat) (s : State), (k = s.wedgeSlot a (s.act a).demodSel mate) → 
      exec (.demodDone a mate m) s = .next (if s.blkOn .srv 0 = true ∧ (s.act a).demod = true ∧ k ≠ 7 ∧ ((s.hd a k).samNow = true ∨ (s.hd a k).missed = true)
     then s.demodDone a k mate m else s)) ∧
  (∀ (a k : Nat) (m : WedgeMeas) (wn : Nat) (s u v : State), ((s.hd a k).missed = false) → (m.tidOk = true) → (0 < m.ba.toNat + m.bb.toNat + m.bc.toNat + m.bd.toNat) → (wn = (if m.wnOk = true then m.wn.toNat else ((s.hd a k).wn + 1) % 560)) → (u = (s.endRun a k).updHd a k (fun h => { h with p := (m.tid.toNat : Rat) + burstX m.ba.toNat m.bb.toNat m.bc.toNat m.bd.toNat - (signed 8 m.rro.toNat : Rat) / 512, p1 := h.p, tid := (m.tid.toNat : Int), tid1 := h.tid, hist := min 2 (h.hist + 1), wn := wn, tidOk := true })) → (v = u.setF .SRV_ACT_PES_SUM a (min 65535 (m.ba.toNat + m.bb.toNat + m.bc.toNat + m.bd.toNat))) → 
      s.demodDone a k true m = u ∧
     s.demodDone a k false m = (v.seqsOf (8 + a)).foldl (fun x n => (((x.setSreg n 0 (unsigned 24 (m.tid.toNat : Int) + 2 ^ 24 * (v.hd a k).samNow.toNat + 2 ^ 25 * 1 + 2 ^ 26 * m.wnOk.toNat)).setSreg n 1
       (wn + 2 ^ 12 * v.mode a + 2 ^ 15 * (v.ont a k).toNat + 2 ^ 16 * (m.rro.toNat % 256))).setSreg n 2
       (unsigned 16 (q15 ((m.tid.toNat : Rat) + burstX m.ba.toNat m.bb.toNat m.bc.toNat m.bd.toNat - (signed 8 m.rro.toNat : Rat) / 512 - ((m.tid.toNat : Int) : Rat))) + 2 ^ 16 * min 65535 (m.ba.toNat + m.bb.toNat + m.bc.toNat + m.bd.toNat))).setSreg n 3 (s.hd a k).sam) v)

/-- Writes to the block while its domain is off are only recorded. The block is enabled only with its head-word area in memory and disabled only with no ring on. EN = 1 of a ring that is ON, in OVERRUN or in ERROR does nothing; of one draining or aborting, with the block off, an illegal size, entries outside memory or indexes beyond them it is CFG_ERR; else the ring starts at HEAD, passing entries that a withdrawal completed. A doorbell of an ON ring moves TAIL where the entries are free, does nothing where it names TAIL, and beyond them sets OVR_TAIL and puts the ring in OVERRUN with event 0x6002; an OVERRUN ring rejects doorbells and other states discard them. A ring stopped at a bad chain enters ERROR once its chains have ended, with HEAD at the chain's first entry. EN = 0 drains, and the ring is DISABLED with HEAD at the first chain not started; ABORT withdraws its chains, completes what was not fetched and ends when HEAD has passed it all; RESUME of a ring in ERROR and CLR_OVR of one in OVERRUN lead back to ON. WITHDRAW, refused with CFG_ERR while one runs, withdraws the chains of a tag and scans the entries not fetched; its end reports the count with event 0x6007. (Media Work Rings; Scope and Conventions; Supplies, Clocks and Staged Start) -/
def Obligations.RingControl : Prop :=
  (∀ (v : Bool) (s : State), 
      exec (.mwrEn v) s = .next (if s.blkOn .mwr 0 = false then s.unstarted .mwr
     else if v = true then (if s.b .MWR_CTRL_EN 0 = true then s else if s.inMem s.hwBase 4096 = true then s.setB .MWR_CTRL_EN 0 true
       else s.cfgErr .mwr (Fld.MWR_CTRL_EN.addr 0))
     else if s.f .MWR_STATUS_RINGS_ON 0 ≠ 0 then s.cfgErr .mwr (Fld.MWR_CTRL_EN.addr 0) else s.setB .MWR_CTRL_EN 0 false)) ∧
  (∀ (r : Ring) (tail : BitVec 16) (s : State), 
      exec (.doorbell r tail) s = .next (if s.blkOn .mwr 0 = true then s.doorbell r tail.toNat else s.unstarted .mwr) ∧
     exec (.ringEnable r) s = .next (if s.blkOn .mwr 0 = true then s.ringEnable r else s.unstarted .mwr) ∧
     exec (.ringDisable r) s = .next (if s.blkOn .mwr 0 = true then s.ringDisable r else s.unstarted .mwr) ∧
     exec (.abortComplete r) s = .next (if s.blkOn .mwr 0 = true then s.ringAbort r else s.unstarted .mwr) ∧
     exec (.resume r) s = .next (if s.blkOn .mwr 0 = true then s.ringResume r else s.unstarted .mwr) ∧
     exec (.clrOvr r) s = .next (if s.blkOn .mwr 0 = true then s.ringClrOvr r else s.unstarted .mwr)) ∧
  (∀ (r tail n : Nat) (s : State), (n = s.ringSize r) → 
      s.doorbell r tail = (if s.ringState r = 1 then (if tail = s.ringTail r then s
       else if tail < n ∧ (tail + n - s.ringTail r) % n ≤ (s.ringHead r + 2 * n - s.ringTail r - 1) % n then s.setF .MWR_RING_PTR_TAIL r tail
       else (((s.setF .MWR_RING_ERR_OVR_TAIL r tail).inc .MWR_DB_STAT_REJECTED 0 1).setRingState r 2).event 0x6002 0 0 0)
     else if s.ringState r = 2 then s.inc .MWR_DB_STAT_REJECTED 0 1 else (s.inc .MWR_DB_STAT_DISCARDED 0 1).eventOnce 0x6005 0x6005 0 0 0)) ∧
  (∀ (r : Nat) (s u v : State), (u = s.setRing r { fin := (s.ring r).fin, grants := (s.ring r).grants }) → (v = u.setF .MWR_RING_FETCH_FETCH r (u.ringHead r)) → 
      s.ringEnable r = (if s.ringState r = 1 ∨ s.ringState r = 2 ∨ s.ringState r = 3 then s
     else if s.ringState r = 0 ∧ s.b .MWR_CTRL_EN 0 = true ∧ 2 ≤ s.f .MWR_RING_CFG_LOG2 r ∧ s.f .MWR_RING_CFG_LOG2 r ≤ 16 ∧
       s.inMem (s.ringBase r) (64 * s.ringSize r) = true ∧ s.ringHead r < s.ringSize r ∧ s.ringTail r < s.ringSize r then
       (v.fetchSkip r (v.ring r).fin.length).setRingState r 1
     else s.cfgErr .mwr (Fld.MWR_RING_CTRL_EN.addr r))) ∧
  (∀ (r : Nat) (s u v : State), (u = s.setRing r { s.ring r with abortTail := s.ringTail r, stop := none }) → (v = (u.ring r).chains.foldl (fun u c => u.withdrawChain r c) u) → 
      s.ringAbort r = (if s.ringState r = 1 ∨ s.ringState r = 2 ∨ s.ringState r = 3 then
       ((((v.abortUnfetched r (v.ringSize r)).sweep r).headAdvance r).setRingState r 5).roundEnd (r % 8) else s) ∧
     s.ringDisable r = (if s.ringState r = 1 ∨ s.ringState r = 2 ∨ s.ringState r = 3 then (s.setRingState r 4).roundEnd (r % 8) else s) ∧
     s.ringClrOvr r = (if s.ringState r = 2 then s.setRingState r 1 else s)) ∧
  (∀ (r : Nat) (s u : State), (u = (s.setRing r { s.ring r with stop := none }).setF .MWR_RING_FETCH_FETCH r ((s.setRing r { s.ring r with stop := none }).ringHead r)) → 
      s.ringResume r = (if s.ringState r = 3 then (u.fetchSkip r (u.ring r).fin.length).setRingState r 1 else s)) ∧
  (∀ (r : Ring) (s : State), 
      exec (.errorEntry r) s = .next ((s.ring r).stop.elim s (fun e => if (s.ringState r = 1 ∨ s.ringState r = 2) ∧ (s.ring r).chains = [] then
       ((s.setFs r [(.MWR_RING_PTR_HEAD, e.2.2), (.MWR_RING_FETCH_FETCH, e.2.2)]).setRingState r 3).event 0x6003 0 0 0 else s)) ∧
     exec (.drainEnd r) s = .next (if s.ringState r = 4 ∧ (s.ring r).chains = [] then (s.setF .MWR_RING_PTR_HEAD r (s.ringFetch r)).setRingState r 0 else s) ∧
     exec (.abortCompleteEnd r) s = .next (if s.ringState r = 5 ∧ s.ringHead r = (s.ring r).abortTail then (s.setRingState r 0).event 0x6006 0 0 0 else s)) ∧
  (∀ (r : Ring) (tag : Tag) (l : List Chain) (s u v w : State) (x : Nat × State), (u = s.setFs 0 [(.MWR_WITHDRAW_WD_TAG, tag.toNat), (.MWR_WITHDRAW_WD_RING, r), (.MWR_WD_RES_DONE, 0), (.MWR_WD_RES_BUSY, 1)]) → (l = (u.ring r).chains.filter (fun c => c.descs.head?.elim false (fun d => tagMatch d.words tag.toNat))) → (v = l.foldl (fun u c => u.withdrawChain r c) u) → (w = (if v.ringState r = 0 then v.setF .MWR_RING_FETCH_FETCH r (v.ringHead r) else v)) → (x = w.scanUnfetched r tag.toNat (w.ringTail r) (w.ringFetch r) false 0 (w.ringSize r)) → 
      exec (.withdraw r tag) s = .next (if s.blkOn .mwr 0 = false then s.unstarted .mwr
     else if s.b .MWR_WD_RES_BUSY 0 = true then s.cfgErr .mwr (Fld.MWR_WITHDRAW_WD_GO.addr 0)
     else ((((x.2.sweep r).fetchSkip r (x.2.ring r).fin.length).headAdvance r).updMwr (fun m => { m with wd := some { ring := r, tag := tag.toNat, tail := ((x.2.sweep r).fetchSkip r (x.2.ring r).fin.length).ringTail r, count := l.length + x.1 } })))) ∧
  (∀ (s : State), 
      exec .withdrawScanEnd s = .next (s.mwr.wd.elim s (fun w => ((s.updMwr (fun m => { m with wd := none })).setFs 0
     [(.MWR_WD_RES_DONE, 1), (.MWR_WD_RES_BUSY, 0), (.MWR_WD_RES_CHAINS, w.count)]).event 0x6007 0 0 0)))

/-- With the lane's domain off each of these does nothing, but for a binding's write, which is recorded. A lane that performs nothing begins the item of the opcode that its formatter holds, the oldest of its queue being handed over first (log entry 13): under ABORT_REQ it ends ABORTED, a refused one with its code and DETAIL, a write to a held head THERMAL_DEFERRED, an accepted one arms the lane and takes its zone. A READ_RAW then waits for the lane, stalls it with no sample slot free, or stores its 6,144 bytes and ends. A read's next sector starts, where the lane is ready and the item has one left, with the marks its searches found within their windows, or stalls the lane; under a stop what has started is settled. At a sector's end its first decode waits for a decoder, or replay begins with no mark found. A decode that gives a good field is accepted, any other goes to replay; then its group is settled. A replay step is taken by the sector that waits for exactly it. A decoder's fault is shown, and its sector decoded again. A spare decoder is bound and unbound as R239 says, else CFG_ERR. (Recording Channels; Engines and Microcode; Media Work Rings; Thermal Management and Calibration) -/
def Obligations.LaneItemsAndReading : Prop :=
  (∀ (l : Lane) (samples : List Byte) (s u : State), (u = s.laneItem l 4) → 
      exec (.formatterRead l) s = .next (if s.blkOn .chn l = true then s.laneItem l 1 else s) ∧
     exec (.formatterWrite l) s = .next (if s.blkOn .chn l = true then s.laneItem l 2 else s) ∧
     exec (.readCheck l) s = .next (if s.blkOn .chn l = true then s.laneItem l 3 else s) ∧
     exec (.readRaw l samples) s = .next (if s.blkOn .chn l = true then (u.lane l).op.elim u (fun o =>
       if o.opc ≠ 4 then u else if u.laneStop l = some 1 then u.laneFinish l 1 0 0 else if u.b .CHN_STATUS_LANE_READY l = false then u
       else if 16 ≤ u.f .CHN_STORE_HELD l then u.laneStall l
       else (u.wr o.addr ((samples ++ List.replicate 6144 0).take 6144)).laneFinish l 0 0 1) else s)) ∧
  (∀ (l opc n r i : Nat) (w w' : List Nat) (s u : State), (s.itemOf l opc = some (u, n, w)) → ((u.cs n).item = some { words := w', src := .ring r i }) → 
      s.laneItem l opc = (if (s.lane l).op.isSome = true then s else if (u.cs n).abortReq = true then u.post n 1 0 0 else u.laneBegin l (.ring r i) w)) ∧
  (∀ (l opc : Nat) (s : State), (s.itemOf l opc = none) → 
      s.laneItem l opc = (if (s.lane l).op.isSome = true then s else s.handOver l)) ∧
  (∀ (l n : Nat) (r i : Nat) (w : List Nat) (s u : State), (u = (s.armLane l (pmaHead (dPma w)) (pmaTrack (dPma w)) (dOpc w == 2)).zoneTake l (argZone w) (s.zoneEntry (s.f .CHN_ZT_ACTIVE 0) (argZone w))) → (s.laneHolder (.ring r i) = some n) → 
      (∀ e, s.laneRefusal l w = some e → s.laneBegin l (.ring r i) w = (if e.1 = 2 ∧ e.2 = 0x21 then s.zoneRefuse l else s).post n e.1 e.2 0 ∨
       (if e.1 = 2 ∧ e.2 = 0x21 then s.zoneRefuse l else s).laneHolder (.ring r i) ≠ some n) ∧
     (s.laneRefusal l w = none → s.laneBegin l (.ring r i) w = (if dOpc w = 2 ∧ s.laneHeld (.ring r i) (pmaHead (dPma w)) = true then s.post n 6 0 0
       else (u.laneHeader (dOpc w) (dPma w)).2.updLane l (fun x => { x with op := some { laneOpOf (.ring r i) w (dPma w) with header := (u.laneHeader (dOpc w) (dPma w)).1 } })))) ∧
  (∀ (l : Lane) (primary recovery prim recov : Option Int) (o : LaneOp) (s u v : State), ((s.lane l).op = some o) → (u = s.laneGap l) → (prim = primary.filter (fun v => decide (-u.syncWin l ≤ v) && decide (v ≤ u.syncWin l))) → (recov = recovery.filter (fun v => decide (-(if prim.isSome = true then u.rsyncWin l else u.syncWin l) ≤ v) && decide (v ≤ (if prim.isSome = true then u.rsyncWin l else u.syncWin l)))) → (v = (u.updOp l (fun y => { y with sectors := y.sectors ++ [{ pos := o.next, prim := prim, recov := recov, tries := if u.b .CHN_CTRL_REPLAY_EN l = true then u.f .CHN_REPLAY_REPLAY_MAX l else 0, sets := u.f .CHN_REPLAY_DETSETS l }], next := y.next + 1 })).tableUse 0x0F) → 
      exec (.sectorStart l primary recovery) s = .next (if s.blkOn .chn l = false ∨ (o.opc ≠ 1 ∧ o.opc ≠ 3) then s
     else if (s.laneStop l).isSome = true then s.settleAll l
     else if s.laneLast l o < o.next ∨ s.b .CHN_STATUS_LANE_READY l = false ∨ o.sectors.any (fun x => x.st == 0) = true then s
     else if 16 ≤ u.f .CHN_STORE_HELD l then u.laneStall l
     else (((v.setF .CHN_STORE_HELD l (v.f .CHN_STORE_HELD l + 1)).laneDone l 0x41 false).laneDone l 0x42 false).laneDone l 0x43 (prim.isSome || recov.isSome))) ∧
  (∀ (l : Lane) (primary recovery : Option Int) (dec : Fin 4) (f : Option (List Byte)) (s : State), ((s.lane l).op = none) → 
      exec (.sectorStart l primary recovery) s = .next s ∧ exec (.decodeEnd l dec f) s = .next s) ∧
  (∀ (l : Lane) (s : State), 
      exec (.sectorEnd l) s = .next (if s.blkOn .chn l = true then (s.firstIn l 0).elim s (fun x =>
     (((if x.marked = true then s.updSector l x.pos (fun y => { y with st := 1 }) else s.toReplay l x.pos).laneDone l 0x41 true).startDecodes l).settle l (x.pos / 33)) else s)) ∧
  (∀ (l : Lane) (dec : Fin 4) (field : Option (List Byte)) (p : Nat) (o : LaneOp) (x : Sector) (f : List Byte) (data good : Bool) (s u v : State), ((s.lane l).op = some o) → (s.decoderWork l dec = some p) → (u = s.decoderIdle l dec) → (u.sectorAt l p = some x) → (f = fieldOf (field.getD [])) → (data = !isParity (zSpt (u.lane l).zone) p) → (good = (field.isSome && (!o.check || !data || fieldCheck (o.seedLba p) f))) → (v = (if x.st = 2 ∧ (u.lane l).adapting = true then u.updLane l (fun y => { y with adaptPend := true }) else u)) → 
      exec (.decodeEnd l dec field) s = .next (if s.blkOn .chn l = true then (if good = true
     then v.accept l p f (x.st == 4) (x.st == 4 && (x.tried.head?.map Prod.fst).getD 0 != 0)
     else (u.toReplay l p).laneDone l 0x45 (field.isSome && o.check && data)).settle l (p / 33) else s)) ∧
  (∀ (l : Lane) (dec : Fin 4) (field : Option (List Byte)) (o : LaneOp) (s : State), ((s.lane l).op = some o) → 
      (s.decoderWork l dec = none → exec (.decodeEnd l dec field) s = .next s) ∧
     (∀ p, s.decoderWork l dec = some p → (s.decoderIdle l dec).sectorAt l p = none → exec (.decodeEnd l dec field) s = .next (if s.blkOn .chn l = true then s.decoderIdle l dec else s))) ∧
  (∀ (l : Lane) (sector : Nat) (off : Int) (set : Fin 8) (s : State), 
      exec (.replayAttempt l sector off set) s = .next (if s.blkOn .chn l = true then s.replay l sector off set else s)) ∧
  (∀ (l p set : Nat) (off : Int) (x : Sector) (s u v : State), (s.sectorAt l p = some x) → (u = s.updSector l p (fun y => { y with tried := (99, set) :: y.tried, prim := if -8 ≤ off ∧ off ≤ 8 then some 0 else none, recov := if -8 ≤ off ∧ off ≤ 8 then some off else none })) → (v = s.updSector l p (fun y => { y with st := 4, tried := (off, set) :: y.tried })) → 
      ((x.st ≠ 3 ∨ x.nextReplay = none) → s.replay l p off set = s) ∧
     (∀ o k, x.st = 3 → x.nextReplay = some (o, k) → s.replay l p off set = (if k ≠ set then s else if o = 99 then (u.toReplay l p).settle l (p / 33)
       else if o ≠ off then s
       else ((List.range 2).find? s.spareFree).elim
         (if s.firstIn l 1 = none then ((List.range 2).find? (s.decoderFree l)).elim s (fun d => v.updLane l (fun y => { y with dec := Tbl.set y.dec 0 d (p + 1) })) else s)
         (fun j => v.updChn (fun c => { c with spare := Tbl.set c.spare 0 j (l * 2 ^ 16 + p + 1) }))))) ∧
  (∀ (l p : Nat) (set : Nat) (off : Int) (s : State), (s.sectorAt l p = none) → 
      s.replay l p off set = s) ∧
  (∀ (l : Lane) (dec : Fin 4) (spare : Option Nat) (s u v w : State), (u = s.decoderIdle l dec) → (spare = (if 2 ≤ dec.val then some (dec.val - 2) else (List.range 2).find? (fun k => u.b .CHN_SPARE_DEC_BIND k && u.f .CHN_SPARE_DEC_LANE k == l.val && u.f .CHN_SPARE_DEC_DEC k == dec.val))) → (v = (if spare = some 0 then u.setB .CHN_COM_STATUS_SPARE0_FLT 0 true else if spare ≠ none then u.setB .CHN_COM_STATUS_SPARE1_FLT 0 true else if dec.val = 0 then u.setB .CHN_STATUS_DEC0_FLT l true else u.setB .CHN_STATUS_DEC1_FLT l true)) → (w = (v.setB .CHN_STATUS_DEC_EV l true).event 0x700A 0 0 0) → 
      exec (.decoderFault l dec) s = .next (if s.blkOn .chn l = true then (s.decoderWork l dec).elim w (fun p =>
     (w.updSector l p (fun x => if x.st = 4 then { x with st := 3, tried := x.tried.tail } else { x with st := 1 })).startDecodes l) else s)) ∧
  (∀ (k : Fin 2) (l : Lane) (dec bind on clash : Bool) (s u : State), (on = s.b .CHN_SPARE_DEC_BIND k) → (clash = (s.b .CHN_SPARE_DEC_BIND (1 - k.val) && s.f .CHN_SPARE_DEC_LANE (1 - k.val) == l.val && s.f .CHN_SPARE_DEC_DEC (1 - k.val) == dec.toNat)) → (u = s.setFs k [(.CHN_SPARE_DEC_LANE, l.val), (.CHN_SPARE_DEC_DEC, dec.toNat)]) → 
      exec (.spareDecoderBind k l dec bind) s = .next (if s.blkOn .chn 8 = false then s.unstarted .chn
     else if on = true ∧ bind = true then (if s.f .CHN_SPARE_DEC_LANE k = l.val ∧ s.f .CHN_SPARE_DEC_DEC k = dec.toNat then s else s.cfgErr .chnCom (Fld.CHN_SPARE_DEC_BIND.addr k))
     else if on = true then (if s.b .CHN_STATUS_ARMED (s.f .CHN_SPARE_DEC_LANE k) = true then s.cfgErr .chnCom (Fld.CHN_SPARE_DEC_BIND.addr k)
       else (u.setB .CHN_SPARE_DEC_BIND k false).event 0x7009 0 0 0)
     else if bind = false then u
     else if s.b .CHN_STATUS_ARMED l = true ∨ clash = true then s.cfgErr .chnCom (Fld.CHN_SPARE_DEC_BIND.addr k)
     else (u.setB .CHN_SPARE_DEC_BIND k true).event 0x7009 0 0 0))

/-- With the lane's domain off each of these does nothing, but for EN's write, which is recorded. Of a write with work left on a lane armed for writing and ready, the next sector goes out: the parity sector after a group's last data sector, the header of an opened band as its first (log entry 84), else what stands in memory for it; poisoned data, or data that fails its block check, ends the item POISONED before the sector starts. A stop ends the item at a group's end, a preamp fault at once. A change of EN records event 0x7005, and EN = 0 raises ABORT_REQ on what the lane holds. A preamp fault sets PA_FLT on both lanes of the actuator and stops a write; an unacknowledged frame is counted with event 0x700B, a head or mode frame sent again, and the third failure is a preamp fault; an acknowledged one shows the fault input released (log entry 29). A committed zone-table group takes force at a cycle with no lane armed. (Recording Channels; Buffer Memory, the Bramble Cache and Data Integrity; Band Translation; Pins and Electrical) -/
def Obligations.LaneWritingAndControl : Prop :=
  (∀ (l : Lane) (s : State), 
      exec (.writeSector l) s = .next (if s.blkOn .chn l = true then s.onWrite l (fun u o =>
     if isParity (zSpt (u.lane l).zone) o.next = true then (u.putSector l o (fieldOf o.acc)).writeEnd l
     else o.bandHeader.elim (u.fetchSector l o) (fun f => (u.putSector l o f).writeEnd l)) else s)) ∧
  (∀ (l a : Nat) (o : LaneOp) (s u : State) (f : List Byte), (a = o.addr + 4160 * (dataAt o.next - o.first)) → (f = (s.fetch .link a 4160).1) → (u = (s.fetch .link a 4160).2) → 
      s.fetchSector l o = (if u.bad a 4160 = true then u.laneFinish l 7 0 o.done
     else if o.check = true ∧ fieldCheck (o.seedLba o.next) f = false then (u.event 0x3009 0 0 0).laneFinish l 7 0 o.done
     else (u.putSector l o f).writeEnd l)) ∧
  (∀ (l : Nat) (g : State → LaneOp → State) (s : State), 
      s.onWrite l g = (s.lane l).op.elim s (fun o => if o.opc ≠ 2 then s else (s.writeStop l o).elim
     (if s.b .CHN_STATUS_PA_FLT l = true then s.writeFault l 2 else if s.b .CHN_STATUS_LANE_READY l = true ∧ (s.lane l).armWrite = true then g (s.laneGap l) o else s)
     (fun c => s.laneFinish l c 0 o.done)) ∧
     (∀ o, s.writeStop l o = (s.laneStop l).elim none (fun c => if o.next % 33 = 0 ∨ s.laneLast l o < o.next then some c else none))) ∧
  (∀ (l : Nat) (s : State), 
      s.writeEnd l = (s.lane l).op.elim s (fun o => if s.laneLast l o < o.next then s.laneFinish l 0 0 o.done else s)) ∧
  (∀ (l : Lane) (v : Bool) (s t u w : State), (t = (s.setB .CHN_CTRL_EN l v).event 0x7005 0 0 0) → (u = (t.seqsOf l).foldl (fun u n => if (u.cs n).item.isSome = true then u.updCs n (fun q => { q with abortReq := true }) else u) t) → (w = u.updOp l (fun o => match o.owner with | .copy _ => { o with stop := some 1 } | .ring _ _ => o)) → 
      exec (.laneEn l v) s = .next (if s.blkOn .chn l = false then s.unstarted .chn else if s.b .CHN_CTRL_EN l = v then s else if v = true then t else w.laneStop0 l)) ∧
  (∀ (a : Act) (s : State), 
      exec (.preampFault a) s = .next (if s.blkOn .chn (2 * a.val) = true then
       ((s.setB .CHN_STATUS_PA_FLT (2 * a) true).setB .CHN_STATUS_PA_FLT (2 * a + 1) true).writeFault (2 * a) 2 else s) ∧
     exec .zoneTableCommit s = .next (if s.blkOn .chn 8 = true ∧ s.b .CHN_ZT_COMMIT_PEND 0 = true ∧ s.noneArmed = true then s.ztApply else s)) ∧
  (∀ (l detail : Nat) (s : State), 
      s.writeFault l detail = (s.lane l).op.elim s (fun o => if o.opc = 2 ∧ (detail = 2 ∨ s.b .CHN_STATUS_WRITING l = true) then
     ((s.inc .CHN_CNT_C_WFAULT l 1).event 0x7007 0 0 0).laneFinish l 0x0B detail o.done else s)) ∧
  (∀ (a : Act) (frame : PreampFrame) (ack : Bool) (l : Nat) (s u v : State), (l = 2 * a.val) → (u = s.send (.preamp a (frame.kind == .head || frame.kind == .mode) frame.data.toNat)) → (v = (u.inc .CHN_PA_LINK_ERR l 1).event 0x700B 0 0 0) → 
      exec (.preampControlFrame a frame ack) s = .next (if s.blkOn .chn l = false then s
     else if ack = true then ((u.updLane l (fun x => { x with resent := 0 })).setB .CHN_STATUS_PA_FLT l false).setB .CHN_STATUS_PA_FLT (l + 1) false
     else if frame.kind ≠ .head ∧ frame.kind ≠ .mode then v
     else if 2 ≤ (v.lane l).resent then (v.updLane l (fun x => { x with resent := 0 })).preampFault a
     else v.updLane l (fun x => { x with resent := x.resent + 1 })))

/-- A band copy sequencer, its pool's oldest descriptor being handed over first, performs the item of the opcode that it holds while it runs, and nothing otherwise (log entry 13); under ABORT_REQ it ends ABORTED but for a LOG. COPY to a head that is down, or from one, ends HEAD_OFFLINE, to a held head THERMAL_DEFERRED, a track refused with its code; else it arms the writing lane, unless that performs an item or is disabled, and waits there until it is ready, a preamp fault ending it; then it writes every block, the header first in an opened band, and ends OK, or POISONED where a block was bad. Source data of the media and the step at which the copy is made are the model's choice (log entry 36). VERIFY takes the tracks its band has left, at most COUNT, and ends OK, RECOVERED or UNRECOVERED with the tracks it passed. XOR folds one range into another, tells of a bad one, and is fault 5 where a range is refused. LOG appends its record, writes its ARGS back and ends OK or MALFORMED with the append's result; the map-log port does so for its oldest descriptor. (Band Translation; Media Work Rings; Buffer Memory, the Bramble Cache and Data Integrity; Recording Channels; Thermal Management and Calibration; Scope and Conventions) -/
def Obligations.CopiesAndLogs : Prop :=
  (∀ (n : Cs) (bad : List (Nat × Nat)) (s : State), 
      exec (.copy n) s = .next (s.onCopy n 0x21 (fun u w => u.copyItem n w)) ∧
     exec (.bandVerify n bad) s = .next (s.onCopy n 0x22 (fun u w => if (u.cs n).abortReq = true then u.post n 1 0 0
       else if u.f .BTL_BT_COUNT_COUNT 0 ≤ dw w 8 then u.post n 2 0 0 else if u.headDown (bandHead (u.band (dw w 8))) = true then u.post n 0x0A 0 0
       else u.verifyItem n w bad)) ∧
     exec (.xor n) s = .next (s.onCopy n 0x23 (fun u w => if (u.cs n).abortReq = true then u.post n 1 0 0
       else if u.refused (dAddr w) (dCount w) = true ∨ u.refused (dArg w) (dCount w) = true then u.csFault n 5
       else (u.xorInto n (dAddr w) (dArg w) (dCount w)).2.post n (if (u.xorInto n (dAddr w) (dArg w) (dCount w)).1 = true then 7 else 0) 0 (dCount w))) ∧
     exec (.log n) s = .next (s.onCopy n 0x24 (fun u w => (u.ringItem n).elim u (fun e => u.logItem n e.2.1 e.2.2 w)))) ∧
  (∀ (n opc : Nat) (g : State → List Nat → State) (s u : State), (u = s.handOver 12) → 
      s.onCopy n opc g = (if s.csTarget n ≠ some 12 then s else (u.ringItem n).elim u (fun e => if dOpc e.1 = opc ∧ u.csRuns n = true then g u e.1 else u))) ∧
  (∀ (n : Cs) (w : List Nat) (bad : List (Nat × Nat)) (s : State) (x : Nat × Bool × Bool × State), (x = s.verifyTracks (dw w 8) false 0 (min (dCount w) (leAt (s.band (dw w 8)) 6 2 - leAt (s.band (dw w 8)) 24 2)) bad) → 
      s.verifyItem n w bad = x.2.2.2.post n (if x.2.2.1 = true then 3 else if x.2.1 = true then 4 else 0) 0 x.1) ∧
  (∀ (n : Cs) (w : List Nat) (h l t : Nat) (s : State), (h = pmaHead (dPma w)) → (t = pmaTrack (dPma w)) → (l = h / 6 * 2) → 
      s.copyItem n w = (if (s.cs n).abortReq = true then s.post n 1 0 0
     else if s.headDown h = true ∨ (dArg w ≠ 0 ∧ s.headDown (pmaHead (dArg w)) = true) then s.post n 0x0A 0 0
     else if s.headHeld h = true then s.post n 6 0 0
     else (s.copyRefusal w).elim (if (s.lane l).op.isSome = true ∨ s.b .CHN_CTRL_EN l = false then s
         else (if s.b .CHN_STATUS_ARMED l = true ∧ s.laneHead l = h ∧ (s.lane l).armWrite = true then s else s.armLane l h t true).copyWrite n w)
       (fun e => s.post n e.1 e.2 0))) ∧
  (∀ (n : Cs) (w : List Nat) (h l t d dspt k0 : Nat) (hf : List (List Byte × Bool)) (x : List (List Byte × Bool) × State) (s u : State), (h = pmaHead (dPma w)) → (t = pmaTrack (dPma w)) → (d = pmaSector (dPma w)) → (l = h / 6 * 2) → (dspt = s.zoneDspt (s.zoneFor h t)) → (k0 = (s.copyHeaded w && d != 1).toNat) → ((hf, u) = s.copyHeader w) → (x = u.copyBlocks n (dAddr w) (dArg w) ((s.bandAt h t).bind (fun p => u.bandLba p t d dspt)) k0 (dCount w - k0)) → 
      s.copyWrite n w = (if s.b .CHN_STATUS_PA_FLT l = true then (((s.inc .CHN_CNT_C_WFAULT l 1).event 0x7007 0 0 0).disarmLane l).post n 0x0B 2 0
     else if s.readyNow l = false then s
     else (((s.copyTracks w).foldl (fun v c => v.copyTrack n h c (fun i => (hf ++ x.1).getD i ([], false))) x.2).disarmLane l).post n
       (if x.1.any (·.2) = true then 7 else 0) 0 (dCount w))) ∧
  (∀ (n : Cs) (r i : Nat) (w : List Nat) (f : AppResult × List Byte × State) (s : State), (f = s.logDesc r i w) → 
      s.logItem n r i w = f.2.2.post n (if f.1 = 0 then 0 else 2) (logDetail f.1) 0 ∧
     s.portLogItem r i w = (f.2.2.descDone r i (if f.1 = 0 then 0 else 2) (logDetail f.1) 0).resultBack r) ∧
  (∀ (s : State), 
      (s.tq 15 = [] → exec .portLog s = .next s) ∧
     (∀ r i q, s.tq 15 = (r, i) :: q → exec .portLog s = .next (((s.setTq 15 q).descOf r i).elim (s.setTq 15 q) (fun d =>
       ((s.setTq 15 q).setDesc r i .taken).portLogItem r i d.words))))

/-- With the drivers' domain off, or no such item held once the queue has handed over its oldest, a row does nothing more (log entry 13). An item that CS40 holds, not one already in progress, ends ABORTED under ABORT_REQ but for a TIER, is refused with its DETAIL where R294 says so, ends DRIVER_FAULT where the drivers are not enabled (log entry 35), and otherwise begins: START ends DRIVER_FAULT after a trip, is done at once when the spindle is at speed at that tier, and else invalidates AOFS and asks for SPIN; one in progress coasts under ABORT_REQ and ends. STOP waits while a start is under way, and otherwise is done as the spindle enters COAST; TIER moves the target, upward once SPIN is on; RETRACT retracts the actuators it names and is done when none of them is on its way; MEASURE waits for its result. EN = 1 is refused with CFG_ERR unless R295's conditions hold, EN = 0 unless the spindle has stopped, when a committed bank takes force. (Spindle and Actuator Drivers; Supplies, Clocks and Staged Start; Media Work Rings) -/
def Obligations.MotorItems : Prop :=
  (∀ (s : State), 
      (s.mpd.moving ≠ 1 → exec .start s = .next (s.motorItem 0x30 false (fun u n w => if u.mpd.spnTrip = true then u.post n 0x0D 3 0
       else if u.b .MPD_SPN_STAT_AT_SPEED 0 = true ∧ u.f .MPD_SPN_STAT_TIER_NOW 0 = dArg0 w then u.post n 0 0 0
       else (((List.range 4).foldl (fun v a => v.setB .MPD_AOFS_VALID a false) u).updMpd (fun x => { x with moving := 1, aligns := 0, restarts := 0, coast := 0, brakeAsk := false })).sloePush 16 true))) ∧
     (s.mpd.moving = 1 → exec .start s = .next ((s.heldBy 13 [0x30]).elim s (fun e => if (s.cs e.1).abortReq = true then
       ((if drivenState s.spn = true then s.coastFrom 0 else s).updMpd (fun x => { x with moving := 0 })).post e.1 1 0 0 else s)))) ∧
  (∀ (s : State), 
      exec .stop s = .next (s.motorItem 0x31 false (fun u n w => if drivenState u.spn = true ∧ u.spn ≠ 5 ∧ u.spn ≠ 6 then u else u.stopSpindle n w)) ∧
     exec .tier s = .next (s.motorItem 0x32 (decide (2 ≤ s.mpd.moving)) (fun u _ w => if dArg0 w < u.f .MPD_SPN_STAT_TIER_NOW 0 then (u.updMpd (fun x => { x with moving := 2 })).sloePush 16 true
       else (u.updMpd (fun x => { x with moving := 3, target := dArg0 w, good := 0 })).speedFlags)) ∧
     exec .retract s = .next (s.motorItem 0x33 (s.mpd.retWait != 0) (fun u n w => u.retractNamed n w)) ∧
     exec .measure s = .next (s.motorItem 0x34 s.mpd.measItem (fun u _ _ => u.updMpd (fun x => { x with measItem := true })))) ∧
  (∀ (opc n : Nat) (w : List Nat) (busy : Bool) (g : State → Nat → List Nat → State) (s u : State), (s.itemOf 13 opc = some (u, n, w)) → 
      s.motorItem opc busy g = (if s.blkOn .mpd 0 = false then s else if busy = true then u else if (u.cs n).abortReq = true ∧ opc ≠ 0x32 then u.post n 1 0 0
     else (u.motorRefusal w).elim (if u.b .MPD_CTRL_EN 0 = true then g u n w else u.post n 0x0D 0 0) (fun d => u.post n 2 d 0))) ∧
  (∀ (opc : Nat) (busy : Bool) (g : State → Nat → List Nat → State) (s : State), (s.itemOf 13 opc = none) → 
      s.motorItem opc busy g = (if s.blkOn .mpd 0 = true then s.handOver 13 else s)) ∧
  (∀ (n : Nat) (w : List Nat) (s u v : State) (k : Nat), (u = s.updMpd (fun x => { x with brakeAsk := bit (dArg0 w) 0, coast := 0 })) → (v = (List.range 4).foldl (fun u a => if bit (dArg0 w) a = true then u.retract a false else u) s) → (k = (List.range 4).foldl (fun m a => if (bit (dArg0 w) a && v.retRes a == 3) = true then m + 2 ^ a else m) 0) → 
      s.stopSpindle n w = ((if drivenState u.spn = true then u.coastFrom 0 else u).post n 0 0 0).spnBrake ∧
     s.retractNamed n w = (if k = 0 then v.post n 0 0 0 else v.updMpd (fun x => { x with retWait := k }))) ∧
  (∀ (v : Bool) (s : State), 
      exec (.mpdEn v) s = .next (if s.blkOn .mpd 0 = false then s.unstarted .mpd else if s.b .MPD_CTRL_EN 0 = v then s
     else if v = true then (if s.mpdOk = true then s.setB .MPD_CTRL_EN 0 true else s.cfgErr .mpd (Fld.MPD_CTRL_EN.addr 0))
     else if s.spn ≠ 0 then s.cfgErr .mpd (Fld.MPD_CTRL_EN.addr 0)
     else if (s.setB .MPD_CTRL_EN 0 false).b .MPD_SPN_TBL_COMMIT_PEND 0 = true then (s.setB .MPD_CTRL_EN 0 false).tblApply else s.setB .MPD_CTRL_EN 0 false))

/-- While the drivers' domain is off these change nothing. In the state that waits for it each event moves the spindle on, in any other it changes nothing but what it measures. The end of a measurement answers a MEASURE item, or in MEASURE tells the speed and direction and chooses ALIGN, COAST or the wait for six valid crossings that lead to BEMF; from 2% of the target it is told by event 0x9003. ALIGN_END leads to OPEN_LOOP, six valid crossings there, in HOLD or awaited to BEMF, a time-out back to ALIGN at most three times and then to what State.restartFail says. A wedge gap in WEDGE leads to BEMF with every actuator UNLOADED, or with a small residual and event 0x900D, else to HOLD with event 0x9005; HOLD's time-out to COAST or, restarts exhausted, to FAULT, with event 0x9006; a re-acquisition's to MEASURE with event 0x9007; COAST's ends a START, or a restart, with event 0x900C. A speed below its threshold leads from COAST to ALIGN, from COAST or BRAKE to STOPPED, retracts, ends the harvest state, or lets the brake on. The end of the harvest tells the energy with event 0x900B. A pseudo-STAMP in BEMF triggers the spindle's engine where STAMP is its source, with the speed error of the measured speed, no wedge measured, and a phase current that is a free value. (Spindle and Actuator Drivers; Scope and Conventions) -/
def Obligations.SpindleEvents : Prop :=
  (∀ (rpm : BitVec 16) (backward : Bool) (n : Nat) (s u v : State), (n = tierRpm s.mpd.target) → (u = (s.setRpm rpm.toNat).setB .MPD_SPN_STAT_DIR 0 backward) → (v = (if n ≤ 50 * rpm.toNat then u.event 0x9003 rpm.toNat backward.toNat 0 else u)) → 
      exec (.measureEnd rpm backward) s = .next (if s.blkOn .mpd 0 = false then s
     else if s.mpd.measItem = true then (u.updMpd (fun x => { x with measItem := false })).motorEnd [0x34] 0 backward.toNat rpm.toNat
     else if s.spn ≠ 1 then s
     else if 50 * rpm.toNat < n then (v.setSpn 3).updMpd (fun x => { x with aligns := 0 })
     else if backward = true ∨ 5 * rpm.toNat < n then v.coastFrom 1
     else if v.mpd.crossings = 6 then v.setSpn 5
     else v.updMpd (fun x => { x with coast := 3 }))) ∧
  (∀ (valid : Bool) (angle : BitVec 12) (k : Nat) (s u : State), (k = (if valid = true then min 6 (s.mpd.crossings + 1) else 0)) → (u = s.updMpd (fun x => { x with crossings := k, angle := if valid = true then angle.toNat else x.angle })) → 
      exec (.bemfCrossing valid angle) s = .next (if s.blkOn .mpd 0 = false then s
       else if k = 6 ∧ (u.spn = 4 ∨ u.spn = 7 ∨ (u.spn = 1 ∧ u.mpd.coast = 3)) then (u.setSpn 5).updMpd (fun x => { x with coast := 0 }) else u) ∧
     exec .alignEnd s = .next (if s.blkOn .mpd 0 = true ∧ s.spn = 3 then s.setSpn 4 else s) ∧
     exec .openLoopTimeout s = .next (if s.blkOn .mpd 0 = false ∨ s.spn ≠ 4 then s
       else if s.mpd.aligns < 3 then (s.setSpn 3).updMpd (fun x => { x with aligns := x.aligns + 1 }) else s.restartFail)) ∧
  (∀ (s : State), 
      s.restartFail = (if s.mpd.restarts = 0 then (s.spnFault 0 5).motorFault 0 else if 2 ≤ s.mpd.restarts then s.spnFault 0 5 else s.coastFrom 2)) ∧
  (∀ (residual : BitVec 12) (s u : State), (u = s.updMpd (fun x => { x with residual := residual.toNat, runs := [] })) → 
      exec (.wedgeGapCheck residual) s = .next (if s.blkOn .mpd 0 = false ∨ s.spn ≠ 6 then s else if u.allParked = true then u.setSpn 5
       else if residual.toNat ≤ u.f .MPD_SPN_LOSS_RESID_THR 0 then (u.setSpn 5).event 0x900D 0 0 0
       else ((u.setSpn 7).event 0x9005 0 0 0).motorFault 2) ∧
     exec .holdTimeout s = .next (if s.blkOn .mpd 0 = false ∨ s.spn ≠ 7 then s
       else if 2 ≤ s.mpd.restarts then (s.event 0x9006 0 0 0).restartFail else (s.coastFrom 2).event 0x9006 0 0 0) ∧
     exec .reacquireTimeout s = .next (if s.blkOn .mpd 0 = false ∨ (s.spn ≠ 2 ∧ s.spn ≠ 0) ∨ s.mpd.coast ≠ 2 then s
       else ((s.updMpd (fun x => { x with restarts := x.restarts + 1 })).beginMeasure).event 0x9007 0 0 0)) ∧
  (∀ (s u : State), (u = (s.updMpd (fun x => { x with coast := 0 })).event 0x900C 0 0 0) → 
      exec .coastTimeout s = .next (if s.blkOn .mpd 0 = false ∨ s.spn ≠ 2 ∨ s.mpd.coast ≠ 1 then s
     else if u.mpd.moving = 1 then u.motorFault 1 else if u.mpd.restarts ≠ 0 then u.restartFail else u)) ∧
  (∀ (v : Nat) (s u : State), ((v, u) = s.free) → 
      exec .pseudoStamp s = .next (if s.blkOn .mpd 0 = false ∨ s.spn ≠ 5 ∨ s.f .SRV_QE_CFG_TRIG_SRC 8 ≠ 2 then s
     else u.fireSpindle [0x8000, 0x8000, 0x8000, 0x8000] (if s.f .MPD_SPN_STAT_RPM 0 = 0 then -32768 else s.periodError (96000000000 / s.f .MPD_SPN_STAT_RPM 0)) (v % 65536))) ∧
  (∀ (rpm : BitVec 16) (n : Nat) (s u v : State), (n = tierRpm s.mpd.target) → (u = s.setRpm rpm.toNat) → (v = (u.setSpn 0).updMpd (fun x => { x with coast := if x.coast = 2 then 2 else 0, brakeAsk := false })) → 
      exec (.speedThreshold rpm) s = .next (if s.blkOn .mpd 0 = false then s
     else if u.spn = 2 ∧ u.mpd.coast = 1 ∧ 50 * rpm.toNat < n then (u.setSpn 3).updMpd (fun x => { x with aligns := 0, coast := 0 })
     else if (u.spn = 2 ∨ u.spn = 8) ∧ 200 * rpm.toNat < n then (if v.mpd.moving = 1 ∧ v.dom 16 = true then v.beginMeasure else v)
     else if u.spn = 2 ∧ u.mpd.coast = 2 ∧ 10 * rpm.toNat < 8 * n then u.retractAll
     else if u.spn = 9 ∧ rpm.toNat ≤ 10 * u.f .MPD_HARV_HARV_FLOOR 0 then u.coastFrom 0
     else u.spnBrake)) ∧
  (∀ (mj : BitVec 16) (s u : State), (u = (if s.spn = 9 then s.coastFrom 0 else s)) → 
      exec (.harvestEnd mj) s = .next (if s.blkOn .mpd 0 = false ∨ s.mpd.harvest = false then s
     else ((u.updMpd (fun x => { x with harvest := false })).setF .MPD_HARV_STAT_HARV_MJ 0 mj.toNat).event 0x900B mj.toNat 0 0))

/-- While the drivers' domain is off a trip changes nothing. The spindle driver's faults the spindle and retracts every actuator; a VCM driver's latches its cause, sets DRV_EV, records event 0x9009 with its number (log entry 34), faults a loop mode and retracts, an item in progress completing DRIVER_FAULT (log entry 33); a microactuator driver's holds that microactuator at 0 V; a low boost holds them all; an over-temperature trips the spindle, every VCM and every microactuator. A retract in progress ends PARKED in UNLOADED, or in TIMEOUT in FAULT with cause 5, with RET_EV and event 0x900A; an UNLOAD item and a RETRACT item that waits for it end with it; of an actuator with none in progress its ends change nothing. (Spindle and Actuator Drivers; Servo and Quince Engines) -/
def Obligations.DriverTripsAndRetracts : Prop :=
  (∀ (d : Driver) (c : TripCause) (a : Act) (s : State), 
      exec (.driverTrip d c) s = .next (if s.blkOn .mpd 0 = true then s.driverTrip d c else s) ∧
     exec (.retractParked a) s = .next (s.retractEnd a true) ∧ exec (.retractTimeout a) s = .next (s.retractEnd a false)) ∧
  (∀ (d : Driver) (h : Head) (a : Act) (s u : State), (u = ((s.setF .MPD_MA_FLT_FLT 0 (setBit (s.f .MPD_MA_FLT_FLT 0) h true)).setB .MPD_STATUS_DRV_EV 0 true).event 0x9009 5 1 0) → 
      s.driverTrip d .temperature = (((List.range 4).foldl (fun u a => u.tripVcm a 3) (s.tripSpindle 3)).setF .MPD_MA_FLT_FLT 0 0xFFFFFF).maOff ∧
     s.driverTrip d .boostLow = (((s.updMpd (fun x => { x with boostLow := true })).setB .MPD_STATUS_DRV_EV 0 true).event 0x9009 6 4 0).maOff ∧
     s.driverTrip .spindle .overcurrent = s.tripSpindle 1 ∧ s.driverTrip .spindle .openLoad = s.tripSpindle 2 ∧
     s.driverTrip (.vcm a) .overcurrent = s.tripVcm a 1 ∧ s.driverTrip (.vcm a) .openLoad = s.tripVcm a 2 ∧
     s.driverTrip (.ma h) .overcurrent = u.updAct (h.val / 6) (fun x => { x with ma0 := if u.pri (h.val / 6) = h.val % 6 then 0 else x.ma0, ma1 := if u.mate (h.val / 6) = h.val % 6 then 0 else x.ma1 }) ∧
     s.driverTrip .boost .overcurrent = s ∧ s.driverTrip .boost .openLoad = s) ∧
  (∀ (cause : Nat) (s : State), 
      s.tripSpindle cause = ((((s.updMpd (fun x => { x with spnTrip := true, measItem := false })).spnFault 0 cause).motorFault 3).motorEnd [0x34] 0x0D 3 0).retractAll ∧
     s.spnFault 0 cause = ((s.setSpn 10).setB .MPD_STATUS_DRV_EV 0 true).event 0x9009 0 cause 0) ∧
  (∀ (a cause : Nat) (s t u v w : State), (t = ((((s.setF .MPD_VCM_STAT_TRIP a cause).setB .MPD_STATUS_DRV_EV 0 true).event 0x9009 (1 + a) cause 0).updAct a (fun x => { x with vcm := 0 }))) → (u = (if loopMode (t.mode a) = true then t.faultAct a 3 else t)) → (v = (u.heldBy (8 + a) [0x10, 0x11, 0x12, 0x13, 0x14]).elim u (fun e => (u.updAct a (fun x => { x with taken := none, pend := none })).post e.1 0x0D 3 0)) → (w = (if bit v.mpd.retWait a = true then (v.updMpd (fun x => { x with retWait := 0 })).motorEnd [0x33] 0x0D 3 0 else v)) → 
      s.tripVcm a cause = w.retract a false) ∧
  (∀ (a : Nat) (parked : Bool) (s t u v w : State), (t = (((s.setRet a (if parked = true then 1 else 2)).setB .MPD_STATUS_RET_EV 0 true).event 0x900A a (if parked = true then 1 else 2) 0).updAct a (fun x => { x with vcm := 0 })) → (u = (if parked = true then (((List.range 6).foldl (fun u k => if k = u.pri a ∨ k = u.mate a then u.endRun a k else u) t).setMode a 0).setF .SRV_ACT_STAT_MATE a 7 else if t.mode a = 7 ∨ t.blkOn .srv 0 = false then t else t.faultAct a 5)) → (v = (u.heldBy (8 + a) [0x13]).elim u (fun e => u.servoEnd a e.1 (if parked = true then 0 else 5) 0)) → (w = v.updMpd (fun x => { x with retWait := setBit x.retWait a false })) → 
      s.retractEnd a parked = (if s.retRes a ≠ 3 then s else ((if bit v.mpd.retWait a = false then w
     else if parked = false then (w.updMpd (fun x => { x with retWait := 0 })).motorEnd [0x33] 0x0D 4 0
     else if w.mpd.retWait = 0 then w.motorEnd [0x33] 0 0 0 else w).actFlags a).spnBrake))

/-- A completion whose tag is neither outstanding nor quarantined is logged in the port's AER as an Unexpected Completion, as an advisory non-fatal error with its status and its message, and discarded, and event 0x1004 is recorded; one that is poisoned is logged as such before. Of a port that does not exist nothing changes. What is logged of its header is open. (R41) -/
def Obligations.UnexpectedCompletions : Prop :=
  (∀ (p : Port) (tag : Nat) (d : List Byte) (good poisoned expiring : Bool) (s u : State), ((s.hp p).reqs.find? (fun r => r.tag == tag) = none) → ((s.hp p).quar.find? (fun q => q.tag == tag) = none) → (u = (if poisoned = true then s.poisonedTlp p else s)) → 
      exec (.completionTlp p tag d good poisoned expiring) s = .next (if s.portOk p = true then (u.aer p 1).event 0x1004 0 0 0 else s)) ∧
  (∀ (p h : Nat) (s u : State), ((h, u) = s.free) → 
      s.aer p 1 = (u.setHp p { u.hp p with aer := (u.hp p).aer ++ [{ kind := 1, advisory := true, header := h % 2 ^ 128 }], advisory := true }).send (.errMsg p 0) ∧
     s.poisonedTlp p = ((u.setHp p { u.hp p with aer := (u.hp p).aer ++ [{ kind := 2, advisory := false, header := h % 2 ^ 128 }] })).event 0x1005 0 0 0)

/-- While DISABLE_PENDING reads 1, a write of 1 to EN changes nothing but that it sets CFG_ERR, and so does a GO of any maintenance operation; each with the event of the block's first CFG_ERR. With the block's domain off, such a write is only recorded. (R124) -/
def Obligations.EnableAndMaintenanceDuringTheWalk : Prop :=
  (∀ (count : BitVec 17) (setWay : Bool) (s : State), (s.b .BUF_BRM_CTRL_DISABLE_PENDING 0 = true) → 
      exec .brambleEnable s = .next (if s.blkOn .buf 0 = true then s.cfgErr .buf (Fld.BUF_BRM_CTRL_EN.addr 0) else s.unstarted .buf) ∧
     exec (.clean count setWay) s = .next (if s.blkOn .buf 0 = true then s.cfgErr .buf (Fld.BUF_CMO_CTRL_GO.addr 0) else s.unstarted .buf) ∧
     exec (.invalidate count setWay) s = .next (if s.blkOn .buf 0 = true then s.cfgErr .buf (Fld.BUF_CMO_CTRL_GO.addr 0) else s.unstarted .buf) ∧
     exec (.cleanAndInvalidate count setWay) s = .next (if s.blkOn .buf 0 = true then s.cfgErr .buf (Fld.BUF_CMO_CTRL_GO.addr 0) else s.unstarted .buf)) ∧
  (∀ (a : Nat) (s t : State), (t = s.setB .BUF_STATUS_CFG_ERR 0 true) → 
      (Tbl.get s.dev.cfgSeen false (Fld.BUF_STATUS_CFG_ERR.key 0) = true → s.cfgErr .buf a = t) ∧
     (Tbl.get s.dev.cfgSeen false (Fld.BUF_STATUS_CFG_ERR.key 0) = false → s.cfgErr .buf a =
       ({ t with dev := { t.dev with cfgSeen := Tbl.set t.dev.cfgSeen false (Fld.BUF_STATUS_CFG_ERR.key 0) true } }).event 0x3001 a 0 0))

/-- A fault of VAON or VCORE (rails 3 and 4) asks for a cold reset with cause RAIL; of any other it sets the FLT bit of each domain it feeds that is on, RAIL_EV, records event 0xA007 with the rail, and stops those domains; one of VMOT (rail 0), which feeds no domain, trips the spindle and the VCM drivers as an overcurrent while their domain is on. The input's voltage is shown; below 10.8 V LOWV rises, at 11.2 V or more it falls, either with LOWV_EV and event 0xA004 or 0xA005. While SUP's domain is on the governor takes a mean of the input's power and voltage: above the limit it sets GOV_EV and records event 0xA006 once per episode and lowers the VCM cap by 1/16, or cuts the spindle while a START or TIER is under way; ten means in a row 2 W or more below it raise the cap again by 1/16. A crystal found or stopped shows in XT32, a stop with event 0xA00E; a failure of the main one is kept for the next start; a retry of the BOOT step, where one waits, brings BOOT up unless it is held off, or adds cause XTAL. (Supplies, Clocks and Staged Start; Spindle and Actuator Drivers) -/
def Obligations.SupplyEvents : Prop :=
  (∀ (rail : Fin 17) (ds : List Nat) (s u v : State), (ds = (railDoms rail).filter (fun d => s.dom d)) → (u = ((s.setF .SUP_DOM_FLT_FLT 0 (ds.foldl (fun m d => setBit m d true) (s.f .SUP_DOM_FLT_FLT 0))).setB .SUP_STATUS_RAIL_EV 0 true).event 0xA007 rail 0 0) → (v = ds.foldl (fun u d => u.domStop d) u) → 
      exec (.railFault rail) s = .next (if rail.val = 3 ∨ rail.val = 4 then s.requestReset 5 0
     else if rail.val = 0 ∧ v.dom 13 = true then (List.range 4).foldl (fun u a => u.tripVcm a 1) (v.tripSpindle 1) else v)) ∧
  (
      (List.range 17).map railDoms = [[], [14], [14], [], [], [1], [6, 7, 8, 9, 10], [3, 12], [1], [2], [2], [2], [2], [11], [11], [15], [15]]) ∧
  (∀ (mv : BitVec 16) (s u : State), (u = s.setF .SUP_VIN_VIN_MV 0 mv.toNat) → 
      exec (.lowvSet mv) s = .next (if u.b .SUP_STATUS_LOWV 0 = false ∧ mv.toNat < 10800 then u.setLowv true else u) ∧
     exec (.lowvClear mv) s = .next (if u.b .SUP_STATUS_LOWV 0 = true ∧ 11200 ≤ mv.toNat then u.setLowv false else u)) ∧
  (∀ (v : Bool) (s : State), 
      s.setLowv v = (((((s.setB .SUP_STATUS_LOWV 0 v).setB .MPD_STATUS_LOWV 0 v).setB .SUP_STATUS_LOWV_EV 0 true).event (if v then 0xA004 else 0xA005) 0 0 0)).sloeShow) ∧
  (∀ (pin vin : BitVec 16) (s u v w : State), (u = s.setFs 0 [(.SUP_VIN_PIN, pin.toNat), (.SUP_VIN_VIN_MV, vin.toNat)]) → (v = (if u.sup.gov = true then u else (u.setB .SUP_STATUS_GOV_EV 0 true).event 0xA006 0 0 0).updSup (fun x => { x with gov := true, govMs := 0 })) → (w = (u.updSup (fun x => { x with gov := false, spinCut := 0 })).setB .SUP_GOV_SPIN_CUT 0 false) → 
      exec (.governorTick pin vin) s = .next (if s.blkOn .sup 0 = false then s
     else if u.inputLimit < pin.toNat then (if v.mpd.moving ≠ 0 then (v.updSup (fun x => { x with spinCut := x.spinCut + (pin.toNat - u.inputLimit) })).setB .SUP_GOV_SPIN_CUT 0 true
       else v.setF .SUP_GOV_CAP 0 (v.f .SUP_GOV_CAP 0 - 0x800))
     else if pin.toNat + 200 ≤ u.inputLimit then (if w.sup.govMs + 1 < 10 then w.updSup (fun x => { x with govMs := w.sup.govMs + 1 })
       else (w.updSup (fun x => { x with govMs := 0 })).setF .SUP_GOV_CAP 0 (min 0x7FFF (w.f .SUP_GOV_CAP 0 + 0x800)))
     else w.updSup (fun x => { x with govMs := 0 }))) ∧
  (∀ (s : State), 
      s.inputLimit = min (if s.b .SUP_STATUS_LOWV 0 = true then 2500 else 4200) (25 * max 1 (min 168 (s.f .SUP_PLIM_PIN_MAX 0)))) ∧
  (∀ (found good : Bool) (s u : State), (u = s.updSup (fun x => { x with xtal := true, bootWait := false })) → 
      exec (.xtal32Detect found) s = .next (s.setB .SUP_STATUS_XT32 0 found) ∧
     exec .xtal32Stop s = .next (if s.b .SUP_STATUS_XT32 0 = true then (s.setB .SUP_STATUS_XT32 0 false).event 0xA00E 0 0 0 else s) ∧
     exec .crystalFailure s = .next (s.updSup (fun x => { x with xtal := false })) ∧
     exec (.xtalBootRetry good) s = .next (if s.sup.bootWait = false then s
       else if good = true then (if u.sup.held = true ∨ u.bootHeld = true then u else u.bootOn)
       else s.setF .SUP_RST_CAUSE_CAUSE 0 (s.f .SUP_RST_CAUSE_CAUSE 0 ||| 0x20)))

/-- While SUP's domain is off a request, a flush and a device-state request are only recorded. A request joins the queue, or is refused with CFG_ERR for a domain above 16 or with 16 queued; FLUSH discards what has not begun. The start at the head, with no step under way, ends at once for a domain that is on, waits while its figure does not fit the budget, and else begins with its figure in the sum; then its domain comes on, which shows the owners of a MIRROR that came on, the speed of a PLV, and grants SPIN; or it fails: its figure leaves the sum, FLT and SLOE_EV are set with event 0xA002, and with event 0xA00F for a PLL of that domain. A stop at the head is refused with CFG_ERR where State.stopRefused says so, and else stops its domain. A request that waits sets SLOE_EV and records event 0xA003, once. A device state is refused with CFG_ERR where it is 3, or STANDBY with a domain on other than the first four; else it is shown, and a change of it records event 0xA00D and is in force; a source that is enabled leads from STANDBY back to RUN, the wake timer only while it is set, a power loss on into the loss. (Supplies, Clocks and Staged Start; Spindle and Actuator Drivers; Servo and Quince Engines) -/
def Obligations.SloeAndDeviceStates : Prop :=
  (∀ (d : BitVec 5) (on flush : Bool) (s : State), 
      exec (.sloeRequest d on flush) s = .next (if s.blkOn .sup 0 = true then (if flush = true then s.sloeFlush else s).sloePush d.toNat on else s.unstarted .sup) ∧
     exec .sloeFlush s = .next (if s.blkOn .sup 0 = true then s.sloeFlush else s.unstarted .sup) ∧
     s.sloeFlush = (s.updSup (fun x => { x with sloe := if x.step = true then x.sloe.take 1 else [], noted := x.noted && x.step })).sloeShow) ∧
  (∀ (d : Nat) (on : Bool) (s : State), 
      s.sloePush d on = (if 16 < d ∨ 16 ≤ s.sup.sloe.length then s.cfgErr .sup (Fld.SUP_SLOE_REQ_GO.addr 0)
     else (s.updSup (fun x => { x with sloe := x.sloe ++ [{ dom := d, on := on }] })).sloeShow)) ∧
  (∀ (r : SloeReq) (l : List SloeReq) (s u v : State), (s.sup.sloe = r :: l) → (u = s.addSum (s.figure r.dom)) → (v = (s.setDom r.dom true).sloePop.railShow) → 
      exec .domainStart s = .next (if r.on = false ∨ s.sup.step = true then s
       else if s.dom r.dom = true ∨ r.dom = 0 then (if r.dom = 16 then s.spinGranted else s).sloePop
       else if s.admitted r.dom = false then s.sloeShow
       else (u.updSup (fun x => { x with step := true, spinFig := if r.dom = 16 then s.figure r.dom else x.spinFig })).sloeShow) ∧
     exec .domainOn s = .next (if s.sup.step = false then s else if r.dom = 16 then v.spinGranted.sloeShow else if r.dom = 11 then v.speedFlags
       else if r.dom = 12 then v.mirShow else v) ∧
     exec .domainStop s = .next (if r.on = true then s else if s.stopRefused r.dom = true then s.sloePop.cfgErr .sup (Fld.SUP_SLOE_REQ_GO.addr 0) else s.sloePop.domStop r.dom)) ∧
  (∀ (r : SloeReq) (l : List SloeReq) (pll : Option (Fin 5)) (s u v : State), (s.sup.sloe = r :: l) → (u = s.subSum (if r.dom = 16 then s.sup.spinFig else s.figure r.dom)) → (v = ((u.setF .SUP_DOM_FLT_FLT 0 (setBit (u.f .SUP_DOM_FLT_FLT 0) r.dom true)).setB .SUP_STATUS_SLOE_EV 0 true).event 0xA002 r.dom 0 0) → 
      exec (.domainStartFail pll) s = .next (if s.sup.step = false then s
     else (pll.elim v (fun p => if (pllOf r.dom).contains p.val = true then v.event 0xA00F p 0 0 else v)).sloePop)) ∧
  (∀ (pll : Option (Fin 5)) (s : State), (s.sup.sloe = []) → 
      exec .domainStart s = .next s ∧ exec .domainOn s = .next s ∧ exec .domainStop s = .next s ∧ exec (.domainStartFail pll) s = .next s) ∧
  (∀ (s u : State), (u = s.sloeShow) → 
      exec .sloeWaitTimeout s = .next (if u.b .SUP_SLOE_STAT_WAITING 0 = false ∨ u.sup.noted = true then u
       else ((u.updSup (fun x => { x with noted := true })).setB .SUP_STATUS_SLOE_EV 0 true).event 0xA003 0 0 0) ∧
     exec .wakeTimer s = .next (if s.f .SUP_WKT_MS 0 = 0 then s else s.wake 4)) ∧
  (∀ (req : BitVec 2) (s u : State), (u = s.setF .SUP_DSTATE_REQ 0 req.toNat) → 
      exec (.deviceStateRequest req) s = .next (if s.blkOn .sup 0 = false then s.unstarted .sup
     else if req.toNat = 3 ∨ (req.toNat = 2 ∧ 16 ≤ s.f .SUP_DOM_ON_ON 0) then s.cfgErr .sup (Fld.SUP_DSTATE_REQ.addr 0)
     else if u.f .SUP_DSTATE_NOW 0 = req.toNat then u else (u.standBy req.toNat).event 0xA00D 0 0 0)) ∧
  (∀ (r : Nat) (s u : State), (u = (s.setF .SUP_DSTATE_NOW 0 r).railShow) → 
      s.standBy r = (if r = 2 then u.updSup (fun x => { x with standAt := u.aont })
     else if s.f .SUP_DSTATE_NOW 0 = 2 then u.setMtime (u.mtime + 100 * (u.aont - u.sup.standAt)) else u)) ∧
  (∀ (src : Fin 7) (k : Nat) (s u : State), (u = (s.standBy 0).setFs 0 [(.SUP_DSTATE_REQ, 0), (.SUP_WAKE_STAT, setBit (s.f .SUP_WAKE_STAT 0) k true)]) → 
      exec (.wake src) s = .next (if s.f .SUP_DSTATE_NOW 0 = 2 ∧ bit (s.f .SUP_WAKE_EN 0) src = true ∧ src.val = 6 then (s.wake src).powerLoss else s.wake src) ∧
     s.wake k = (if s.f .SUP_DSTATE_NOW 0 = 2 ∧ bit (s.f .SUP_WAKE_EN 0) k = true then (u.event 0xA00D 0 0 0).wakeCores else s))

/-- While SUP's domain is off a kick and a SWRST are only recorded. The first expiry of an enabled core watchdog shows it, records event 0xA008 and wakes the cores; its second asks for a reset with cause CORE_WDT, one of the enabled system watchdog with cause SYS_WDT. A kick of 0xA5 and then of 0x5A withdraws the first expiry, any other sets CFG_ERR and starts anew. RESET_N held long enough, SWRST with its key and the debug token ask for a reset; SWRST with any other key sets CFG_ERR. The first request drops ALIVE, abandons the step under way, coasts the spindle and retracts every actuator, an owner with a partner alive only after the wait; each adds its cause. Once it need no longer wait the reset is performed for all of its causes, a cold one where the system watchdog or a rail is among them; its causes, its count and, of a core's watchdog, the core are shown, and BOOT comes up again unless the crystal stands still, RESET_N is held or it is held off. A power-on reset is performed at once. The release of RESET_N samples the straps and brings BOOT up where nothing else keeps it off. A reset empties memory and the causes that wait, and keeps the queue of commands. (Supplies, Clocks and Staged Start; Boot, Measurement and Keys; Paired Operation) -/
def Obligations.WatchdogsAndResets : Prop :=
  (∀ (n : Core) (s : State), 
      exec (.coreWdtFirstExpiry n) s = .next (if s.b .SUP_WDT_CFG_EN n = true then (((s.updSup (fun x => { x with expired := Tbl.set x.expired false n.val true })).event 0xA008 0 0 0).wakeCores) else s) ∧
     exec (.coreWdtSecondExpiry n) s = .next (if s.b .SUP_WDT_CFG_EN n = true ∧ Tbl.get s.sup.expired false n.val = true then s.requestReset 3 n else s) ∧
     exec .sysWdtExpiry s = .next (if s.b .SUP_SWDT_EN 0 = true then s.requestReset 2 0 else s)) ∧
  (∀ (n : Core) (key : Byte) (k : Nat) (fld : Fld) (s u v : State), (u = s.updSup (fun x => { x with kickHalf := Tbl.set x.kickHalf false k true })) → (v = s.updSup (fun x => { x with kickHalf := Tbl.set x.kickHalf false k false })) → 
      exec (.wdtKick n key) s = .next (if s.blkOn .sup 0 = true then s.kick n key.toNat .SUP_WDT_KICK_KEY else s.unstarted .sup) ∧
     exec (.sysWdtKick key) s = .next (if s.blkOn .sup 0 = true then s.kick 8 key.toNat .SUP_SWDT_KICK_KEY else s.unstarted .sup) ∧
     s.kick k key.toNat fld = (if key.toNat = 0xA5 then u
       else if key.toNat = 0x5A ∧ Tbl.get s.sup.kickHalf false k = true then v.updSup (fun x => { x with expired := Tbl.set x.expired false k false })
       else v.cfgErr .sup (fld.addr (k % 8)))) ∧
  (∀ (key : BitVec 16) (token : List Byte) (long : Bool) (s : State), 
      exec (.swrst key) s = .next (if s.blkOn .sup 0 = false then s.unstarted .sup else if key = 0xD1E5 then s.requestReset 4 0 else s.cfgErr .sup (Fld.SUP_RST_GO.addr 0)) ∧
     exec (.resetN long) s = .next (if long = true then (s.updSup (fun x => { x with held := true })).requestReset 1 0 else s) ∧
     exec (.debugReset token) s = .next (({ s with sec := { s.sec with token := token } }.updSup (fun x => { x with debugReset := true })).requestReset 7 0) ∧
     exec .retractWaitEnd s = .next (if s.sup.retractWait = true then (s.updSup (fun x => { x with retractWait := false })).retractAll else s)) ∧
  (∀ (cause core : Nat) (waits : Bool) (s t u v w : State), (t = s.updSup (fun x => { x with causes := setBit x.causes cause true, causeCore := if cause = 3 then core else x.causeCore })) → (waits = (t.paired && (List.range 5).any t.owns && t.mir.aliveIn)) → (u = t.setB .MIR_CTRL_ALIVE 0 false) → (v = (if u.sup.step = true then u.sup.sloe.head?.elim u (fun r => (u.subSum (if r.dom = 16 then u.sup.spinFig else u.figure r.dom)).sloePop) else u)) → (w = (if drivenState v.spn = true ∨ v.spn = 8 then v.coastFrom 0 else v)) → 
      s.requestReset cause core = (if s.sup.causes ≠ 0 then t else if waits = true then w.updSup (fun x => { x with retractWait := true }) else w.retractAll)) ∧
  (∀ (straps : BitVec 5) (s u : State), (u = (s.updSup (fun x => { x with held := false })).sampleStraps straps.toNat) → 
      exec (.resetNRelease straps) s = .next (if s.sup.held = false then s else if u.sup.causes = 0 ∧ u.dom 1 = false ∧ u.bootHeld = false then u.bootOn else u) ∧
     exec (.por straps) s = .next (((s.wipe true true false).bootOn.updSup (fun x => { x with report := 1 })).sampleStraps straps.toNat)) ∧
  (∀ (straps : BitVec 5) (c : Nat) (cold keep : Bool) (s u v w x : State), (c = s.sup.causes) → (cold = (bit c 2 || bit c 5)) → (keep = (s.dom 13 && decide (10 * s.f .MPD_HARV_HARV_FLOOR 0 < s.f .MPD_SPN_STAT_RPM 0))) → (u = (if bit c 6 = true then { s.wipe cold false keep with thm := { (s.wipe cold false keep).thm with off := max 1 (s.wipe cold false keep).thm.off } } else s.wipe cold false keep)) → (v = u.updSup (fun x => { x with report := c })) → (w = (v.setF .SUP_RST_CAUSE_CAUSE 0 (v.f .SUP_RST_CAUSE_CAUSE 0 ||| c)).inc .SUP_RST_CAUSE_RESETS 0 1) → (x = (if cold = true then (if bit c 3 = true then w.setF .SUP_RST_CAUSE_CORE 0 s.sup.causeCore else w).sampleStraps straps.toNat else (if bit c 3 = true then w.setF .SUP_RST_CAUSE_CORE 0 s.sup.causeCore else w).portReset)) → 
      exec (.resetPerform straps) s = .next (if s.resetReady = false then s
     else if x.sup.xtal = false then (x.setF .SUP_RST_CAUSE_CAUSE 0 (x.f .SUP_RST_CAUSE_CAUSE 0 ||| 0x20)).updSup (fun x => { x with bootWait := true })
     else if x.sup.held = true ∨ x.bootHeld = true then x else x.bootOn)) ∧
  (∀ (s : State), 
      s.resetReady = (s.sup.causes != 0 && (List.range 4).all (fun a => s.retRes a != 3) && s.plv.dump.isNone && !s.sup.retractWait)) ∧
  (∀ (cold por keep : Bool) (s : State), 
      (s.wipe cold por keep).mem = [] ∧ (s.wipe cold por keep).sup.causes = 0 ∧ (s.wipe cold por keep).pending = s.pending)

/-- While SEC's domain is off each write of a register is only recorded. CONTAINER_VERIFY with BUSY clear latches class and address and sets BUSY; with BUSY set it is a CFG_ERR. VERIFY_END while BUSY reads the header and the payload that its length names, puts the first check of State.verify that fails, 0 where none does, into RESULT with DONE and VFY_EV, and clears BUSY. ARB_ADVANCE, a CFG_ERR while BUSY, burns for a class up to 8 to a value above COUNT and not above BOOTED, and is refused for every other; its end shows the counter and records event 0xB007. A key slot is revoked with event 0xB008; it is a CFG_ERR for the slot that this boot used or for the last, and nothing for one already revoked. SEC_LOCK sets LOCK. A key operation with BUSY set is a CFG_ERR. With BUSY clear GEN draws a key, counts its generation, wraps it and records 0xB00B, CLEAR removes it with the same event, KEY_LOAD answers 3 under a granted debug level, 1 where the unwrapping fails, with event 0xB00C, 2 for another namespace, and else takes the key; each shows its result, and its end DONE and KEY_EV. That an operation's effect lands with its GO is the model's choice (log entry 47). (Boot, Measurement and Keys; Supplies, Clocks and Staged Start; Scope and Conventions) -/
def Obligations.ImagesCountersAndKeys : Prop :=
  (∀ (cls : BitVec 4) (s : State), 
      exec (.containerVerify cls) s = .next (if s.blkOn .sec 0 = false then s.unstarted .sec
       else if s.b .SEC_VFY_CTRL_BUSY 0 = true then s.cfgErr .sec (Fld.SEC_VFY_CTRL_GO.addr 0)
       else (s.setFs 0 [(.SEC_VFY_CTRL_CLASS, cls.toNat), (.SEC_VFY_CTRL_BUSY, 1), (.SEC_VFY_CTRL_DONE, 0)]).latch [.SEC_VFY_CTRL_CLASS, .SEC_VFY_LO_BASE_LO, .SEC_VFY_HI_BASE_HI]) ∧
     exec .secLock s = .next (if s.blkOn .sec 0 = true then s.setB .SEC_LOCK_LOCK 0 true else s.unstarted .sec)) ∧
  (∀ (a : Nat) (x y : List Byte × Bool × State) (s v : State), (a = s.opnd .SEC_VFY_LO_BASE_LO * 64 + s.opnd .SEC_VFY_HI_BASE_HI * 2 ^ 32) → (x = s.vfyRead a 8192) → (y = x.2.2.vfyRead (a + 8192) (min (2 ^ 22) (leAt x.1 8 4))) → (v = y.2.2) → 
      exec .verifyEnd s = .next (if s.b .SEC_VFY_CTRL_BUSY 0 = false then s else v.setFs 0 [(.SEC_VFY_CTRL_RESULT, v.verify (x.1 ++ y.1) (v.opnd .SEC_VFY_CTRL_CLASS) (8192 + 2 ^ 22) x.2.1 y.2.1),
       (.SEC_VFY_CTRL_DONE, 1), (.SEC_VFY_CTRL_BUSY, 0), (.SEC_STATUS_VFY_EV, 1)])) ∧
  (∀ (c : List Byte) (cls allot : Nat) (hb pb : Bool) (d : List Byte) (s : State), (d = cDigest c) → 
      s.verify c cls allot hb pb = (if hb = true ∨ formatOk c cls allot = false then 1 else if bit (s.f .SEC_KEYREV_REVOKED 0) (cKey c) = true then 2
     else if cKeyHash c ≠ (Config.fuseKeyHash (cKey c) ++ List.replicate 48 0).take 48 then 3 else if Config.ecdsaOk d ((c.drop 128).take 97) ((c.drop 2848).take 96) = false then 4
     else if Config.mldsaOk d ((c.drop 256).take 2592) ((c.drop 2944).take 4627) = false then 5 else if pb = true ∨ h48 (cPayload c) ≠ (c.drop 40).take 48 then 6
     else if cls ≤ 8 ∧ cSvn c < s.f .SEC_ARB_COUNT cls then 7 else 0)) ∧
  (∀ (cls : BitVec 4) (svn : BitVec 6) (s u : State), (u = s.setFs 0 [(.SEC_ARB_ADV_CLASS, cls.toNat), (.SEC_ARB_ADV_SVN, svn.toNat), (.SEC_ARB_ADV_DONE, 0), (.SEC_ARB_ADV_REFUSED, 0)]) → 
      exec (.arbAdvance cls svn) s = .next (if s.blkOn .sec 0 = false then s.unstarted .sec else if s.b .SEC_ARB_ADV_BUSY 0 = true then s.cfgErr .sec (Fld.SEC_ARB_ADV_GO.addr 0)
       else if cls.toNat ≤ 8 ∧ u.f .SEC_ARB_COUNT cls.toNat < svn.toNat ∧ svn.toNat ≤ u.f .SEC_ARB_BOOTED cls.toNat then (u.setB .SEC_ARB_ADV_BUSY 0 true).latch [.SEC_ARB_ADV_CLASS, .SEC_ARB_ADV_SVN]
       else u.setFs 0 [(.SEC_ARB_ADV_REFUSED, 1), (.SEC_ARB_ADV_DONE, 1)]) ∧
     exec .arbAdvanceEnd s = .next (if s.b .SEC_ARB_ADV_BUSY 0 = false then s
       else ((s.setF .SEC_ARB_COUNT (s.opnd .SEC_ARB_ADV_CLASS) (s.opnd .SEC_ARB_ADV_SVN)).setFs 0 [(.SEC_ARB_ADV_BUSY, 0), (.SEC_ARB_ADV_DONE, 1)]).event 0xB007 0 0 0)) ∧
  (∀ (slot : Fin 4) (s u : State), (u = s.setF .SEC_KEYREV_SLOT 0 slot) → 
      exec (.keyRevoke slot) s = .next (if s.blkOn .sec 0 = false then s.unstarted .sec else if bit (u.f .SEC_KEYREV_REVOKED 0) slot = true then u
     else if u.f .SEC_BOOT_KEY 0 = slot ∨ setBit (u.f .SEC_KEYREV_REVOKED 0) slot true = 15 then u.cfgErr .sec (Fld.SEC_KEYREV_GO.addr 0)
     else (u.setF .SEC_KEYREV_REVOKED 0 (setBit (u.f .SEC_KEYREV_REVOKED 0) slot true)).event 0xB008 0 0 0)) ∧
  (∀ (ns : Fin 64) (s : State), 
      exec (.gen ns) s = .next (s.keyOp ns 1 (fun u => (0, u.keyGen ns))) ∧ exec (.clear ns) s = .next (s.keyOp ns 3 (fun u => (0, u.keyClear ns))) ∧
     exec (.keyLoad ns) s = .next (s.keyOp ns 2 (fun u => if u.f .SEC_BOOT_DBG_LV 0 ≠ 0 then (3, u) else (Config.unwrapKey u.wrapBytes).elim (1, u.event 0xB00C 0 0 0) (fun k =>
       if k.2.1 ≠ ns.val then (2, u) else (0, (u.setKey ns (k.1 % 2 ^ 512 + 1)).updSec (fun x => { x with gen := Tbl.set x.gen 0 ns.val (k.2.2 % 2 ^ 32) }))))) ∧
     exec .keyOperationEnd s = .next (if s.b .SEC_KEY_CTRL_BUSY 0 = false then s else s.setFs 0 [(.SEC_KEY_CTRL_BUSY, 0), (.SEC_KEY_CTRL_DONE, 1), (.SEC_STATUS_KEY_EV, 1)])) ∧
  (∀ (i op k g v : Nat) (h : State → Nat × State) (s t u w : State), (u = s.setFs 0 [(.SEC_KEY_CTRL_NSIDX, i), (.SEC_KEY_CTRL_OP, op), (.SEC_KEY_CTRL_BUSY, 1), (.SEC_KEY_CTRL_DONE, 0)]) → ((v, w) = s.free) → (k = v % 2 ^ 512) → (g = (Tbl.get w.sec.gen 0 i + 1) % 2 ^ 32) → (t = (w.setKey i (k + 1)).updSec (fun x => { x with gen := Tbl.set x.gen 0 i g })) → 
      s.keyOp i op h = (if s.blkOn .sec 0 = false then s.unstarted .sec else if s.b .SEC_KEY_CTRL_BUSY 0 = true then s.cfgErr .sec (Fld.SEC_KEY_CTRL_GO.addr 0)
       else (h u).2.setF .SEC_KEY_CTRL_RESULT 0 (h u).1) ∧
     s.keyGen i = (t.setWrap (Config.wrapKey k i g)).event 0xB00B 0 0 0 ∧ s.keyClear i = (s.setKey i 0).event 0xB00B 0 0 0)

/-- BOOT_ROM_RUN with BOOT off, LOCK set or recovery under way changes nothing; with ENGINES off it asks SLOE for it unless it has; then it records why it was reset, measures itself and the fuses, redoes open erases, and with the recovery strap goes to recovery. Otherwise a slot on trial with tries left is tried, using up a try with event 0xB003; with none left, or when it fails, the trial ends with event 0xB004; then, and without a trial, ACTIVE is tried, then the other slot, then recovery with event 0xB005, each failure with event 0xB002. Recovery asks SLOE for HOST and awaits images. A recovery message, while they are awaited, keeps its image; the last boots a set of which every class passes and class 0 is there, of at most 4 MiB in all, and drops any other, with event 0xB002 of the class that failed. A certificate and a challenge are answered for slots 0 and 1, measurements for index 0, 1 to 13 and 255, every other request with an error response; only the outgoing message changes. The layout of the SPDM answers is the model's (log entry 48), and so is how a failed set is dropped (log entry 49). (Boot, Measurement and Keys; Supplies, Clocks and Staged Start; Embedded Flash) -/
def Obligations.BootRecoveryAndAttestation : Prop :=
  (∀ (s u : State), (u = (if s.sup.report = 0 then s else s.event 0xA009 s.sup.report 0 0).firstEntries.finishErases) → 
      exec .bootRomRun s = .next (if s.dom 1 = false ∨ s.b .SEC_LOCK_LOCK 0 = true ∨ s.sec.recovering = true then s
       else if s.dom 4 = false then (if s.sup.sloe.any (fun r => r.dom == 4 && r.on) = true then s else s.sloePush 4 true)
       else if u.b .SUP_STRAP_RECOV 0 = true then u.recovery else u.chooseSlot) ∧
     s.recovery = (s.sloePush 3 true).updSec (fun x => { x with recovering := true })) ∧
  (∀ (k active trial tries : Nat) (seq : Nat) (s : State), (s.bootControl = (k, seq, active, trial, tries)) → 
      s.chooseSlot = (if trial = 1 ∧ 0 < tries then ((s.putBootControl active 1 (tries - 1)).event 0xB003 0 0 0).trySlot (1 - active) true (fun u => u.endTrial active)
       else if trial = 1 then s.endTrial active else s.bootActive active) ∧
     s.endTrial active = ((s.putBootControl active 0 0).event 0xB004 0 0 0).bootActive active ∧
     s.bootActive active = s.trySlot active false (fun u => u.trySlot (1 - active) false (fun v => (v.event 0xB005 0 0 0).recovery))) ∧
  (∀ (slot : Nat) (trial : Bool) (f : State → State) (s u : State), (u = s.slotReads slot) → 
      s.trySlot slot trial f = (u.slotFails slot).elim (u.handOff (u.slotImage slot) (some slot) trial) (fun e => f (u.event 0xB002 e.1 slot e.2)) ∧
     s.slotFails slot = (List.range 9).findSome? (fun c => if s.slotResult slot c = 0 then none else some (c, s.slotResult slot c)) ∧
     (∀ c, s.slotResult slot c = (s.slotImage slot c).elim (if c = 0 then 1 else 0) (fun i => s.verify i c (classAllot c) (s.eflBad (slotBase slot + classOff c) 8192)
       (s.eflBad (slotBase slot + classOff c + 8192) (cLen i))))) ∧
  (∀ (cls : Fin 9) (image : List Byte) (last : Bool) (img : Nat → Option (List Byte)) (s u : State), (u = s.updSec (fun x => { x with recov := Tbl.set x.recov [] cls.val image })) → (img = (fun k => if Tbl.get u.sec.recov [] k = [] then none else some (Tbl.get u.sec.recov [] k))) → 
      exec (.recoveryImageMessage cls image last) s = .next (if s.sec.recovering = false then s else if last = false then u
     else ((List.range 9).findSome? (fun k => (img k).elim (if k = 0 then some (k, 1) else none) (fun c => if u.verifyBytes c k = 0 then none else some (k, u.verifyBytes c k)))).elim
       (if 2 ^ 22 < u.sec.recov.foldl (fun n e => n + e.2.length) 0 then u.updSec (fun x => { x with recov := [] }) else u.handOff img none false)
       (fun e => (u.event 0xB002 e.1 2 e.2).updSec (fun x => { x with recov := [] })))) ∧
  (∀ (slot : Fin 8) (idx : Byte) (nonce m : List Byte) (s : State), (m = (if idx.toNat = 0 then [13] else if idx.toNat = 255 then ((List.range 13).map (fun k => s.measurement (k + 1))).flatten else s.measurement idx.toNat)) → 
      exec (.spdmGetCertificate slot) s = .next (s.send (.spdm (if slot.val < 2 then Config.certChain slot else [0x12, 0x7F, 0x01, 0x00]))) ∧
     exec (.spdmChallenge slot nonce) s = .next (s.send (.spdm (if slot.val < 2 then nonce ++ Config.spdmSign slot nonce else [0x12, 0x7F, 0x01, 0x00]))) ∧
     exec (.spdmGetMeasurements idx nonce) s = .next (s.send (.spdm (if idx.toNat ≤ 13 ∨ idx.toNat = 255 then m ++ nonce ++ Config.spdmSign 0 (m ++ nonce) else [0x12, 0x7F, 0x01, 0x00]))))

/-- While the domain is off each write of a register is only recorded. The unlock takes its two keys in order; any other write starts over with CFG_ERR. A command's GO while one runs is a CFG_ERR; otherwise it uses the unlock up, and a locked one completes LOCKED, a refused one with its result; any other runs, an erase with its START in the journal. A command's end takes effect as follows, and the window reads that waited are served: PROGRAM programs unit after unit until one is not blank, BLANK_CHECK tells whether the range is blank, an erase that verified erases and writes DONE, with the level then in force shown. What a failed program or erase leaves is a free value (log entry 17). SUSPEND of an erase with none suspended is noted, and takes effect later, when waiting reads are served; resuming goes on with it unless a command runs. A window read waits while a command runs; else it gives the array's word, a corrected unit counted with event 0xC004, an uncorrectable one with event 0xC005 and an access fault, as one of a suspended erase's range; one from the debug port that may not read gives 0, with event 0xC007 once at a level above 0. EFL_RDP's GO to an illegal target or while a command runs is a CFG_ERR, locked it completes LOCKED; raising is refused where it does not raise or the debug port may not, and to 1 where an option copy that is not blank meets a suspended erase; else it raises to 1 by an option copy, to 2 by the fuse, with event 0xC006; lowering is only for the debug port with its level granted, at level 1, with no erase suspended: it erases all but the journal rows, writes both copies, and starts the recorder again. (Embedded Flash; Boot, Measurement and Keys; Scope and Conventions) -/
def Obligations.EmbeddedFlashCommands : Prop :=
  (∀ (key : Word) (s : State), 
      exec (.eflUnlock key) s = .next (if s.blkOn .efl 0 = false then s.unstarted .efl
     else if s.efl.unlock = 0 ∧ key = 0x5AF0 then s.updEfl (fun e => { e with unlock := 1 })
     else if s.efl.unlock = 1 ∧ key = 0xA50F then s.updEfl (fun e => { e with unlock := 2 })
     else (s.updEfl (fun e => { e with unlock := 0 })).cfgErr .efl (Fld.EFL_UNLOCK_KEY.addr 0))) ∧
  (∀ (g : Agent) (count : BitVec 7) (s : State), 
      exec (.program g count) s = .next (s.eflGo g 1 (count.toNat + 1)) ∧ exec (.eraseRow g) s = .next (s.eflGo g 2 1) ∧
     exec (.eraseBlock g) s = .next (s.eflGo g 3 1) ∧ exec (.blankCheck g count) s = .next (s.eflGo g 4 (count.toNat + 1)) ∧
     exec (.massErase g) s = .next (s.eflGo g 5 1)) ∧
  (∀ (g : Agent) (code units : Nat) (e : EflOp) (s u : State), (u = (s.setFs 0 [(.EFL_CMD_CODE, code), (.EFL_CMD_COUNT, units - 1), (.EFL_RES_DONE, 0)]).updEfl (fun e => { e with unlock := 0 })) → (e = { code := code, addr := u.f .EFL_ADDR_OFFSET 0 * 16, units := units }) → 
      s.eflGo g code units = (if s.blkOn .efl 0 = false then s.unstarted .efl else if s.efl.run.isSome = true then s.cfgErr .efl (Fld.EFL_CMD_GO.addr 0)
     else if s.efl.unlock ≠ 2 then u.eflEnd 6 e.addr
     else (u.eflRefusal g e).elim (((if code = 1 ∨ code = 4 then u else u.eraseStart code e.addr).updEfl (fun x => { x with run := some e })).setB .EFL_RES_BUSY 0 true)
       (fun r => u.eflEnd r e.addr))) ∧
  (∀ (r addr : Nat) (s u : State), (u = s.setFs 0 [(.EFL_RES_RESULT, r), (.EFL_RES_DONE, 1), (.EFL_STATUS_OP_EV, 1)]) → 
      s.eflEnd r addr = (if r = 0 then u else u.event 0xC002 r addr 0)) ∧
  (∀ (good : Bool) (s : State), 
      exec (.eflCommandEnd good) s = .next (s.efl.run.elim s (fun e => (s.eflCommandEnd e good).windowServe)) ∧
     s.windowServe = s.efl.wait.foldl (fun u x => u.windowRead x.1 x.2) (s.updEfl (fun e => { e with wait := [] }))) ∧
  (∀ (e : EflOp) (good : Bool) (v : Nat) (p : Nat × State) (s u w : State), (u = (s.updEfl (fun x => { x with run := none, suspReq := false })).setB .EFL_RES_BUSY 0 (s.updEfl (fun x => { x with run := none, suspReq := false })).efl.susp.isSome) → (p = u.programUnits (e.addr / 16) 0 e.units) → ((v, w) = p.2.free) → 
      s.eflCommandEnd e good = (if e.code = 1 then (if good = false ∧ 0 < p.1 then (w.eflOpen (e.addr / 16 + (p.1 - 1)) 1 v).eflEnd 4 e.addr
       else p.2.eflEnd (if p.1 < e.units then 2 else 0) e.addr)
     else if e.code = 4 then u.eflEnd (if u.eflErased e.addr (16 * e.units) = true then 0 else 2) e.addr
     else if good = true then ((u.eraseGood e.code e.addr).levelShow).eflEnd 0 e.addr else ((u.eraseFailed e.code e.addr).levelShow).eflEnd 3 e.addr)) ∧
  (∀ (code addr v : Nat) (s u : State), ((v, u) = s.free) → 
      s.eraseGood code addr = (s.eflWipe (eraseFrom code addr) (eraseSize code)).journalPut 0xA5 (eraseKind code) 0 (if code = 5 then 0 else addr) ∧
     s.eraseFailed code addr = (u.eflOpen (eraseFrom code addr / 16) (eraseSize code / 16) v).journalPut 0xA5 (eraseKind code) 3 (if code = 5 then 0 else addr) ∧
     s.eraseStart code addr = s.journalSwitch.journalPut 0x5A (eraseKind code) 0 (if code = 5 then 0 else addr)) ∧
  (∀ (s : State), 
      exec .suspend s = .next (if s.blkOn .efl 0 = false then s.unstarted .efl
       else if s.efl.run.any (fun e => e.code != 1 && e.code != 4) = true ∧ s.efl.susp = none then s.updEfl (fun e => { e with suspReq := true }) else s) ∧
     exec .suspendTakeEffect s = .next (if s.efl.suspReq = true ∧ s.efl.run.isSome = true then
       ((s.updEfl (fun e => { e with susp := e.run, run := none, suspReq := false })).setB .EFL_RES_SUSPENDED 0 true).windowServe else s) ∧
     exec .eraseResume s = .next (if s.blkOn .efl 0 = false then s.unstarted .efl
       else if s.efl.susp.isSome = true ∧ s.efl.run = none then (s.updEfl (fun e => { e with run := e.susp, susp := none })).setB .EFL_RES_SUSPENDED 0 false else s)) ∧
  (∀ (g : Agent) (off : BitVec 24) (o : Nat) (s t u : State), (t = s.eflCheck (o / 16)) → (u = s.send (.readData 0)) → 
      exec (.eflashWindowRead g off) s = .next (if s.efl.run.isSome = true then s.updEfl (fun e => { e with wait := e.wait ++ [(g, off.toNat)] }) else s.windowRead g off.toNat) ∧
     s.windowRead g o = (if g = .debug ∧ s.eflDebugOk = false then (if u.rdpLevel = 0 ∨ u.efl.c007 = true then u else (u.updEfl (fun e => { e with c007 := true })).event 0xC007 0 0 0)
       else if s.inSuspended o 1 = true then (s.loadFault g).send (.readData 0)
       else if Tbl.get s.efl.unitErr 0 (o / 16) = 2 then (t.loadFault g).send (.readData 0) else t.send (.readData (leAt (s.eflRd (o / 4 * 4) 4) 0 4)))) ∧
  (∀ (k : Nat) (s : State), 
      (Tbl.get s.efl.unitErr 0 k = 0 → s.eflCheck k = s) ∧ (Tbl.get s.efl.unitErr 0 k = 1 → s.eflCheck k = (s.inc .EFL_ECC_CE 0 1).event 0xC004 0 0 0) ∧
     (1 < Tbl.get s.efl.unitErr 0 k → s.eflCheck k = ((s.inc .EFL_ECC_UE 0 1).setF .EFL_ECC_ADDR_OFFSET 0 (k * 16)).event 0xC005 (k * 16) 0 0)) ∧
  (∀ (t : Nat) (h : State → State) (s u : State), (u = ((s.setF .EFL_RDP_TARGET 0 t).updEfl (fun e => { e with unlock := 0 })).setB .EFL_RES_DONE 0 false) → 
      s.rdpGo t h = (if s.blkOn .efl 0 = false then s.unstarted .efl else if 3 ≤ t ∨ s.efl.run.isSome = true then (s.setF .EFL_RDP_TARGET 0 t).cfgErr .efl (Fld.EFL_RDP_GO.addr 0)
     else if s.efl.unlock ≠ 2 then u.eflEnd 6 0 else h u)) ∧
  (∀ (g : Agent) (target : BitVec 2) (s : State), 
      exec (.rdpRaise g target) s = .next (s.rdpGo target.toNat (fun u => if (g = .debug ∧ u.eflDebugOk = false) ∨ target.toNat ≤ u.rdpLevel then u.eflEnd 7 0
     else if target.toNat = 1 ∧ u.efl.susp.isSome = true ∧ u.optionBlank u.olderOption = false then u.eflEnd 8 0
     else (((if target.toNat = 1 then u.putOption u.olderOption (u.optionSeq + 1) 1 else { u with sec := { u.sec with rdpFuse := true } }).levelShow).event 0xC006 u.rdpLevel target.toNat 0).eflEnd 0 0))) ∧
  (∀ (g : Agent) (v w : State → State) (s : State), (v = (fun u => (((((u.eraseStart 5 0).eflWipe 4096 (eflSize - 4096)).putOption 0 1 0).putOption 1 1 0).journalPut 0xA5 3 0 0).levelShow)) → (w = (fun u => ({ v u with evr := { (v u).evr with queue := [], keepNext := 0, circNext := 0, entered := [], suppressed := [] } }).setFs 0 [(.EVR_SEQ_NEXT, 1), (.EVR_OPMIN_OP_MIN, 0), (.EVR_CYCLES_CYCLES, 0), (.EVR_STATUS_QDEPTH, 0), (.EVR_STATUS_KEEP_FULL, 0)])) → 
      exec (.rdpLower g) s = .next (s.rdpGo 0 (fun u => if g ≠ .debug ∨ u.rdpLevel ≠ 1 ∨ u.dbg 2 = false then u.eflEnd 7 0 else if u.efl.susp.isSome = true then u.eflEnd 8 0
     else ((w u).event 0xC006 1 0 0).eflEnd 0 0)))

/-- A request of firmware and one of the scan join PEND, the first only recorded and the second left out while THM's domain is off; the always-on scan adds sensors 12 to 15 and, in a restart wait, counts a second. A conversion ends for the lowest-numbered pending sensor. One whose domain is off, of those below 12, only loses VALID; one within -55 to 175 degrees is shown, any other loses VALID and records event 0xD006; in a restart wait the readings of 12 to 15 below the bound are counted, up to ten in a row. Then the hottest counted reading is shown, and while the logic die runs and it is valid, warning, level, level hold, held heads and the critical trip follow. A slot of the throttle window ends, and with the eighth the level is taken anew. A restart wait ends when no reset is asked for, MIN_OFF has passed and each of 12 to 15 has had its ten readings, and BOOT comes up unless it is on or held off. CAL enables over a disabled ring in memory, else a CFG_ERR, and gives it back. A valid item at rest becomes due by DUE, and by time or drift where it is in use. The lowest due item whose gap is open is measured; a chain is copied and its doorbell rung. A measurement ends with a value, with none, or, for a chain whose ring has passed it, with firmware waiting where every code is OK or RECOVERED_WITH_REPLAY, and else discarded. A submission with none waiting is a CFG_ERR. A full set is discarded, accepted or rejected by DT, TOL and the third rejection. An item due for STARVE minutes records event 0xD009 once. (Thermal Management and Calibration; Supplies, Clocks and Staged Start; Scope and Conventions) -/
def Obligations.TemperaturesAndCalibration : Prop :=
  (∀ (m : BitVec 16) (s u v : State), (u = s.setF .THM_CONV_PEND 0 (s.f .THM_CONV_PEND 0 ||| 0xF000)) → (v = s.updThm (fun t => { t with slot := (s.thm.slot + 1) % 8, winLevel := if (s.thm.slot + 1) % 8 = 0 then s.f .THM_LVL_LEVEL 0 else s.thm.winLevel, gate := decide ((s.thm.slot + 1) % 8 < if (s.thm.slot + 1) % 8 = 0 then s.f .THM_LVL_LEVEL 0 else s.thm.winLevel) })) → 
      exec (.conversionRequest m) s = .next (if s.blkOn .thm 0 = true then s.setF .THM_CONV_PEND 0 (s.f .THM_CONV_PEND 0 ||| m.toNat) else s.unstarted .thm) ∧
     exec .sensorScan s = .next (if s.blkOn .thm 0 = true then s.setF .THM_CONV_PEND 0 (s.f .THM_CONV_PEND 0 ||| s.f .THM_SCAN_MASK 0) else s) ∧
     exec .aonSensorScan s = .next (if s.thm.off = 0 then u else u.updThm (fun t => { t with off := t.off + 1 })) ∧
     exec .throttleWindow s = .next (if s.blkOn .thm 0 = true then v else s)) ∧
  (∀ (temp : BitVec 12) (n : Nat) (s u v : State), (firstFrom 16 0 (fun k => bit (s.f .THM_CONV_PEND 0) k) = some n) → (u = s.setF .THM_CONV_PEND 0 (setBit (s.f .THM_CONV_PEND 0) n false)) → (v = ((if -440 ≤ temp.toInt ∧ temp.toInt ≤ 1400 then u.setFs n [(.THM_TEMP_TEMP, temp.toNat), (.THM_TEMP_VALID, 1)] else ((u.setB .THM_TEMP_VALID n false).setB .THM_STATUS_SENS_EV 0 true).event 0xD006 n 0 0).coolCheck n (decide (-440 ≤ temp.toInt) && decide (temp.toInt ≤ 1400))).maxShow) → 
      exec (.conversionEnd temp) s = .next (if n < 12 ∧ u.dom (sensorDom n) = false then (u.setB .THM_TEMP_VALID n false).maxShow
       else if v.dom 1 = false ∨ v.b .THM_MAX_VALID 0 = false then v else v.warnCheck.levelCheck.levelHold.holdShow.tripCheck)) ∧
  (∀ (temp : BitVec 12) (s u : State), (firstFrom 16 0 (fun k => bit (s.f .THM_CONV_PEND 0) k) = none) → (u = s.updThm (fun t => { t with off := 0, cool := [] })) → 
      exec (.conversionEnd temp) s = .next s ∧
     exec .restartWaitEnd s = .next (if s.thm.off = 0 ∨ s.sup.causes ≠ 0 ∨ s.thm.off - 1 < s.f .THM_THR3_MIN_OFF 0 ∨ [12, 13, 14, 15].any (fun n => decide (Tbl.get s.thm.cool 0 n < 10)) = true then s
       else if u.dom 1 = true ∨ u.sup.held = true ∨ u.bootHeld = true then u else u.bootOn)) ∧
  (∀ (good : Bool) (n : Nat) (s : State), 
      s.coolCheck n good = (if s.thm.off = 0 ∨ n < 12 then s else s.updThm (fun t => { t with cool := Tbl.set t.cool 0 n (if good = true ∧ s.temp .THM_TEMP_TEMP n < s.temp .THM_THR_THR_CRIT 0 - 8 * (s.f .THM_THR3_RESTART_DT 0 : Nat) then min 10 (Tbl.get t.cool 0 n + 1) else 0) })) ∧
     s.tripCheck = (if s.maxTemp < s.temp .THM_THR_THR_CRIT 0 ∨ s.thm.off ≠ 0 then s else
       (((s.setFs 0 [(.THM_TRIP_A_TEMP, s.f .THM_MAX_TEMP 0), (.THM_TRIP_A_SENSOR, s.f .THM_MAX_SENSOR 0), (.THM_TRIP_A_VALID, 1), (.THM_TRIP_B_AONT, s.aont / 2 ^ 10)]).inc .THM_TRIP_A_TRIPS 0 1).updThm
         (fun t => { t with off := 1, cool := [] })).requestReset 6 0) ∧
     s.warnCheck = (if s.temp .THM_THR_THR_WARN 0 ≤ s.maxTemp then (if s.b .THM_STATUS_WARN 0 = true then s else (((s.setB .THM_STATUS_WARN 0 true).setB .THM_STATUS_WARN_EV 0 true).event 0xD002 0 0 0).wake 5)
       else if s.maxTemp < s.temp .THM_THR_THR_WARN 0 - s.hyst then s.setB .THM_STATUS_WARN 0 false else s)) ∧
  (∀ (c l n : Nat) (on step : Int) (s u : State), (on = s.temp .THM_THR2_THROT_ON 0) → (step = ((max 1 (s.f .THM_THR3_STEP 0) : Nat) : Int)) → (c = (if on ≤ s.maxTemp then (min 7 ((s.maxTemp - on) / step + 1)).toNat else 0)) → (l = s.f .THM_LVL_LEVEL 0) → (n = max (if l < c then c else if s.f .THM_LVL_MIN_LVL 0 < l ∧ s.maxTemp < on + (l - 1 : Int) * step - s.hyst then l - 1 else l) (s.f .THM_LVL_MIN_LVL 0)) → (u = (s.setF .THM_LVL_LEVEL 0 n).setB .THM_STATUS_LVL_EV 0 true) → 
      s.levelCheck = (if n = l then s else if l = 0 ∨ n = 0 then u.event 0xD003 0 0 0 else u)) ∧
  (∀ (b : Bool) (s : State), (b = (if s.temp .THM_THR2_THR_HOLD 0 ≤ s.maxTemp then true else if s.maxTemp < s.temp .THM_THR2_THR_HOLD 0 - s.hyst then false else s.b .THM_LVL_LVL_HOLD 0)) → 
      s.levelHold = (if b = s.b .THM_LVL_LVL_HOLD 0 then s else ((s.setB .THM_LVL_LVL_HOLD 0 b).setB .THM_STATUS_LVL_EV 0 true).event 0xD004 0 0 0) ∧
     (∀ h, s.holdNow h = (bit (s.f .THM_HOLD_FW_FW 0) h || s.b .THM_LVL_LVL_HOLD 0 || (List.range 64).any (fun n => s.f .CAL_ICFG_UNIT n == h && s.calHolds n))) ∧
     (∀ n, s.calHolds n = (s.calOn n && s.f .CAL_ICFG_DEST n == 1 && (!(s.calItem n).accepted || s.f .CAL_ISTAT_STATE n == 3 || (s.calItem n).wait != 0 ||
       (s.f .CAL_ISCH_DT_HARD n != 0 && s.drifted n (s.f .CAL_ISCH_DT_HARD n)))))) ∧
  (∀ (v : Bool) (n : Fin 64) (s : State), 
      exec (.calEn v) s = .next (if s.blkOn .cal 0 = false then s.unstarted .cal else if s.b .CAL_CTRL_EN 0 = v then s
       else if v = false then ((s.setB .CAL_CTRL_EN 0 false).ringDisable (s.f .CAL_CFG_RING 0)).holdShow
       else if s.ringState (s.f .CAL_CFG_RING 0) = 0 ∧ s.inMem (s.ringBase (s.f .CAL_CFG_RING 0)) (64 * s.ringSize (s.f .CAL_CFG_RING 0)) = true then ((s.setB .CAL_CTRL_EN 0 true).ringEnable (s.f .CAL_CFG_RING 0)).holdShow
       else s.cfgErr .cal (Fld.CAL_CTRL_EN.addr 0)) ∧
     exec (.calDue n) s = .next (if s.blkOn .cal 0 = false then s.unstarted .cal else if s.b .CAL_ICFG_VALID n = true ∧ s.f .CAL_ISTAT_STATE n = 0 then s.makeDue n else s) ∧
     exec (.calItemDue n) s = .next (if s.blkOn .cal 0 = true ∧ s.calOn n = true ∧ s.f .CAL_ISTAT_STATE n = 0 ∧ ((s.f .CAL_ISCH_PERIOD n ≠ 0 ∧ s.f .CAL_ISCH_PERIOD n ≤ s.opMin - (s.calItem n).since) ∨
       (s.f .CAL_ISCH_DT n ≠ 0 ∧ (s.calItem n).accepted = true ∧ s.drifted n (s.f .CAL_ISCH_DT n) = true)) then s.makeDue n else s) ∧
     s.makeDue n = (s.calTo n 1).setCalItem n { s.calItem n with dueSince := s.opMin, starved := false } ∧ s.calTo n 1 = s.setFs n [(.CAL_ISTAT_STATE, 1), (.CAL_ITOL_DUE, 1)]) ∧
  (∀ (n : Nat) (s u : State), (firstFrom 64 0 (fun k => s.calOn k && s.f .CAL_ISTAT_STATE k == 1 && s.gapOpen k) = some n) → (u = s.calTo n 2) → 
      exec .calMeasurementStart s = .next (if s.blkOn .cal 0 = false then s else if u.f .CAL_ICFG_MEAS n = 2 then u.postChain n else u)) ∧
  (∀ (s : State), (firstFrom 64 0 (fun k => s.calOn k && s.f .CAL_ISTAT_STATE k == 1 && s.gapOpen k) = none) → 
      exec .calMeasurementStart s = .next s) ∧
  (∀ (n : Fin 64) (v : Option (BitVec 16)) (s : State), 
      exec (.calMeasurementEnd n v) s = .next (if s.blkOn .cal 0 = false ∨ s.f .CAL_ISTAT_STATE n ≠ 2 then s
       else if s.f .CAL_ICFG_MEAS n ≠ 2 then v.elim (s.calTo n 1) (fun x => s.calValue n x.toInt)
       else if s.cal.chain ≠ n.val + 1 ∨ s.b .CAL_FW_WAIT 0 = true ∨ s.chainPassed = false then s
       else if s.chainCodes.all (fun c => c == 0 || c == 4) = true then s.setFs 0 [(.CAL_STATUS_FW_EV, 1), (.CAL_FW_ITEM, n), (.CAL_FW_WAIT, 1)]
       else ((s.updCal (fun c => { c with chain := 0 })).calTo n 1).assistShow) ∧
     exec (.calStarve n) s = .next (if s.blkOn .cal 0 = true ∧ (s.f .CAL_ISTAT_STATE n = 1 ∨ s.f .CAL_ISTAT_STATE n = 2) ∧ s.f .CAL_CFG_STARVE 0 ≠ 0 ∧ s.f .CAL_CFG_STARVE 0 ≤ s.opMin - (s.calItem n).dueSince ∧ (s.calItem n).starved = false
       then ((s.setCalItem n { s.calItem n with starved := true }).setB .CAL_STATUS_STARVE_EV 0 true).event 0xD009 0 0 0 else s)) ∧
  (∀ (v : BitVec 16) (s u : State), (u = (s.setB .CAL_FW_WAIT 0 false).updCal (fun c => { c with chain := 0 })) → 
      exec (.calSubmit v) s = .next (if s.blkOn .cal 0 = false then s.unstarted .cal else if s.b .CAL_FW_WAIT 0 = false then s.cfgErr .cal (Fld.CAL_SUBMIT_GO.addr 0) else (u.calValue (s.f .CAL_FW_ITEM 0) v.toInt).assistShow) ∧
     exec .calDiscard s = .next (if s.blkOn .cal 0 = false then s.unstarted .cal else if s.b .CAL_FW_WAIT 0 = false then s.cfgErr .cal (Fld.CAL_SUBMIT_GO.addr 0) else (u.calTo (s.f .CAL_FW_ITEM 0) 1).assistShow)) ∧
  (∀ (n : Nat) (v start : Int) (l : List Int) (s u : State), (start = (if (s.calItem n).vals.isEmpty = true then s.maxTemp else (s.calItem n).startMax)) → (l = (s.calItem n).vals ++ [v]) → (u = s.setCalItem n { s.calItem n with vals := l, startMax := start }) → 
      s.calValue n v = (if l.length < max 1 (u.f .CAL_ICFG_REPEATS n) + 1 then (u.calTo n 1).setF .CAL_ISTAT_DONE_N n l.length
       else if u.f .CAL_ISCH_DT n ≠ 0 ∧ u.f .CAL_ISCH_DT n < 2 * (u.maxTemp - start).natAbs then ((u.setCalItem n { u.calItem n with vals := [] }).setF .CAL_ISTAT_DONE_N n 0).calTo n 1
       else if l.foldl max v - l.foldl min v ≤ (u.f .CAL_ITOL_TOL n : Nat) then u.calAccept n l else u.calReject n)) ∧
  (∀ (n : Nat) (l : List Int) (s u v w : State), (u = ((s.calTo n 0).setFs n [(.CAL_IRES_VALUE, unsigned 16 ((l.foldl (· + ·) 0).tdiv l.length)), (.CAL_IRES_TEMP, s.f .THM_MAX_TEMP 0), (.CAL_ISTAT_REJ, 0), (.CAL_ISTAT_DONE_N, 0)]).inc .CAL_ISTAT_ACCEPTS n 1) → (v = ((s.inc .CAL_ISTAT_REJ n 1).setB .CAL_STATUS_REJ_EV 0 true).event 0xD007 n 0 0) → (w = (v.setF .CAL_ISTAT_DONE_N n 0).setCalItem n { v.calItem n with vals := [] }) → 
      s.calAccept n l = (u.setCalItem n { u.calItem n with vals := [], accepted := true, since := u.opMin, wait := if s.calHolds n = true then 1 else (u.calItem n).wait }).holdShow ∧
     s.calReject n = (if w.f .CAL_ISTAT_REJ n < 3 then w.calTo n 1 else ((w.calTo n 3).event 0xD008 0 0 0).holdShow))

/-- A hardware event with a code that hardware records enters with its arguments; any other code changes nothing. While EVR's domain is off a submission, EN and a clear are only recorded. A submission of a code without a block or a number is a CFG_ERR, of a muted code records 0xE007 once, and else enters with its arguments and FW. EN starts the scan with both counts at zero, once. The scan's end takes the queue empty, resumes the sequence number, the minutes and the power cycles from both areas, sets READY, enters the queue again, and records event 0xE009 with the number of records that fail their check, where there are any. On its turn the recorder clears, where a clearing waits; else, while it may use the flash, the oldest record of the queue is programmed, into the keep area by its flag, and drops are reported. While READY a minute's end counts, clears the minute's counts, marks each 60th and reports the suppressions in order. A freeze that times out is cleared with event 0xE008, and a clearing that waits may follow. A clear with BUSY is a CFG_ERR; with a wrong key or without the debug level it is refused so as well; without areas it is a CFG_ERR; else it waits with BUSY until the recorder may use the flash. The clearing erases the areas named; unless an erase fails, record 0xE003 with the highest number, the count and the areas is the first of the keep area; BUSY clears with the result. (Event Recorder; Embedded Flash; Scope and Conventions) -/
def Obligations.EventRecorderCommands : Prop :=
  (∀ (code : BitVec 16) (a0 a1 a2 : Word) (keep : Bool) (s u : State), (u = s.setFs 0 [(.EVR_SUB_CTRL_CODE, code.toNat), (.EVR_SUB_CTRL_KEEP, keep.toNat)]) → 
      exec (.eventEntry code a0 a1 a2) s = .next (if code.toNat / 0x1000 ≠ 0 ∧ code.toNat % 0x1000 ≠ 0 ∧ code.toNat % 0x1000 < 0xC00 then s.event code.toNat a0.toNat a1.toNat a2.toNat else s) ∧
     exec (.eventSubmit code keep) s = .next (if s.blkOn .evr 0 = false then s.unstarted .evr
       else if code.toNat / 0x1000 = 0 ∨ code.toNat % 0x1000 = 0 then u.cfgErr .evr (Fld.EVR_SUB_CTRL_GO.addr 0)
       else if u.evrMuted code.toNat = true then u.eventOnce 0xE007 0xE007 code.toNat 0 0
       else u.evrEnter code.toNat (u.f .EVR_SUB_A_ARG 0) (u.f .EVR_SUB_A_ARG 1) (u.f .EVR_SUB_A_ARG 2) true keep) ∧
     exec .evrEn s = .next (if s.blkOn .evr 0 = false then s.unstarted .evr else if s.b .EVR_CTRL_EN 0 = true then s
       else (s.updEvr (fun e => { e with scanning := true })).setFs 0 [(.EVR_CTRL_EN, 1), (.EVR_CNT_DROPPED, 0), (.EVR_CNT_SUPPRESSED, 0)])) ∧
  (∀ (k c : List (Nat × List Byte)) (bad : Nat) (s u v : State), (k = s.records keepBase 0x10000) → (c = s.records circBase 0x200000) → (bad = (s.recPositions keepBase 0x10000).length + (s.recPositions circBase 0x200000).length - k.length - c.length) → (u = (s.updEvr (fun e => { e with scanning := false, queue := [], entered := [], suppressed := [], keepNext := (nextPos k).getD 0, circNext := (nextPos c).getD 0 % 65536 })).setFs 0 [(.EVR_SEQ_NEXT, maxField (k ++ c) 0 + 1), (.EVR_OPMIN_OP_MIN, maxField (k ++ c) 4), (.EVR_CYCLES_CYCLES, maxField (k ++ c) 8 + (s.b .SUP_RST_CAUSE_PWRCYC 0).toNat), (.EVR_STATUS_READY, 1), (.SUP_RST_CAUSE_PWRCYC, 0), (.EVR_STATUS_QDEPTH, 0)]) → (v = s.evr.queue.foldl (fun u r => u.evrEnter r.code r.a0 r.a1 r.a2 (bit r.flags 1) (bit r.flags 0)) u) → 
      exec .evrScanEnd s = .next (if s.evr.scanning = false then s else if bad = 0 then v else v.event 0xE009 bad 0 0)) ∧
  (∀ (r : EvRec) (q : List EvRec) (s u : State), (s.evr.queue = r :: q) → (u = (s.updEvr (fun e => { e with queue := q })).setF .EVR_STATUS_QDEPTH 0 q.length) → 
      exec .recordProgram s = .next (if s.evr.clearing.isSome = true then s.clearDue
       else if (s.b .EVR_STATUS_READY 0 = true ∧ s.b .EVR_CTRL_FREEZE 0 = false ∧ s.efl.run = none ∧ s.efl.susp = none) then (if bit r.flags 0 = true then u.keepPut r else u.circPut r r.flags).dropReport else s)) ∧
  (∀ (n : Nat) (s u : State), (n = s.f .EVR_OPMIN_OP_MIN 0 + 1) → (u = (s.updEvr (fun e => { e with minuteAt := s.aont, entered := [], suppressed := [] })).setF .EVR_OPMIN_OP_MIN 0 n) → 
      exec .operatingMinuteEnd s = .next (if s.b .EVR_STATUS_READY 0 = false then s
       else s.evr.suppressed.foldl (fun u x => u.event 0xE004 x.1 x.2 0) (if n % 60 = 0 then u.event 0xE002 0 0 0 else u)) ∧
     exec .freezeTimeout s = .next (if s.b .EVR_CTRL_FREEZE 0 = true then ((s.setB .EVR_CTRL_FREEZE 0 false).event 0xE008 0 0 0).clearDue else s) ∧
     (s.evr.queue = [] → exec .recordProgram s = .next (if s.evr.clearing.isSome = true then s.clearDue else s))) ∧
  (∀ (key : BitVec 16) (areas : BitVec 2) (s u : State), (u = s.setF .EVR_CLR_AREAS 0 areas.toNat) → 
      exec (.eventClear key areas) s = .next (if s.blkOn .evr 0 = false then s.unstarted .evr
       else if u.b .EVR_CLR_BUSY 0 = true then u.cfgErr .evr (Fld.EVR_CLR_GO.addr 0)
       else if key ≠ 0xC1EA ∨ u.dbg 2 = false then (u.setF .EVR_CLR_RESULT 0 2).cfgErr .evr (Fld.EVR_CLR_GO.addr 0)
       else if areas = 0 then u.cfgErr .evr (Fld.EVR_CLR_GO.addr 0)
       else ((u.setB .EVR_CLR_BUSY 0 true).updEvr (fun e => { e with clearing := some areas.toNat })).clearDue)) ∧
  (∀ (v : Nat) (s : State), 
      (s.evr.clearing = none → s.clearDue = s) ∧
     (s.evr.clearing = some v → s.clearDue = if (s.b .EVR_STATUS_READY 0 = true ∧ s.b .EVR_CTRL_FREEZE 0 = false ∧ s.efl.run = none ∧ s.efl.susp = none) then
       (s.updEvr (fun e => { e with clearing := none })).clearAreas v else s)) ∧
  (∀ (areas : Nat) (all : List (Nat × List Byte)) (r : EvRec) (x y : Bool × State) (s u v : State), (all = (if bit areas 1 = true then s.records keepBase 0x10000 else []) ++ (if bit areas 0 = true then s.records circBase 0x200000 else [])) → (x = s.eraseTry 3 keepBase) → (u = (if bit areas 1 = true then (x.2.updEvr (fun e => { e with keepNext := 0 })).setB .EVR_STATUS_KEEP_FULL 0 false else s)) → (y = (List.range 32).foldl (fun z i => ((z.1 && (z.2.eraseTry 3 (circBase + 65536 * i)).1), (z.2.eraseTry 3 (circBase + 65536 * i)).2)) (if bit areas 1 = true then x.1 else true, u)) → (v = (if bit areas 0 = true then y.2.updEvr (fun e => { e with circNext := 0 }) else u)) → (r = v.evrRecord 0xE003 (maxField all 0) all.length areas false true) → 
      s.clearAreas areas = if (if bit areas 0 = true then y.1 else if bit areas 1 = true then x.1 else true) = true
       then ((v.setF .EVR_SEQ_NEXT 0 (r.seq + 1)).keepPut r).setFs 0 [(.EVR_CLR_BUSY, 0), (.EVR_CLR_RESULT, 1), (.EVR_STATUS_CLR_EV, 1)]
       else v.setFs 0 [(.EVR_CLR_BUSY, 0), (.EVR_CLR_RESULT, 3), (.EVR_STATUS_CLR_EV, 1)])

/-- While VAULT is off its enable is only recorded, and its items do nothing. EN takes the geometry of the dies and enables where State.plvOk holds, with event 0x3047 for each unusable area, and is a CFG_ERR otherwise; clearing it is a CFG_ERR while ARMED or while CS41 holds an item. An item waits while an image is under way; ARM and SCAN asked to abort end ABORTED; a refused item ends MALFORMED with the first DETAIL of 0x48 to 0x4B that applies. Else ARM, RESTORE and SCAN post their code and DETAIL, and SAVE begins its image while ARMED, and without it ends NAND_ERROR 0x43. ARM answers 0x43 without a usable area, and else clears the area that follows, consumes the newest image and sets ARMED with event 0x3046. RESTORE finds no image or a consumed one, another size, or an incomplete one, each with event 0x3043; else every page, the index, the Ledger where asked for, and 0x44 where a page was uncorrectable. A page that has been programmed joins the image, and one that has not marks its block and is sent on, to the next good block. The image's end shows it and, unless power is lost, releases the freeze with event 0x3041 and ends the SAVE's item. A loss changes nothing a second time; it ends a row repair; of a standby nothing more; else it retracts and harvests, with the freeze and the stops where protection is in force or an image is under way. A fall of ENERGY_OK while ARMED begins an image. The rails go off once the dump and the retracts have ended. Which pages fail is open (log entry 42); SAVE without ARMED (log entry 43) and the areas' order are the model's choice (log entries 41 and 44). (Power Loss and Recovery; Spindle and Actuator Drivers; Supplies, Clocks and Staged Start; Scope and Conventions) -/
def Obligations.VaultAndPowerLoss : Prop :=
  (∀ (good : Bool) (s : State), 
      exec (.arm good) s = .next (s.vaultItem 0x40 good) ∧ exec .save s = .next (s.vaultItem 0x41 true) ∧ exec .restore s = .next (s.vaultItem 0x42 true) ∧ exec .scan s = .next (s.vaultItem 0x43 true)) ∧
  (∀ (opc n : Nat) (w : List Nat) (good : Bool) (s u : State), (s.itemOf 14 opc = some (u, n, w)) → 
      s.vaultItem opc good = (if s.blkOn .plv 0 = false then s else if u.plv.dump.isSome = true then u
       else if (u.cs n).abortReq = true ∧ (opc = 0x40 ∨ opc = 0x43) then u.post n 1 0 0
       else (u.vaultRefusal w).elim ((u.vaultOp w good).1.elim (u.vaultOp w good).2 (fun r => (u.vaultOp w good).2.post n r.1 r.2 0)) (fun d => u.post n 2 d 0))) ∧
  (∀ (opc : Nat) (good : Bool) (s : State), (s.itemOf 14 opc = none) → 
      s.vaultItem opc good = if s.blkOn .plv 0 = true then s.handOver 14 else s) ∧
  (∀ (w : List Nat) (good : Bool) (s : State), 
      s.vaultRefusal w = (if s.b .PLV_STATUS_READY 0 = false then some 0x48
       else if dOpc w = 0x40 ∧ (s.b .PLV_STATUS_ENERGY_OK 0 = false ∨ s.b .PLV_STATUS_ARMED 0 = true ∨ s.plv.scanned = false) then some 0x49
       else if (dOpc w = 0x42 ∨ dOpc w = 0x43) ∧ s.b .PLV_STATUS_ARMED 0 = true then some 0x4A
       else if dw w 8 / (if dOpc w = 0x42 then 2 else 1) ≠ 0 ∨ (w.drop 9).any (· != 0) = true then some 0x4B else none) ∧
     (dOpc w = 0x40 → s.vaultOp w good = (some ((s.vaultArm good).1, (s.vaultArm good).2.1), (s.vaultArm good).2.2)) ∧
     (dOpc w = 0x41 → s.vaultOp w good = if s.b .PLV_STATUS_ARMED 0 = true then (none, s.beginSave true) else (some (12, 0x43), s)) ∧
     (dOpc w = 0x42 → s.vaultOp w good = (some ((s.vaultRestore (bit (dw w 8) 0)).1, (s.vaultRestore (bit (dw w 8) 0)).2.1), (s.vaultRestore (bit (dw w 8) 0)).2.2)) ∧
     (dOpc w = 0x43 → s.vaultOp w good = (some (0, 0), (s.updPlv (fun p => { p with scanned := true })).showImg s.newestImg))) ∧
  (∀ (good : Bool) (v : Nat) (s u w : State), ((v, w) = s.free) → (u = (if good = true then s else w.nandFail (v % w.dies) (s.f .PLV_AREA_NEXT 0 * w.areaBlks + v / w.dies % w.areaBlks))) → 
      (u.nextArea u.newestImg = none → s.vaultArm good = (12, 0x43, u)) ∧
     (∀ a x, u.nextArea u.newestImg = some a → x = u.updPlv (fun p => { p with img := u.newestImg.elim (Tbl.set p.img {} a {}) (fun b => Tbl.upd (Tbl.set p.img {} a {}) {} b (fun x => { x with consumed := true })) }) →
       s.vaultArm good = (0, 0, (((x.showImg u.newestImg).setB .PLV_STATUS_ARMED 0 true).forceShow).event 0x3046 a 0 0))) ∧
  (∀ (ledger : Bool) (a bad n : Nat) (m : Img) (s t u v w : State), (s.newestImg = some a) → (t = s.vaultScan) → (m = Tbl.get t.plv.img {} a) → ((bad, u) = t.free) → (n = ((List.range m.pages).filter (fun p => bit bad p)).length) → (v = (List.range m.pages).foldl (fun x p => x.restorePage m bad p) u) → (w = (((v.updCiu (fun c => { c with bidx := m.bidx, alloc := slotsOf m.bidx })).setF .CIU_BUF_STAT_USED 0 (slotsOf m.bidx).length).restoreChecks.updBtl (fun t => { t with restored := some m.degraded })).setF .PLV_RES_UNCORR 0 (min 0xFFFF n)) → 
      s.vaultRestore ledger = (if m.consumed = true then (12, 0x40, t.event 0x3043 0x40 0 0) else if m.pages ≠ t.imgPages then (12, 0x42, t.event 0x3043 0x42 0 0)
       else if m.complete = false then (12, 0x41, t.event 0x3043 0x41 0 0)
       else (if n = 0 then 0 else 12, if n = 0 then 0 else 0x44, (if ledger = true then w.ledgerRestore.event 0x2006 0 0 0 else w).event 0x3042 m.seq m.kind m.pages))) ∧
  (∀ (ledger : Bool) (s : State), (s.newestImg = none) → 
      s.vaultRestore ledger = (12, 0x40, s.vaultScan.event 0x3043 0x40 0 0)) ∧
  (∀ (v diesGood : Bool) (ppb blocks : BitVec 16) (s u w : State), (u = s.setFs 0 [(.PLV_GEOM_PPB, ppb.toNat), (.PLV_GEOM_BLOCKS, blocks.toNat)]) → (w = u.setFs 0 [(.PLV_CTRL_EN, 1), (.PLV_STATUS_READY, 1), (.PLV_CNT_USABLE, u.usables.length), (.PLV_CNT_PFAIL, 0)]) → 
      exec (.plvEn v diesGood ppb blocks) s = .next (if s.blkOn .plv 0 = false then s.unstarted .plv else if s.b .PLV_CTRL_EN 0 = v then s
       else if v = true then (if u.plvOk diesGood = false then u.cfgErr .plv (Fld.PLV_CTRL_EN.addr 0)
         else (((List.range w.areas).foldl (fun u a => if u.usable a = true then u else u.event 0x3047 a 0 0) w).updPlv (fun p => { p with scanned := false })).speedFlags)
       else if s.b .PLV_STATUS_ARMED 0 = true ∨ (s.seqsOf 14).any (fun n => s.b .ENG_CS_STAT_HELD n) = true then s.cfgErr .plv (Fld.PLV_CTRL_EN.addr 0)
       else s.setFs 0 [(.PLV_CTRL_EN, 0), (.PLV_STATUS_READY, 0)])) ∧
  (∀ (s t u v w : State), (t = s.updPlv (fun p => { p with lost := true })) → (u = (if t.b .BUF_PPR_BUSY 0 = true then t.repairEnd 3 else t)) → (v = (if u.plv.dump.isSome = true then (List.range 8).foldl (fun x n => (x.setCore n {}).setB .ENG_IQ_CTRL_RUN n false) u else if u.b .PLV_STATUS_IN_FORCE 0 = true then u.lossFreeze else u)) → (w = v.lossRetract.harvestStart) → 
      exec .powerLossDetect s = .next (if s.plv.lost = true ∨ s.sup.railsOff = true then s else if u.paired = true ∧ u.owner = false then u
       else if u.plv.dump.isSome = true ∨ u.b .PLV_STATUS_IN_FORCE 0 = true then [3, 5, 6, 7, 8, 9, 10, 15, 12].foldl (fun x d => x.domStop d) w else w)) ∧
  (∀ (s u : State), (u = (s.event 0x3040 0 0 0).beginImage (s.f .PLV_AREA_NEXT 0) false false) → 
      s.lossFreeze = ((List.range 8).foldl (fun x n => (x.setCore n {}).setB .ENG_IQ_CTRL_RUN n false) u).freezeStops ∧
     s.lossRetract = (if s.paired = true ∧ (List.range 5).any s.owns = true ∧ s.mir.aliveIn = true then (s.setB .MIR_CTRL_ALIVE 0 false).updSup (fun x => { x with retractWait := true }) else s.retractAll) ∧
     s.harvestStart = (if s.dom 13 = true ∧ s.spn ≠ 0 ∧ 10 * s.f .MPD_HARV_HARV_FLOOR 0 < s.f .MPD_SPN_STAT_RPM 0 then (s.setSpn 9).updMpd (fun x => { x with harvest := true, moving := 0 }) else s) ∧
     exec .energyOkFall s = .next (if s.blkOn .plv 0 = true ∧ s.b .PLV_STATUS_ARMED 0 = true ∧ s.b .PLV_STATUS_ENERGY_OK 0 = false ∧ s.plv.dump = none ∧ s.plv.lost = false then s.beginSave false else s)) ∧
  (∀ (x : Dump) (d pos : Nat) (good : Bool) (s u : State) (r : State × Nat), (s.plv.dump = some x) → (d = x.next % s.dies) → (pos = Tbl.get x.pos 0 d) → (u = (if good = true then s.pageOut x d pos else s.nandFail d (pos / s.ppb))) → (r = (if good = true ∧ (pos + 1) % u.ppb ≠ 0 then (u, pos + 1) else u.nextBlock d (pos / s.ppb))) → 
      exec (.vaultPageProgrammed good) s = .next (if s.imgPages ≤ x.next then s
       else r.1.updPlv (fun p => { p with dump := p.dump.map (fun y => { y with next := if good = true then x.next + 1 else x.next, pos := Tbl.set y.pos 0 d r.2 }) }))) ∧
  (∀ (x : Dump) (s u v : State), (s.plv.dump = some x) → (u = s.updPlv (fun p => { p with dump := none })) → (v = (((u.setB .PLV_STATUS_ARMED 0 false).thaw).showImg (some x.area)).forceShow.event 0x3041 (((u.setB .PLV_STATUS_ARMED 0 false).thaw).showImg (some x.area)).imgSeq 0 0) → 
      exec .dumpEnd s = .next (if x.next < s.imgPages then s else if s.plv.lost = true then u
       else if x.item = true then (v.heldBy 14 [0x41]).elim v (fun p => v.post p.1 0 0 0) else v)) ∧
  (∀ (good : Bool) (s u : State), (u = (if s.spn = 9 then s.coastFrom 0 else s)) → 
      (s.plv.dump = none → exec (.vaultPageProgrammed good) s = .next s ∧ exec .dumpEnd s = .next s) ∧
     exec .railsOff s = .next (if s.plv.lost = false ∨ s.plv.dump.isSome = true ∨ s.sup.retractWait = true ∨ (List.range 4).any (fun a => s.retRes a == 3) = true then s
       else ((u.wipe false false false).setF .SUP_DOM_ON_ON 0 1).updSup (fun x => { x with railsOff := true })))

/-- While MIRROR is off the link's frames do nothing, and EN, RESYNC and KX are only recorded. EN sets for a paired device with its two bases set, and is a CFG_ERR else; clearing it takes the link down. With the lanes up a device sends HELLO while EN is set. A partner's HELLO of the same position or of another PROT_MIB takes the link down with event 0xF008; any other settles the term record, brings the link up with event 0xF002, and decides the owner, of whom position 1 drives the lines. A frame while the link is down is dropped; with a bad CRC it is answered with NAK; of a lower term it is counted, with event 0xF007 once per episode; of a higher one it takes the link down; else its ACK counts and a NAK sends the frames out again. A WRITE and a KEY frame do their work only in order, and are then acknowledged: the payload lands in the protected state with its poison, of a standby and within the state, and the key is loaded and shown, if its wrapping checks. A SERVO frame puts its words into stopped engines of a standby and is kept. Unacknowledged frames go out again at a time-out while the link is up. A resynchronization sends every 256 bytes of the protected state, and is a CFG_ERR for an unpaired device, a standby or without a link; it ends with SYNCED and event 0xF004. A key leaves wrapped, and is a CFG_ERR without KX_OK; without a link or a key as well, by the model's choice. A partner that falls silent is taken over from where R439 says; the lines' letting go completes a takeover that waits, and its abandonment records event 0xF00A. Fencing records event 0xF006 and lets go of the lines. HELLO's layout and the decision on equal terms are the model's choice (log entry 46). (Paired Operation; Power Loss and Recovery; Boot, Measurement and Keys; Scope and Conventions) -/
def Obligations.PairedOperation : Prop :=
  (∀ (v : Bool) (r : List Byte) (s : State), (r = (match s.mir.termRecord with | some (t, o) => [1, BitVec.ofNat 8 t, BitVec.ofNat 8 o.toNat] | none => [0, 0, 0])) → 
      exec (.mirEn v) s = .next (if s.blkOn .mir 0 = false then s.unstarted .mir else if s.b .MIR_CTRL_EN 0 = v then s
       else if v = false then (s.linkDown 2).setB .MIR_CTRL_EN 0 false
       else if s.f .SUP_STRAP_PAIR 0 ≠ 0 ∧ s.protBase ≠ 0 ∧ s.idxBase ≠ 0 then (s.setB .MIR_CTRL_EN 0 true).mirShow
       else s.cfgErr .mir (Fld.MIR_CTRL_EN.addr 0)) ∧
     exec .medlarLinkUp s = .next (if s.blkOn .mir 0 = true ∧ s.b .MIR_CTRL_EN 0 = true then
       s.send (.frame 1 0 s.term 0 0 ([BitVec.ofNat 8 s.pos] ++ s.uid ++ r ++ leBytes 2 (s.f .PLV_PROT_SIZE_PROT_MIB 0) ++ Config.identityKey) false) else s)) ∧
  (∀ (p : Bool) (term : Option (Byte × Bool)) (m : BitVec 10) (r : Nat × Bool) (s u v w : State), (u = (s.updMir (fun x => { x with aliveIn := true })).mirShow) → (r = decideRecord u.mir.termRecord (term.map (fun x => (x.1.toNat, x.2))) u.pos) → (v = u.updMir (fun x => { x with nextSeq := 1, lastSeq := 0, replay := [], backlog := [], resends := 0, termRecord := some r })) → (w = (((v.setFs 0 [(.MIR_TERM_TERM, r.1), (.MIR_STATUS_LINK_UP, 1)]).event 0xF002 p.toNat 0 0).mayDrive (fun x => { x with decided := r.2.toNat == u.pos }))) → 
      exec (.hello p term m) s = .next (if s.blkOn .mir 0 = false ∨ s.b .MIR_CTRL_EN 0 = false then s
       else if p.toNat = u.pos ∨ m.toNat ≠ u.f .PLV_PROT_SIZE_PROT_MIB 0 then (u.linkDown 3).event 0xF008 0 0 0
       else if w.pos = 1 then w.linesTo (!(r.2.toNat == u.pos)) else w.mirShow)) ∧
  (∀ (own other : Option (Nat × Bool)) (i : Nat), 
      decideRecord own other i = own.elim (other.getD (0, false)) (fun r => other.elim r (fun q => if termBelow r.1 q.1 = true then q else if termBelow q.1 r.1 = true then r else if i = 0 then r else q))) ∧
  (∀ (h : FrameHdr) (g : State → State) (s u v : State), (u = s.inc .MIR_CNT_TERM_DROP 0 1) → (v = (s.updMir (fun m => { m with staleEpisode := false })).ackTo h.ack.toNat) → 
      s.frameIn h g = (if s.blkOn .mir 0 = false ∨ s.b .MIR_STATUS_LINK_UP 0 = false then s else if h.crcOk = false then s.send (.idle s.term s.mir.lastSeq true)
       else if termBelow h.term.toNat s.term = true then (if u.mir.staleEpisode = true then u else (u.updMir (fun m => { m with staleEpisode := true })).event 0xF007 0 0 0)
       else if h.term.toNat ≠ s.term then s.linkDown 1 else g (if h.nak = true then v.resend else v)) ∧
     s.frameSeq h g = s.frameIn h (fun x => if x.b .MIR_STATUS_LINK_UP 0 = false ∨ h.seq.toNat ≠ (x.mir.lastSeq + 1) % 65536 then x
       else (((g x).updMir (fun m => { m with lastSeq := h.seq.toNat })).send (.idle (g x).term h.seq.toNat false)))) ∧
  (∀ (h : FrameHdr) (d : List Byte) (s : State), 
      exec (.idleFrame h) s = .next (s.frameIn h (fun u => u)) ∧
     exec (.writeFrame h d) s = .next (s.frameSeq h (fun u => if u.owner = true ∨ u.protSize + 2 ^ 20 < h.addr.toNat + d.length then u
       else ((granulesOf (u.protAddr h.addr.toNat) d.length).mapIdx (fun i gr => (i, gr))).foldl (fun v e => v.setPoison e.2 (bit h.poison.toNat e.1)) (u.wrRaw (u.protAddr h.addr.toNat) d))) ∧
     exec (.keyFrame h d) s = .next (s.frameSeq h (fun u => (Config.unwrapPair d).elim u (fun k => if 64 ≤ k.2.1 then u
       else (((u.setKey k.2.1 (k.1 % 2 ^ 512 + 1)).updSec (fun x => { x with gen := Tbl.set x.gen 0 k.2.1 (k.2.2 % 2 ^ 32) })).setWrap (Config.wrapKey (k.1 % 2 ^ 512) k.2.1 (k.2.2 % 2 ^ 32))).setB .SEC_STATUS_KEY_EV 0 true)))) ∧
  (∀ (h : FrameHdr) (a : Act) (wedge : BitVec 10) (mode : BitVec 4) (prim mate : BitVec 3) (ont : BitVec 6) (track : BitVec 24) (coarse fine0 fine1 : BitVec 16) (si since : BitVec 32) (cw fw : List (BitVec 40)) (c : ServoCopy) (s : State), (c = { mode := mode.toNat, track := track.toNat, prim := prim.toNat, mate := mate.toNat, out0 := coarse.toNat, fine0 := fine0.toNat, fine1 := fine1.toNat, samInterval := si.toNat, sinceSam := since.toNat }) → 
      exec (.servoFrame h (.act a wedge mode prim mate ont track coarse fine0 fine1 si since cw fw)) s = .next (s.frameIn h (fun u => if u.owner = true then u
       else ((u.updMir (fun m => { m with servo := Tbl.set m.servo none a.val (some c) })).putWords (2 * a.val) cw).putWords (2 * a.val + 1) fw))) ∧
  (∀ (h : FrameHdr) (th : BitVec 12) (per : BitVec 32) (tq : BitVec 16) (l : List (BitVec 40)) (m : Nat) (s : State), 
      exec (.servoFrame h (.spindle th per tq l)) s = .next (s.frameIn h (fun u => if u.owner = true then u
       else (u.updMir (fun x => { x with spindle := some (th.toNat, per.toNat, tq.toNat) })).putWords 8 l)) ∧
     s.putWords m l = (if s.qeState (s.qeOf m) ≠ 0 then s else s.setQe (s.qeOf m) { s.qe (s.qeOf m) with st := (l.mapIdx (fun i v => (i, v.toNat))).foldl (fun t e => Tbl.set t 0 e.1 e.2) (s.qe (s.qeOf m)).st })) ∧
  (∀ (s : State), 
      exec .ackTimeout s = .next (if s.blkOn .mir 0 = true ∧ s.b .MIR_STATUS_LINK_UP 0 = true then s.resend else s) ∧
     s.resend = (if s.mir.replay = [] then s else if max 1 (s.f .MIR_CFG_RETRY_MAX 0) ≤ s.mir.resends then s.linkDown 0
       else s.mir.replay.foldl State.frameOut ((s.updMir (fun m => { m with resends := m.resends + 1 })).inc .MIR_CNT_RETRIES 0 s.mir.replay.length)) ∧
     exec .resyncEnd s = .next (if s.blkOn .mir 0 = false ∨ s.b .MIR_STATUS_LINK_UP 0 = false ∨ (s.owner = true ∧ s.b .MIR_RESYNC_BUSY 0 = false) then s
       else (s.setFs 0 [(.MIR_RESYNC_BUSY, 0), (.MIR_STATUS_SYNCED, 1)]).event 0xF004 0 0 0)) ∧
  (∀ (ns : Fin 64) (s u v : State), (u = s.setB .MIR_RESYNC_BUSY 0 true) → (v = s.setFs 0 [(.MIR_KX_NSIDX, ns.val), (.MIR_KX_BUSY, 1), (.MIR_KX_DONE, 0)]) → 
      exec .resync s = .next (if s.blkOn .mir 0 = false then s.unstarted .mir else if s.paired = false ∨ s.owner = false ∨ s.b .MIR_STATUS_LINK_UP 0 = false then s.cfgErr .mir (Fld.MIR_RESYNC_GO.addr 0)
       else (List.range ((u.protSize + 2 ^ 20) / 256)).foldl State.resyncSpan u) ∧
     exec (.keyExchange ns) s = .next (if s.blkOn .mir 0 = false then s.unstarted .mir else if s.b .MIR_CTRL_KX_OK 0 = false ∨ s.b .MIR_STATUS_LINK_UP 0 = false ∨ s.hasKey ns = false then s.cfgErr .mir (Fld.MIR_KX_GO.addr 0)
       else (v.updMir (fun m => { m with keySeq := some m.nextSeq })).sendFrame 4 ns (Config.wrapPair (Tbl.get v.sec.key 0 ns.val - 1) ns (Tbl.get v.sec.gen 0 ns.val)) 0 none)) ∧
  (∀ (i a : Nat) (y : List Byte × State) (s : State), (a = s.protAddr (256 * i)) → (y = s.fetch .link a 256) → 
      s.resyncSpan i = y.2.sendFrame 2 (256 * i) y.1 ((List.range 4).foldl (fun z g => if Tbl.get y.2.buf.poison false (a / 64 + g) = true then z + 2 ^ g else z) 0) none) ∧
  (∀ (line : Fin 5) (high : Bool) (s u v : State), (u = (s.updMir (fun m => { m with aliveIn := false })).mirShow) → (v = (s.updMir (fun m => { m with fenceLow := true, fenced := true, aliveCleared := false })).event 0xF006 0 0 0) → 
      exec (.ownLineChange line high) s = .next (if s.paired = true then s.lineTo line high else s) ∧
     exec .autoTakeover s = .next (if s.paired = false then s else if u.dom 12 = true ∧ u.b .MIR_CTRL_TAKE_AUTO 0 = true ∧ u.b .MIR_STATUS_SYNCED 0 = true ∧ u.owner = false ∧ u.plv.lost = false then u.takeover else u) ∧
     exec .takeoverLinesHigh s = .next (if s.mir.takePend = true then (s.linesTo true).takeNow else s) ∧
     exec .takeoverAbandon s = .next (if s.mir.takePend = true then (s.updMir (fun m => { m with takePend := false })).event 0xF00A 0 0 0 else s) ∧
     exec (.fenced high) s = .next (if s.paired = false ∨ s.mir.fenceLow = high then s else if high = true then (if v.pos = 1 then v.linesTo true else v.mirShow)
       else (s.updMir (fun m => { m with fenceLow := false, aliveCleared := false })).mirShow)) ∧
  (∀ (t : Nat) (s u v : State), (t = (s.term + 1) % 256) → (u = ((s.setF .MIR_TERM_TERM 0 t).updMir (fun m => { m with termRecord := some (t, (s.setF .MIR_TERM_TERM 0 t).pos == 1) })).mayDrive (fun m => { m with takeBegun := true, takePend := false })) → (v = if u.pos = 1 then u.linesTo false else u.mirShow) → 
      s.takeNow = (v.setB .MIR_STATUS_TAKE_EV 0 true).event 0xF005 t 0 0 ∧
     s.takeover = (if s.pos = 1 then s.takeNow else (s.fenceWrite true).updMir (fun m => { m with takePend := true })) ∧
     s.linesTo true = (List.range 5).foldl (fun x i => x.lineTo i true) s ∧
     (∀ c, s.linkDown c = if s.b .MIR_STATUS_LINK_UP 0 = false then s else
       (let w := ((s.setFs 0 [(.MIR_STATUS_LINK_UP, 0), (.MIR_STATUS_LINK_EV, 1), (.MIR_RESYNC_BUSY, 0), (.MIR_KX_BUSY, 0)]).event 0xF003 c 0 0).updMir (fun m => { m with replay := [], backlog := [], resends := 0, keySeq := none })
        if w.owner = false ∧ w.mir.aliveIn = false then w else (w.setB .MIR_STATUS_SYNCED 0 false).updCiu (fun c => { c with awaitMirror := [] })))) ∧
  (∀ (line : Fin 5) (high : Bool) (s u v : State), (u = s.updMir (fun m => { m with own := setBit m.own line high })) → (v = (if s.drives line = u.drives line then u else if line.val = 4 then (if s.drives line = true then u.loseSpn else u.gainSpn) else if s.drives line = true then u.loseAct line else u.gainAct line)) → 
      s.lineTo line high = (v.roleChange s.owner).mirShow)
end

