-- ==== Sys2Proof/Laws/Seqs.lean ====
section
/-!
SUPPORT. Laws/Seqs.lean: what issuing a command does once its block's domain is on and its sequencer runs: the command itself, and nothing around it.
-/
namespace Sys2Proof.Machine

theorem onBlk_on {s : State} {b : Blk} {i : Nat} {g : State → State} (h : s.blkOn b i = true) : s.onBlk b i g = g s := by
  simp [State.onBlk, h]

theorem onBlk_off {s : State} {b : Blk} {i : Nat} {g : State → State} (h : s.blkOn b i = false) : s.onBlk b i g = s.unstarted b := by
  simp [State.onBlk, h]

theorem inBlk_on {s : State} {b : Blk} {i : Nat} {g : State → State} (h : s.blkOn b i = true) : s.inBlk b i g = g s := by
  simp [State.inBlk, h]

theorem inBlk_off {s : State} {b : Blk} {i : Nat} {g : State → State} (h : s.blkOn b i = false) : s.inBlk b i g = s := by
  simp [State.inBlk, h]

/-- A resource command acts once, where the word in execution spells it; otherwise it does nothing. -/
theorem onSeq_eq (s : State) (n cls : Nat) (e : Nat × Nat) (v : Nat) (ok : Nat → Bool) (g : State → State) :
    s.onSeq n cls e v ok g = if s.issues n cls e v ok then (g (s.issuing n e)).advance n else s := by
  simp [State.onSeq, State.issues, State.issuing, Bool.and_eq_true, and_assoc]

theorem onScratch_eq (s : State) (n op : Nat) (ok : Nat → Bool) (g : State → State) :
    s.onScratch n op ok g = if s.scratches n op ok then (g s).scratched n else s := by
  simp [State.onScratch, State.scratches, State.scratched, and_assoc]

theorem onBranch_eq (s : State) (n mode : Nat) (ok : Nat → Bool) (g : State → State) :
    s.onBranch n mode ok g = if s.branches n mode ok then g s else s := by
  simp [State.onBranch, State.branches, and_assoc]

theorem onCore_eq (s : State) (n : Nat) (g : State → State) :
    s.onCore n g = if s.wakeCores.runsCore n then g (s.wakeCores.counted n) else s.wakeCores := by
  simp [State.onCore, State.runsCore, State.counted]

theorem onFmt_eq (s : State) (n : Nat) (e : Nat × Nat) (v : Nat) (ok : Nat → Bool) (g : State → Nat → State) :
    s.onFmt n e v ok g = if s.issues n 0 e v ok then ((s.issuing n e).atLane n (g (s.issuing n e))).advance n else s := by
  rw [State.onFmt, onSeq_eq]
  congr 2
  unfold State.atLane
  cases (s.issuing n e).csTarget n <;> rfl

theorem onHand_eq (s : State) (n : Nat) (e : Nat × Nat) (v : Nat) (ok : Nat → Bool) (g : State → Nat → Cmd → State) :
    s.onHand n e v ok g = if s.issues n 2 e v ok then ((s.issuing n e).inHand n (g (s.issuing n e))).advance n else s := by
  rw [State.onHand, State.onPool, onSeq_eq]
  congr 2
  unfold State.inHand
  cases (s.issuing n e).itemSlot n <;> rfl

theorem onWedge_eq (s : State) (n v : Nat) (g : State → Nat → State) :
    s.onWedge n v g = if s.issues n 3 unitCmd v anyWord then ((s.issuing n unitCmd).atWedge n (g (s.issuing n unitCmd))).advance n else s := by
  rw [State.onWedge, onSeq_eq]
  congr 2
  unfold State.atWedge
  cases (s.issuing n unitCmd).csTarget n <;> rfl

theorem onItem_some {s : State} {tgt opc n : Nat} {w : List Nat} {g : State → Nat → List Nat → State} {u : State}
    (h : s.itemOf tgt opc = some (u, n, w)) : s.onItem tgt [opc] g = g u n w := by
  unfold State.itemOf at h
  cases e : (s.handOver tgt).heldBy tgt [opc] with
  | none => simp [e] at h
  | some p =>
    simp [e] at h
    obtain ⟨rfl, rfl⟩ := h
    simp [State.onItem, e]

theorem onItem_none {s : State} {tgt opc : Nat} {g : State → Nat → List Nat → State}
    (h : s.itemOf tgt opc = none) : s.onItem tgt [opc] g = s.handOver tgt := by
  unfold State.itemOf at h
  cases e : (s.handOver tgt).heldBy tgt [opc] with
  | none => simp [State.onItem, e]
  | some p => simp [e] at h

/-- A fold whose every step keeps the state keeps it. -/
theorem foldl_skip {α : Type} (g : State → α → State) (l : List α) (s : State) (h : ∀ k ∈ l, g s k = s) : l.foldl g s = s := by
  induction l with
  | nil => rfl
  | cons k r ih => rw [List.foldl_cons, h k (by simp)]; exact ih (fun j hj => h j (by simp [hj]))

/-- What a search answers passes its test and lies in the searched range. -/
theorem firstFrom_some {p : Nat → Bool} {fuel a k : Nat} (h : firstFrom fuel a p = some k) : p k = true ∧ a ≤ k ∧ k < a + fuel := by
  induction fuel generalizing a with
  | zero => simp [firstFrom] at h
  | succ m ih =>
    unfold firstFrom at h
    split at h
    · rename_i hp; cases h; exact ⟨hp, by omega, by omega⟩
    · have := ih h; exact ⟨this.1, by omega, by omega⟩

end Sys2Proof.Machine
end

