-- ==== Sys2Proof/Laws/Copy.lean ====
section
/-!
SUPPORT. Laws/Copy.lean: what LOG, PORT_LOG and COPY_LOG leave, from what the append of the record answers.
-/
namespace Sys2Proof.Machine

theorem logItem_answer {s u : State} {n r i : Nat} {w : List Nat} {res : AppResult} {b : List Byte} (h : s.logDesc r i w = (res, b, u)) :
    s.logItem n r i w = u.post n (if res = 0 then 0 else 2) (logDetail res) 0 := by
  unfold State.logItem
  rw [h]

theorem portLogItem_answer {s u : State} {r i : Nat} {w : List Nat} {res : AppResult} {b : List Byte} (h : s.logDesc r i w = (res, b, u)) :
    s.portLogItem r i w = (u.descDone r i (if res = 0 then 0 else 2) (logDetail res) 0).resultBack r := by
  unfold State.portLogItem
  rw [h]

theorem copyLogItem_answer {s u : State} {n r i : Nat} {w : List Nat} {res : AppResult} {b : List Byte} (h : s.logDesc r i w = (res, b, u)) :
    s.copyLogItem n r i w = (((u.updCs n (fun q => { q with
        item := some { words := w.take 8 ++ (List.range 8).map (fun k => leAt b (4 * k) 4), src := .ring r i }, detail := logDetail res })).setDone n 0x42
      (res == 0)).setDone n 0x43 (res != 0)) := by
  unfold State.copyLogItem
  rw [h]

end Sys2Proof.Machine
end

