-- ==== Sys2Proof/Laws/State.lean ====
section
/-!
SUPPORT. Laws/State.lean: what each update of State leaves and sets, one lemma per field per update.
-/
namespace Sys2Proof.Machine

/-! ### Register fields -/

@[simp] theorem State.setF_force (s : State) (x : Fld) (i v : Nat) : (s.setF x i v).force = s.force := by unfold State.setF; split <;> rfl
@[simp] theorem State.setF_mem (s : State) (x : Fld) (i v : Nat) : (s.setF x i v).mem = s.mem := by unfold State.setF; split <;> rfl
@[simp] theorem State.setF_dev (s : State) (x : Fld) (i v : Nat) : (s.setF x i v).dev = s.dev := by unfold State.setF; split <;> rfl
@[simp] theorem State.setF_hep (s : State) (x : Fld) (i v : Nat) : (s.setF x i v).hep = s.hep := by unfold State.setF; split <;> rfl
@[simp] theorem State.setF_ciu (s : State) (x : Fld) (i v : Nat) : (s.setF x i v).ciu = s.ciu := by unfold State.setF; split <;> rfl
@[simp] theorem State.setF_buf (s : State) (x : Fld) (i v : Nat) : (s.setF x i v).buf = s.buf := by unfold State.setF; split <;> rfl
@[simp] theorem State.setF_btl (s : State) (x : Fld) (i v : Nat) : (s.setF x i v).btl = s.btl := by unfold State.setF; split <;> rfl
@[simp] theorem State.setF_eng (s : State) (x : Fld) (i v : Nat) : (s.setF x i v).eng = s.eng := by unfold State.setF; split <;> rfl
@[simp] theorem State.setF_mwr (s : State) (x : Fld) (i v : Nat) : (s.setF x i v).mwr = s.mwr := by unfold State.setF; split <;> rfl
@[simp] theorem State.setF_chn (s : State) (x : Fld) (i v : Nat) : (s.setF x i v).chn = s.chn := by unfold State.setF; split <;> rfl
@[simp] theorem State.setF_srv (s : State) (x : Fld) (i v : Nat) : (s.setF x i v).srv = s.srv := by unfold State.setF; split <;> rfl
@[simp] theorem State.setF_mpd (s : State) (x : Fld) (i v : Nat) : (s.setF x i v).mpd = s.mpd := by unfold State.setF; split <;> rfl
@[simp] theorem State.setF_sup (s : State) (x : Fld) (i v : Nat) : (s.setF x i v).sup = s.sup := by unfold State.setF; split <;> rfl
@[simp] theorem State.setF_sec (s : State) (x : Fld) (i v : Nat) : (s.setF x i v).sec = s.sec := by unfold State.setF; split <;> rfl
@[simp] theorem State.setF_efl (s : State) (x : Fld) (i v : Nat) : (s.setF x i v).efl = s.efl := by unfold State.setF; split <;> rfl
@[simp] theorem State.setF_thm (s : State) (x : Fld) (i v : Nat) : (s.setF x i v).thm = s.thm := by unfold State.setF; split <;> rfl
@[simp] theorem State.setF_cal (s : State) (x : Fld) (i v : Nat) : (s.setF x i v).cal = s.cal := by unfold State.setF; split <;> rfl
@[simp] theorem State.setF_plv (s : State) (x : Fld) (i v : Nat) : (s.setF x i v).plv = s.plv := by unfold State.setF; split <;> rfl
@[simp] theorem State.setF_mir (s : State) (x : Fld) (i v : Nat) : (s.setF x i v).mir = s.mir := by unfold State.setF; split <;> rfl
@[simp] theorem State.setF_evr (s : State) (x : Fld) (i v : Nat) : (s.setF x i v).evr = s.evr := by unfold State.setF; split <;> rfl
@[simp] theorem State.setF_out (s : State) (x : Fld) (i v : Nat) : (s.setF x i v).out = s.out := by unfold State.setF; split <;> rfl
@[simp] theorem State.setF_freeCtr (s : State) (x : Fld) (i v : Nat) : (s.setF x i v).freeCtr = s.freeCtr := by unfold State.setF; split <;> rfl
@[simp] theorem State.setF_pending (s : State) (x : Fld) (i v : Nat) : (s.setF x i v).pending = s.pending := by unfold State.setF; split <;> rfl

@[simp] theorem State.setG_regs (s : State) (x : Fld) (i v : Nat) : (s.setG x i v).regs = s.regs := by unfold State.setG; split <;> rfl
@[simp] theorem State.setG_mem (s : State) (x : Fld) (i v : Nat) : (s.setG x i v).mem = s.mem := by unfold State.setG; split <;> rfl
@[simp] theorem State.setG_dev (s : State) (x : Fld) (i v : Nat) : (s.setG x i v).dev = s.dev := by unfold State.setG; split <;> rfl
@[simp] theorem State.setG_hep (s : State) (x : Fld) (i v : Nat) : (s.setG x i v).hep = s.hep := by unfold State.setG; split <;> rfl
@[simp] theorem State.setG_ciu (s : State) (x : Fld) (i v : Nat) : (s.setG x i v).ciu = s.ciu := by unfold State.setG; split <;> rfl
@[simp] theorem State.setG_buf (s : State) (x : Fld) (i v : Nat) : (s.setG x i v).buf = s.buf := by unfold State.setG; split <;> rfl
@[simp] theorem State.setG_btl (s : State) (x : Fld) (i v : Nat) : (s.setG x i v).btl = s.btl := by unfold State.setG; split <;> rfl
@[simp] theorem State.setG_eng (s : State) (x : Fld) (i v : Nat) : (s.setG x i v).eng = s.eng := by unfold State.setG; split <;> rfl
@[simp] theorem State.setG_mwr (s : State) (x : Fld) (i v : Nat) : (s.setG x i v).mwr = s.mwr := by unfold State.setG; split <;> rfl
@[simp] theorem State.setG_chn (s : State) (x : Fld) (i v : Nat) : (s.setG x i v).chn = s.chn := by unfold State.setG; split <;> rfl
@[simp] theorem State.setG_srv (s : State) (x : Fld) (i v : Nat) : (s.setG x i v).srv = s.srv := by unfold State.setG; split <;> rfl
@[simp] theorem State.setG_mpd (s : State) (x : Fld) (i v : Nat) : (s.setG x i v).mpd = s.mpd := by unfold State.setG; split <;> rfl
@[simp] theorem State.setG_sup (s : State) (x : Fld) (i v : Nat) : (s.setG x i v).sup = s.sup := by unfold State.setG; split <;> rfl
@[simp] theorem State.setG_sec (s : State) (x : Fld) (i v : Nat) : (s.setG x i v).sec = s.sec := by unfold State.setG; split <;> rfl
@[simp] theorem State.setG_efl (s : State) (x : Fld) (i v : Nat) : (s.setG x i v).efl = s.efl := by unfold State.setG; split <;> rfl
@[simp] theorem State.setG_thm (s : State) (x : Fld) (i v : Nat) : (s.setG x i v).thm = s.thm := by unfold State.setG; split <;> rfl
@[simp] theorem State.setG_cal (s : State) (x : Fld) (i v : Nat) : (s.setG x i v).cal = s.cal := by unfold State.setG; split <;> rfl
@[simp] theorem State.setG_plv (s : State) (x : Fld) (i v : Nat) : (s.setG x i v).plv = s.plv := by unfold State.setG; split <;> rfl
@[simp] theorem State.setG_mir (s : State) (x : Fld) (i v : Nat) : (s.setG x i v).mir = s.mir := by unfold State.setG; split <;> rfl
@[simp] theorem State.setG_evr (s : State) (x : Fld) (i v : Nat) : (s.setG x i v).evr = s.evr := by unfold State.setG; split <;> rfl
@[simp] theorem State.setG_out (s : State) (x : Fld) (i v : Nat) : (s.setG x i v).out = s.out := by unfold State.setG; split <;> rfl
@[simp] theorem State.setG_freeCtr (s : State) (x : Fld) (i v : Nat) : (s.setG x i v).freeCtr = s.freeCtr := by unfold State.setG; split <;> rfl
@[simp] theorem State.setG_pending (s : State) (x : Fld) (i v : Nat) : (s.setG x i v).pending = s.pending := by unfold State.setG; split <;> rfl

@[simp] theorem State.setB_force (s : State) (x : Fld) (i : Nat) (v : Bool) : (s.setB x i v).force = s.force := s.setF_force x i v.toNat
@[simp] theorem State.setB_mem (s : State) (x : Fld) (i : Nat) (v : Bool) : (s.setB x i v).mem = s.mem := s.setF_mem x i v.toNat
@[simp] theorem State.setB_dev (s : State) (x : Fld) (i : Nat) (v : Bool) : (s.setB x i v).dev = s.dev := s.setF_dev x i v.toNat
@[simp] theorem State.setB_hep (s : State) (x : Fld) (i : Nat) (v : Bool) : (s.setB x i v).hep = s.hep := s.setF_hep x i v.toNat
@[simp] theorem State.setB_ciu (s : State) (x : Fld) (i : Nat) (v : Bool) : (s.setB x i v).ciu = s.ciu := s.setF_ciu x i v.toNat
@[simp] theorem State.setB_buf (s : State) (x : Fld) (i : Nat) (v : Bool) : (s.setB x i v).buf = s.buf := s.setF_buf x i v.toNat
@[simp] theorem State.setB_btl (s : State) (x : Fld) (i : Nat) (v : Bool) : (s.setB x i v).btl = s.btl := s.setF_btl x i v.toNat
@[simp] theorem State.setB_eng (s : State) (x : Fld) (i : Nat) (v : Bool) : (s.setB x i v).eng = s.eng := s.setF_eng x i v.toNat
@[simp] theorem State.setB_mwr (s : State) (x : Fld) (i : Nat) (v : Bool) : (s.setB x i v).mwr = s.mwr := s.setF_mwr x i v.toNat
@[simp] theorem State.setB_chn (s : State) (x : Fld) (i : Nat) (v : Bool) : (s.setB x i v).chn = s.chn := s.setF_chn x i v.toNat
@[simp] theorem State.setB_srv (s : State) (x : Fld) (i : Nat) (v : Bool) : (s.setB x i v).srv = s.srv := s.setF_srv x i v.toNat
@[simp] theorem State.setB_mpd (s : State) (x : Fld) (i : Nat) (v : Bool) : (s.setB x i v).mpd = s.mpd := s.setF_mpd x i v.toNat
@[simp] theorem State.setB_sup (s : State) (x : Fld) (i : Nat) (v : Bool) : (s.setB x i v).sup = s.sup := s.setF_sup x i v.toNat
@[simp] theorem State.setB_sec (s : State) (x : Fld) (i : Nat) (v : Bool) : (s.setB x i v).sec = s.sec := s.setF_sec x i v.toNat
@[simp] theorem State.setB_efl (s : State) (x : Fld) (i : Nat) (v : Bool) : (s.setB x i v).efl = s.efl := s.setF_efl x i v.toNat
@[simp] theorem State.setB_thm (s : State) (x : Fld) (i : Nat) (v : Bool) : (s.setB x i v).thm = s.thm := s.setF_thm x i v.toNat
@[simp] theorem State.setB_cal (s : State) (x : Fld) (i : Nat) (v : Bool) : (s.setB x i v).cal = s.cal := s.setF_cal x i v.toNat
@[simp] theorem State.setB_plv (s : State) (x : Fld) (i : Nat) (v : Bool) : (s.setB x i v).plv = s.plv := s.setF_plv x i v.toNat
@[simp] theorem State.setB_mir (s : State) (x : Fld) (i : Nat) (v : Bool) : (s.setB x i v).mir = s.mir := s.setF_mir x i v.toNat
@[simp] theorem State.setB_evr (s : State) (x : Fld) (i : Nat) (v : Bool) : (s.setB x i v).evr = s.evr := s.setF_evr x i v.toNat
@[simp] theorem State.setB_out (s : State) (x : Fld) (i : Nat) (v : Bool) : (s.setB x i v).out = s.out := s.setF_out x i v.toNat
@[simp] theorem State.setB_freeCtr (s : State) (x : Fld) (i : Nat) (v : Bool) : (s.setB x i v).freeCtr = s.freeCtr := s.setF_freeCtr x i v.toNat
@[simp] theorem State.setB_pending (s : State) (x : Fld) (i : Nat) (v : Bool) : (s.setB x i v).pending = s.pending := s.setF_pending x i v.toNat

@[simp] theorem State.inc_force (s : State) (x : Fld) (i n : Nat) : (s.inc x i n).force = s.force := s.setF_force _ _ _
@[simp] theorem State.inc_mem (s : State) (x : Fld) (i n : Nat) : (s.inc x i n).mem = s.mem := s.setF_mem _ _ _
@[simp] theorem State.inc_dev (s : State) (x : Fld) (i n : Nat) : (s.inc x i n).dev = s.dev := s.setF_dev _ _ _
@[simp] theorem State.inc_hep (s : State) (x : Fld) (i n : Nat) : (s.inc x i n).hep = s.hep := s.setF_hep _ _ _
@[simp] theorem State.inc_ciu (s : State) (x : Fld) (i n : Nat) : (s.inc x i n).ciu = s.ciu := s.setF_ciu _ _ _
@[simp] theorem State.inc_buf (s : State) (x : Fld) (i n : Nat) : (s.inc x i n).buf = s.buf := s.setF_buf _ _ _
@[simp] theorem State.inc_btl (s : State) (x : Fld) (i n : Nat) : (s.inc x i n).btl = s.btl := s.setF_btl _ _ _
@[simp] theorem State.inc_eng (s : State) (x : Fld) (i n : Nat) : (s.inc x i n).eng = s.eng := s.setF_eng _ _ _
@[simp] theorem State.inc_mwr (s : State) (x : Fld) (i n : Nat) : (s.inc x i n).mwr = s.mwr := s.setF_mwr _ _ _
@[simp] theorem State.inc_chn (s : State) (x : Fld) (i n : Nat) : (s.inc x i n).chn = s.chn := s.setF_chn _ _ _
@[simp] theorem State.inc_srv (s : State) (x : Fld) (i n : Nat) : (s.inc x i n).srv = s.srv := s.setF_srv _ _ _
@[simp] theorem State.inc_mpd (s : State) (x : Fld) (i n : Nat) : (s.inc x i n).mpd = s.mpd := s.setF_mpd _ _ _
@[simp] theorem State.inc_sup (s : State) (x : Fld) (i n : Nat) : (s.inc x i n).sup = s.sup := s.setF_sup _ _ _
@[simp] theorem State.inc_sec (s : State) (x : Fld) (i n : Nat) : (s.inc x i n).sec = s.sec := s.setF_sec _ _ _
@[simp] theorem State.inc_efl (s : State) (x : Fld) (i n : Nat) : (s.inc x i n).efl = s.efl := s.setF_efl _ _ _
@[simp] theorem State.inc_thm (s : State) (x : Fld) (i n : Nat) : (s.inc x i n).thm = s.thm := s.setF_thm _ _ _
@[simp] theorem State.inc_cal (s : State) (x : Fld) (i n : Nat) : (s.inc x i n).cal = s.cal := s.setF_cal _ _ _
@[simp] theorem State.inc_plv (s : State) (x : Fld) (i n : Nat) : (s.inc x i n).plv = s.plv := s.setF_plv _ _ _
@[simp] theorem State.inc_mir (s : State) (x : Fld) (i n : Nat) : (s.inc x i n).mir = s.mir := s.setF_mir _ _ _
@[simp] theorem State.inc_evr (s : State) (x : Fld) (i n : Nat) : (s.inc x i n).evr = s.evr := s.setF_evr _ _ _
@[simp] theorem State.inc_out (s : State) (x : Fld) (i n : Nat) : (s.inc x i n).out = s.out := s.setF_out _ _ _
@[simp] theorem State.inc_freeCtr (s : State) (x : Fld) (i n : Nat) : (s.inc x i n).freeCtr = s.freeCtr := s.setF_freeCtr _ _ _
@[simp] theorem State.inc_pending (s : State) (x : Fld) (i n : Nat) : (s.inc x i n).pending = s.pending := s.setF_pending _ _ _

@[simp] theorem State.setFs_force (s : State) (i : Nat) (l : List (Fld × Nat)) : (s.setFs i l).force = s.force := by
  unfold State.setFs; induction l generalizing s with
  | nil => rfl
  | cons e r ih => simp [ih]
@[simp] theorem State.setFs_mem (s : State) (i : Nat) (l : List (Fld × Nat)) : (s.setFs i l).mem = s.mem := by
  unfold State.setFs; induction l generalizing s with
  | nil => rfl
  | cons e r ih => simp [ih]
@[simp] theorem State.setFs_dev (s : State) (i : Nat) (l : List (Fld × Nat)) : (s.setFs i l).dev = s.dev := by
  unfold State.setFs; induction l generalizing s with
  | nil => rfl
  | cons e r ih => simp [ih]
@[simp] theorem State.setFs_hep (s : State) (i : Nat) (l : List (Fld × Nat)) : (s.setFs i l).hep = s.hep := by
  unfold State.setFs; induction l generalizing s with
  | nil => rfl
  | cons e r ih => simp [ih]
@[simp] theorem State.setFs_ciu (s : State) (i : Nat) (l : List (Fld × Nat)) : (s.setFs i l).ciu = s.ciu := by
  unfold State.setFs; induction l generalizing s with
  | nil => rfl
  | cons e r ih => simp [ih]
@[simp] theorem State.setFs_buf (s : State) (i : Nat) (l : List (Fld × Nat)) : (s.setFs i l).buf = s.buf := by
  unfold State.setFs; induction l generalizing s with
  | nil => rfl
  | cons e r ih => simp [ih]
@[simp] theorem State.setFs_btl (s : State) (i : Nat) (l : List (Fld × Nat)) : (s.setFs i l).btl = s.btl := by
  unfold State.setFs; induction l generalizing s with
  | nil => rfl
  | cons e r ih => simp [ih]
@[simp] theorem State.setFs_eng (s : State) (i : Nat) (l : List (Fld × Nat)) : (s.setFs i l).eng = s.eng := by
  unfold State.setFs; induction l generalizing s with
  | nil => rfl
  | cons e r ih => simp [ih]
@[simp] theorem State.setFs_mwr (s : State) (i : Nat) (l : List (Fld × Nat)) : (s.setFs i l).mwr = s.mwr := by
  unfold State.setFs; induction l generalizing s with
  | nil => rfl
  | cons e r ih => simp [ih]
@[simp] theorem State.setFs_chn (s : State) (i : Nat) (l : List (Fld × Nat)) : (s.setFs i l).chn = s.chn := by
  unfold State.setFs; induction l generalizing s with
  | nil => rfl
  | cons e r ih => simp [ih]
@[simp] theorem State.setFs_srv (s : State) (i : Nat) (l : List (Fld × Nat)) : (s.setFs i l).srv = s.srv := by
  unfold State.setFs; induction l generalizing s with
  | nil => rfl
  | cons e r ih => simp [ih]
@[simp] theorem State.setFs_mpd (s : State) (i : Nat) (l : List (Fld × Nat)) : (s.setFs i l).mpd = s.mpd := by
  unfold State.setFs; induction l generalizing s with
  | nil => rfl
  | cons e r ih => simp [ih]
@[simp] theorem State.setFs_sup (s : State) (i : Nat) (l : List (Fld × Nat)) : (s.setFs i l).sup = s.sup := by
  unfold State.setFs; induction l generalizing s with
  | nil => rfl
  | cons e r ih => simp [ih]
@[simp] theorem State.setFs_sec (s : State) (i : Nat) (l : List (Fld × Nat)) : (s.setFs i l).sec = s.sec := by
  unfold State.setFs; induction l generalizing s with
  | nil => rfl
  | cons e r ih => simp [ih]
@[simp] theorem State.setFs_efl (s : State) (i : Nat) (l : List (Fld × Nat)) : (s.setFs i l).efl = s.efl := by
  unfold State.setFs; induction l generalizing s with
  | nil => rfl
  | cons e r ih => simp [ih]
@[simp] theorem State.setFs_thm (s : State) (i : Nat) (l : List (Fld × Nat)) : (s.setFs i l).thm = s.thm := by
  unfold State.setFs; induction l generalizing s with
  | nil => rfl
  | cons e r ih => simp [ih]
@[simp] theorem State.setFs_cal (s : State) (i : Nat) (l : List (Fld × Nat)) : (s.setFs i l).cal = s.cal := by
  unfold State.setFs; induction l generalizing s with
  | nil => rfl
  | cons e r ih => simp [ih]
@[simp] theorem State.setFs_plv (s : State) (i : Nat) (l : List (Fld × Nat)) : (s.setFs i l).plv = s.plv := by
  unfold State.setFs; induction l generalizing s with
  | nil => rfl
  | cons e r ih => simp [ih]
@[simp] theorem State.setFs_mir (s : State) (i : Nat) (l : List (Fld × Nat)) : (s.setFs i l).mir = s.mir := by
  unfold State.setFs; induction l generalizing s with
  | nil => rfl
  | cons e r ih => simp [ih]
@[simp] theorem State.setFs_evr (s : State) (i : Nat) (l : List (Fld × Nat)) : (s.setFs i l).evr = s.evr := by
  unfold State.setFs; induction l generalizing s with
  | nil => rfl
  | cons e r ih => simp [ih]
@[simp] theorem State.setFs_out (s : State) (i : Nat) (l : List (Fld × Nat)) : (s.setFs i l).out = s.out := by
  unfold State.setFs; induction l generalizing s with
  | nil => rfl
  | cons e r ih => simp [ih]
@[simp] theorem State.setFs_freeCtr (s : State) (i : Nat) (l : List (Fld × Nat)) : (s.setFs i l).freeCtr = s.freeCtr := by
  unfold State.setFs; induction l generalizing s with
  | nil => rfl
  | cons e r ih => simp [ih]
@[simp] theorem State.setFs_pending (s : State) (i : Nat) (l : List (Fld × Nat)) : (s.setFs i l).pending = s.pending := by
  unfold State.setFs; induction l generalizing s with
  | nil => rfl
  | cons e r ih => simp [ih]

/-! ### Records of the blocks -/

@[simp] theorem State.updBtl_regs (s : State) (g : Btl → Btl) : (s.updBtl g).regs = s.regs := rfl
@[simp] theorem State.updBtl_force (s : State) (g : Btl → Btl) : (s.updBtl g).force = s.force := rfl
@[simp] theorem State.updBtl_mem (s : State) (g : Btl → Btl) : (s.updBtl g).mem = s.mem := rfl
@[simp] theorem State.updBtl_dev (s : State) (g : Btl → Btl) : (s.updBtl g).dev = s.dev := rfl
@[simp] theorem State.updBtl_hep (s : State) (g : Btl → Btl) : (s.updBtl g).hep = s.hep := rfl
@[simp] theorem State.updBtl_ciu (s : State) (g : Btl → Btl) : (s.updBtl g).ciu = s.ciu := rfl
@[simp] theorem State.updBtl_buf (s : State) (g : Btl → Btl) : (s.updBtl g).buf = s.buf := rfl
@[simp] theorem State.updBtl_btl (s : State) (g : Btl → Btl) : (s.updBtl g).btl = g s.btl := rfl
@[simp] theorem State.updBtl_eng (s : State) (g : Btl → Btl) : (s.updBtl g).eng = s.eng := rfl
@[simp] theorem State.updBtl_mwr (s : State) (g : Btl → Btl) : (s.updBtl g).mwr = s.mwr := rfl
@[simp] theorem State.updBtl_chn (s : State) (g : Btl → Btl) : (s.updBtl g).chn = s.chn := rfl
@[simp] theorem State.updBtl_srv (s : State) (g : Btl → Btl) : (s.updBtl g).srv = s.srv := rfl
@[simp] theorem State.updBtl_mpd (s : State) (g : Btl → Btl) : (s.updBtl g).mpd = s.mpd := rfl
@[simp] theorem State.updBtl_sup (s : State) (g : Btl → Btl) : (s.updBtl g).sup = s.sup := rfl
@[simp] theorem State.updBtl_sec (s : State) (g : Btl → Btl) : (s.updBtl g).sec = s.sec := rfl
@[simp] theorem State.updBtl_efl (s : State) (g : Btl → Btl) : (s.updBtl g).efl = s.efl := rfl
@[simp] theorem State.updBtl_thm (s : State) (g : Btl → Btl) : (s.updBtl g).thm = s.thm := rfl
@[simp] theorem State.updBtl_cal (s : State) (g : Btl → Btl) : (s.updBtl g).cal = s.cal := rfl
@[simp] theorem State.updBtl_plv (s : State) (g : Btl → Btl) : (s.updBtl g).plv = s.plv := rfl
@[simp] theorem State.updBtl_mir (s : State) (g : Btl → Btl) : (s.updBtl g).mir = s.mir := rfl
@[simp] theorem State.updBtl_evr (s : State) (g : Btl → Btl) : (s.updBtl g).evr = s.evr := rfl
@[simp] theorem State.updBtl_out (s : State) (g : Btl → Btl) : (s.updBtl g).out = s.out := rfl
@[simp] theorem State.updBtl_freeCtr (s : State) (g : Btl → Btl) : (s.updBtl g).freeCtr = s.freeCtr := rfl
@[simp] theorem State.updBtl_pending (s : State) (g : Btl → Btl) : (s.updBtl g).pending = s.pending := rfl
@[simp] theorem State.updBtl_f (s : State) (g : Btl → Btl) (x : Fld) (i : Nat) : (s.updBtl g).f x i = s.f x i := rfl
@[simp] theorem State.updBtl_b (s : State) (g : Btl → Btl) (x : Fld) (i : Nat) : (s.updBtl g).b x i = s.b x i := rfl
@[simp] theorem State.updBtl_g (s : State) (g : Btl → Btl) (x : Fld) (i : Nat) : (s.updBtl g).g x i = s.g x i := rfl

@[simp] theorem State.updEfl_regs (s : State) (g : Efl → Efl) : (s.updEfl g).regs = s.regs := rfl
@[simp] theorem State.updEfl_force (s : State) (g : Efl → Efl) : (s.updEfl g).force = s.force := rfl
@[simp] theorem State.updEfl_mem (s : State) (g : Efl → Efl) : (s.updEfl g).mem = s.mem := rfl
@[simp] theorem State.updEfl_dev (s : State) (g : Efl → Efl) : (s.updEfl g).dev = s.dev := rfl
@[simp] theorem State.updEfl_hep (s : State) (g : Efl → Efl) : (s.updEfl g).hep = s.hep := rfl
@[simp] theorem State.updEfl_ciu (s : State) (g : Efl → Efl) : (s.updEfl g).ciu = s.ciu := rfl
@[simp] theorem State.updEfl_buf (s : State) (g : Efl → Efl) : (s.updEfl g).buf = s.buf := rfl
@[simp] theorem State.updEfl_btl (s : State) (g : Efl → Efl) : (s.updEfl g).btl = s.btl := rfl
@[simp] theorem State.updEfl_eng (s : State) (g : Efl → Efl) : (s.updEfl g).eng = s.eng := rfl
@[simp] theorem State.updEfl_mwr (s : State) (g : Efl → Efl) : (s.updEfl g).mwr = s.mwr := rfl
@[simp] theorem State.updEfl_chn (s : State) (g : Efl → Efl) : (s.updEfl g).chn = s.chn := rfl
@[simp] theorem State.updEfl_srv (s : State) (g : Efl → Efl) : (s.updEfl g).srv = s.srv := rfl
@[simp] theorem State.updEfl_mpd (s : State) (g : Efl → Efl) : (s.updEfl g).mpd = s.mpd := rfl
@[simp] theorem State.updEfl_sup (s : State) (g : Efl → Efl) : (s.updEfl g).sup = s.sup := rfl
@[simp] theorem State.updEfl_sec (s : State) (g : Efl → Efl) : (s.updEfl g).sec = s.sec := rfl
@[simp] theorem State.updEfl_efl (s : State) (g : Efl → Efl) : (s.updEfl g).efl = g s.efl := rfl
@[simp] theorem State.updEfl_thm (s : State) (g : Efl → Efl) : (s.updEfl g).thm = s.thm := rfl
@[simp] theorem State.updEfl_cal (s : State) (g : Efl → Efl) : (s.updEfl g).cal = s.cal := rfl
@[simp] theorem State.updEfl_plv (s : State) (g : Efl → Efl) : (s.updEfl g).plv = s.plv := rfl
@[simp] theorem State.updEfl_mir (s : State) (g : Efl → Efl) : (s.updEfl g).mir = s.mir := rfl
@[simp] theorem State.updEfl_evr (s : State) (g : Efl → Efl) : (s.updEfl g).evr = s.evr := rfl
@[simp] theorem State.updEfl_out (s : State) (g : Efl → Efl) : (s.updEfl g).out = s.out := rfl
@[simp] theorem State.updEfl_freeCtr (s : State) (g : Efl → Efl) : (s.updEfl g).freeCtr = s.freeCtr := rfl
@[simp] theorem State.updEfl_pending (s : State) (g : Efl → Efl) : (s.updEfl g).pending = s.pending := rfl
@[simp] theorem State.updEfl_f (s : State) (g : Efl → Efl) (x : Fld) (i : Nat) : (s.updEfl g).f x i = s.f x i := rfl
@[simp] theorem State.updEfl_b (s : State) (g : Efl → Efl) (x : Fld) (i : Nat) : (s.updEfl g).b x i = s.b x i := rfl
@[simp] theorem State.updEfl_g (s : State) (g : Efl → Efl) (x : Fld) (i : Nat) : (s.updEfl g).g x i = s.g x i := rfl

@[simp] theorem State.updEvr_regs (s : State) (g : Evr → Evr) : (s.updEvr g).regs = s.regs := rfl
@[simp] theorem State.updEvr_force (s : State) (g : Evr → Evr) : (s.updEvr g).force = s.force := rfl
@[simp] theorem State.updEvr_mem (s : State) (g : Evr → Evr) : (s.updEvr g).mem = s.mem := rfl
@[simp] theorem State.updEvr_dev (s : State) (g : Evr → Evr) : (s.updEvr g).dev = s.dev := rfl
@[simp] theorem State.updEvr_hep (s : State) (g : Evr → Evr) : (s.updEvr g).hep = s.hep := rfl
@[simp] theorem State.updEvr_ciu (s : State) (g : Evr → Evr) : (s.updEvr g).ciu = s.ciu := rfl
@[simp] theorem State.updEvr_buf (s : State) (g : Evr → Evr) : (s.updEvr g).buf = s.buf := rfl
@[simp] theorem State.updEvr_btl (s : State) (g : Evr → Evr) : (s.updEvr g).btl = s.btl := rfl
@[simp] theorem State.updEvr_eng (s : State) (g : Evr → Evr) : (s.updEvr g).eng = s.eng := rfl
@[simp] theorem State.updEvr_mwr (s : State) (g : Evr → Evr) : (s.updEvr g).mwr = s.mwr := rfl
@[simp] theorem State.updEvr_chn (s : State) (g : Evr → Evr) : (s.updEvr g).chn = s.chn := rfl
@[simp] theorem State.updEvr_srv (s : State) (g : Evr → Evr) : (s.updEvr g).srv = s.srv := rfl
@[simp] theorem State.updEvr_mpd (s : State) (g : Evr → Evr) : (s.updEvr g).mpd = s.mpd := rfl
@[simp] theorem State.updEvr_sup (s : State) (g : Evr → Evr) : (s.updEvr g).sup = s.sup := rfl
@[simp] theorem State.updEvr_sec (s : State) (g : Evr → Evr) : (s.updEvr g).sec = s.sec := rfl
@[simp] theorem State.updEvr_efl (s : State) (g : Evr → Evr) : (s.updEvr g).efl = s.efl := rfl
@[simp] theorem State.updEvr_thm (s : State) (g : Evr → Evr) : (s.updEvr g).thm = s.thm := rfl
@[simp] theorem State.updEvr_cal (s : State) (g : Evr → Evr) : (s.updEvr g).cal = s.cal := rfl
@[simp] theorem State.updEvr_plv (s : State) (g : Evr → Evr) : (s.updEvr g).plv = s.plv := rfl
@[simp] theorem State.updEvr_mir (s : State) (g : Evr → Evr) : (s.updEvr g).mir = s.mir := rfl
@[simp] theorem State.updEvr_evr (s : State) (g : Evr → Evr) : (s.updEvr g).evr = g s.evr := rfl
@[simp] theorem State.updEvr_out (s : State) (g : Evr → Evr) : (s.updEvr g).out = s.out := rfl
@[simp] theorem State.updEvr_freeCtr (s : State) (g : Evr → Evr) : (s.updEvr g).freeCtr = s.freeCtr := rfl
@[simp] theorem State.updEvr_pending (s : State) (g : Evr → Evr) : (s.updEvr g).pending = s.pending := rfl
@[simp] theorem State.updEvr_f (s : State) (g : Evr → Evr) (x : Fld) (i : Nat) : (s.updEvr g).f x i = s.f x i := rfl
@[simp] theorem State.updEvr_b (s : State) (g : Evr → Evr) (x : Fld) (i : Nat) : (s.updEvr g).b x i = s.b x i := rfl
@[simp] theorem State.updEvr_g (s : State) (g : Evr → Evr) (x : Fld) (i : Nat) : (s.updEvr g).g x i = s.g x i := rfl

@[simp] theorem State.updCiu_regs (s : State) (g : Ciu → Ciu) : (s.updCiu g).regs = s.regs := rfl
@[simp] theorem State.updCiu_force (s : State) (g : Ciu → Ciu) : (s.updCiu g).force = s.force := rfl
@[simp] theorem State.updCiu_mem (s : State) (g : Ciu → Ciu) : (s.updCiu g).mem = s.mem := rfl
@[simp] theorem State.updCiu_dev (s : State) (g : Ciu → Ciu) : (s.updCiu g).dev = s.dev := rfl
@[simp] theorem State.updCiu_hep (s : State) (g : Ciu → Ciu) : (s.updCiu g).hep = s.hep := rfl
@[simp] theorem State.updCiu_ciu (s : State) (g : Ciu → Ciu) : (s.updCiu g).ciu = g s.ciu := rfl
@[simp] theorem State.updCiu_buf (s : State) (g : Ciu → Ciu) : (s.updCiu g).buf = s.buf := rfl
@[simp] theorem State.updCiu_btl (s : State) (g : Ciu → Ciu) : (s.updCiu g).btl = s.btl := rfl
@[simp] theorem State.updCiu_eng (s : State) (g : Ciu → Ciu) : (s.updCiu g).eng = s.eng := rfl
@[simp] theorem State.updCiu_mwr (s : State) (g : Ciu → Ciu) : (s.updCiu g).mwr = s.mwr := rfl
@[simp] theorem State.updCiu_chn (s : State) (g : Ciu → Ciu) : (s.updCiu g).chn = s.chn := rfl
@[simp] theorem State.updCiu_srv (s : State) (g : Ciu → Ciu) : (s.updCiu g).srv = s.srv := rfl
@[simp] theorem State.updCiu_mpd (s : State) (g : Ciu → Ciu) : (s.updCiu g).mpd = s.mpd := rfl
@[simp] theorem State.updCiu_sup (s : State) (g : Ciu → Ciu) : (s.updCiu g).sup = s.sup := rfl
@[simp] theorem State.updCiu_sec (s : State) (g : Ciu → Ciu) : (s.updCiu g).sec = s.sec := rfl
@[simp] theorem State.updCiu_efl (s : State) (g : Ciu → Ciu) : (s.updCiu g).efl = s.efl := rfl
@[simp] theorem State.updCiu_thm (s : State) (g : Ciu → Ciu) : (s.updCiu g).thm = s.thm := rfl
@[simp] theorem State.updCiu_cal (s : State) (g : Ciu → Ciu) : (s.updCiu g).cal = s.cal := rfl
@[simp] theorem State.updCiu_plv (s : State) (g : Ciu → Ciu) : (s.updCiu g).plv = s.plv := rfl
@[simp] theorem State.updCiu_mir (s : State) (g : Ciu → Ciu) : (s.updCiu g).mir = s.mir := rfl
@[simp] theorem State.updCiu_evr (s : State) (g : Ciu → Ciu) : (s.updCiu g).evr = s.evr := rfl
@[simp] theorem State.updCiu_out (s : State) (g : Ciu → Ciu) : (s.updCiu g).out = s.out := rfl
@[simp] theorem State.updCiu_freeCtr (s : State) (g : Ciu → Ciu) : (s.updCiu g).freeCtr = s.freeCtr := rfl
@[simp] theorem State.updCiu_pending (s : State) (g : Ciu → Ciu) : (s.updCiu g).pending = s.pending := rfl
@[simp] theorem State.updCiu_f (s : State) (g : Ciu → Ciu) (x : Fld) (i : Nat) : (s.updCiu g).f x i = s.f x i := rfl
@[simp] theorem State.updCiu_b (s : State) (g : Ciu → Ciu) (x : Fld) (i : Nat) : (s.updCiu g).b x i = s.b x i := rfl
@[simp] theorem State.updCiu_g (s : State) (g : Ciu → Ciu) (x : Fld) (i : Nat) : (s.updCiu g).g x i = s.g x i := rfl

@[simp] theorem State.updHep_regs (s : State) (g : Hep → Hep) : (s.updHep g).regs = s.regs := rfl
@[simp] theorem State.updHep_force (s : State) (g : Hep → Hep) : (s.updHep g).force = s.force := rfl
@[simp] theorem State.updHep_mem (s : State) (g : Hep → Hep) : (s.updHep g).mem = s.mem := rfl
@[simp] theorem State.updHep_dev (s : State) (g : Hep → Hep) : (s.updHep g).dev = s.dev := rfl
@[simp] theorem State.updHep_hep (s : State) (g : Hep → Hep) : (s.updHep g).hep = g s.hep := rfl
@[simp] theorem State.updHep_ciu (s : State) (g : Hep → Hep) : (s.updHep g).ciu = s.ciu := rfl
@[simp] theorem State.updHep_buf (s : State) (g : Hep → Hep) : (s.updHep g).buf = s.buf := rfl
@[simp] theorem State.updHep_btl (s : State) (g : Hep → Hep) : (s.updHep g).btl = s.btl := rfl
@[simp] theorem State.updHep_eng (s : State) (g : Hep → Hep) : (s.updHep g).eng = s.eng := rfl
@[simp] theorem State.updHep_mwr (s : State) (g : Hep → Hep) : (s.updHep g).mwr = s.mwr := rfl
@[simp] theorem State.updHep_chn (s : State) (g : Hep → Hep) : (s.updHep g).chn = s.chn := rfl
@[simp] theorem State.updHep_srv (s : State) (g : Hep → Hep) : (s.updHep g).srv = s.srv := rfl
@[simp] theorem State.updHep_mpd (s : State) (g : Hep → Hep) : (s.updHep g).mpd = s.mpd := rfl
@[simp] theorem State.updHep_sup (s : State) (g : Hep → Hep) : (s.updHep g).sup = s.sup := rfl
@[simp] theorem State.updHep_sec (s : State) (g : Hep → Hep) : (s.updHep g).sec = s.sec := rfl
@[simp] theorem State.updHep_efl (s : State) (g : Hep → Hep) : (s.updHep g).efl = s.efl := rfl
@[simp] theorem State.updHep_thm (s : State) (g : Hep → Hep) : (s.updHep g).thm = s.thm := rfl
@[simp] theorem State.updHep_cal (s : State) (g : Hep → Hep) : (s.updHep g).cal = s.cal := rfl
@[simp] theorem State.updHep_plv (s : State) (g : Hep → Hep) : (s.updHep g).plv = s.plv := rfl
@[simp] theorem State.updHep_mir (s : State) (g : Hep → Hep) : (s.updHep g).mir = s.mir := rfl
@[simp] theorem State.updHep_evr (s : State) (g : Hep → Hep) : (s.updHep g).evr = s.evr := rfl
@[simp] theorem State.updHep_out (s : State) (g : Hep → Hep) : (s.updHep g).out = s.out := rfl
@[simp] theorem State.updHep_freeCtr (s : State) (g : Hep → Hep) : (s.updHep g).freeCtr = s.freeCtr := rfl
@[simp] theorem State.updHep_pending (s : State) (g : Hep → Hep) : (s.updHep g).pending = s.pending := rfl
@[simp] theorem State.updHep_f (s : State) (g : Hep → Hep) (x : Fld) (i : Nat) : (s.updHep g).f x i = s.f x i := rfl
@[simp] theorem State.updHep_b (s : State) (g : Hep → Hep) (x : Fld) (i : Nat) : (s.updHep g).b x i = s.b x i := rfl
@[simp] theorem State.updHep_g (s : State) (g : Hep → Hep) (x : Fld) (i : Nat) : (s.updHep g).g x i = s.g x i := rfl

@[simp] theorem State.updDev_regs (s : State) (g : Dev → Dev) : (s.updDev g).regs = s.regs := rfl
@[simp] theorem State.updDev_force (s : State) (g : Dev → Dev) : (s.updDev g).force = s.force := rfl
@[simp] theorem State.updDev_mem (s : State) (g : Dev → Dev) : (s.updDev g).mem = s.mem := rfl
@[simp] theorem State.updDev_dev (s : State) (g : Dev → Dev) : (s.updDev g).dev = g s.dev := rfl
@[simp] theorem State.updDev_hep (s : State) (g : Dev → Dev) : (s.updDev g).hep = s.hep := rfl
@[simp] theorem State.updDev_ciu (s : State) (g : Dev → Dev) : (s.updDev g).ciu = s.ciu := rfl
@[simp] theorem State.updDev_buf (s : State) (g : Dev → Dev) : (s.updDev g).buf = s.buf := rfl
@[simp] theorem State.updDev_btl (s : State) (g : Dev → Dev) : (s.updDev g).btl = s.btl := rfl
@[simp] theorem State.updDev_eng (s : State) (g : Dev → Dev) : (s.updDev g).eng = s.eng := rfl
@[simp] theorem State.updDev_mwr (s : State) (g : Dev → Dev) : (s.updDev g).mwr = s.mwr := rfl
@[simp] theorem State.updDev_chn (s : State) (g : Dev → Dev) : (s.updDev g).chn = s.chn := rfl
@[simp] theorem State.updDev_srv (s : State) (g : Dev → Dev) : (s.updDev g).srv = s.srv := rfl
@[simp] theorem State.updDev_mpd (s : State) (g : Dev → Dev) : (s.updDev g).mpd = s.mpd := rfl
@[simp] theorem State.updDev_sup (s : State) (g : Dev → Dev) : (s.updDev g).sup = s.sup := rfl
@[simp] theorem State.updDev_sec (s : State) (g : Dev → Dev) : (s.updDev g).sec = s.sec := rfl
@[simp] theorem State.updDev_efl (s : State) (g : Dev → Dev) : (s.updDev g).efl = s.efl := rfl
@[simp] theorem State.updDev_thm (s : State) (g : Dev → Dev) : (s.updDev g).thm = s.thm := rfl
@[simp] theorem State.updDev_cal (s : State) (g : Dev → Dev) : (s.updDev g).cal = s.cal := rfl
@[simp] theorem State.updDev_plv (s : State) (g : Dev → Dev) : (s.updDev g).plv = s.plv := rfl
@[simp] theorem State.updDev_mir (s : State) (g : Dev → Dev) : (s.updDev g).mir = s.mir := rfl
@[simp] theorem State.updDev_evr (s : State) (g : Dev → Dev) : (s.updDev g).evr = s.evr := rfl
@[simp] theorem State.updDev_out (s : State) (g : Dev → Dev) : (s.updDev g).out = s.out := rfl
@[simp] theorem State.updDev_freeCtr (s : State) (g : Dev → Dev) : (s.updDev g).freeCtr = s.freeCtr := rfl
@[simp] theorem State.updDev_pending (s : State) (g : Dev → Dev) : (s.updDev g).pending = s.pending := rfl
@[simp] theorem State.updDev_f (s : State) (g : Dev → Dev) (x : Fld) (i : Nat) : (s.updDev g).f x i = s.f x i := rfl
@[simp] theorem State.updDev_b (s : State) (g : Dev → Dev) (x : Fld) (i : Nat) : (s.updDev g).b x i = s.b x i := rfl
@[simp] theorem State.updDev_g (s : State) (g : Dev → Dev) (x : Fld) (i : Nat) : (s.updDev g).g x i = s.g x i := rfl

@[simp] theorem State.updChn_regs (s : State) (g : Chn → Chn) : (s.updChn g).regs = s.regs := rfl
@[simp] theorem State.updChn_force (s : State) (g : Chn → Chn) : (s.updChn g).force = s.force := rfl
@[simp] theorem State.updChn_mem (s : State) (g : Chn → Chn) : (s.updChn g).mem = s.mem := rfl
@[simp] theorem State.updChn_dev (s : State) (g : Chn → Chn) : (s.updChn g).dev = s.dev := rfl
@[simp] theorem State.updChn_hep (s : State) (g : Chn → Chn) : (s.updChn g).hep = s.hep := rfl
@[simp] theorem State.updChn_ciu (s : State) (g : Chn → Chn) : (s.updChn g).ciu = s.ciu := rfl
@[simp] theorem State.updChn_buf (s : State) (g : Chn → Chn) : (s.updChn g).buf = s.buf := rfl
@[simp] theorem State.updChn_btl (s : State) (g : Chn → Chn) : (s.updChn g).btl = s.btl := rfl
@[simp] theorem State.updChn_eng (s : State) (g : Chn → Chn) : (s.updChn g).eng = s.eng := rfl
@[simp] theorem State.updChn_mwr (s : State) (g : Chn → Chn) : (s.updChn g).mwr = s.mwr := rfl
@[simp] theorem State.updChn_chn (s : State) (g : Chn → Chn) : (s.updChn g).chn = g s.chn := rfl
@[simp] theorem State.updChn_srv (s : State) (g : Chn → Chn) : (s.updChn g).srv = s.srv := rfl
@[simp] theorem State.updChn_mpd (s : State) (g : Chn → Chn) : (s.updChn g).mpd = s.mpd := rfl
@[simp] theorem State.updChn_sup (s : State) (g : Chn → Chn) : (s.updChn g).sup = s.sup := rfl
@[simp] theorem State.updChn_sec (s : State) (g : Chn → Chn) : (s.updChn g).sec = s.sec := rfl
@[simp] theorem State.updChn_efl (s : State) (g : Chn → Chn) : (s.updChn g).efl = s.efl := rfl
@[simp] theorem State.updChn_thm (s : State) (g : Chn → Chn) : (s.updChn g).thm = s.thm := rfl
@[simp] theorem State.updChn_cal (s : State) (g : Chn → Chn) : (s.updChn g).cal = s.cal := rfl
@[simp] theorem State.updChn_plv (s : State) (g : Chn → Chn) : (s.updChn g).plv = s.plv := rfl
@[simp] theorem State.updChn_mir (s : State) (g : Chn → Chn) : (s.updChn g).mir = s.mir := rfl
@[simp] theorem State.updChn_evr (s : State) (g : Chn → Chn) : (s.updChn g).evr = s.evr := rfl
@[simp] theorem State.updChn_out (s : State) (g : Chn → Chn) : (s.updChn g).out = s.out := rfl
@[simp] theorem State.updChn_freeCtr (s : State) (g : Chn → Chn) : (s.updChn g).freeCtr = s.freeCtr := rfl
@[simp] theorem State.updChn_pending (s : State) (g : Chn → Chn) : (s.updChn g).pending = s.pending := rfl
@[simp] theorem State.updChn_f (s : State) (g : Chn → Chn) (x : Fld) (i : Nat) : (s.updChn g).f x i = s.f x i := rfl
@[simp] theorem State.updChn_b (s : State) (g : Chn → Chn) (x : Fld) (i : Nat) : (s.updChn g).b x i = s.b x i := rfl
@[simp] theorem State.updChn_g (s : State) (g : Chn → Chn) (x : Fld) (i : Nat) : (s.updChn g).g x i = s.g x i := rfl

@[simp] theorem State.updMir_regs (s : State) (g : Mir → Mir) : (s.updMir g).regs = s.regs := rfl
@[simp] theorem State.updMir_force (s : State) (g : Mir → Mir) : (s.updMir g).force = s.force := rfl
@[simp] theorem State.updMir_mem (s : State) (g : Mir → Mir) : (s.updMir g).mem = s.mem := rfl
@[simp] theorem State.updMir_dev (s : State) (g : Mir → Mir) : (s.updMir g).dev = s.dev := rfl
@[simp] theorem State.updMir_hep (s : State) (g : Mir → Mir) : (s.updMir g).hep = s.hep := rfl
@[simp] theorem State.updMir_ciu (s : State) (g : Mir → Mir) : (s.updMir g).ciu = s.ciu := rfl
@[simp] theorem State.updMir_buf (s : State) (g : Mir → Mir) : (s.updMir g).buf = s.buf := rfl
@[simp] theorem State.updMir_btl (s : State) (g : Mir → Mir) : (s.updMir g).btl = s.btl := rfl
@[simp] theorem State.updMir_eng (s : State) (g : Mir → Mir) : (s.updMir g).eng = s.eng := rfl
@[simp] theorem State.updMir_mwr (s : State) (g : Mir → Mir) : (s.updMir g).mwr = s.mwr := rfl
@[simp] theorem State.updMir_chn (s : State) (g : Mir → Mir) : (s.updMir g).chn = s.chn := rfl
@[simp] theorem State.updMir_srv (s : State) (g : Mir → Mir) : (s.updMir g).srv = s.srv := rfl
@[simp] theorem State.updMir_mpd (s : State) (g : Mir → Mir) : (s.updMir g).mpd = s.mpd := rfl
@[simp] theorem State.updMir_sup (s : State) (g : Mir → Mir) : (s.updMir g).sup = s.sup := rfl
@[simp] theorem State.updMir_sec (s : State) (g : Mir → Mir) : (s.updMir g).sec = s.sec := rfl
@[simp] theorem State.updMir_efl (s : State) (g : Mir → Mir) : (s.updMir g).efl = s.efl := rfl
@[simp] theorem State.updMir_thm (s : State) (g : Mir → Mir) : (s.updMir g).thm = s.thm := rfl
@[simp] theorem State.updMir_cal (s : State) (g : Mir → Mir) : (s.updMir g).cal = s.cal := rfl
@[simp] theorem State.updMir_plv (s : State) (g : Mir → Mir) : (s.updMir g).plv = s.plv := rfl
@[simp] theorem State.updMir_mir (s : State) (g : Mir → Mir) : (s.updMir g).mir = g s.mir := rfl
@[simp] theorem State.updMir_evr (s : State) (g : Mir → Mir) : (s.updMir g).evr = s.evr := rfl
@[simp] theorem State.updMir_out (s : State) (g : Mir → Mir) : (s.updMir g).out = s.out := rfl
@[simp] theorem State.updMir_freeCtr (s : State) (g : Mir → Mir) : (s.updMir g).freeCtr = s.freeCtr := rfl
@[simp] theorem State.updMir_pending (s : State) (g : Mir → Mir) : (s.updMir g).pending = s.pending := rfl
@[simp] theorem State.updMir_f (s : State) (g : Mir → Mir) (x : Fld) (i : Nat) : (s.updMir g).f x i = s.f x i := rfl
@[simp] theorem State.updMir_b (s : State) (g : Mir → Mir) (x : Fld) (i : Nat) : (s.updMir g).b x i = s.b x i := rfl
@[simp] theorem State.updMir_g (s : State) (g : Mir → Mir) (x : Fld) (i : Nat) : (s.updMir g).g x i = s.g x i := rfl

@[simp] theorem State.updBuf_regs (s : State) (g : Buf → Buf) : (s.updBuf g).regs = s.regs := rfl
@[simp] theorem State.updBuf_force (s : State) (g : Buf → Buf) : (s.updBuf g).force = s.force := rfl
@[simp] theorem State.updBuf_mem (s : State) (g : Buf → Buf) : (s.updBuf g).mem = s.mem := rfl
@[simp] theorem State.updBuf_dev (s : State) (g : Buf → Buf) : (s.updBuf g).dev = s.dev := rfl
@[simp] theorem State.updBuf_hep (s : State) (g : Buf → Buf) : (s.updBuf g).hep = s.hep := rfl
@[simp] theorem State.updBuf_ciu (s : State) (g : Buf → Buf) : (s.updBuf g).ciu = s.ciu := rfl
@[simp] theorem State.updBuf_buf (s : State) (g : Buf → Buf) : (s.updBuf g).buf = g s.buf := rfl
@[simp] theorem State.updBuf_btl (s : State) (g : Buf → Buf) : (s.updBuf g).btl = s.btl := rfl
@[simp] theorem State.updBuf_eng (s : State) (g : Buf → Buf) : (s.updBuf g).eng = s.eng := rfl
@[simp] theorem State.updBuf_mwr (s : State) (g : Buf → Buf) : (s.updBuf g).mwr = s.mwr := rfl
@[simp] theorem State.updBuf_chn (s : State) (g : Buf → Buf) : (s.updBuf g).chn = s.chn := rfl
@[simp] theorem State.updBuf_srv (s : State) (g : Buf → Buf) : (s.updBuf g).srv = s.srv := rfl
@[simp] theorem State.updBuf_mpd (s : State) (g : Buf → Buf) : (s.updBuf g).mpd = s.mpd := rfl
@[simp] theorem State.updBuf_sup (s : State) (g : Buf → Buf) : (s.updBuf g).sup = s.sup := rfl
@[simp] theorem State.updBuf_sec (s : State) (g : Buf → Buf) : (s.updBuf g).sec = s.sec := rfl
@[simp] theorem State.updBuf_efl (s : State) (g : Buf → Buf) : (s.updBuf g).efl = s.efl := rfl
@[simp] theorem State.updBuf_thm (s : State) (g : Buf → Buf) : (s.updBuf g).thm = s.thm := rfl
@[simp] theorem State.updBuf_cal (s : State) (g : Buf → Buf) : (s.updBuf g).cal = s.cal := rfl
@[simp] theorem State.updBuf_plv (s : State) (g : Buf → Buf) : (s.updBuf g).plv = s.plv := rfl
@[simp] theorem State.updBuf_mir (s : State) (g : Buf → Buf) : (s.updBuf g).mir = s.mir := rfl
@[simp] theorem State.updBuf_evr (s : State) (g : Buf → Buf) : (s.updBuf g).evr = s.evr := rfl
@[simp] theorem State.updBuf_out (s : State) (g : Buf → Buf) : (s.updBuf g).out = s.out := rfl
@[simp] theorem State.updBuf_freeCtr (s : State) (g : Buf → Buf) : (s.updBuf g).freeCtr = s.freeCtr := rfl
@[simp] theorem State.updBuf_pending (s : State) (g : Buf → Buf) : (s.updBuf g).pending = s.pending := rfl
@[simp] theorem State.updBuf_f (s : State) (g : Buf → Buf) (x : Fld) (i : Nat) : (s.updBuf g).f x i = s.f x i := rfl
@[simp] theorem State.updBuf_b (s : State) (g : Buf → Buf) (x : Fld) (i : Nat) : (s.updBuf g).b x i = s.b x i := rfl
@[simp] theorem State.updBuf_g (s : State) (g : Buf → Buf) (x : Fld) (i : Nat) : (s.updBuf g).g x i = s.g x i := rfl

@[simp] theorem State.updPlv_regs (s : State) (g : Plv → Plv) : (s.updPlv g).regs = s.regs := rfl
@[simp] theorem State.updPlv_force (s : State) (g : Plv → Plv) : (s.updPlv g).force = s.force := rfl
@[simp] theorem State.updPlv_mem (s : State) (g : Plv → Plv) : (s.updPlv g).mem = s.mem := rfl
@[simp] theorem State.updPlv_dev (s : State) (g : Plv → Plv) : (s.updPlv g).dev = s.dev := rfl
@[simp] theorem State.updPlv_hep (s : State) (g : Plv → Plv) : (s.updPlv g).hep = s.hep := rfl
@[simp] theorem State.updPlv_ciu (s : State) (g : Plv → Plv) : (s.updPlv g).ciu = s.ciu := rfl
@[simp] theorem State.updPlv_buf (s : State) (g : Plv → Plv) : (s.updPlv g).buf = s.buf := rfl
@[simp] theorem State.updPlv_btl (s : State) (g : Plv → Plv) : (s.updPlv g).btl = s.btl := rfl
@[simp] theorem State.updPlv_eng (s : State) (g : Plv → Plv) : (s.updPlv g).eng = s.eng := rfl
@[simp] theorem State.updPlv_mwr (s : State) (g : Plv → Plv) : (s.updPlv g).mwr = s.mwr := rfl
@[simp] theorem State.updPlv_chn (s : State) (g : Plv → Plv) : (s.updPlv g).chn = s.chn := rfl
@[simp] theorem State.updPlv_srv (s : State) (g : Plv → Plv) : (s.updPlv g).srv = s.srv := rfl
@[simp] theorem State.updPlv_mpd (s : State) (g : Plv → Plv) : (s.updPlv g).mpd = s.mpd := rfl
@[simp] theorem State.updPlv_sup (s : State) (g : Plv → Plv) : (s.updPlv g).sup = s.sup := rfl
@[simp] theorem State.updPlv_sec (s : State) (g : Plv → Plv) : (s.updPlv g).sec = s.sec := rfl
@[simp] theorem State.updPlv_efl (s : State) (g : Plv → Plv) : (s.updPlv g).efl = s.efl := rfl
@[simp] theorem State.updPlv_thm (s : State) (g : Plv → Plv) : (s.updPlv g).thm = s.thm := rfl
@[simp] theorem State.updPlv_cal (s : State) (g : Plv → Plv) : (s.updPlv g).cal = s.cal := rfl
@[simp] theorem State.updPlv_plv (s : State) (g : Plv → Plv) : (s.updPlv g).plv = g s.plv := rfl
@[simp] theorem State.updPlv_mir (s : State) (g : Plv → Plv) : (s.updPlv g).mir = s.mir := rfl
@[simp] theorem State.updPlv_evr (s : State) (g : Plv → Plv) : (s.updPlv g).evr = s.evr := rfl
@[simp] theorem State.updPlv_out (s : State) (g : Plv → Plv) : (s.updPlv g).out = s.out := rfl
@[simp] theorem State.updPlv_freeCtr (s : State) (g : Plv → Plv) : (s.updPlv g).freeCtr = s.freeCtr := rfl
@[simp] theorem State.updPlv_pending (s : State) (g : Plv → Plv) : (s.updPlv g).pending = s.pending := rfl
@[simp] theorem State.updPlv_f (s : State) (g : Plv → Plv) (x : Fld) (i : Nat) : (s.updPlv g).f x i = s.f x i := rfl
@[simp] theorem State.updPlv_b (s : State) (g : Plv → Plv) (x : Fld) (i : Nat) : (s.updPlv g).b x i = s.b x i := rfl
@[simp] theorem State.updPlv_g (s : State) (g : Plv → Plv) (x : Fld) (i : Nat) : (s.updPlv g).g x i = s.g x i := rfl

@[simp] theorem State.updSup_regs (s : State) (g : Sup → Sup) : (s.updSup g).regs = s.regs := rfl
@[simp] theorem State.updSup_force (s : State) (g : Sup → Sup) : (s.updSup g).force = s.force := rfl
@[simp] theorem State.updSup_mem (s : State) (g : Sup → Sup) : (s.updSup g).mem = s.mem := rfl
@[simp] theorem State.updSup_dev (s : State) (g : Sup → Sup) : (s.updSup g).dev = s.dev := rfl
@[simp] theorem State.updSup_hep (s : State) (g : Sup → Sup) : (s.updSup g).hep = s.hep := rfl
@[simp] theorem State.updSup_ciu (s : State) (g : Sup → Sup) : (s.updSup g).ciu = s.ciu := rfl
@[simp] theorem State.updSup_buf (s : State) (g : Sup → Sup) : (s.updSup g).buf = s.buf := rfl
@[simp] theorem State.updSup_btl (s : State) (g : Sup → Sup) : (s.updSup g).btl = s.btl := rfl
@[simp] theorem State.updSup_eng (s : State) (g : Sup → Sup) : (s.updSup g).eng = s.eng := rfl
@[simp] theorem State.updSup_mwr (s : State) (g : Sup → Sup) : (s.updSup g).mwr = s.mwr := rfl
@[simp] theorem State.updSup_chn (s : State) (g : Sup → Sup) : (s.updSup g).chn = s.chn := rfl
@[simp] theorem State.updSup_srv (s : State) (g : Sup → Sup) : (s.updSup g).srv = s.srv := rfl
@[simp] theorem State.updSup_mpd (s : State) (g : Sup → Sup) : (s.updSup g).mpd = s.mpd := rfl
@[simp] theorem State.updSup_sup (s : State) (g : Sup → Sup) : (s.updSup g).sup = g s.sup := rfl
@[simp] theorem State.updSup_sec (s : State) (g : Sup → Sup) : (s.updSup g).sec = s.sec := rfl
@[simp] theorem State.updSup_efl (s : State) (g : Sup → Sup) : (s.updSup g).efl = s.efl := rfl
@[simp] theorem State.updSup_thm (s : State) (g : Sup → Sup) : (s.updSup g).thm = s.thm := rfl
@[simp] theorem State.updSup_cal (s : State) (g : Sup → Sup) : (s.updSup g).cal = s.cal := rfl
@[simp] theorem State.updSup_plv (s : State) (g : Sup → Sup) : (s.updSup g).plv = s.plv := rfl
@[simp] theorem State.updSup_mir (s : State) (g : Sup → Sup) : (s.updSup g).mir = s.mir := rfl
@[simp] theorem State.updSup_evr (s : State) (g : Sup → Sup) : (s.updSup g).evr = s.evr := rfl
@[simp] theorem State.updSup_out (s : State) (g : Sup → Sup) : (s.updSup g).out = s.out := rfl
@[simp] theorem State.updSup_freeCtr (s : State) (g : Sup → Sup) : (s.updSup g).freeCtr = s.freeCtr := rfl
@[simp] theorem State.updSup_pending (s : State) (g : Sup → Sup) : (s.updSup g).pending = s.pending := rfl
@[simp] theorem State.updSup_f (s : State) (g : Sup → Sup) (x : Fld) (i : Nat) : (s.updSup g).f x i = s.f x i := rfl
@[simp] theorem State.updSup_b (s : State) (g : Sup → Sup) (x : Fld) (i : Nat) : (s.updSup g).b x i = s.b x i := rfl
@[simp] theorem State.updSup_g (s : State) (g : Sup → Sup) (x : Fld) (i : Nat) : (s.updSup g).g x i = s.g x i := rfl

@[simp] theorem State.updMpd_regs (s : State) (g : Mpd → Mpd) : (s.updMpd g).regs = s.regs := rfl
@[simp] theorem State.updMpd_force (s : State) (g : Mpd → Mpd) : (s.updMpd g).force = s.force := rfl
@[simp] theorem State.updMpd_mem (s : State) (g : Mpd → Mpd) : (s.updMpd g).mem = s.mem := rfl
@[simp] theorem State.updMpd_dev (s : State) (g : Mpd → Mpd) : (s.updMpd g).dev = s.dev := rfl
@[simp] theorem State.updMpd_hep (s : State) (g : Mpd → Mpd) : (s.updMpd g).hep = s.hep := rfl
@[simp] theorem State.updMpd_ciu (s : State) (g : Mpd → Mpd) : (s.updMpd g).ciu = s.ciu := rfl
@[simp] theorem State.updMpd_buf (s : State) (g : Mpd → Mpd) : (s.updMpd g).buf = s.buf := rfl
@[simp] theorem State.updMpd_btl (s : State) (g : Mpd → Mpd) : (s.updMpd g).btl = s.btl := rfl
@[simp] theorem State.updMpd_eng (s : State) (g : Mpd → Mpd) : (s.updMpd g).eng = s.eng := rfl
@[simp] theorem State.updMpd_mwr (s : State) (g : Mpd → Mpd) : (s.updMpd g).mwr = s.mwr := rfl
@[simp] theorem State.updMpd_chn (s : State) (g : Mpd → Mpd) : (s.updMpd g).chn = s.chn := rfl
@[simp] theorem State.updMpd_srv (s : State) (g : Mpd → Mpd) : (s.updMpd g).srv = s.srv := rfl
@[simp] theorem State.updMpd_mpd (s : State) (g : Mpd → Mpd) : (s.updMpd g).mpd = g s.mpd := rfl
@[simp] theorem State.updMpd_sup (s : State) (g : Mpd → Mpd) : (s.updMpd g).sup = s.sup := rfl
@[simp] theorem State.updMpd_sec (s : State) (g : Mpd → Mpd) : (s.updMpd g).sec = s.sec := rfl
@[simp] theorem State.updMpd_efl (s : State) (g : Mpd → Mpd) : (s.updMpd g).efl = s.efl := rfl
@[simp] theorem State.updMpd_thm (s : State) (g : Mpd → Mpd) : (s.updMpd g).thm = s.thm := rfl
@[simp] theorem State.updMpd_cal (s : State) (g : Mpd → Mpd) : (s.updMpd g).cal = s.cal := rfl
@[simp] theorem State.updMpd_plv (s : State) (g : Mpd → Mpd) : (s.updMpd g).plv = s.plv := rfl
@[simp] theorem State.updMpd_mir (s : State) (g : Mpd → Mpd) : (s.updMpd g).mir = s.mir := rfl
@[simp] theorem State.updMpd_evr (s : State) (g : Mpd → Mpd) : (s.updMpd g).evr = s.evr := rfl
@[simp] theorem State.updMpd_out (s : State) (g : Mpd → Mpd) : (s.updMpd g).out = s.out := rfl
@[simp] theorem State.updMpd_freeCtr (s : State) (g : Mpd → Mpd) : (s.updMpd g).freeCtr = s.freeCtr := rfl
@[simp] theorem State.updMpd_pending (s : State) (g : Mpd → Mpd) : (s.updMpd g).pending = s.pending := rfl
@[simp] theorem State.updMpd_f (s : State) (g : Mpd → Mpd) (x : Fld) (i : Nat) : (s.updMpd g).f x i = s.f x i := rfl
@[simp] theorem State.updMpd_b (s : State) (g : Mpd → Mpd) (x : Fld) (i : Nat) : (s.updMpd g).b x i = s.b x i := rfl
@[simp] theorem State.updMpd_g (s : State) (g : Mpd → Mpd) (x : Fld) (i : Nat) : (s.updMpd g).g x i = s.g x i := rfl

@[simp] theorem State.updSrv_regs (s : State) (g : Srv → Srv) : (s.updSrv g).regs = s.regs := rfl
@[simp] theorem State.updSrv_force (s : State) (g : Srv → Srv) : (s.updSrv g).force = s.force := rfl
@[simp] theorem State.updSrv_mem (s : State) (g : Srv → Srv) : (s.updSrv g).mem = s.mem := rfl
@[simp] theorem State.updSrv_dev (s : State) (g : Srv → Srv) : (s.updSrv g).dev = s.dev := rfl
@[simp] theorem State.updSrv_hep (s : State) (g : Srv → Srv) : (s.updSrv g).hep = s.hep := rfl
@[simp] theorem State.updSrv_ciu (s : State) (g : Srv → Srv) : (s.updSrv g).ciu = s.ciu := rfl
@[simp] theorem State.updSrv_buf (s : State) (g : Srv → Srv) : (s.updSrv g).buf = s.buf := rfl
@[simp] theorem State.updSrv_btl (s : State) (g : Srv → Srv) : (s.updSrv g).btl = s.btl := rfl
@[simp] theorem State.updSrv_eng (s : State) (g : Srv → Srv) : (s.updSrv g).eng = s.eng := rfl
@[simp] theorem State.updSrv_mwr (s : State) (g : Srv → Srv) : (s.updSrv g).mwr = s.mwr := rfl
@[simp] theorem State.updSrv_chn (s : State) (g : Srv → Srv) : (s.updSrv g).chn = s.chn := rfl
@[simp] theorem State.updSrv_srv (s : State) (g : Srv → Srv) : (s.updSrv g).srv = g s.srv := rfl
@[simp] theorem State.updSrv_mpd (s : State) (g : Srv → Srv) : (s.updSrv g).mpd = s.mpd := rfl
@[simp] theorem State.updSrv_sup (s : State) (g : Srv → Srv) : (s.updSrv g).sup = s.sup := rfl
@[simp] theorem State.updSrv_sec (s : State) (g : Srv → Srv) : (s.updSrv g).sec = s.sec := rfl
@[simp] theorem State.updSrv_efl (s : State) (g : Srv → Srv) : (s.updSrv g).efl = s.efl := rfl
@[simp] theorem State.updSrv_thm (s : State) (g : Srv → Srv) : (s.updSrv g).thm = s.thm := rfl
@[simp] theorem State.updSrv_cal (s : State) (g : Srv → Srv) : (s.updSrv g).cal = s.cal := rfl
@[simp] theorem State.updSrv_plv (s : State) (g : Srv → Srv) : (s.updSrv g).plv = s.plv := rfl
@[simp] theorem State.updSrv_mir (s : State) (g : Srv → Srv) : (s.updSrv g).mir = s.mir := rfl
@[simp] theorem State.updSrv_evr (s : State) (g : Srv → Srv) : (s.updSrv g).evr = s.evr := rfl
@[simp] theorem State.updSrv_out (s : State) (g : Srv → Srv) : (s.updSrv g).out = s.out := rfl
@[simp] theorem State.updSrv_freeCtr (s : State) (g : Srv → Srv) : (s.updSrv g).freeCtr = s.freeCtr := rfl
@[simp] theorem State.updSrv_pending (s : State) (g : Srv → Srv) : (s.updSrv g).pending = s.pending := rfl
@[simp] theorem State.updSrv_f (s : State) (g : Srv → Srv) (x : Fld) (i : Nat) : (s.updSrv g).f x i = s.f x i := rfl
@[simp] theorem State.updSrv_b (s : State) (g : Srv → Srv) (x : Fld) (i : Nat) : (s.updSrv g).b x i = s.b x i := rfl
@[simp] theorem State.updSrv_g (s : State) (g : Srv → Srv) (x : Fld) (i : Nat) : (s.updSrv g).g x i = s.g x i := rfl

@[simp] theorem State.updEng_regs (s : State) (g : Eng → Eng) : (s.updEng g).regs = s.regs := rfl
@[simp] theorem State.updEng_force (s : State) (g : Eng → Eng) : (s.updEng g).force = s.force := rfl
@[simp] theorem State.updEng_mem (s : State) (g : Eng → Eng) : (s.updEng g).mem = s.mem := rfl
@[simp] theorem State.updEng_dev (s : State) (g : Eng → Eng) : (s.updEng g).dev = s.dev := rfl
@[simp] theorem State.updEng_hep (s : State) (g : Eng → Eng) : (s.updEng g).hep = s.hep := rfl
@[simp] theorem State.updEng_ciu (s : State) (g : Eng → Eng) : (s.updEng g).ciu = s.ciu := rfl
@[simp] theorem State.updEng_buf (s : State) (g : Eng → Eng) : (s.updEng g).buf = s.buf := rfl
@[simp] theorem State.updEng_btl (s : State) (g : Eng → Eng) : (s.updEng g).btl = s.btl := rfl
@[simp] theorem State.updEng_eng (s : State) (g : Eng → Eng) : (s.updEng g).eng = g s.eng := rfl
@[simp] theorem State.updEng_mwr (s : State) (g : Eng → Eng) : (s.updEng g).mwr = s.mwr := rfl
@[simp] theorem State.updEng_chn (s : State) (g : Eng → Eng) : (s.updEng g).chn = s.chn := rfl
@[simp] theorem State.updEng_srv (s : State) (g : Eng → Eng) : (s.updEng g).srv = s.srv := rfl
@[simp] theorem State.updEng_mpd (s : State) (g : Eng → Eng) : (s.updEng g).mpd = s.mpd := rfl
@[simp] theorem State.updEng_sup (s : State) (g : Eng → Eng) : (s.updEng g).sup = s.sup := rfl
@[simp] theorem State.updEng_sec (s : State) (g : Eng → Eng) : (s.updEng g).sec = s.sec := rfl
@[simp] theorem State.updEng_efl (s : State) (g : Eng → Eng) : (s.updEng g).efl = s.efl := rfl
@[simp] theorem State.updEng_thm (s : State) (g : Eng → Eng) : (s.updEng g).thm = s.thm := rfl
@[simp] theorem State.updEng_cal (s : State) (g : Eng → Eng) : (s.updEng g).cal = s.cal := rfl
@[simp] theorem State.updEng_plv (s : State) (g : Eng → Eng) : (s.updEng g).plv = s.plv := rfl
@[simp] theorem State.updEng_mir (s : State) (g : Eng → Eng) : (s.updEng g).mir = s.mir := rfl
@[simp] theorem State.updEng_evr (s : State) (g : Eng → Eng) : (s.updEng g).evr = s.evr := rfl
@[simp] theorem State.updEng_out (s : State) (g : Eng → Eng) : (s.updEng g).out = s.out := rfl
@[simp] theorem State.updEng_freeCtr (s : State) (g : Eng → Eng) : (s.updEng g).freeCtr = s.freeCtr := rfl
@[simp] theorem State.updEng_pending (s : State) (g : Eng → Eng) : (s.updEng g).pending = s.pending := rfl
@[simp] theorem State.updEng_f (s : State) (g : Eng → Eng) (x : Fld) (i : Nat) : (s.updEng g).f x i = s.f x i := rfl
@[simp] theorem State.updEng_b (s : State) (g : Eng → Eng) (x : Fld) (i : Nat) : (s.updEng g).b x i = s.b x i := rfl
@[simp] theorem State.updEng_g (s : State) (g : Eng → Eng) (x : Fld) (i : Nat) : (s.updEng g).g x i = s.g x i := rfl

@[simp] theorem State.updMwr_regs (s : State) (g : Mwr → Mwr) : (s.updMwr g).regs = s.regs := rfl
@[simp] theorem State.updMwr_force (s : State) (g : Mwr → Mwr) : (s.updMwr g).force = s.force := rfl
@[simp] theorem State.updMwr_mem (s : State) (g : Mwr → Mwr) : (s.updMwr g).mem = s.mem := rfl
@[simp] theorem State.updMwr_dev (s : State) (g : Mwr → Mwr) : (s.updMwr g).dev = s.dev := rfl
@[simp] theorem State.updMwr_hep (s : State) (g : Mwr → Mwr) : (s.updMwr g).hep = s.hep := rfl
@[simp] theorem State.updMwr_ciu (s : State) (g : Mwr → Mwr) : (s.updMwr g).ciu = s.ciu := rfl
@[simp] theorem State.updMwr_buf (s : State) (g : Mwr → Mwr) : (s.updMwr g).buf = s.buf := rfl
@[simp] theorem State.updMwr_btl (s : State) (g : Mwr → Mwr) : (s.updMwr g).btl = s.btl := rfl
@[simp] theorem State.updMwr_eng (s : State) (g : Mwr → Mwr) : (s.updMwr g).eng = s.eng := rfl
@[simp] theorem State.updMwr_mwr (s : State) (g : Mwr → Mwr) : (s.updMwr g).mwr = g s.mwr := rfl
@[simp] theorem State.updMwr_chn (s : State) (g : Mwr → Mwr) : (s.updMwr g).chn = s.chn := rfl
@[simp] theorem State.updMwr_srv (s : State) (g : Mwr → Mwr) : (s.updMwr g).srv = s.srv := rfl
@[simp] theorem State.updMwr_mpd (s : State) (g : Mwr → Mwr) : (s.updMwr g).mpd = s.mpd := rfl
@[simp] theorem State.updMwr_sup (s : State) (g : Mwr → Mwr) : (s.updMwr g).sup = s.sup := rfl
@[simp] theorem State.updMwr_sec (s : State) (g : Mwr → Mwr) : (s.updMwr g).sec = s.sec := rfl
@[simp] theorem State.updMwr_efl (s : State) (g : Mwr → Mwr) : (s.updMwr g).efl = s.efl := rfl
@[simp] theorem State.updMwr_thm (s : State) (g : Mwr → Mwr) : (s.updMwr g).thm = s.thm := rfl
@[simp] theorem State.updMwr_cal (s : State) (g : Mwr → Mwr) : (s.updMwr g).cal = s.cal := rfl
@[simp] theorem State.updMwr_plv (s : State) (g : Mwr → Mwr) : (s.updMwr g).plv = s.plv := rfl
@[simp] theorem State.updMwr_mir (s : State) (g : Mwr → Mwr) : (s.updMwr g).mir = s.mir := rfl
@[simp] theorem State.updMwr_evr (s : State) (g : Mwr → Mwr) : (s.updMwr g).evr = s.evr := rfl
@[simp] theorem State.updMwr_out (s : State) (g : Mwr → Mwr) : (s.updMwr g).out = s.out := rfl
@[simp] theorem State.updMwr_freeCtr (s : State) (g : Mwr → Mwr) : (s.updMwr g).freeCtr = s.freeCtr := rfl
@[simp] theorem State.updMwr_pending (s : State) (g : Mwr → Mwr) : (s.updMwr g).pending = s.pending := rfl
@[simp] theorem State.updMwr_f (s : State) (g : Mwr → Mwr) (x : Fld) (i : Nat) : (s.updMwr g).f x i = s.f x i := rfl
@[simp] theorem State.updMwr_b (s : State) (g : Mwr → Mwr) (x : Fld) (i : Nat) : (s.updMwr g).b x i = s.b x i := rfl
@[simp] theorem State.updMwr_g (s : State) (g : Mwr → Mwr) (x : Fld) (i : Nat) : (s.updMwr g).g x i = s.g x i := rfl

@[simp] theorem State.updSec_regs (s : State) (g : Sec → Sec) : (s.updSec g).regs = s.regs := rfl
@[simp] theorem State.updSec_force (s : State) (g : Sec → Sec) : (s.updSec g).force = s.force := rfl
@[simp] theorem State.updSec_mem (s : State) (g : Sec → Sec) : (s.updSec g).mem = s.mem := rfl
@[simp] theorem State.updSec_dev (s : State) (g : Sec → Sec) : (s.updSec g).dev = s.dev := rfl
@[simp] theorem State.updSec_hep (s : State) (g : Sec → Sec) : (s.updSec g).hep = s.hep := rfl
@[simp] theorem State.updSec_ciu (s : State) (g : Sec → Sec) : (s.updSec g).ciu = s.ciu := rfl
@[simp] theorem State.updSec_buf (s : State) (g : Sec → Sec) : (s.updSec g).buf = s.buf := rfl
@[simp] theorem State.updSec_btl (s : State) (g : Sec → Sec) : (s.updSec g).btl = s.btl := rfl
@[simp] theorem State.updSec_eng (s : State) (g : Sec → Sec) : (s.updSec g).eng = s.eng := rfl
@[simp] theorem State.updSec_mwr (s : State) (g : Sec → Sec) : (s.updSec g).mwr = s.mwr := rfl
@[simp] theorem State.updSec_chn (s : State) (g : Sec → Sec) : (s.updSec g).chn = s.chn := rfl
@[simp] theorem State.updSec_srv (s : State) (g : Sec → Sec) : (s.updSec g).srv = s.srv := rfl
@[simp] theorem State.updSec_mpd (s : State) (g : Sec → Sec) : (s.updSec g).mpd = s.mpd := rfl
@[simp] theorem State.updSec_sup (s : State) (g : Sec → Sec) : (s.updSec g).sup = s.sup := rfl
@[simp] theorem State.updSec_sec (s : State) (g : Sec → Sec) : (s.updSec g).sec = g s.sec := rfl
@[simp] theorem State.updSec_efl (s : State) (g : Sec → Sec) : (s.updSec g).efl = s.efl := rfl
@[simp] theorem State.updSec_thm (s : State) (g : Sec → Sec) : (s.updSec g).thm = s.thm := rfl
@[simp] theorem State.updSec_cal (s : State) (g : Sec → Sec) : (s.updSec g).cal = s.cal := rfl
@[simp] theorem State.updSec_plv (s : State) (g : Sec → Sec) : (s.updSec g).plv = s.plv := rfl
@[simp] theorem State.updSec_mir (s : State) (g : Sec → Sec) : (s.updSec g).mir = s.mir := rfl
@[simp] theorem State.updSec_evr (s : State) (g : Sec → Sec) : (s.updSec g).evr = s.evr := rfl
@[simp] theorem State.updSec_out (s : State) (g : Sec → Sec) : (s.updSec g).out = s.out := rfl
@[simp] theorem State.updSec_freeCtr (s : State) (g : Sec → Sec) : (s.updSec g).freeCtr = s.freeCtr := rfl
@[simp] theorem State.updSec_pending (s : State) (g : Sec → Sec) : (s.updSec g).pending = s.pending := rfl
@[simp] theorem State.updSec_f (s : State) (g : Sec → Sec) (x : Fld) (i : Nat) : (s.updSec g).f x i = s.f x i := rfl
@[simp] theorem State.updSec_b (s : State) (g : Sec → Sec) (x : Fld) (i : Nat) : (s.updSec g).b x i = s.b x i := rfl
@[simp] theorem State.updSec_g (s : State) (g : Sec → Sec) (x : Fld) (i : Nat) : (s.updSec g).g x i = s.g x i := rfl

@[simp] theorem State.updThm_regs (s : State) (g : Thm → Thm) : (s.updThm g).regs = s.regs := rfl
@[simp] theorem State.updThm_force (s : State) (g : Thm → Thm) : (s.updThm g).force = s.force := rfl
@[simp] theorem State.updThm_mem (s : State) (g : Thm → Thm) : (s.updThm g).mem = s.mem := rfl
@[simp] theorem State.updThm_dev (s : State) (g : Thm → Thm) : (s.updThm g).dev = s.dev := rfl
@[simp] theorem State.updThm_hep (s : State) (g : Thm → Thm) : (s.updThm g).hep = s.hep := rfl
@[simp] theorem State.updThm_ciu (s : State) (g : Thm → Thm) : (s.updThm g).ciu = s.ciu := rfl
@[simp] theorem State.updThm_buf (s : State) (g : Thm → Thm) : (s.updThm g).buf = s.buf := rfl
@[simp] theorem State.updThm_btl (s : State) (g : Thm → Thm) : (s.updThm g).btl = s.btl := rfl
@[simp] theorem State.updThm_eng (s : State) (g : Thm → Thm) : (s.updThm g).eng = s.eng := rfl
@[simp] theorem State.updThm_mwr (s : State) (g : Thm → Thm) : (s.updThm g).mwr = s.mwr := rfl
@[simp] theorem State.updThm_chn (s : State) (g : Thm → Thm) : (s.updThm g).chn = s.chn := rfl
@[simp] theorem State.updThm_srv (s : State) (g : Thm → Thm) : (s.updThm g).srv = s.srv := rfl
@[simp] theorem State.updThm_mpd (s : State) (g : Thm → Thm) : (s.updThm g).mpd = s.mpd := rfl
@[simp] theorem State.updThm_sup (s : State) (g : Thm → Thm) : (s.updThm g).sup = s.sup := rfl
@[simp] theorem State.updThm_sec (s : State) (g : Thm → Thm) : (s.updThm g).sec = s.sec := rfl
@[simp] theorem State.updThm_efl (s : State) (g : Thm → Thm) : (s.updThm g).efl = s.efl := rfl
@[simp] theorem State.updThm_thm (s : State) (g : Thm → Thm) : (s.updThm g).thm = g s.thm := rfl
@[simp] theorem State.updThm_cal (s : State) (g : Thm → Thm) : (s.updThm g).cal = s.cal := rfl
@[simp] theorem State.updThm_plv (s : State) (g : Thm → Thm) : (s.updThm g).plv = s.plv := rfl
@[simp] theorem State.updThm_mir (s : State) (g : Thm → Thm) : (s.updThm g).mir = s.mir := rfl
@[simp] theorem State.updThm_evr (s : State) (g : Thm → Thm) : (s.updThm g).evr = s.evr := rfl
@[simp] theorem State.updThm_out (s : State) (g : Thm → Thm) : (s.updThm g).out = s.out := rfl
@[simp] theorem State.updThm_freeCtr (s : State) (g : Thm → Thm) : (s.updThm g).freeCtr = s.freeCtr := rfl
@[simp] theorem State.updThm_pending (s : State) (g : Thm → Thm) : (s.updThm g).pending = s.pending := rfl
@[simp] theorem State.updThm_f (s : State) (g : Thm → Thm) (x : Fld) (i : Nat) : (s.updThm g).f x i = s.f x i := rfl
@[simp] theorem State.updThm_b (s : State) (g : Thm → Thm) (x : Fld) (i : Nat) : (s.updThm g).b x i = s.b x i := rfl
@[simp] theorem State.updThm_g (s : State) (g : Thm → Thm) (x : Fld) (i : Nat) : (s.updThm g).g x i = s.g x i := rfl

@[simp] theorem State.updCal_regs (s : State) (g : Cal → Cal) : (s.updCal g).regs = s.regs := rfl
@[simp] theorem State.updCal_force (s : State) (g : Cal → Cal) : (s.updCal g).force = s.force := rfl
@[simp] theorem State.updCal_mem (s : State) (g : Cal → Cal) : (s.updCal g).mem = s.mem := rfl
@[simp] theorem State.updCal_dev (s : State) (g : Cal → Cal) : (s.updCal g).dev = s.dev := rfl
@[simp] theorem State.updCal_hep (s : State) (g : Cal → Cal) : (s.updCal g).hep = s.hep := rfl
@[simp] theorem State.updCal_ciu (s : State) (g : Cal → Cal) : (s.updCal g).ciu = s.ciu := rfl
@[simp] theorem State.updCal_buf (s : State) (g : Cal → Cal) : (s.updCal g).buf = s.buf := rfl
@[simp] theorem State.updCal_btl (s : State) (g : Cal → Cal) : (s.updCal g).btl = s.btl := rfl
@[simp] theorem State.updCal_eng (s : State) (g : Cal → Cal) : (s.updCal g).eng = s.eng := rfl
@[simp] theorem State.updCal_mwr (s : State) (g : Cal → Cal) : (s.updCal g).mwr = s.mwr := rfl
@[simp] theorem State.updCal_chn (s : State) (g : Cal → Cal) : (s.updCal g).chn = s.chn := rfl
@[simp] theorem State.updCal_srv (s : State) (g : Cal → Cal) : (s.updCal g).srv = s.srv := rfl
@[simp] theorem State.updCal_mpd (s : State) (g : Cal → Cal) : (s.updCal g).mpd = s.mpd := rfl
@[simp] theorem State.updCal_sup (s : State) (g : Cal → Cal) : (s.updCal g).sup = s.sup := rfl
@[simp] theorem State.updCal_sec (s : State) (g : Cal → Cal) : (s.updCal g).sec = s.sec := rfl
@[simp] theorem State.updCal_efl (s : State) (g : Cal → Cal) : (s.updCal g).efl = s.efl := rfl
@[simp] theorem State.updCal_thm (s : State) (g : Cal → Cal) : (s.updCal g).thm = s.thm := rfl
@[simp] theorem State.updCal_cal (s : State) (g : Cal → Cal) : (s.updCal g).cal = g s.cal := rfl
@[simp] theorem State.updCal_plv (s : State) (g : Cal → Cal) : (s.updCal g).plv = s.plv := rfl
@[simp] theorem State.updCal_mir (s : State) (g : Cal → Cal) : (s.updCal g).mir = s.mir := rfl
@[simp] theorem State.updCal_evr (s : State) (g : Cal → Cal) : (s.updCal g).evr = s.evr := rfl
@[simp] theorem State.updCal_out (s : State) (g : Cal → Cal) : (s.updCal g).out = s.out := rfl
@[simp] theorem State.updCal_freeCtr (s : State) (g : Cal → Cal) : (s.updCal g).freeCtr = s.freeCtr := rfl
@[simp] theorem State.updCal_pending (s : State) (g : Cal → Cal) : (s.updCal g).pending = s.pending := rfl
@[simp] theorem State.updCal_f (s : State) (g : Cal → Cal) (x : Fld) (i : Nat) : (s.updCal g).f x i = s.f x i := rfl
@[simp] theorem State.updCal_b (s : State) (g : Cal → Cal) (x : Fld) (i : Nat) : (s.updCal g).b x i = s.b x i := rfl
@[simp] theorem State.updCal_g (s : State) (g : Cal → Cal) (x : Fld) (i : Nat) : (s.updCal g).g x i = s.g x i := rfl

end Sys2Proof.Machine
end

