-- ==== Sys2Proof/Laws/Tbl.lean ====
section
/-!
SUPPORT. Laws/Tbl.lean: the laws of sparse tables: what a lookup finds after an update, and that the canonical form is kept.
-/
namespace Sys2Proof.Machine

variable {α : Type}

theorem Tbl.look_ins_same (t : Tbl α) (k : Nat) (v : α) : Tbl.look (Tbl.erase t k |>.ins k v) k = some v := by
  induction t with
  | nil => simp [Tbl.erase, Tbl.ins, Tbl.look]
  | cons e r ih =>
    obtain ⟨j, w⟩ := e
    by_cases h : j = k
    · simp [Tbl.erase, h, ih]
    · by_cases h2 : k < j
      · simp [Tbl.erase, h, Tbl.ins, h2, Tbl.look]
      · simp [Tbl.erase, h, Tbl.ins, h2, Tbl.look, ih]

theorem Tbl.look_ins_other (t : Tbl α) (k j : Nat) (v : α) (h : j ≠ k) : Tbl.look (Tbl.ins t k v) j = Tbl.look t j := by
  induction t with
  | nil => simp [Tbl.ins, Tbl.look, Ne.symm h]
  | cons e r ih =>
    obtain ⟨i, w⟩ := e
    by_cases h2 : k < i
    · simp [Tbl.ins, h2, Tbl.look, Ne.symm h]
    · simp [Tbl.ins, h2, Tbl.look, ih]

theorem Tbl.look_erase_same (t : Tbl α) (k : Nat) : Tbl.look (Tbl.erase t k) k = none := by
  induction t with
  | nil => rfl
  | cons e r ih =>
    obtain ⟨i, w⟩ := e
    by_cases h : i = k <;> simp [Tbl.erase, h, Tbl.look, ih]

theorem Tbl.look_erase_other (t : Tbl α) (k j : Nat) (h : j ≠ k) : Tbl.look (Tbl.erase t k) j = Tbl.look t j := by
  induction t with
  | nil => rfl
  | cons e r ih =>
    obtain ⟨i, w⟩ := e
    by_cases h2 : i = k
    · subst h2; simp [Tbl.erase, Tbl.look, ih, Ne.symm h]
    · simp [Tbl.erase, h2, Tbl.look, ih]

@[simp] theorem Tbl.get_nil (d : α) (k : Nat) : Tbl.get ([] : Tbl α) d k = d := rfl

/-- Reading the entry just set. -/
@[simp] theorem Tbl.get_set_same [DecidableEq α] (t : Tbl α) (d v : α) (k : Nat) : Tbl.get (Tbl.set t d k v) d k = v := by
  unfold Tbl.set Tbl.get
  split
  · next h => simp [look_erase_same, h]
  · simp [look_ins_same]

/-- Setting one entry leaves every other as it was. -/
@[simp] theorem Tbl.get_set_other [DecidableEq α] (t : Tbl α) (d e v : α) (k j : Nat) (h : j ≠ k) :
    Tbl.get (Tbl.set t d k v) e j = Tbl.get t e j := by
  unfold Tbl.set Tbl.get
  split <;> simp [look_erase_other, look_ins_other, h]

/-- The keys of a table, as a list. -/
theorem Tbl.erase_mem (t : Tbl α) (k : Nat) (e : Nat × α) (h : e ∈ Tbl.erase t k) : e ∈ t ∧ e.1 ≠ k := by
  induction t with
  | nil => simp [Tbl.erase] at h
  | cons x r ih =>
    obtain ⟨j, w⟩ := x
    by_cases hj : j = k
    · simp [Tbl.erase, hj] at h; have := ih h; exact ⟨List.mem_cons_of_mem _ this.1, this.2⟩
    · simp [Tbl.erase, hj] at h
      rcases h with h | h
      · subst h; exact ⟨List.mem_cons_self, hj⟩
      · have := ih h; exact ⟨List.mem_cons_of_mem _ this.1, this.2⟩

theorem Tbl.ins_mem (t : Tbl α) (k : Nat) (v : α) (e : Nat × α) (h : e ∈ Tbl.ins t k v) : e = (k, v) ∨ e ∈ t := by
  induction t with
  | nil => simp [Tbl.ins] at h; exact .inl h
  | cons x r ih =>
    obtain ⟨j, w⟩ := x
    by_cases hj : k < j
    · simp [Tbl.ins, hj] at h; rcases h with h | h | h <;> simp [h]
    · simp [Tbl.ins, hj] at h
      rcases h with h | h
      · simp [h]
      · rcases ih h with h | h <;> simp [h]

/-- The order of keys, said through List.Pairwise. -/
theorem Tbl.sorted_iff (t : Tbl α) : Tbl.sorted t = true ↔ t.Pairwise (fun x y => x.1 < y.1) := by
  induction t with
  | nil => simp [Tbl.sorted]
  | cons x r ih =>
    cases r with
    | nil => simp [Tbl.sorted]
    | cons y q =>
      rw [Tbl.sorted, Bool.and_eq_true, ih, decide_eq_true_eq, List.pairwise_cons (a := x)]
      constructor
      · rintro ⟨h1, h2⟩
        refine ⟨?_, h2⟩
        intro z hz
        rcases List.mem_cons.mp hz with rfl | hz
        · exact h1
        · exact Nat.lt_trans h1 ((List.pairwise_cons.mp h2).1 z hz)
      · rintro ⟨h1, h2⟩
        exact ⟨h1 y (by simp), h2⟩

theorem Tbl.sorted_filter (t : Tbl α) (p : Nat × α → Bool) (h : Tbl.sorted t = true) : Tbl.sorted (t.filter p) = true := by
  rw [sorted_iff] at *; exact h.filter p

theorem Tbl.sorted_erase (t : Tbl α) (k : Nat) (h : Tbl.sorted t = true) : Tbl.sorted (Tbl.erase t k) = true := by
  have e : Tbl.erase t k = t.filter (fun x => decide (x.1 ≠ k)) := by
    clear h
    induction t with
    | nil => rfl
    | cons x r ih => obtain ⟨j, w⟩ := x; by_cases hj : j = k <;> simp [Tbl.erase, hj, ih]
  rw [e]; exact sorted_filter t _ h

theorem Tbl.sorted_ins (t : Tbl α) (k : Nat) (v : α) (h : Tbl.sorted t = true) (hk : ∀ e ∈ t, e.1 ≠ k) :
    Tbl.sorted (Tbl.ins t k v) = true := by
  rw [sorted_iff] at *
  induction t with
  | nil => simp [Tbl.ins]
  | cons x r ih =>
    obtain ⟨j, w⟩ := x
    have hj : j ≠ k := hk (j, w) (by simp)
    have hr : ∀ e ∈ r, e.1 ≠ k := fun e he => hk e (by simp [he])
    obtain ⟨h1, h2⟩ := List.pairwise_cons.mp h
    by_cases hl : k < j
    · simp only [Tbl.ins, hl, if_true]
      refine List.pairwise_cons.mpr ⟨?_, h⟩
      intro z hz
      rcases List.mem_cons.mp hz with rfl | hz
      · exact hl
      · exact Nat.lt_trans hl (h1 z hz)
    · simp only [Tbl.ins, hl, if_false]
      refine List.pairwise_cons.mpr ⟨?_, ih h2 hr⟩
      intro z hz
      rcases ins_mem r k v z hz with rfl | hz
      · exact by show j < k; omega
      · exact h1 z hz

/-- Setting an entry keeps the order of keys. -/
theorem Tbl.sorted_set [DecidableEq α] (t : Tbl α) (d v : α) (k : Nat) (h : Tbl.sorted t = true) : Tbl.sorted (Tbl.set t d k v) = true := by
  unfold Tbl.set
  split
  · exact sorted_erase t k h
  · exact sorted_ins _ k v (sorted_erase t k h) (fun e he => (erase_mem t k e he).2)

/-- Every entry of a table that has been set is the new one or an old one under another key. -/
theorem Tbl.set_mem [DecidableEq α] (t : Tbl α) (d v : α) (k : Nat) (e : Nat × α) (h : e ∈ Tbl.set t d k v) :
    (e = (k, v) ∧ v ≠ d) ∨ e ∈ t := by
  unfold Tbl.set at h
  split at h
  · exact .inr (erase_mem t k e h).1
  · next hv =>
    rcases ins_mem _ k v e h with h | h
    · exact .inl ⟨h, hv⟩
    · exact .inr (erase_mem t k e h).1

/-- Setting an entry keeps the canonical form. -/
theorem Tbl.wf_set [DecidableEq α] (d : Nat → α) (t : Tbl α) (k : Nat) (v : α) (h : Tbl.wf d t = true) :
    Tbl.wf d (Tbl.set t (d k) k v) = true := by
  unfold Tbl.wf at *
  rw [Bool.and_eq_true, List.all_eq_true] at *
  refine ⟨sorted_set t (d k) v k h.1, ?_⟩
  intro e he
  rcases set_mem t (d k) v k e he with ⟨rfl, hv⟩ | he
  · simpa using hv
  · exact h.2 e he

/-- Taking entries off a table keeps the canonical form. -/
theorem Tbl.wf_filter [DecidableEq α] (d : Nat → α) (t : Tbl α) (p : Nat × α → Bool) (h : Tbl.wf d t = true) :
    Tbl.wf d (t.filter p) = true := by
  unfold Tbl.wf at *
  rw [Bool.and_eq_true, List.all_eq_true] at *
  exact ⟨sorted_filter t p h.1, fun e he => h.2 e (List.mem_filter.mp he).1⟩

end Sys2Proof.Machine
end

