-- ==== Sys2Proof/Laws/Regs.lean ====
section
/-!
SUPPORT. Laws/Regs.lean: what a register field reads after a register field has been set.
-/
namespace Sys2Proof.Machine

@[simp] theorem Fld.ofNat_code (x : Fld) : Fld.ofNat x.code = x := Fld.ofNat_ctorIdx x

theorem Fld.code_inj {x y : Fld} (h : x.code = y.code) : x = y := by
  have := congrArg Fld.ofNat h
  simpa using this

@[simp] theorem keyFld_key (x : Fld) (i : Nat) (h : i < 2048) : keyFld (x.key i) = x := by
  have : x.key i / 2048 = x.code := by unfold Fld.key; omega
  simp [keyFld, this]

theorem Fld.key_mod (x : Fld) (i : Nat) (h : i < 2048) : x.key i % 2048 = i := by unfold Fld.key; omega

/-- Copies of fields have keys of their own. -/
theorem Fld.key_inj {x y : Fld} {i j : Nat} (hi : i < 2048) (hj : j < 2048) (h : x.key i = y.key j) : x = y ∧ i = j := by
  unfold Fld.key at h
  exact ⟨code_inj (by omega), by omega⟩

/-- The field just set reads the value, cut to its width. -/
@[simp] theorem State.f_setF_same (s : State) (x : Fld) (i v : Nat) (h : i < 2048) : (s.setF x i v).f x i = v % 2 ^ x.width := by
  simp [State.f, State.setF, h]

/-- Every other field, and every other copy, reads as before. -/
theorem State.f_setF_other (s : State) (x y : Fld) (i j v : Nat) (h : x ≠ y ∨ i ≠ j) : (s.setF x i v).f y j = s.f y j := by
  unfold State.f State.setF
  by_cases hi : i < 2048 <;> by_cases hj : j < 2048 <;> simp only [hi, hj, if_true, if_false]
  refine Tbl.get_set_other _ _ _ _ _ _ ?_
  intro e
  have := Fld.key_inj hj hi e
  rcases h with h | h
  · exact h this.1.symm
  · exact h this.2.symm

@[simp] theorem State.f_setF_ne (s : State) (x y : Fld) (i j v : Nat) (h : x ≠ y) : (s.setF x i v).f y j = s.f y j :=
  s.f_setF_other x y i j v (.inl h)

/-- What any copy of any field reads after a set. -/
theorem State.f_setF (s : State) (x y : Fld) (i j v : Nat) (hi : i < 2048) :
    (s.setF x i v).f y j = if x = y ∧ i = j then v % 2 ^ x.width else s.f y j := by
  split
  · next h => obtain ⟨rfl, rfl⟩ := h; exact s.f_setF_same x i v hi
  · next h => exact s.f_setF_other x y i j v (by by_cases hx : x = y <;> simp_all)

@[simp] theorem State.f_setG (s : State) (x y : Fld) (i j v : Nat) : (s.setG x i v).f y j = s.f y j := by
  unfold State.setG; split <;> rfl

@[simp] theorem State.g_setF (s : State) (x y : Fld) (i j v : Nat) : (s.setF x i v).g y j = s.g y j := by
  unfold State.setF; split <;> rfl

/-- The value in force just set. -/
@[simp] theorem State.g_setG_same (s : State) (x : Fld) (i v : Nat) (h : i < 2048) : (s.setG x i v).g x i = v % 2 ^ x.width := by
  simp [State.g, State.setG, h]

/-- Every other value in force is as before. -/
theorem State.g_setG_other (s : State) (x y : Fld) (i j v : Nat) (h : x ≠ y ∨ i ≠ j) : (s.setG x i v).g y j = s.g y j := by
  unfold State.g State.setG
  by_cases hi : i < 2048 <;> by_cases hj : j < 2048 <;> simp only [hi, hj, if_true, if_false]
  refine Tbl.get_set_other _ _ _ _ _ _ ?_
  intro e
  have := Fld.key_inj hj hi e
  rcases h with h | h
  · exact h this.1.symm
  · exact h this.2.symm

/-- A one-bit field just set. -/
@[simp] theorem State.b_setF_ne (s : State) (x y : Fld) (i j v : Nat) (h : x ≠ y) : (s.setF x i v).b y j = s.b y j := by
  simp [State.b, h]

@[simp] theorem State.f_setB_ne (s : State) (x y : Fld) (i j : Nat) (v : Bool) (h : x ≠ y) : (s.setB x i v).f y j = s.f y j := by
  simp [State.setB, h]

@[simp] theorem State.b_setB_ne (s : State) (x y : Fld) (i j : Nat) (v : Bool) (h : x ≠ y) : (s.setB x i v).b y j = s.b y j := by
  simp [State.b, State.setB, h]

@[simp] theorem State.f_inc_ne (s : State) (x y : Fld) (i j n : Nat) (h : x ≠ y) : (s.inc x i n).f y j = s.f y j := by
  simp [State.inc, h]

/-- Fields that a list of sets does not name. -/
theorem State.f_setFs_ne (s : State) (i j : Nat) (l : List (Fld × Nat)) (y : Fld) (h : ∀ e ∈ l, e.1 ≠ y) : (s.setFs i l).f y j = s.f y j := by
  unfold State.setFs
  induction l generalizing s with
  | nil => rfl
  | cons e r ih =>
    rw [List.foldl_cons, ih _ (fun e he => h e (by simp [he]))]
    exact s.f_setF_ne _ _ _ _ _ (h e (by simp))

end Sys2Proof.Machine
end

