-- ==== Sys2Proof/Laws/Event.lean ====
section
/-!
SUPPORT. Laws/Event.lean: everything recording an event can change: the recorder's own queue and counts, and five of its register fields.
-/
namespace Sys2Proof.Machine

/-- The register fields that recording an event may write (R394, R395). -/
def evrFlds : List Fld := [.EVR_STATUS_QDEPTH, .EVR_CNT_DROPPED, .EVR_STATUS_DROP_EV, .EVR_CNT_SUPPRESSED, .EVR_SEQ_NEXT]

theorem State.evrPush_f (s : State) (r : EvRec) (x : Fld) (i : Nat) (h : x ∉ evrFlds) : (s.evrPush r).f x i = s.f x i := by
  simp [evrFlds] at h
  unfold State.evrPush
  split
  · exact State.f_setF_ne _ _ _ _ _ _ (Ne.symm h.1)
  · exact (State.f_setB_ne _ _ _ _ _ _ (Ne.symm h.2.2.1)).trans (State.f_inc_ne _ _ _ _ _ _ (Ne.symm h.2.1))

theorem State.event_f (s : State) (c a0 a1 a2 : Nat) (x : Fld) (i : Nat) (h : x ∉ evrFlds) : (s.event c a0 a1 a2).f x i = s.f x i := by
  have h' := h
  simp [evrFlds] at h
  unfold State.event State.evrEnter
  split
  · rfl
  · dsimp only
    split
    · split
      · exact State.f_inc_ne _ _ _ _ _ _ (Ne.symm h.2.2.2.1)
      · split
        · rw [State.f_setF_ne _ _ _ _ _ _ (Ne.symm h.2.2.2.2), State.evrPush_f _ _ _ _ h']; rfl
        · exact State.evrPush_f _ _ _ _ h'
    · exact State.evrPush_f _ _ _ _ h'

theorem State.event_b (s : State) (c a0 a1 a2 : Nat) (x : Fld) (i : Nat) (h : x ∉ evrFlds) : (s.event c a0 a1 a2).b x i = s.b x i := by
  simp [State.b, State.event_f _ _ _ _ _ _ _ h]

/-- Recording an event changes register fields and the recorder, and nothing else. -/
theorem State.event_only (s : State) (c a0 a1 a2 : Nat) : ∃ r e, s.event c a0 a1 a2 = { s with regs := r, evr := e } := by
  unfold State.event State.evrEnter State.evrPush State.evrSuppress State.inc State.setB State.setF
  simp only [show (0 : Nat) < 2048 from by decide, if_true]
  repeat' split
  all_goals exact ⟨_, _, rfl⟩

theorem State.event_eng (s : State) (c a0 a1 a2 : Nat) : (s.event c a0 a1 a2).eng = s.eng := by
  obtain ⟨r, e, h⟩ := s.event_only c a0 a1 a2; rw [h]
theorem State.event_force (s : State) (c a0 a1 a2 : Nat) : (s.event c a0 a1 a2).force = s.force := by
  obtain ⟨r, e, h⟩ := s.event_only c a0 a1 a2; rw [h]
theorem State.event_mem (s : State) (c a0 a1 a2 : Nat) : (s.event c a0 a1 a2).mem = s.mem := by
  obtain ⟨r, e, h⟩ := s.event_only c a0 a1 a2; rw [h]

end Sys2Proof.Machine
end

