-- ==== Sys2Proof/Laws/Exec.lean ====
section
/-!
SUPPORT. Laws/Exec.lean: exec of a command is that command's meaning, one lemma per command.
-/
namespace Sys2Proof.Machine

@[simp] theorem exec_registerWrite (g : Agent) (a : Addr) (size : Nat) (v : WriteWord) (s : State) : exec (.registerWrite g a size v) s = execRegisterWrite g a size v s := rfl
@[simp] theorem exec_commit (g : Group) (s : State) : exec (.commit g) s = execCommit g s := rfl
@[simp] theorem exec_shadowApply (g : Group) (s : State) : exec (.shadowApply g) s = execShadowApply g s := rfl
@[simp] theorem exec_splitLowRead (p : Pair) (s : State) : exec (.splitLowRead p) s = execSplitLowRead p s := rfl
@[simp] theorem exec_unmappedAccess (g : Agent) (a : Addr) (k : AccessKind) (s : State) : exec (.unmappedAccess g a k) s = execUnmappedAccess g a k s := rfl
@[simp] theorem exec_unstartedBlockAccess (a : Addr) (write : Bool) (s : State) : exec (.unstartedBlockAccess a write) s = execUnstartedBlockAccess a write s := rfl
@[simp] theorem exec_hepEn (p : Port) (v : Bool) (s : State) : exec (.hepEn p v) s = execHepEn p v s := rfl
@[simp] theorem exec_configurationRequest (p : Port) (r : CfgReq) (s : State) : exec (.configurationRequest p r) s = execConfigurationRequest p r s := rfl
@[simp] theorem exec_completionTlp (p : Port) (tag : Nat) (data : List Byte) (good poisoned expiring : Bool) (s : State) : exec (.completionTlp p tag data good poisoned expiring) s = execCompletionTlp p tag data good poisoned expiring s := rfl
@[simp] theorem exec_completionTimeout (p : Port) (tag : Nat) (s : State) : exec (.completionTimeout p tag) s = execCompletionTimeout p tag s := rfl
@[simp] theorem exec_quarantineHoldExpiry (p : Port) (tag : Nat) (s : State) : exec (.quarantineHoldExpiry p tag) s = execQuarantineHoldExpiry p tag s := rfl
@[simp] theorem exec_cmbWrite (p : Port) (off : BitVec 26) (data : List Byte) (poisoned : Bool) (s : State) : exec (.cmbWrite p off data poisoned) s = execCmbWrite p off data poisoned s := rfl
@[simp] theorem exec_cmbRead (p : Port) (off : BitVec 26) (len : Nat) (s : State) : exec (.cmbRead p off len) s = execCmbRead p off len s := rfl
@[simp] theorem exec_peerWindowWrite (p : Port) (off : BitVec 26) (data : List Byte) (contiguous poisoned : Bool) (s : State) : exec (.peerWindowWrite p off data contiguous poisoned) s = execPeerWindowWrite p off data contiguous poisoned s := rfl
@[simp] theorem exec_peerWindowRead (p : Port) (off : BitVec 26) (len : Nat) (s : State) : exec (.peerWindowRead p off len) s = execPeerWindowRead p off len s := rfl
@[simp] theorem exec_assemblyTimeout (p : Port) (slot : Fin 8) (s : State) : exec (.assemblyTimeout p slot) s = execAssemblyTimeout p slot s := rfl
@[simp] theorem exec_windowIdleBoundary (p : Port) (s : State) : exec (.windowIdleBoundary p) s = execWindowIdleBoundary p s := rfl
@[simp] theorem exec_forcedBoundary (p : Port) (s : State) : exec (.forcedBoundary p) s = execForcedBoundary p s := rfl
@[simp] theorem exec_cntClr (p : Port) (s : State) : exec (.cntClr p) s = execCntClr p s := rfl
@[simp] theorem exec_flr (p : Port) (s : State) : exec (.flr p) s = execFlr p s := rfl
@[simp] theorem exec_linkDown (p : Port) (s : State) : exec (.linkDown p) s = execLinkDown p s := rfl
@[simp] theorem exec_perst (p : Port) (s : State) : exec (.perst p) s = execPerst p s := rfl
@[simp] theorem exec_translationCompletion (p : Port) (tag : Nat) (size : Nat) (host : BitVec 64) (rd wr : Bool) (s : State) : exec (.translationCompletion p tag size host rd wr) s = execTranslationCompletion p tag size host rd wr s := rfl
@[simp] theorem exec_invalidateRequest (p : Port) (itag : Fin 32) (start : BitVec 64) (size : Nat) (s : State) : exec (.invalidateRequest p itag start size) s = execInvalidateRequest p itag start size s := rfl
@[simp] theorem exec_invalidateCompletion (p : Port) (s : State) : exec (.invalidateCompletion p) s = execInvalidateCompletion p s := rfl
@[simp] theorem exec_atsEnableClear (p : Port) (s : State) : exec (.atsEnableClear p) s = execAtsEnableClear p s := rfl
@[simp] theorem exec_msixVectorUnmask (p : Port) (vec : Fin 1025) (s : State) : exec (.msixVectorUnmask p vec) s = execMsixVectorUnmask p vec s := rfl
@[simp] theorem exec_cqHeadDoorbell (p : Port) (q : Fin 1025) (head : BitVec 16) (poisoned : Bool) (s : State) : exec (.cqHeadDoorbell p q head poisoned) s = execCqHeadDoorbell p q head poisoned s := rfl
@[simp] theorem exec_attentionButtonPress (s : State) : exec (.attentionButtonPress) s = execAttentionButtonPress s := rfl
@[simp] theorem exec_logPageC8 (t : Slot) (retain : Bool) (s : State) : exec (.logPageC8 t retain) s = execLogPageC8 t retain s := rfl
@[simp] theorem exec_sqDoorbell (p : Port) (q : Fin 1025) (tail : BitVec 16) (poisoned : Bool) (s : State) : exec (.sqDoorbell p q tail poisoned) s = execSqDoorbell p q tail poisoned s := rfl
@[simp] theorem exec_arbitrationGrant (s : State) : exec (.arbitrationGrant) s = execArbitrationGrant s := rfl
@[simp] theorem exec_commandIntake (p : Port) (q : Fin 1025) (e : Sqe) (s : State) : exec (.commandIntake p q e) s = execCommandIntake p q e s := rfl
@[simp] theorem exec_overlapWaitEnd (t : Slot) (s : State) : exec (.overlapWaitEnd t) s = execOverlapWaitEnd t s := rfl
@[simp] theorem exec_bufferSlotWaitEnd (t : Slot) (s : State) : exec (.bufferSlotWaitEnd t) s = execBufferSlotWaitEnd t s := rfl
@[simp] theorem exec_writeDataBuffered (t : Slot) (s : State) : exec (.writeDataBuffered t) s = execWriteDataBuffered t s := rfl
@[simp] theorem exec_writeCompletionRelease (t : Slot) (s : State) : exec (.writeCompletionRelease t) s = execWriteCompletionRelease t s := rfl
@[simp] theorem exec_controllerEnable (p : Port) (s : State) : exec (.controllerEnable p) s = execControllerEnable p s := rfl
@[simp] theorem exec_controllerReset (p : Port) (s : State) : exec (.controllerReset p) s = execControllerReset p s := rfl
@[simp] theorem exec_createIoSubmissionQueue (t : Slot) (q cq : Fin 1025) (size : BitVec 16) (base : QueuePlace) (prio : Fin 4) (s : State) : exec (.createIoSubmissionQueue t q cq size base prio) s = execCreateIoSubmissionQueue t q cq size base prio s := rfl
@[simp] theorem exec_createIoCompletionQueue (t : Slot) (q : Fin 1025) (size : BitVec 16) (base : BitVec 64) (vec : Fin 1025) (inCmb : Bool) (s : State) : exec (.createIoCompletionQueue t q size base vec inCmb) s = execCreateIoCompletionQueue t q size base vec inCmb s := rfl
@[simp] theorem exec_deleteIoSubmissionQueue (t : Slot) (q : Fin 1025) (s : State) : exec (.deleteIoSubmissionQueue t q) s = execDeleteIoSubmissionQueue t q s := rfl
@[simp] theorem exec_deleteIoCompletionQueue (t : Slot) (q : Fin 1025) (s : State) : exec (.deleteIoCompletionQueue t q) s = execDeleteIoCompletionQueue t q s := rfl
@[simp] theorem exec_getLogPage (t : Slot) (lid : Byte) (off len : Nat) (s : State) : exec (.getLogPage t lid off len) s = execGetLogPage t lid off len s := rfl
@[simp] theorem exec_ledgerLogPage (t : Slot) (off len : Nat) (s : State) : exec (.ledgerLogPage t off len) s = execLedgerLogPage t off len s := rfl
@[simp] theorem exec_bootChainLogPage (t : Slot) (off len : Nat) (s : State) : exec (.bootChainLogPage t off len) s = execBootChainLogPage t off len s := rfl
@[simp] theorem exec_eventLogPage (t : Slot) (off len : Nat) (s : State) : exec (.eventLogPage t off len) s = execEventLogPage t off len s := rfl
@[simp] theorem exec_identify (t : Slot) (cns : Byte) (s : State) : exec (.identify t cns) s = execIdentify t cns s := rfl
@[simp] theorem exec_abort (t : Slot) (q : Fin 1025) (cid : BitVec 16) (s : State) : exec (.abort t q cid) s = execAbort t q cid s := rfl
@[simp] theorem exec_setFeatures (t : Slot) (fid : Byte) (v : Word) (s : State) : exec (.setFeatures t fid v) s = execSetFeatures t fid v s := rfl
@[simp] theorem exec_getFeatures (t : Slot) (fid : Byte) (s : State) : exec (.getFeatures t fid) s = execGetFeatures t fid s := rfl
@[simp] theorem exec_asynchronousEventRequest (t : Slot) (s : State) : exec (.asynchronousEventRequest t) s = execAsynchronousEventRequest t s := rfl
@[simp] theorem exec_namespaceCreate (t : Slot) (blocks : Nat) (msize : Fin 3) (zoned prot : Bool) (s : State) : exec (.namespaceCreate t blocks msize zoned prot) s = execNamespaceCreate t blocks msize zoned prot s := rfl
@[simp] theorem exec_namespaceDelete (t : Slot) (ns : Fin 64) (s : State) : exec (.namespaceDelete t ns) s = execNamespaceDelete t ns s := rfl
@[simp] theorem exec_namespaceAttachment (t : Slot) (ns : Fin 64) (p : Port) (attach : Bool) (s : State) : exec (.namespaceAttachment t ns p attach) s = execNamespaceAttachment t ns p attach s := rfl
@[simp] theorem exec_firmwareImageDownload (t : Slot) (cls : Fin 9) (off : Nat) (data : List Byte) (s : State) : exec (.firmwareImageDownload t cls off data) s = execFirmwareImageDownload t cls off data s := rfl
@[simp] theorem exec_firmwareCommitWrite (t : Slot) (slotB : Bool) (s : State) : exec (.firmwareCommitWrite t slotB) s = execFirmwareCommitWrite t slotB s := rfl
@[simp] theorem exec_firmwareCommitWriteTrial (t : Slot) (slotB : Bool) (s : State) : exec (.firmwareCommitWriteTrial t slotB) s = execFirmwareCommitWriteTrial t slotB s := rfl
@[simp] theorem exec_firmwareCommitTrialInPlace (t : Slot) (slotB : Bool) (s : State) : exec (.firmwareCommitTrialInPlace t slotB) s = execFirmwareCommitTrialInPlace t slotB s := rfl
@[simp] theorem exec_firmwareCommitResetRequired (t : Slot) (slotB : Bool) (s : State) : exec (.firmwareCommitResetRequired t slotB) s = execFirmwareCommitResetRequired t slotB s := rfl
@[simp] theorem exec_formatNvm (t : Slot) (ns : Fin 64) (msize : Fin 3) (crypto : Bool) (s : State) : exec (.formatNvm t ns msize crypto) s = execFormatNvm t ns msize crypto s := rfl
@[simp] theorem exec_securitySend (t : Slot) (proto : Byte) (req : SpdmReq) (s : State) : exec (.securitySend t proto req) s = execSecuritySend t proto req s := rfl
@[simp] theorem exec_securityReceive (t : Slot) (proto : Byte) (len : Nat) (s : State) : exec (.securityReceive t proto len) s = execSecurityReceive t proto len s := rfl
@[simp] theorem exec_sanitizeCryptoErase (t : Slot) (s : State) : exec (.sanitizeCryptoErase t) s = execSanitizeCryptoErase t s := rfl
@[simp] theorem exec_sanitizeBlockErase (t : Slot) (s : State) : exec (.sanitizeBlockErase t) s = execSanitizeBlockErase t s := rfl
@[simp] theorem exec_deviceSelfTest (t : Slot) (code : Fin 16) (s : State) : exec (.deviceSelfTest t code) s = execDeviceSelfTest t code s := rfl
@[simp] theorem exec_flush (t : Slot) (s : State) : exec (.flush t) s = execFlush t s := rfl
@[simp] theorem exec_write (t : Slot) (blocks : List (List Byte)) (e : WriteEnd) (s : State) : exec (.write t blocks e) s = execWrite t blocks e s := rfl
@[simp] theorem exec_read (t : Slot) (media : List (List Byte)) (e : ReadEnd) (s : State) : exec (.read t media e) s = execRead t media e s := rfl
@[simp] theorem exec_writeZeroes (t : Slot) (s : State) : exec (.writeZeroes t) s = execWriteZeroes t s := rfl
@[simp] theorem exec_compare (t : Slot) (host : List (List Byte)) (media : List (List Byte)) (e : ReadEnd) (s : State) : exec (.compare t host media e) s = execCompare t host media e s := rfl
@[simp] theorem exec_datasetManagement (t : Slot) (s : State) : exec (.datasetManagement t) s = execDatasetManagement t s := rfl
@[simp] theorem exec_verify (t : Slot) (media : List (List Byte)) (e : ReadEnd) (s : State) : exec (.verify t media e) s = execVerify t media e s := rfl
@[simp] theorem exec_reservationRegister (t : Slot) (action : Fin 3) (cur new : BitVec 64) (s : State) : exec (.reservationRegister t action cur new) s = execReservationRegister t action cur new s := rfl
@[simp] theorem exec_reservationReport (t : Slot) (s : State) : exec (.reservationReport t) s = execReservationReport t s := rfl
@[simp] theorem exec_reservationAcquire (t : Slot) (action : Fin 3) (rtype : Fin 8) (cur preempt : BitVec 64) (s : State) : exec (.reservationAcquire t action rtype cur preempt) s = execReservationAcquire t action rtype cur preempt s := rfl
@[simp] theorem exec_reservationRelease (t : Slot) (clear : Bool) (cur : BitVec 64) (s : State) : exec (.reservationRelease t clear cur) s = execReservationRelease t clear cur s := rfl
@[simp] theorem exec_zoneClose (t : Slot) (s : State) : exec (.zoneClose t) s = execZoneClose t s := rfl
@[simp] theorem exec_zoneFinish (t : Slot) (s : State) : exec (.zoneFinish t) s = execZoneFinish t s := rfl
@[simp] theorem exec_zoneOpen (t : Slot) (s : State) : exec (.zoneOpen t) s = execZoneOpen t s := rfl
@[simp] theorem exec_zoneReset (t : Slot) (s : State) : exec (.zoneReset t) s = execZoneReset t s := rfl
@[simp] theorem exec_zoneOffline (t : Slot) (s : State) : exec (.zoneOffline t) s = execZoneOffline t s := rfl
@[simp] theorem exec_zoneManagementReceive (t : Slot) (s : State) : exec (.zoneManagementReceive t) s = execZoneManagementReceive t s := rfl
@[simp] theorem exec_zoneAppend (t : Slot) (blocks : List (List Byte)) (e : WriteEnd) (s : State) : exec (.zoneAppend t blocks e) s = execZoneAppend t blocks e s := rfl
@[simp] theorem exec_ciuEn (v : Bool) (s : State) : exec (.ciuEn v) s = execCiuEn v s := rfl
@[simp] theorem exec_bufferSlotRelease (n : BitVec 17) (s : State) : exec (.bufferSlotRelease n) s = execBufferSlotRelease n s := rfl
@[simp] theorem exec_abortLookup (q : BitVec 11) (cid : BitVec 16) (s : State) : exec (.abortLookup q cid) s = execAbortLookup q cid s := rfl
@[simp] theorem exec_ldgEn (v mirror : Bool) (s : State) : exec (.ldgEn v mirror) s = execLdgEn v mirror s := rfl
@[simp] theorem exec_bufDdrEn (v : Bool) (s : State) : exec (.bufDdrEn v) s = execBufDdrEn v s := rfl
@[simp] theorem exec_ddrTrainingEnd (good : Bool) (s : State) : exec (.ddrTrainingEnd good) s = execDdrTrainingEnd good s := rfl
@[simp] theorem exec_dramFill (a : Addr) (s : State) : exec (.dramFill a) s = execDramFill a s := rfl
@[simp] theorem exec_patrolScrub (s : State) : exec (.patrolScrub) s = execPatrolScrub s := rfl
@[simp] theorem exec_postPackageRepair (bank : BitVec 4) (row : BitVec 18) (ch : Bool) (s : State) : exec (.postPackageRepair bank row ch) s = execPostPackageRepair bank row ch s := rfl
@[simp] theorem exec_repairEnd (good : Bool) (s : State) : exec (.repairEnd good) s = execRepairEnd good s := rfl
@[simp] theorem exec_brambleAccess (g : Agent) (a : Addr) (w : Option (List Byte)) (whole : Bool) (s : State) : exec (.brambleAccess g a w whole) s = execBrambleAccess g a w whole s := rfl
@[simp] theorem exec_pipPrefetch (a : Addr) (s : State) : exec (.pipPrefetch a) s = execPipPrefetch a s := rfl
@[simp] theorem exec_evictionAccept (s : State) : exec (.evictionAccept) s = execEvictionAccept s := rfl
@[simp] theorem exec_evictionDone (s : State) : exec (.evictionDone) s = execEvictionDone s := rfl
@[simp] theorem exec_clean (count : BitVec 17) (setWay : Bool) (s : State) : exec (.clean count setWay) s = execClean count setWay s := rfl
@[simp] theorem exec_invalidate (count : BitVec 17) (setWay : Bool) (s : State) : exec (.invalidate count setWay) s = execInvalidate count setWay s := rfl
@[simp] theorem exec_cleanAndInvalidate (count : BitVec 17) (setWay : Bool) (s : State) : exec (.cleanAndInvalidate count setWay) s = execCleanAndInvalidate count setWay s := rfl
@[simp] theorem exec_maintenanceEnd (s : State) : exec (.maintenanceEnd) s = execMaintenanceEnd s := rfl
@[simp] theorem exec_brambleDisable (s : State) : exec (.brambleDisable) s = execBrambleDisable s := rfl
@[simp] theorem exec_disableWalkEnd (s : State) : exec (.disableWalkEnd) s = execDisableWalkEnd s := rfl
@[simp] theorem exec_brambleEnable (s : State) : exec (.brambleEnable) s = execBrambleEnable s := rfl
@[simp] theorem exec_sramInit (array : Byte) (s : State) : exec (.sramInit array) s = execSramInit array s := rfl
@[simp] theorem exec_sramInitEnd (s : State) : exec (.sramInitEnd) s = execSramInitEnd s := rfl
@[simp] theorem exec_spareRow (array : Byte) (row : BitVec 16) (perm : Bool) (s : State) : exec (.spareRow array row perm) s = execSpareRow array row perm s := rfl
@[simp] theorem exec_spareRowEnd (s : State) : exec (.spareRowEnd) s = execSpareRowEnd s := rfl
@[simp] theorem exec_flipArm (array check : Byte) (s : State) : exec (.flipArm array check) s = execFlipArm array check s := rfl
@[simp] theorem exec_btlEn (v : Bool) (s : State) : exec (.btlEn v) s = execBtlEn v s := rfl
@[simp] theorem exec_openRecord (flags : Byte) (band owner : BitVec 32) (purpose nsidx acc : Byte) (s : State) : exec (.openRecord flags band owner purpose nsidx acc) s = execOpenRecord flags band owner purpose nsidx acc s := rfl
@[simp] theorem exec_commitRecord (flags : Byte) (new old owner : BitVec 32) (upto : BitVec 48) (nsidx hgen8 : Byte) (s : State) : exec (.commitRecord flags new old owner upto nsidx hgen8) s = execCommitRecord flags new old owner upto nsidx hgen8 s := rfl
@[simp] theorem exec_resetRecord (flags : Byte) (band : BitVec 32) (hgen : BitVec 48) (s : State) : exec (.resetRecord flags band hgen) s = execResetRecord flags band hgen s := rfl
@[simp] theorem exec_retireRecord (flags : Byte) (band : BitVec 32) (cause : Byte) (s : State) : exec (.retireRecord flags band cause) s = execRetireRecord flags band cause s := rfl
@[simp] theorem exec_mcPutRecord (flags : Byte) (nsidx len : Byte) (lba pma : BitVec 64) (s : State) : exec (.mcPutRecord flags nsidx len lba pma) s = execMcPutRecord flags nsidx len lba pma s := rfl
@[simp] theorem exec_zoneWpRecord (flags : Byte) (nsidx : Byte) (zone wp : BitVec 32) (s : State) : exec (.zoneWpRecord flags nsidx zone wp) s = execZoneWpRecord flags nsidx zone wp s := rfl
@[simp] theorem exec_sealRecord (flags : Byte) (band : BitVec 32) (hgen : BitVec 48) (s : State) : exec (.sealRecord flags band hgen) s = execSealRecord flags band hgen s := rfl
@[simp] theorem exec_checkpointRecord (flags : Byte) (pma : BitVec 64) (covers : BitVec 48) (s : State) : exec (.checkpointRecord flags pma covers) s = execCheckpointRecord flags pma covers s := rfl
@[simp] theorem exec_modeRecord (flags : Byte) (degraded : Bool) (s : State) : exec (.modeRecord flags degraded) s = execModeRecord flags degraded s := rfl
@[simp] theorem exec_headFailRecord (head : BitVec 5) (s : State) : exec (.headFailRecord head) s = execHeadFailRecord head s := rfl
@[simp] theorem exec_refreshQueueRead (s : State) : exec (.refreshQueueRead) s = execRefreshQueueRead s := rfl
@[simp] theorem exec_coreRun (n : Core) (v : Bool) (s : State) : exec (.coreRun n v) s = execCoreRun n v s := rfl
@[simp] theorem exec_mtimeCompare (n : Core) (s : State) : exec (.mtimeCompare n) s = execMtimeCompare n s := rfl
@[simp] theorem exec_ipiSet (m : Byte) (s : State) : exec (.ipiSet m) s = execIpiSet m s := rfl
@[simp] theorem exec_ipiClear (m : Byte) (s : State) : exec (.ipiClear m) s = execIpiClear m s := rfl
@[simp] theorem exec_interruptClaim (n : Core) (s : State) : exec (.interruptClaim n) s = execInterruptClaim n s := rfl
@[simp] theorem exec_interruptComplete (n : Core) (src : Byte) (s : State) : exec (.interruptComplete n src) s = execInterruptComplete n src s := rfl
@[simp] theorem exec_wfi (n : Core) (mie : BitVec 3) (s : State) : exec (.wfi n mie) s = execWfi n mie s := rfl
@[simp] theorem exec_fenceI (n : Core) (s : State) : exec (.fenceI n) s = execFenceI n s := rfl
@[simp] theorem exec_lrScAmo (n : Core) (op : AmoOp) (dword : Bool) (a : Addr) (rd : Fin 32) (v : BitVec 64) (s : State) : exec (.lrScAmo n op dword a rd v) s = execLrScAmo n op dword a rd v s := rfl
@[simp] theorem exec_controlStoreLoad (cls : Fin 8) (first : BitVec 12) (count : BitVec 13) (s : State) : exec (.controlStoreLoad cls first count) s = execControlStoreLoad cls first count s := rfl
@[simp] theorem exec_controlStoreLoadEnd (s : State) : exec (.controlStoreLoadEnd) s = execControlStoreLoadEnd s := rfl
@[simp] theorem exec_csStart (n : Cs) (entry : BitVec 12) (s : State) : exec (.csStart n entry) s = execCsStart n entry s := rfl
@[simp] theorem exec_csStop (n : Cs) (s : State) : exec (.csStop n) s = execCsStop n s := rfl
@[simp] theorem exec_kill (n : Cs) (s : State) : exec (.kill n) s = execKill n s := rfl
@[simp] theorem exec_abandon (n : Cs) (s : State) : exec (.abandon n) s = execAbandon n s := rfl
@[simp] theorem exec_spareCsBind (k : Fin 2) (cls : Fin 8) (repl : BitVec 6) (bind : Bool) (s : State) : exec (.spareCsBind k cls repl bind) s = execSpareCsBind k cls repl bind s := rfl
@[simp] theorem exec_spareQeBind (m : BitVec 4) (bind : Bool) (s : State) : exec (.spareQeBind m bind) s = execSpareQeBind m bind s := rfl
@[simp] theorem exec_qeStart (n : Qe) (s : State) : exec (.qeStart n) s = execQeStart n s := rfl
@[simp] theorem exec_qeStop (n : Qe) (s : State) : exec (.qeStop n) s = execQeStop n s := rfl
@[simp] theorem exec_qeTrigger (n : Qe) (inputs : List (BitVec 16)) (s : State) : exec (.qeTrigger n inputs) s = execQeTrigger n inputs s := rfl
@[simp] theorem exec_waitEnd (n : Cs) (cause : WaitCause) (s : State) : exec (.waitEnd n cause) s = execWaitEnd n cause s := rfl
@[simp] theorem exec_jump (n : Cs) (next : BitVec 12) (s : State) : exec (.jump n next) s = execJump n next s := rfl
@[simp] theorem exec_cond1 (n : Cs) (next : BitVec 12) (c0 : Byte) (s : State) : exec (.cond1 n next c0) s = execCond1 n next c0 s := rfl
@[simp] theorem exec_cond2 (n : Cs) (next : BitVec 12) (c0 c1 : Byte) (s : State) : exec (.cond2 n next c0 c1) s = execCond2 n next c0 c1 s := rfl
@[simp] theorem exec_cond3 (n : Cs) (next : BitVec 12) (c0 c1 c2 : Byte) (s : State) : exec (.cond3 n next c0 c1 c2) s = execCond3 n next c0 c1 c2 s := rfl
@[simp] theorem exec_cond4 (n : Cs) (next : BitVec 12) (c0 c1 c2 c3 : Byte) (s : State) : exec (.cond4 n next c0 c1 c2 c3) s = execCond4 n next c0 c1 c2 c3 s := rfl
@[simp] theorem exec_call (n : Cs) (next ret : BitVec 12) (s : State) : exec (.call n next ret) s = execCall n next ret s := rfl
@[simp] theorem exec_ret (n : Cs) (s : State) : exec (.ret n) s = execRet n s := rfl
@[simp] theorem exec_dispatch (n : Cs) (next : BitVec 12) (s : State) : exec (.dispatch n next) s = execDispatch n next s := rfl
@[simp] theorem exec_loop (n : Cs) (next : BitVec 12) (s : State) : exec (.loop n next) s = execLoop n next s := rfl
@[simp] theorem exec_halt (n : Cs) (s : State) : exec (.halt n) s = execHalt n s := rfl
@[simp] theorem exec_aMov (n : Cs) (d r : Fin 16) (s : State) : exec (.aMov n d r) s = execAMov n d r s := rfl
@[simp] theorem exec_aLdi (n : Cs) (d : Fin 16) (imm : BitVec 16) (s : State) : exec (.aLdi n d imm) s = execALdi n d imm s := rfl
@[simp] theorem exec_aLdh (n : Cs) (d : Fin 16) (imm : BitVec 16) (s : State) : exec (.aLdh n d imm) s = execALdh n d imm s := rfl
@[simp] theorem exec_aAdd (n : Cs) (d r : Fin 16) (s : State) : exec (.aAdd n d r) s = execAAdd n d r s := rfl
@[simp] theorem exec_aAddi (n : Cs) (d : Fin 16) (imm : BitVec 16) (s : State) : exec (.aAddi n d imm) s = execAAddi n d imm s := rfl
@[simp] theorem exec_aSub (n : Cs) (d r : Fin 16) (s : State) : exec (.aSub n d r) s = execASub n d r s := rfl
@[simp] theorem exec_aAnd (n : Cs) (d r : Fin 16) (s : State) : exec (.aAnd n d r) s = execAAnd n d r s := rfl
@[simp] theorem exec_aOr (n : Cs) (d r : Fin 16) (s : State) : exec (.aOr n d r) s = execAOr n d r s := rfl
@[simp] theorem exec_aXor (n : Cs) (d r : Fin 16) (s : State) : exec (.aXor n d r) s = execAXor n d r s := rfl
@[simp] theorem exec_aShr (n : Cs) (d : Fin 16) (imm : BitVec 16) (s : State) : exec (.aShr n d imm) s = execAShr n d imm s := rfl
@[simp] theorem exec_aShl (n : Cs) (d : Fin 16) (imm : BitVec 16) (s : State) : exec (.aShl n d imm) s = execAShl n d imm s := rfl
@[simp] theorem exec_aLdd (n : Cs) (d : Fin 16) (imm : BitVec 16) (s : State) : exec (.aLdd n d imm) s = execALdd n d imm s := rfl
@[simp] theorem exec_aStd (n : Cs) (r : Fin 16) (imm : BitVec 16) (s : State) : exec (.aStd n r imm) s = execAStd n r imm s := rfl
@[simp] theorem exec_aLdlc (n : Cs) (r : Fin 16) (s : State) : exec (.aLdlc n r) s = execALdlc n r s := rfl
@[simp] theorem exec_aCmp (n : Cs) (d r : Fin 16) (s : State) : exec (.aCmp n d r) s = execACmp n d r s := rfl
@[simp] theorem exec_armRead (n : Cs) (s : State) : exec (.armRead n) s = execArmRead n s := rfl
@[simp] theorem exec_armWrite (n : Cs) (s : State) : exec (.armWrite n) s = execArmWrite n s := rfl
@[simp] theorem exec_sector (n : Cs) (s : State) : exec (.sector n) s = execSector n s := rfl
@[simp] theorem exec_replay (n : Cs) (off : BitVec 5) (set : BitVec 3) (s : State) : exec (.replay n off set) s = execReplay n off set s := rfl
@[simp] theorem exec_zone (n : Cs) (idx : BitVec 10) (s : State) : exec (.zone n idx) s = execZone n idx s := rfl
@[simp] theorem exec_assist (n : Cs) (code : Byte) (s : State) : exec (.assist n code) s = execAssist n code s := rfl
@[simp] theorem exec_disarm (n : Cs) (s : State) : exec (.disarm n) s = execDisarm n s := rfl
@[simp] theorem exec_dmaFetch (n : Cs) (s : State) : exec (.dmaFetch n) s = execDmaFetch n s := rfl
@[simp] theorem exec_fetchRaw (n : Cs) (s : State) : exec (.fetchRaw n) s = execFetchRaw n s := rfl
@[simp] theorem exec_store (n : Cs) (s : State) : exec (.store n) s = execStore n s := rfl
@[simp] theorem exec_post (n : Cs) (code : Byte) (s : State) : exec (.post n code) s = execPost n code s := rfl
@[simp] theorem exec_take (n : Cs) (s : State) : exec (.take n) s = execTake n s := rfl
@[simp] theorem exec_select (n : Cs) (s : State) : exec (.select n) s = execSelect n s := rfl
@[simp] theorem exec_ringFetch (n : Cs) (r : Ring) (s : State) : exec (.ringFetch n r) s = execRingFetch n r s := rfl
@[simp] theorem exec_forward (n : Cs) (r : Ring) (idx : BitVec 16) (s : State) : exec (.forward n r idx) s = execForward n r idx s := rfl
@[simp] theorem exec_complete (n : Cs) (r : Ring) (idx : BitVec 16) (code : Byte) (s : State) : exec (.complete n r idx code) s = execComplete n r idx code s := rfl
@[simp] theorem exec_ringError (n : Cs) (r : Ring) (s : State) : exec (.ringError n r) s = execRingError n r s := rfl
@[simp] theorem exec_fetchSqe (n : Cs) (p : Port) (q : Fin 1025) (s : State) : exec (.fetchSqe n p q) s = execFetchSqe n p q s := rfl
@[simp] theorem exec_tx (n : Cs) (d : TxData) (s : State) : exec (.tx n d) s = execTx n d s := rfl
@[simp] theorem exec_rx (n : Cs) (lba : BitVec 64) (dst : Addr) (data : RxData) (pi : PiResult) (s : State) : exec (.rx n lba dst data pi) s = execRx n lba dst data pi s := rfl
@[simp] theorem exec_postCqe (n : Cs) (s : State) : exec (.postCqe n) s = execPostCqe n s := rfl
@[simp] theorem exec_msix (n : Cs) (s : State) : exec (.msix n) s = execMsix n s := rfl
@[simp] theorem exec_prefetch (n : Cs) (a : Addr) (s : State) : exec (.prefetch n a) s = execPrefetch n a s := rfl
@[simp] theorem exec_alloc (n : Cs) (s : State) : exec (.alloc n) s = execAlloc n s := rfl
@[simp] theorem exec_release (n : Cs) (s : State) : exec (.release n) s = execRelease n s := rfl
@[simp] theorem exec_insert (x : Insertion) (s : State) : exec (.insert x) s = execInsert x s := rfl
@[simp] theorem exec_search (n : Cs) (s : State) : exec (.search n) s = execSearch n s := rfl
@[simp] theorem exec_remove (n : Cs) (s : State) : exec (.remove n) s = execRemove n s := rfl
@[simp] theorem exec_appendAccepted (n : Cs) (s : State) : exec (.appendAccepted n) s = execAppendAccepted n s := rfl
@[simp] theorem exec_ldgState (n : Cs) (st : BitVec 4) (s : State) : exec (.ldgState n st) s = execLdgState n st s := rfl
@[simp] theorem exec_ldgFlags (n : Cs) (f : Byte) (s : State) : exec (.ldgFlags n f) s = execLdgFlags n f s := rfl
@[simp] theorem exec_lookup (n : Cs) (s : State) : exec (.lookup n) s = execLookup n s := rfl
@[simp] theorem exec_publish (n : Cs) (s : State) : exec (.publish n) s = execPublish n s := rfl
@[simp] theorem exec_window (n : Cs) (s : State) : exec (.window n) s = execWindow n s := rfl
@[simp] theorem exec_demod (n : Cs) (s : State) : exec (.demod n) s = execDemod n s := rfl
@[simp] theorem exec_pes (n : Cs) (s : State) : exec (.pes n) s = execPes n s := rfl
@[simp] theorem exec_trigger (n : Cs) (iMeas vel maPri maMate : BitVec 16) (s : State) : exec (.trigger n iMeas vel maPri maMate) s = execTrigger n iMeas vel maPri maMate s := rfl
@[simp] theorem exec_stamp (n : Cs) (s : State) : exec (.stamp n) s = execStamp n s := rfl
@[simp] theorem exec_wclk (n : Cs) (err : Int) (s : State) : exec (.wclk n err) s = execWclk n err s := rfl
@[simp] theorem exec_subRead (n : Cs) (s : State) : exec (.subRead n) s = execSubRead n s := rfl
@[simp] theorem exec_subWrite (n : Cs) (s : State) : exec (.subWrite n) s = execSubWrite n s := rfl
@[simp] theorem exec_copyXor (n : Cs) (s : State) : exec (.copyXor n) s = execCopyXor n s := rfl
@[simp] theorem exec_copyLog (n : Cs) (s : State) : exec (.copyLog n) s = execCopyLog n s := rfl
@[simp] theorem exec_subVerify (n : Cs) (s : State) : exec (.subVerify n) s = execSubVerify n s := rfl
@[simp] theorem exec_drv (n : Cs) (d : BitVec 5) (s : State) : exec (.drv n d) s = execDrv n d s := rfl
@[simp] theorem exec_sample (n : Cs) (m : Byte) (v : Word) (s : State) : exec (.sample n m v) s = execSample n m v s := rfl
@[simp] theorem exec_vault (n : Cs) (s : State) : exec (.vault n) s = execVault n s := rfl
@[simp] theorem exec_sloe (n : Cs) (dom : BitVec 5) (on : Bool) (s : State) : exec (.sloe n dom on) s = execSloe n dom on s := rfl
@[simp] theorem exec_qNop (n : Qe) (s : State) : exec (.qNop n) s = execQNop n s := rfl
@[simp] theorem exec_qClr (n : Qe) (a : Bool) (s : State) : exec (.qClr n a) s = execQClr n a s := rfl
@[simp] theorem exec_qLda (n : Qe) (a : Bool) (x : Fin 16) (s : State) : exec (.qLda n a x) s = execQLda n a x s := rfl
@[simp] theorem exec_qLdp (n : Qe) (a : Bool) (x t : Fin 16) (s : State) : exec (.qLdp n a x t) s = execQLdp n a x t s := rfl
@[simp] theorem exec_qLds (n : Qe) (a : Bool) (k : Byte) (s : State) : exec (.qLds n a k) s = execQLds n a k s := rfl
@[simp] theorem exec_qSts (n : Qe) (a : Bool) (k : Byte) (s : State) : exec (.qSts n a k) s = execQSts n a k s := rfl
@[simp] theorem exec_qAdds (n : Qe) (a : Bool) (k : Byte) (s : State) : exec (.qAdds n a k) s = execQAdds n a k s := rfl
@[simp] theorem exec_qMpy (n : Qe) (a : Bool) (x : Fin 16) (k : Byte) (s : State) : exec (.qMpy n a x k) s = execQMpy n a x k s := rfl
@[simp] theorem exec_qMac (n : Qe) (a : Bool) (x : Fin 16) (k : Byte) (s : State) : exec (.qMac n a x k) s = execQMac n a x k s := rfl
@[simp] theorem exec_qMsu (n : Qe) (a : Bool) (x : Fin 16) (k : Byte) (s : State) : exec (.qMsu n a x k) s = execQMsu n a x k s := rfl
@[simp] theorem exec_qMpyx (n : Qe) (a : Bool) (x t : Fin 16) (s : State) : exec (.qMpyx n a x t) s = execQMpyx n a x t s := rfl
@[simp] theorem exec_qMacx (n : Qe) (a : Bool) (x t : Fin 16) (s : State) : exec (.qMacx n a x t) s = execQMacx n a x t s := rfl
@[simp] theorem exec_qAdda (n : Qe) (a : Bool) (s : State) : exec (.qAdda n a) s = execQAdda n a s := rfl
@[simp] theorem exec_qSuba (n : Qe) (a : Bool) (s : State) : exec (.qSuba n a) s = execQSuba n a s := rfl
@[simp] theorem exec_qSha (n : Qe) (a : Bool) (sh : BitVec 4) (s : State) : exec (.qSha n a sh) s = execQSha n a sh s := rfl
@[simp] theorem exec_qClamp (n : Qe) (a : Bool) (k : Byte) (s : State) : exec (.qClamp n a k) s = execQClamp n a k s := rfl
@[simp] theorem exec_qMov (n : Qe) (d x : Fin 16) (s : State) : exec (.qMov n d x) s = execQMov n d x s := rfl
@[simp] theorem exec_qLdi (n : Qe) (d : Fin 16) (imm : BitVec 16) (s : State) : exec (.qLdi n d imm) s = execQLdi n d imm s := rfl
@[simp] theorem exec_qLdc (n : Qe) (d : Fin 16) (k : Byte) (s : State) : exec (.qLdc n d k) s = execQLdc n d k s := rfl
@[simp] theorem exec_qIn (n : Qe) (d : Fin 16) (p : Fin 32) (s : State) : exec (.qIn n d p) s = execQIn n d p s := rfl
@[simp] theorem exec_qOut (n : Qe) (x : Fin 16) (p : Fin 32) (s : State) : exec (.qOut n x p) s = execQOut n x p s := rfl
@[simp] theorem exec_qAdd (n : Qe) (d x t : Fin 16) (s : State) : exec (.qAdd n d x t) s = execQAdd n d x t s := rfl
@[simp] theorem exec_qSub (n : Qe) (d x t : Fin 16) (s : State) : exec (.qSub n d x t) s = execQSub n d x t s := rfl
@[simp] theorem exec_qMul (n : Qe) (d x t : Fin 16) (s : State) : exec (.qMul n d x t) s = execQMul n d x t s := rfl
@[simp] theorem exec_qSth (n : Qe) (d : Fin 16) (a : Bool) (s : State) : exec (.qSth n d a) s = execQSth n d a s := rfl
@[simp] theorem exec_qStl (n : Qe) (d : Fin 16) (a : Bool) (s : State) : exec (.qStl n d a) s = execQStl n d a s := rfl
@[simp] theorem exec_qLim (n : Qe) (d x : Fin 16) (k : Byte) (s : State) : exec (.qLim n d x k) s = execQLim n d x k s := rfl
@[simp] theorem exec_qAbs (n : Qe) (d x : Fin 16) (s : State) : exec (.qAbs n d x) s = execQAbs n d x s := rfl
@[simp] theorem exec_qAnd (n : Qe) (d x t : Fin 16) (s : State) : exec (.qAnd n d x t) s = execQAnd n d x t s := rfl
@[simp] theorem exec_qOr (n : Qe) (d x t : Fin 16) (s : State) : exec (.qOr n d x t) s = execQOr n d x t s := rfl
@[simp] theorem exec_qCmp (n : Qe) (x t : Fin 16) (s : State) : exec (.qCmp n x t) s = execQCmp n x t s := rfl
@[simp] theorem exec_qCmpa (n : Qe) (a : Bool) (s : State) : exec (.qCmpa n a) s = execQCmpa n a s := rfl
@[simp] theorem exec_qJmp (n : Qe) (target : BitVec 10) (s : State) : exec (.qJmp n target) s = execQJmp n target s := rfl
@[simp] theorem exec_qBr (n : Qe) (cond : BitVec 4) (target : BitVec 10) (s : State) : exec (.qBr n cond target) s = execQBr n cond target s := rfl
@[simp] theorem exec_qSig (n : Qe) (bits : BitVec 4) (s : State) : exec (.qSig n bits) s = execQSig n bits s := rfl
@[simp] theorem exec_qEnd (n : Qe) (s : State) : exec (.qEnd n) s = execQEnd n s := rfl
@[simp] theorem exec_illegalInstruction (n : Qe) (s : State) : exec (.illegalInstruction n) s = execIllegalInstruction n s := rfl
@[simp] theorem exec_mwrEn (v : Bool) (s : State) : exec (.mwrEn v) s = execMwrEn v s := rfl
@[simp] theorem exec_doorbell (r : Ring) (tail : BitVec 16) (s : State) : exec (.doorbell r tail) s = execDoorbell r tail s := rfl
@[simp] theorem exec_errorEntry (r : Ring) (s : State) : exec (.errorEntry r) s = execErrorEntry r s := rfl
@[simp] theorem exec_ringEnable (r : Ring) (s : State) : exec (.ringEnable r) s = execRingEnable r s := rfl
@[simp] theorem exec_ringDisable (r : Ring) (s : State) : exec (.ringDisable r) s = execRingDisable r s := rfl
@[simp] theorem exec_drainEnd (r : Ring) (s : State) : exec (.drainEnd r) s = execDrainEnd r s := rfl
@[simp] theorem exec_abortComplete (r : Ring) (s : State) : exec (.abortComplete r) s = execAbortComplete r s := rfl
@[simp] theorem exec_abortCompleteEnd (r : Ring) (s : State) : exec (.abortCompleteEnd r) s = execAbortCompleteEnd r s := rfl
@[simp] theorem exec_resume (r : Ring) (s : State) : exec (.resume r) s = execResume r s := rfl
@[simp] theorem exec_clrOvr (r : Ring) (s : State) : exec (.clrOvr r) s = execClrOvr r s := rfl
@[simp] theorem exec_withdraw (r : Ring) (tag : Tag) (s : State) : exec (.withdraw r tag) s = execWithdraw r tag s := rfl
@[simp] theorem exec_withdrawScanEnd (s : State) : exec (.withdrawScanEnd) s = execWithdrawScanEnd s := rfl
@[simp] theorem exec_formatterRead (l : Lane) (s : State) : exec (.formatterRead l) s = execFormatterRead l s := rfl
@[simp] theorem exec_formatterWrite (l : Lane) (s : State) : exec (.formatterWrite l) s = execFormatterWrite l s := rfl
@[simp] theorem exec_readCheck (l : Lane) (s : State) : exec (.readCheck l) s = execReadCheck l s := rfl
@[simp] theorem exec_readRaw (l : Lane) (samples : List Byte) (s : State) : exec (.readRaw l samples) s = execReadRaw l samples s := rfl
@[simp] theorem exec_seek (a : Act) (s : State) : exec (.seek a) s = execSeek a s := rfl
@[simp] theorem exec_follow (a : Act) (s : State) : exec (.follow a) s = execFollow a s := rfl
@[simp] theorem exec_armMate (a : Act) (s : State) : exec (.armMate a) s = execArmMate a s := rfl
@[simp] theorem exec_unload (a : Act) (s : State) : exec (.unload a) s = execUnload a s := rfl
@[simp] theorem exec_load (a : Act) (s : State) : exec (.load a) s = execLoad a s := rfl
@[simp] theorem exec_copy (n : Cs) (s : State) : exec (.copy n) s = execCopy n s := rfl
@[simp] theorem exec_bandVerify (n : Cs) (bad : List (Nat × Nat)) (s : State) : exec (.bandVerify n bad) s = execBandVerify n bad s := rfl
@[simp] theorem exec_xor (n : Cs) (s : State) : exec (.xor n) s = execXor n s := rfl
@[simp] theorem exec_log (n : Cs) (s : State) : exec (.log n) s = execLog n s := rfl
@[simp] theorem exec_portLog (s : State) : exec (.portLog) s = execPortLog s := rfl
@[simp] theorem exec_start (s : State) : exec (.start) s = execStart s := rfl
@[simp] theorem exec_stop (s : State) : exec (.stop) s = execStop s := rfl
@[simp] theorem exec_tier (s : State) : exec (.tier) s = execTier s := rfl
@[simp] theorem exec_retract (s : State) : exec (.retract) s = execRetract s := rfl
@[simp] theorem exec_measure (s : State) : exec (.measure) s = execMeasure s := rfl
@[simp] theorem exec_arm (eraseGood : Bool) (s : State) : exec (.arm eraseGood) s = execArm eraseGood s := rfl
@[simp] theorem exec_save (s : State) : exec (.save) s = execSave s := rfl
@[simp] theorem exec_restore (s : State) : exec (.restore) s = execRestore s := rfl
@[simp] theorem exec_scan (s : State) : exec (.scan) s = execScan s := rfl
@[simp] theorem exec_laneEn (l : Lane) (v : Bool) (s : State) : exec (.laneEn l v) s = execLaneEn l v s := rfl
@[simp] theorem exec_sectorStart (l : Lane) (primary recovery : Option Int) (s : State) : exec (.sectorStart l primary recovery) s = execSectorStart l primary recovery s := rfl
@[simp] theorem exec_sectorEnd (l : Lane) (s : State) : exec (.sectorEnd l) s = execSectorEnd l s := rfl
@[simp] theorem exec_decodeEnd (l : Lane) (dec : Fin 4) (field : Option (List Byte)) (s : State) : exec (.decodeEnd l dec field) s = execDecodeEnd l dec field s := rfl
@[simp] theorem exec_replayAttempt (l : Lane) (sector : Nat) (off : Int) (set : Fin 8) (s : State) : exec (.replayAttempt l sector off set) s = execReplayAttempt l sector off set s := rfl
@[simp] theorem exec_writeSector (l : Lane) (s : State) : exec (.writeSector l) s = execWriteSector l s := rfl
@[simp] theorem exec_preampFault (a : Act) (s : State) : exec (.preampFault a) s = execPreampFault a s := rfl
@[simp] theorem exec_decoderFault (l : Lane) (dec : Fin 4) (s : State) : exec (.decoderFault l dec) s = execDecoderFault l dec s := rfl
@[simp] theorem exec_spareDecoderBind (k : Fin 2) (l : Lane) (dec : Bool) (bind : Bool) (s : State) : exec (.spareDecoderBind k l dec bind) s = execSpareDecoderBind k l dec bind s := rfl
@[simp] theorem exec_zoneTableCommit (s : State) : exec (.zoneTableCommit) s = execZoneTableCommit s := rfl
@[simp] theorem exec_preampControlFrame (a : Act) (frame : PreampFrame) (ack : Bool) (s : State) : exec (.preampControlFrame a frame ack) s = execPreampControlFrame a frame ack s := rfl
@[simp] theorem exec_srvEn (v : Bool) (s : State) : exec (.srvEn v) s = execSrvEn v s := rfl
@[simp] theorem exec_samFound (a : Act) (mate : Bool) (time : Word) (s : State) : exec (.samFound a mate time) s = execSamFound a mate time s := rfl
@[simp] theorem exec_windowEnd (a : Act) (mate : Bool) (s : State) : exec (.windowEnd a mate) s = execWindowEnd a mate s := rfl
@[simp] theorem exec_demodDone (a : Act) (mate : Bool) (m : WedgeMeas) (s : State) : exec (.demodDone a mate m) s = execDemodDone a mate m s := rfl
@[simp] theorem exec_faultHoldExpiry (a : Act) (s : State) : exec (.faultHoldExpiry a) s = execFaultHoldExpiry a s := rfl
@[simp] theorem exec_mpdEn (v : Bool) (s : State) : exec (.mpdEn v) s = execMpdEn v s := rfl
@[simp] theorem exec_bemfCrossing (valid : Bool) (angle : BitVec 12) (s : State) : exec (.bemfCrossing valid angle) s = execBemfCrossing valid angle s := rfl
@[simp] theorem exec_pseudoStamp (s : State) : exec (.pseudoStamp) s = execPseudoStamp s := rfl
@[simp] theorem exec_wedgeGapCheck (residual : BitVec 12) (s : State) : exec (.wedgeGapCheck residual) s = execWedgeGapCheck residual s := rfl
@[simp] theorem exec_measureEnd (rpm : BitVec 16) (backward : Bool) (s : State) : exec (.measureEnd rpm backward) s = execMeasureEnd rpm backward s := rfl
@[simp] theorem exec_alignEnd (s : State) : exec (.alignEnd) s = execAlignEnd s := rfl
@[simp] theorem exec_openLoopTimeout (s : State) : exec (.openLoopTimeout) s = execOpenLoopTimeout s := rfl
@[simp] theorem exec_holdTimeout (s : State) : exec (.holdTimeout) s = execHoldTimeout s := rfl
@[simp] theorem exec_reacquireTimeout (s : State) : exec (.reacquireTimeout) s = execReacquireTimeout s := rfl
@[simp] theorem exec_coastTimeout (s : State) : exec (.coastTimeout) s = execCoastTimeout s := rfl
@[simp] theorem exec_speedThreshold (rpm : BitVec 16) (s : State) : exec (.speedThreshold rpm) s = execSpeedThreshold rpm s := rfl
@[simp] theorem exec_driverTrip (d : Driver) (c : TripCause) (s : State) : exec (.driverTrip d c) s = execDriverTrip d c s := rfl
@[simp] theorem exec_retractParked (a : Act) (s : State) : exec (.retractParked a) s = execRetractParked a s := rfl
@[simp] theorem exec_retractTimeout (a : Act) (s : State) : exec (.retractTimeout a) s = execRetractTimeout a s := rfl
@[simp] theorem exec_harvestEnd (mj : BitVec 16) (s : State) : exec (.harvestEnd mj) s = execHarvestEnd mj s := rfl
@[simp] theorem exec_railFault (rail : Fin 17) (s : State) : exec (.railFault rail) s = execRailFault rail s := rfl
@[simp] theorem exec_lowvSet (mv : BitVec 16) (s : State) : exec (.lowvSet mv) s = execLowvSet mv s := rfl
@[simp] theorem exec_lowvClear (mv : BitVec 16) (s : State) : exec (.lowvClear mv) s = execLowvClear mv s := rfl
@[simp] theorem exec_governorTick (pin vin : BitVec 16) (s : State) : exec (.governorTick pin vin) s = execGovernorTick pin vin s := rfl
@[simp] theorem exec_xtal32Detect (found : Bool) (s : State) : exec (.xtal32Detect found) s = execXtal32Detect found s := rfl
@[simp] theorem exec_xtal32Stop (s : State) : exec (.xtal32Stop) s = execXtal32Stop s := rfl
@[simp] theorem exec_xtalBootRetry (good : Bool) (s : State) : exec (.xtalBootRetry good) s = execXtalBootRetry good s := rfl
@[simp] theorem exec_sloeRequest (dom : BitVec 5) (on flush : Bool) (s : State) : exec (.sloeRequest dom on flush) s = execSloeRequest dom on flush s := rfl
@[simp] theorem exec_sloeFlush (s : State) : exec (.sloeFlush) s = execSloeFlush s := rfl
@[simp] theorem exec_domainStart (s : State) : exec (.domainStart) s = execDomainStart s := rfl
@[simp] theorem exec_domainOn (s : State) : exec (.domainOn) s = execDomainOn s := rfl
@[simp] theorem exec_domainStartFail (pll : Option (Fin 5)) (s : State) : exec (.domainStartFail pll) s = execDomainStartFail pll s := rfl
@[simp] theorem exec_domainStop (s : State) : exec (.domainStop) s = execDomainStop s := rfl
@[simp] theorem exec_sloeWaitTimeout (s : State) : exec (.sloeWaitTimeout) s = execSloeWaitTimeout s := rfl
@[simp] theorem exec_deviceStateRequest (req : BitVec 2) (s : State) : exec (.deviceStateRequest req) s = execDeviceStateRequest req s := rfl
@[simp] theorem exec_wake (src : Fin 7) (s : State) : exec (.wake src) s = execWake src s := rfl
@[simp] theorem exec_wakeTimer (s : State) : exec (.wakeTimer) s = execWakeTimer s := rfl
@[simp] theorem exec_coreWdtFirstExpiry (n : Core) (s : State) : exec (.coreWdtFirstExpiry n) s = execCoreWdtFirstExpiry n s := rfl
@[simp] theorem exec_coreWdtSecondExpiry (n : Core) (s : State) : exec (.coreWdtSecondExpiry n) s = execCoreWdtSecondExpiry n s := rfl
@[simp] theorem exec_wdtKick (n : Core) (key : Byte) (s : State) : exec (.wdtKick n key) s = execWdtKick n key s := rfl
@[simp] theorem exec_sysWdtKick (key : Byte) (s : State) : exec (.sysWdtKick key) s = execSysWdtKick key s := rfl
@[simp] theorem exec_sysWdtExpiry (s : State) : exec (.sysWdtExpiry) s = execSysWdtExpiry s := rfl
@[simp] theorem exec_por (straps : BitVec 5) (s : State) : exec (.por straps) s = execPor straps s := rfl
@[simp] theorem exec_resetN (long : Bool) (s : State) : exec (.resetN long) s = execResetN long s := rfl
@[simp] theorem exec_swrst (key : BitVec 16) (s : State) : exec (.swrst key) s = execSwrst key s := rfl
@[simp] theorem exec_debugReset (token : List Byte) (s : State) : exec (.debugReset token) s = execDebugReset token s := rfl
@[simp] theorem exec_resetPerform (straps : BitVec 5) (s : State) : exec (.resetPerform straps) s = execResetPerform straps s := rfl
@[simp] theorem exec_bootRomRun (s : State) : exec (.bootRomRun) s = execBootRomRun s := rfl
@[simp] theorem exec_recoveryImageMessage (cls : Fin 9) (image : List Byte) (last : Bool) (s : State) : exec (.recoveryImageMessage cls image last) s = execRecoveryImageMessage cls image last s := rfl
@[simp] theorem exec_spdmGetCertificate (slot : Fin 8) (s : State) : exec (.spdmGetCertificate slot) s = execSpdmGetCertificate slot s := rfl
@[simp] theorem exec_spdmChallenge (slot : Fin 8) (nonce : List Byte) (s : State) : exec (.spdmChallenge slot nonce) s = execSpdmChallenge slot nonce s := rfl
@[simp] theorem exec_spdmGetMeasurements (idx : Byte) (nonce : List Byte) (s : State) : exec (.spdmGetMeasurements idx nonce) s = execSpdmGetMeasurements idx nonce s := rfl
@[simp] theorem exec_containerVerify (cls : BitVec 4) (s : State) : exec (.containerVerify cls) s = execContainerVerify cls s := rfl
@[simp] theorem exec_verifyEnd (s : State) : exec (.verifyEnd) s = execVerifyEnd s := rfl
@[simp] theorem exec_arbAdvance (cls : BitVec 4) (svn : BitVec 6) (s : State) : exec (.arbAdvance cls svn) s = execArbAdvance cls svn s := rfl
@[simp] theorem exec_arbAdvanceEnd (s : State) : exec (.arbAdvanceEnd) s = execArbAdvanceEnd s := rfl
@[simp] theorem exec_keyRevoke (slot : Fin 4) (s : State) : exec (.keyRevoke slot) s = execKeyRevoke slot s := rfl
@[simp] theorem exec_secLock (s : State) : exec (.secLock) s = execSecLock s := rfl
@[simp] theorem exec_gen (ns : Fin 64) (s : State) : exec (.gen ns) s = execGen ns s := rfl
@[simp] theorem exec_keyLoad (ns : Fin 64) (s : State) : exec (.keyLoad ns) s = execKeyLoad ns s := rfl
@[simp] theorem exec_clear (ns : Fin 64) (s : State) : exec (.clear ns) s = execClear ns s := rfl
@[simp] theorem exec_keyOperationEnd (s : State) : exec (.keyOperationEnd) s = execKeyOperationEnd s := rfl
@[simp] theorem exec_eflUnlock (key : Word) (s : State) : exec (.eflUnlock key) s = execEflUnlock key s := rfl
@[simp] theorem exec_program (g : Agent) (count : BitVec 7) (s : State) : exec (.program g count) s = execProgram g count s := rfl
@[simp] theorem exec_eraseRow (g : Agent) (s : State) : exec (.eraseRow g) s = execEraseRow g s := rfl
@[simp] theorem exec_eraseBlock (g : Agent) (s : State) : exec (.eraseBlock g) s = execEraseBlock g s := rfl
@[simp] theorem exec_blankCheck (g : Agent) (count : BitVec 7) (s : State) : exec (.blankCheck g count) s = execBlankCheck g count s := rfl
@[simp] theorem exec_massErase (g : Agent) (s : State) : exec (.massErase g) s = execMassErase g s := rfl
@[simp] theorem exec_eflCommandEnd (good : Bool) (s : State) : exec (.eflCommandEnd good) s = execEflCommandEnd good s := rfl
@[simp] theorem exec_suspend (s : State) : exec (.suspend) s = execSuspend s := rfl
@[simp] theorem exec_suspendTakeEffect (s : State) : exec (.suspendTakeEffect) s = execSuspendTakeEffect s := rfl
@[simp] theorem exec_eraseResume (s : State) : exec (.eraseResume) s = execEraseResume s := rfl
@[simp] theorem exec_eflashWindowRead (g : Agent) (off : BitVec 24) (s : State) : exec (.eflashWindowRead g off) s = execEflashWindowRead g off s := rfl
@[simp] theorem exec_rdpRaise (g : Agent) (target : BitVec 2) (s : State) : exec (.rdpRaise g target) s = execRdpRaise g target s := rfl
@[simp] theorem exec_rdpLower (g : Agent) (s : State) : exec (.rdpLower g) s = execRdpLower g s := rfl
@[simp] theorem exec_conversionRequest (m : BitVec 16) (s : State) : exec (.conversionRequest m) s = execConversionRequest m s := rfl
@[simp] theorem exec_sensorScan (s : State) : exec (.sensorScan) s = execSensorScan s := rfl
@[simp] theorem exec_aonSensorScan (s : State) : exec (.aonSensorScan) s = execAonSensorScan s := rfl
@[simp] theorem exec_conversionEnd (temp : BitVec 12) (s : State) : exec (.conversionEnd temp) s = execConversionEnd temp s := rfl
@[simp] theorem exec_throttleWindow (s : State) : exec (.throttleWindow) s = execThrottleWindow s := rfl
@[simp] theorem exec_restartWaitEnd (s : State) : exec (.restartWaitEnd) s = execRestartWaitEnd s := rfl
@[simp] theorem exec_calEn (v : Bool) (s : State) : exec (.calEn v) s = execCalEn v s := rfl
@[simp] theorem exec_calItemDue (n : Fin 64) (s : State) : exec (.calItemDue n) s = execCalItemDue n s := rfl
@[simp] theorem exec_calDue (n : Fin 64) (s : State) : exec (.calDue n) s = execCalDue n s := rfl
@[simp] theorem exec_calMeasurementStart (s : State) : exec (.calMeasurementStart) s = execCalMeasurementStart s := rfl
@[simp] theorem exec_calMeasurementEnd (n : Fin 64) (v : Option (BitVec 16)) (s : State) : exec (.calMeasurementEnd n v) s = execCalMeasurementEnd n v s := rfl
@[simp] theorem exec_calSubmit (v : BitVec 16) (s : State) : exec (.calSubmit v) s = execCalSubmit v s := rfl
@[simp] theorem exec_calDiscard (s : State) : exec (.calDiscard) s = execCalDiscard s := rfl
@[simp] theorem exec_calStarve (n : Fin 64) (s : State) : exec (.calStarve n) s = execCalStarve n s := rfl
@[simp] theorem exec_evrEn (s : State) : exec (.evrEn) s = execEvrEn s := rfl
@[simp] theorem exec_evrScanEnd (s : State) : exec (.evrScanEnd) s = execEvrScanEnd s := rfl
@[simp] theorem exec_eventEntry (code : BitVec 16) (a0 a1 a2 : Word) (s : State) : exec (.eventEntry code a0 a1 a2) s = execEventEntry code a0 a1 a2 s := rfl
@[simp] theorem exec_eventSubmit (code : BitVec 16) (keep : Bool) (s : State) : exec (.eventSubmit code keep) s = execEventSubmit code keep s := rfl
@[simp] theorem exec_recordProgram (s : State) : exec (.recordProgram) s = execRecordProgram s := rfl
@[simp] theorem exec_operatingMinuteEnd (s : State) : exec (.operatingMinuteEnd) s = execOperatingMinuteEnd s := rfl
@[simp] theorem exec_freezeTimeout (s : State) : exec (.freezeTimeout) s = execFreezeTimeout s := rfl
@[simp] theorem exec_eventClear (key : BitVec 16) (areas : BitVec 2) (s : State) : exec (.eventClear key areas) s = execEventClear key areas s := rfl
@[simp] theorem exec_plvEn (v : Bool) (diesGood : Bool) (ppb blocks : BitVec 16) (s : State) : exec (.plvEn v diesGood ppb blocks) s = execPlvEn v diesGood ppb blocks s := rfl
@[simp] theorem exec_powerLossDetect (s : State) : exec (.powerLossDetect) s = execPowerLossDetect s := rfl
@[simp] theorem exec_energyOkFall (s : State) : exec (.energyOkFall) s = execEnergyOkFall s := rfl
@[simp] theorem exec_vaultPageProgrammed (good : Bool) (s : State) : exec (.vaultPageProgrammed good) s = execVaultPageProgrammed good s := rfl
@[simp] theorem exec_dumpEnd (s : State) : exec (.dumpEnd) s = execDumpEnd s := rfl
@[simp] theorem exec_railsOff (s : State) : exec (.railsOff) s = execRailsOff s := rfl
@[simp] theorem exec_mirEn (v : Bool) (s : State) : exec (.mirEn v) s = execMirEn v s := rfl
@[simp] theorem exec_hello (pos : Bool) (term : Option (Byte × Bool)) (protMib : BitVec 10) (s : State) : exec (.hello pos term protMib) s = execHello pos term protMib s := rfl
@[simp] theorem exec_writeFrame (h : FrameHdr) (data : List Byte) (s : State) : exec (.writeFrame h data) s = execWriteFrame h data s := rfl
@[simp] theorem exec_servoFrame (h : FrameHdr) (x : ServoImage) (s : State) : exec (.servoFrame h x) s = execServoFrame h x s := rfl
@[simp] theorem exec_keyFrame (h : FrameHdr) (wrapped : List Byte) (s : State) : exec (.keyFrame h wrapped) s = execKeyFrame h wrapped s := rfl
@[simp] theorem exec_idleFrame (h : FrameHdr) (s : State) : exec (.idleFrame h) s = execIdleFrame h s := rfl
@[simp] theorem exec_ackTimeout (s : State) : exec (.ackTimeout) s = execAckTimeout s := rfl
@[simp] theorem exec_resync (s : State) : exec (.resync) s = execResync s := rfl
@[simp] theorem exec_resyncEnd (s : State) : exec (.resyncEnd) s = execResyncEnd s := rfl
@[simp] theorem exec_keyExchange (ns : Fin 64) (s : State) : exec (.keyExchange ns) s = execKeyExchange ns s := rfl
@[simp] theorem exec_autoTakeover (s : State) : exec (.autoTakeover) s = execAutoTakeover s := rfl
@[simp] theorem exec_takeoverLinesHigh (s : State) : exec (.takeoverLinesHigh) s = execTakeoverLinesHigh s := rfl
@[simp] theorem exec_takeoverAbandon (s : State) : exec (.takeoverAbandon) s = execTakeoverAbandon s := rfl
@[simp] theorem exec_fenced (low : Bool) (s : State) : exec (.fenced low) s = execFenced low s := rfl
@[simp] theorem exec_ownLineChange (line : Fin 5) (high : Bool) (s : State) : exec (.ownLineChange line high) s = execOwnLineChange line high s := rfl
@[simp] theorem exec_pcieLinkUp (p : Port) (speed : Fin 6) (width : Fin 5) (s : State) : exec (.pcieLinkUp p speed width) s = execPcieLinkUp p speed width s := rfl
@[simp] theorem exec_medlarLinkUp (s : State) : exec (.medlarLinkUp) s = execMedlarLinkUp s := rfl
@[simp] theorem exec_resetNRelease (straps : BitVec 5) (s : State) : exec (.resetNRelease straps) s = execResetNRelease straps s := rfl
@[simp] theorem exec_perstRelease (p : Port) (s : State) : exec (.perstRelease p) s = execPerstRelease p s := rfl
@[simp] theorem exec_attentionButtonRelease (s : State) : exec (.attentionButtonRelease) s = execAttentionButtonRelease s := rfl
@[simp] theorem exec_coalescingTimeExpiry (p : Port) (vec : Fin 1025) (s : State) : exec (.coalescingTimeExpiry p vec) s = execCoalescingTimeExpiry p vec s := rfl
@[simp] theorem exec_crystalFailure (s : State) : exec (.crystalFailure) s = execCrystalFailure s := rfl
@[simp] theorem exec_retractWaitEnd (s : State) : exec (.retractWaitEnd) s = execRetractWaitEnd s := rfl

end Sys2Proof.Machine
end

