-- ==== Sys2Proof/Laws/PerInstr.lean ====
section
/-!
SUPPORT. Laws/PerInstr.lean: a statement per command: no word spells it, since no row of the manual's table gives bits.
-/
namespace Sys2Proof.Laws.NoWord

/-- No word of any length spells the command. -/
def Statement (i : Instr) : Prop := ∀ nbits w : Nat, decodeTableWord nbits w ≠ some i

theorem all (i : Instr) : Statement i := fun _ _ h => nomatch h

theorem registerWrite (g : Agent) (a : Addr) (size : Nat) (v : WriteWord) : Statement (.registerWrite g a size v) := all _
theorem commit (g : Group) : Statement (.commit g) := all _
theorem shadowApply (g : Group) : Statement (.shadowApply g) := all _
theorem splitLowRead (p : Pair) : Statement (.splitLowRead p) := all _
theorem unmappedAccess (g : Agent) (a : Addr) (k : AccessKind) : Statement (.unmappedAccess g a k) := all _
theorem unstartedBlockAccess (a : Addr) (write : Bool) : Statement (.unstartedBlockAccess a write) := all _
theorem hepEn (p : Port) (v : Bool) : Statement (.hepEn p v) := all _
theorem configurationRequest (p : Port) (r : CfgReq) : Statement (.configurationRequest p r) := all _
theorem completionTlp (p : Port) (tag : Nat) (data : List Byte) (good poisoned expiring : Bool) : Statement (.completionTlp p tag data good poisoned expiring) := all _
theorem completionTimeout (p : Port) (tag : Nat) : Statement (.completionTimeout p tag) := all _
theorem quarantineHoldExpiry (p : Port) (tag : Nat) : Statement (.quarantineHoldExpiry p tag) := all _
theorem cmbWrite (p : Port) (off : BitVec 26) (data : List Byte) (poisoned : Bool) : Statement (.cmbWrite p off data poisoned) := all _
theorem cmbRead (p : Port) (off : BitVec 26) (len : Nat) : Statement (.cmbRead p off len) := all _
theorem peerWindowWrite (p : Port) (off : BitVec 26) (data : List Byte) (contiguous poisoned : Bool) : Statement (.peerWindowWrite p off data contiguous poisoned) := all _
theorem peerWindowRead (p : Port) (off : BitVec 26) (len : Nat) : Statement (.peerWindowRead p off len) := all _
theorem assemblyTimeout (p : Port) (slot : Fin 8) : Statement (.assemblyTimeout p slot) := all _
theorem windowIdleBoundary (p : Port) : Statement (.windowIdleBoundary p) := all _
theorem forcedBoundary (p : Port) : Statement (.forcedBoundary p) := all _
theorem cntClr (p : Port) : Statement (.cntClr p) := all _
theorem flr (p : Port) : Statement (.flr p) := all _
theorem linkDown (p : Port) : Statement (.linkDown p) := all _
theorem perst (p : Port) : Statement (.perst p) := all _
theorem translationCompletion (p : Port) (tag : Nat) (size : Nat) (host : BitVec 64) (rd wr : Bool) : Statement (.translationCompletion p tag size host rd wr) := all _
theorem invalidateRequest (p : Port) (itag : Fin 32) (start : BitVec 64) (size : Nat) : Statement (.invalidateRequest p itag start size) := all _
theorem invalidateCompletion (p : Port) : Statement (.invalidateCompletion p) := all _
theorem atsEnableClear (p : Port) : Statement (.atsEnableClear p) := all _
theorem msixVectorUnmask (p : Port) (vec : Fin 1025) : Statement (.msixVectorUnmask p vec) := all _
theorem cqHeadDoorbell (p : Port) (q : Fin 1025) (head : BitVec 16) (poisoned : Bool) : Statement (.cqHeadDoorbell p q head poisoned) := all _
theorem attentionButtonPress : Statement (.attentionButtonPress) := all _
theorem logPageC8 (t : Slot) (retain : Bool) : Statement (.logPageC8 t retain) := all _
theorem sqDoorbell (p : Port) (q : Fin 1025) (tail : BitVec 16) (poisoned : Bool) : Statement (.sqDoorbell p q tail poisoned) := all _
theorem arbitrationGrant : Statement (.arbitrationGrant) := all _
theorem commandIntake (p : Port) (q : Fin 1025) (e : Sqe) : Statement (.commandIntake p q e) := all _
theorem overlapWaitEnd (t : Slot) : Statement (.overlapWaitEnd t) := all _
theorem bufferSlotWaitEnd (t : Slot) : Statement (.bufferSlotWaitEnd t) := all _
theorem writeDataBuffered (t : Slot) : Statement (.writeDataBuffered t) := all _
theorem writeCompletionRelease (t : Slot) : Statement (.writeCompletionRelease t) := all _
theorem controllerEnable (p : Port) : Statement (.controllerEnable p) := all _
theorem controllerReset (p : Port) : Statement (.controllerReset p) := all _
theorem createIoSubmissionQueue (t : Slot) (q cq : Fin 1025) (size : BitVec 16) (base : QueuePlace) (prio : Fin 4) : Statement (.createIoSubmissionQueue t q cq size base prio) := all _
theorem createIoCompletionQueue (t : Slot) (q : Fin 1025) (size : BitVec 16) (base : BitVec 64) (vec : Fin 1025) (inCmb : Bool) : Statement (.createIoCompletionQueue t q size base vec inCmb) := all _
theorem deleteIoSubmissionQueue (t : Slot) (q : Fin 1025) : Statement (.deleteIoSubmissionQueue t q) := all _
theorem deleteIoCompletionQueue (t : Slot) (q : Fin 1025) : Statement (.deleteIoCompletionQueue t q) := all _
theorem getLogPage (t : Slot) (lid : Byte) (off len : Nat) : Statement (.getLogPage t lid off len) := all _
theorem ledgerLogPage (t : Slot) (off len : Nat) : Statement (.ledgerLogPage t off len) := all _
theorem bootChainLogPage (t : Slot) (off len : Nat) : Statement (.bootChainLogPage t off len) := all _
theorem eventLogPage (t : Slot) (off len : Nat) : Statement (.eventLogPage t off len) := all _
theorem identify (t : Slot) (cns : Byte) : Statement (.identify t cns) := all _
theorem abort (t : Slot) (q : Fin 1025) (cid : BitVec 16) : Statement (.abort t q cid) := all _
theorem setFeatures (t : Slot) (fid : Byte) (v : Word) : Statement (.setFeatures t fid v) := all _
theorem getFeatures (t : Slot) (fid : Byte) : Statement (.getFeatures t fid) := all _
theorem asynchronousEventRequest (t : Slot) : Statement (.asynchronousEventRequest t) := all _
theorem namespaceCreate (t : Slot) (blocks : Nat) (msize : Fin 3) (zoned prot : Bool) : Statement (.namespaceCreate t blocks msize zoned prot) := all _
theorem namespaceDelete (t : Slot) (ns : Fin 64) : Statement (.namespaceDelete t ns) := all _
theorem namespaceAttachment (t : Slot) (ns : Fin 64) (p : Port) (attach : Bool) : Statement (.namespaceAttachment t ns p attach) := all _
theorem firmwareImageDownload (t : Slot) (cls : Fin 9) (off : Nat) (data : List Byte) : Statement (.firmwareImageDownload t cls off data) := all _
theorem firmwareCommitWrite (t : Slot) (slotB : Bool) : Statement (.firmwareCommitWrite t slotB) := all _
theorem firmwareCommitWriteTrial (t : Slot) (slotB : Bool) : Statement (.firmwareCommitWriteTrial t slotB) := all _
theorem firmwareCommitTrialInPlace (t : Slot) (slotB : Bool) : Statement (.firmwareCommitTrialInPlace t slotB) := all _
theorem firmwareCommitResetRequired (t : Slot) (slotB : Bool) : Statement (.firmwareCommitResetRequired t slotB) := all _
theorem formatNvm (t : Slot) (ns : Fin 64) (msize : Fin 3) (crypto : Bool) : Statement (.formatNvm t ns msize crypto) := all _
theorem securitySend (t : Slot) (proto : Byte) (req : SpdmReq) : Statement (.securitySend t proto req) := all _
theorem securityReceive (t : Slot) (proto : Byte) (len : Nat) : Statement (.securityReceive t proto len) := all _
theorem sanitizeCryptoErase (t : Slot) : Statement (.sanitizeCryptoErase t) := all _
theorem sanitizeBlockErase (t : Slot) : Statement (.sanitizeBlockErase t) := all _
theorem deviceSelfTest (t : Slot) (code : Fin 16) : Statement (.deviceSelfTest t code) := all _
theorem flush (t : Slot) : Statement (.flush t) := all _
theorem write (t : Slot) (blocks : List (List Byte)) (e : WriteEnd) : Statement (.write t blocks e) := all _
theorem read (t : Slot) (media : List (List Byte)) (e : ReadEnd) : Statement (.read t media e) := all _
theorem writeZeroes (t : Slot) : Statement (.writeZeroes t) := all _
theorem compare (t : Slot) (host : List (List Byte)) (media : List (List Byte)) (e : ReadEnd) : Statement (.compare t host media e) := all _
theorem datasetManagement (t : Slot) : Statement (.datasetManagement t) := all _
theorem verify (t : Slot) (media : List (List Byte)) (e : ReadEnd) : Statement (.verify t media e) := all _
theorem reservationRegister (t : Slot) (action : Fin 3) (cur new : BitVec 64) : Statement (.reservationRegister t action cur new) := all _
theorem reservationReport (t : Slot) : Statement (.reservationReport t) := all _
theorem reservationAcquire (t : Slot) (action : Fin 3) (rtype : Fin 8) (cur preempt : BitVec 64) : Statement (.reservationAcquire t action rtype cur preempt) := all _
theorem reservationRelease (t : Slot) (clear : Bool) (cur : BitVec 64) : Statement (.reservationRelease t clear cur) := all _
theorem zoneClose (t : Slot) : Statement (.zoneClose t) := all _
theorem zoneFinish (t : Slot) : Statement (.zoneFinish t) := all _
theorem zoneOpen (t : Slot) : Statement (.zoneOpen t) := all _
theorem zoneReset (t : Slot) : Statement (.zoneReset t) := all _
theorem zoneOffline (t : Slot) : Statement (.zoneOffline t) := all _
theorem zoneManagementReceive (t : Slot) : Statement (.zoneManagementReceive t) := all _
theorem zoneAppend (t : Slot) (blocks : List (List Byte)) (e : WriteEnd) : Statement (.zoneAppend t blocks e) := all _
theorem ciuEn (v : Bool) : Statement (.ciuEn v) := all _
theorem bufferSlotRelease (n : BitVec 17) : Statement (.bufferSlotRelease n) := all _
theorem abortLookup (q : BitVec 11) (cid : BitVec 16) : Statement (.abortLookup q cid) := all _
theorem ldgEn (v mirror : Bool) : Statement (.ldgEn v mirror) := all _
theorem bufDdrEn (v : Bool) : Statement (.bufDdrEn v) := all _
theorem ddrTrainingEnd (good : Bool) : Statement (.ddrTrainingEnd good) := all _
theorem dramFill (a : Addr) : Statement (.dramFill a) := all _
theorem patrolScrub : Statement (.patrolScrub) := all _
theorem postPackageRepair (bank : BitVec 4) (row : BitVec 18) (ch : Bool) : Statement (.postPackageRepair bank row ch) := all _
theorem repairEnd (good : Bool) : Statement (.repairEnd good) := all _
theorem brambleAccess (g : Agent) (a : Addr) (w : Option (List Byte)) (whole : Bool) : Statement (.brambleAccess g a w whole) := all _
theorem pipPrefetch (a : Addr) : Statement (.pipPrefetch a) := all _
theorem evictionAccept : Statement (.evictionAccept) := all _
theorem evictionDone : Statement (.evictionDone) := all _
theorem clean (count : BitVec 17) (setWay : Bool) : Statement (.clean count setWay) := all _
theorem invalidate (count : BitVec 17) (setWay : Bool) : Statement (.invalidate count setWay) := all _
theorem cleanAndInvalidate (count : BitVec 17) (setWay : Bool) : Statement (.cleanAndInvalidate count setWay) := all _
theorem maintenanceEnd : Statement (.maintenanceEnd) := all _
theorem brambleDisable : Statement (.brambleDisable) := all _
theorem disableWalkEnd : Statement (.disableWalkEnd) := all _
theorem brambleEnable : Statement (.brambleEnable) := all _
theorem sramInit (array : Byte) : Statement (.sramInit array) := all _
theorem sramInitEnd : Statement (.sramInitEnd) := all _
theorem spareRow (array : Byte) (row : BitVec 16) (perm : Bool) : Statement (.spareRow array row perm) := all _
theorem spareRowEnd : Statement (.spareRowEnd) := all _
theorem flipArm (array check : Byte) : Statement (.flipArm array check) := all _
theorem btlEn (v : Bool) : Statement (.btlEn v) := all _
theorem openRecord (flags : Byte) (band owner : BitVec 32) (purpose nsidx acc : Byte) : Statement (.openRecord flags band owner purpose nsidx acc) := all _
theorem commitRecord (flags : Byte) (new old owner : BitVec 32) (upto : BitVec 48) (nsidx hgen8 : Byte) : Statement (.commitRecord flags new old owner upto nsidx hgen8) := all _
theorem resetRecord (flags : Byte) (band : BitVec 32) (hgen : BitVec 48) : Statement (.resetRecord flags band hgen) := all _
theorem retireRecord (flags : Byte) (band : BitVec 32) (cause : Byte) : Statement (.retireRecord flags band cause) := all _
theorem mcPutRecord (flags : Byte) (nsidx len : Byte) (lba pma : BitVec 64) : Statement (.mcPutRecord flags nsidx len lba pma) := all _
theorem zoneWpRecord (flags : Byte) (nsidx : Byte) (zone wp : BitVec 32) : Statement (.zoneWpRecord flags nsidx zone wp) := all _
theorem sealRecord (flags : Byte) (band : BitVec 32) (hgen : BitVec 48) : Statement (.sealRecord flags band hgen) := all _
theorem checkpointRecord (flags : Byte) (pma : BitVec 64) (covers : BitVec 48) : Statement (.checkpointRecord flags pma covers) := all _
theorem modeRecord (flags : Byte) (degraded : Bool) : Statement (.modeRecord flags degraded) := all _
theorem headFailRecord (head : BitVec 5) : Statement (.headFailRecord head) := all _
theorem refreshQueueRead : Statement (.refreshQueueRead) := all _
theorem coreRun (n : Core) (v : Bool) : Statement (.coreRun n v) := all _
theorem mtimeCompare (n : Core) : Statement (.mtimeCompare n) := all _
theorem ipiSet (m : Byte) : Statement (.ipiSet m) := all _
theorem ipiClear (m : Byte) : Statement (.ipiClear m) := all _
theorem interruptClaim (n : Core) : Statement (.interruptClaim n) := all _
theorem interruptComplete (n : Core) (src : Byte) : Statement (.interruptComplete n src) := all _
theorem wfi (n : Core) (mie : BitVec 3) : Statement (.wfi n mie) := all _
theorem fenceI (n : Core) : Statement (.fenceI n) := all _
theorem lrScAmo (n : Core) (op : AmoOp) (dword : Bool) (a : Addr) (rd : Fin 32) (v : BitVec 64) : Statement (.lrScAmo n op dword a rd v) := all _
theorem controlStoreLoad (cls : Fin 8) (first : BitVec 12) (count : BitVec 13) : Statement (.controlStoreLoad cls first count) := all _
theorem controlStoreLoadEnd : Statement (.controlStoreLoadEnd) := all _
theorem csStart (n : Cs) (entry : BitVec 12) : Statement (.csStart n entry) := all _
theorem csStop (n : Cs) : Statement (.csStop n) := all _
theorem kill (n : Cs) : Statement (.kill n) := all _
theorem abandon (n : Cs) : Statement (.abandon n) := all _
theorem spareCsBind (k : Fin 2) (cls : Fin 8) (repl : BitVec 6) (bind : Bool) : Statement (.spareCsBind k cls repl bind) := all _
theorem spareQeBind (m : BitVec 4) (bind : Bool) : Statement (.spareQeBind m bind) := all _
theorem qeStart (n : Qe) : Statement (.qeStart n) := all _
theorem qeStop (n : Qe) : Statement (.qeStop n) := all _
theorem qeTrigger (n : Qe) (inputs : List (BitVec 16)) : Statement (.qeTrigger n inputs) := all _
theorem waitEnd (n : Cs) (cause : WaitCause) : Statement (.waitEnd n cause) := all _
theorem jump (n : Cs) (next : BitVec 12) : Statement (.jump n next) := all _
theorem cond1 (n : Cs) (next : BitVec 12) (c0 : Byte) : Statement (.cond1 n next c0) := all _
theorem cond2 (n : Cs) (next : BitVec 12) (c0 c1 : Byte) : Statement (.cond2 n next c0 c1) := all _
theorem cond3 (n : Cs) (next : BitVec 12) (c0 c1 c2 : Byte) : Statement (.cond3 n next c0 c1 c2) := all _
theorem cond4 (n : Cs) (next : BitVec 12) (c0 c1 c2 c3 : Byte) : Statement (.cond4 n next c0 c1 c2 c3) := all _
theorem call (n : Cs) (next ret : BitVec 12) : Statement (.call n next ret) := all _
theorem ret (n : Cs) : Statement (.ret n) := all _
theorem dispatch (n : Cs) (next : BitVec 12) : Statement (.dispatch n next) := all _
theorem loop (n : Cs) (next : BitVec 12) : Statement (.loop n next) := all _
theorem halt (n : Cs) : Statement (.halt n) := all _
theorem aMov (n : Cs) (d r : Fin 16) : Statement (.aMov n d r) := all _
theorem aLdi (n : Cs) (d : Fin 16) (imm : BitVec 16) : Statement (.aLdi n d imm) := all _
theorem aLdh (n : Cs) (d : Fin 16) (imm : BitVec 16) : Statement (.aLdh n d imm) := all _
theorem aAdd (n : Cs) (d r : Fin 16) : Statement (.aAdd n d r) := all _
theorem aAddi (n : Cs) (d : Fin 16) (imm : BitVec 16) : Statement (.aAddi n d imm) := all _
theorem aSub (n : Cs) (d r : Fin 16) : Statement (.aSub n d r) := all _
theorem aAnd (n : Cs) (d r : Fin 16) : Statement (.aAnd n d r) := all _
theorem aOr (n : Cs) (d r : Fin 16) : Statement (.aOr n d r) := all _
theorem aXor (n : Cs) (d r : Fin 16) : Statement (.aXor n d r) := all _
theorem aShr (n : Cs) (d : Fin 16) (imm : BitVec 16) : Statement (.aShr n d imm) := all _
theorem aShl (n : Cs) (d : Fin 16) (imm : BitVec 16) : Statement (.aShl n d imm) := all _
theorem aLdd (n : Cs) (d : Fin 16) (imm : BitVec 16) : Statement (.aLdd n d imm) := all _
theorem aStd (n : Cs) (r : Fin 16) (imm : BitVec 16) : Statement (.aStd n r imm) := all _
theorem aLdlc (n : Cs) (r : Fin 16) : Statement (.aLdlc n r) := all _
theorem aCmp (n : Cs) (d r : Fin 16) : Statement (.aCmp n d r) := all _
theorem armRead (n : Cs) : Statement (.armRead n) := all _
theorem armWrite (n : Cs) : Statement (.armWrite n) := all _
theorem sector (n : Cs) : Statement (.sector n) := all _
theorem replay (n : Cs) (off : BitVec 5) (set : BitVec 3) : Statement (.replay n off set) := all _
theorem zone (n : Cs) (idx : BitVec 10) : Statement (.zone n idx) := all _
theorem assist (n : Cs) (code : Byte) : Statement (.assist n code) := all _
theorem disarm (n : Cs) : Statement (.disarm n) := all _
theorem dmaFetch (n : Cs) : Statement (.dmaFetch n) := all _
theorem fetchRaw (n : Cs) : Statement (.fetchRaw n) := all _
theorem store (n : Cs) : Statement (.store n) := all _
theorem post (n : Cs) (code : Byte) : Statement (.post n code) := all _
theorem take (n : Cs) : Statement (.take n) := all _
theorem select (n : Cs) : Statement (.select n) := all _
theorem ringFetch (n : Cs) (r : Ring) : Statement (.ringFetch n r) := all _
theorem forward (n : Cs) (r : Ring) (idx : BitVec 16) : Statement (.forward n r idx) := all _
theorem complete (n : Cs) (r : Ring) (idx : BitVec 16) (code : Byte) : Statement (.complete n r idx code) := all _
theorem ringError (n : Cs) (r : Ring) : Statement (.ringError n r) := all _
theorem fetchSqe (n : Cs) (p : Port) (q : Fin 1025) : Statement (.fetchSqe n p q) := all _
theorem tx (n : Cs) (d : TxData) : Statement (.tx n d) := all _
theorem rx (n : Cs) (lba : BitVec 64) (dst : Addr) (data : RxData) (pi : PiResult) : Statement (.rx n lba dst data pi) := all _
theorem postCqe (n : Cs) : Statement (.postCqe n) := all _
theorem msix (n : Cs) : Statement (.msix n) := all _
theorem prefetch (n : Cs) (a : Addr) : Statement (.prefetch n a) := all _
theorem alloc (n : Cs) : Statement (.alloc n) := all _
theorem release (n : Cs) : Statement (.release n) := all _
theorem insert (x : Insertion) : Statement (.insert x) := all _
theorem search (n : Cs) : Statement (.search n) := all _
theorem remove (n : Cs) : Statement (.remove n) := all _
theorem appendAccepted (n : Cs) : Statement (.appendAccepted n) := all _
theorem ldgState (n : Cs) (st : BitVec 4) : Statement (.ldgState n st) := all _
theorem ldgFlags (n : Cs) (f : Byte) : Statement (.ldgFlags n f) := all _
theorem lookup (n : Cs) : Statement (.lookup n) := all _
theorem publish (n : Cs) : Statement (.publish n) := all _
theorem window (n : Cs) : Statement (.window n) := all _
theorem demod (n : Cs) : Statement (.demod n) := all _
theorem pes (n : Cs) : Statement (.pes n) := all _
theorem trigger (n : Cs) (iMeas vel maPri maMate : BitVec 16) : Statement (.trigger n iMeas vel maPri maMate) := all _
theorem stamp (n : Cs) : Statement (.stamp n) := all _
theorem wclk (n : Cs) (err : Int) : Statement (.wclk n err) := all _
theorem subRead (n : Cs) : Statement (.subRead n) := all _
theorem subWrite (n : Cs) : Statement (.subWrite n) := all _
theorem copyXor (n : Cs) : Statement (.copyXor n) := all _
theorem copyLog (n : Cs) : Statement (.copyLog n) := all _
theorem subVerify (n : Cs) : Statement (.subVerify n) := all _
theorem drv (n : Cs) (d : BitVec 5) : Statement (.drv n d) := all _
theorem sample (n : Cs) (m : Byte) (v : Word) : Statement (.sample n m v) := all _
theorem vault (n : Cs) : Statement (.vault n) := all _
theorem sloe (n : Cs) (dom : BitVec 5) (on : Bool) : Statement (.sloe n dom on) := all _
theorem qNop (n : Qe) : Statement (.qNop n) := all _
theorem qClr (n : Qe) (a : Bool) : Statement (.qClr n a) := all _
theorem qLda (n : Qe) (a : Bool) (x : Fin 16) : Statement (.qLda n a x) := all _
theorem qLdp (n : Qe) (a : Bool) (x t : Fin 16) : Statement (.qLdp n a x t) := all _
theorem qLds (n : Qe) (a : Bool) (k : Byte) : Statement (.qLds n a k) := all _
theorem qSts (n : Qe) (a : Bool) (k : Byte) : Statement (.qSts n a k) := all _
theorem qAdds (n : Qe) (a : Bool) (k : Byte) : Statement (.qAdds n a k) := all _
theorem qMpy (n : Qe) (a : Bool) (x : Fin 16) (k : Byte) : Statement (.qMpy n a x k) := all _
theorem qMac (n : Qe) (a : Bool) (x : Fin 16) (k : Byte) : Statement (.qMac n a x k) := all _
theorem qMsu (n : Qe) (a : Bool) (x : Fin 16) (k : Byte) : Statement (.qMsu n a x k) := all _
theorem qMpyx (n : Qe) (a : Bool) (x t : Fin 16) : Statement (.qMpyx n a x t) := all _
theorem qMacx (n : Qe) (a : Bool) (x t : Fin 16) : Statement (.qMacx n a x t) := all _
theorem qAdda (n : Qe) (a : Bool) : Statement (.qAdda n a) := all _
theorem qSuba (n : Qe) (a : Bool) : Statement (.qSuba n a) := all _
theorem qSha (n : Qe) (a : Bool) (sh : BitVec 4) : Statement (.qSha n a sh) := all _
theorem qClamp (n : Qe) (a : Bool) (k : Byte) : Statement (.qClamp n a k) := all _
theorem qMov (n : Qe) (d x : Fin 16) : Statement (.qMov n d x) := all _
theorem qLdi (n : Qe) (d : Fin 16) (imm : BitVec 16) : Statement (.qLdi n d imm) := all _
theorem qLdc (n : Qe) (d : Fin 16) (k : Byte) : Statement (.qLdc n d k) := all _
theorem qIn (n : Qe) (d : Fin 16) (p : Fin 32) : Statement (.qIn n d p) := all _
theorem qOut (n : Qe) (x : Fin 16) (p : Fin 32) : Statement (.qOut n x p) := all _
theorem qAdd (n : Qe) (d x t : Fin 16) : Statement (.qAdd n d x t) := all _
theorem qSub (n : Qe) (d x t : Fin 16) : Statement (.qSub n d x t) := all _
theorem qMul (n : Qe) (d x t : Fin 16) : Statement (.qMul n d x t) := all _
theorem qSth (n : Qe) (d : Fin 16) (a : Bool) : Statement (.qSth n d a) := all _
theorem qStl (n : Qe) (d : Fin 16) (a : Bool) : Statement (.qStl n d a) := all _
theorem qLim (n : Qe) (d x : Fin 16) (k : Byte) : Statement (.qLim n d x k) := all _
theorem qAbs (n : Qe) (d x : Fin 16) : Statement (.qAbs n d x) := all _
theorem qAnd (n : Qe) (d x t : Fin 16) : Statement (.qAnd n d x t) := all _
theorem qOr (n : Qe) (d x t : Fin 16) : Statement (.qOr n d x t) := all _
theorem qCmp (n : Qe) (x t : Fin 16) : Statement (.qCmp n x t) := all _
theorem qCmpa (n : Qe) (a : Bool) : Statement (.qCmpa n a) := all _
theorem qJmp (n : Qe) (target : BitVec 10) : Statement (.qJmp n target) := all _
theorem qBr (n : Qe) (cond : BitVec 4) (target : BitVec 10) : Statement (.qBr n cond target) := all _
theorem qSig (n : Qe) (bits : BitVec 4) : Statement (.qSig n bits) := all _
theorem qEnd (n : Qe) : Statement (.qEnd n) := all _
theorem illegalInstruction (n : Qe) : Statement (.illegalInstruction n) := all _
theorem mwrEn (v : Bool) : Statement (.mwrEn v) := all _
theorem doorbell (r : Ring) (tail : BitVec 16) : Statement (.doorbell r tail) := all _
theorem errorEntry (r : Ring) : Statement (.errorEntry r) := all _
theorem ringEnable (r : Ring) : Statement (.ringEnable r) := all _
theorem ringDisable (r : Ring) : Statement (.ringDisable r) := all _
theorem drainEnd (r : Ring) : Statement (.drainEnd r) := all _
theorem abortComplete (r : Ring) : Statement (.abortComplete r) := all _
theorem abortCompleteEnd (r : Ring) : Statement (.abortCompleteEnd r) := all _
theorem resume (r : Ring) : Statement (.resume r) := all _
theorem clrOvr (r : Ring) : Statement (.clrOvr r) := all _
theorem withdraw (r : Ring) (tag : Tag) : Statement (.withdraw r tag) := all _
theorem withdrawScanEnd : Statement (.withdrawScanEnd) := all _
theorem formatterRead (l : Lane) : Statement (.formatterRead l) := all _
theorem formatterWrite (l : Lane) : Statement (.formatterWrite l) := all _
theorem readCheck (l : Lane) : Statement (.readCheck l) := all _
theorem readRaw (l : Lane) (samples : List Byte) : Statement (.readRaw l samples) := all _
theorem seek (a : Act) : Statement (.seek a) := all _
theorem follow (a : Act) : Statement (.follow a) := all _
theorem armMate (a : Act) : Statement (.armMate a) := all _
theorem unload (a : Act) : Statement (.unload a) := all _
theorem load (a : Act) : Statement (.load a) := all _
theorem copy (n : Cs) : Statement (.copy n) := all _
theorem bandVerify (n : Cs) (bad : List (Nat × Nat)) : Statement (.bandVerify n bad) := all _
theorem xor (n : Cs) : Statement (.xor n) := all _
theorem log (n : Cs) : Statement (.log n) := all _
theorem portLog : Statement (.portLog) := all _
theorem start : Statement (.start) := all _
theorem stop : Statement (.stop) := all _
theorem tier : Statement (.tier) := all _
theorem retract : Statement (.retract) := all _
theorem measure : Statement (.measure) := all _
theorem arm (eraseGood : Bool) : Statement (.arm eraseGood) := all _
theorem save : Statement (.save) := all _
theorem restore : Statement (.restore) := all _
theorem scan : Statement (.scan) := all _
theorem laneEn (l : Lane) (v : Bool) : Statement (.laneEn l v) := all _
theorem sectorStart (l : Lane) (primary recovery : Option Int) : Statement (.sectorStart l primary recovery) := all _
theorem sectorEnd (l : Lane) : Statement (.sectorEnd l) := all _
theorem decodeEnd (l : Lane) (dec : Fin 4) (field : Option (List Byte)) : Statement (.decodeEnd l dec field) := all _
theorem replayAttempt (l : Lane) (sector : Nat) (off : Int) (set : Fin 8) : Statement (.replayAttempt l sector off set) := all _
theorem writeSector (l : Lane) : Statement (.writeSector l) := all _
theorem preampFault (a : Act) : Statement (.preampFault a) := all _
theorem decoderFault (l : Lane) (dec : Fin 4) : Statement (.decoderFault l dec) := all _
theorem spareDecoderBind (k : Fin 2) (l : Lane) (dec : Bool) (bind : Bool) : Statement (.spareDecoderBind k l dec bind) := all _
theorem zoneTableCommit : Statement (.zoneTableCommit) := all _
theorem preampControlFrame (a : Act) (frame : PreampFrame) (ack : Bool) : Statement (.preampControlFrame a frame ack) := all _
theorem srvEn (v : Bool) : Statement (.srvEn v) := all _
theorem samFound (a : Act) (mate : Bool) (time : Word) : Statement (.samFound a mate time) := all _
theorem windowEnd (a : Act) (mate : Bool) : Statement (.windowEnd a mate) := all _
theorem demodDone (a : Act) (mate : Bool) (m : WedgeMeas) : Statement (.demodDone a mate m) := all _
theorem faultHoldExpiry (a : Act) : Statement (.faultHoldExpiry a) := all _
theorem mpdEn (v : Bool) : Statement (.mpdEn v) := all _
theorem bemfCrossing (valid : Bool) (angle : BitVec 12) : Statement (.bemfCrossing valid angle) := all _
theorem pseudoStamp : Statement (.pseudoStamp) := all _
theorem wedgeGapCheck (residual : BitVec 12) : Statement (.wedgeGapCheck residual) := all _
theorem measureEnd (rpm : BitVec 16) (backward : Bool) : Statement (.measureEnd rpm backward) := all _
theorem alignEnd : Statement (.alignEnd) := all _
theorem openLoopTimeout : Statement (.openLoopTimeout) := all _
theorem holdTimeout : Statement (.holdTimeout) := all _
theorem reacquireTimeout : Statement (.reacquireTimeout) := all _
theorem coastTimeout : Statement (.coastTimeout) := all _
theorem speedThreshold (rpm : BitVec 16) : Statement (.speedThreshold rpm) := all _
theorem driverTrip (d : Driver) (c : TripCause) : Statement (.driverTrip d c) := all _
theorem retractParked (a : Act) : Statement (.retractParked a) := all _
theorem retractTimeout (a : Act) : Statement (.retractTimeout a) := all _
theorem harvestEnd (mj : BitVec 16) : Statement (.harvestEnd mj) := all _
theorem railFault (rail : Fin 17) : Statement (.railFault rail) := all _
theorem lowvSet (mv : BitVec 16) : Statement (.lowvSet mv) := all _
theorem lowvClear (mv : BitVec 16) : Statement (.lowvClear mv) := all _
theorem governorTick (pin vin : BitVec 16) : Statement (.governorTick pin vin) := all _
theorem xtal32Detect (found : Bool) : Statement (.xtal32Detect found) := all _
theorem xtal32Stop : Statement (.xtal32Stop) := all _
theorem xtalBootRetry (good : Bool) : Statement (.xtalBootRetry good) := all _
theorem sloeRequest (dom : BitVec 5) (on flush : Bool) : Statement (.sloeRequest dom on flush) := all _
theorem sloeFlush : Statement (.sloeFlush) := all _
theorem domainStart : Statement (.domainStart) := all _
theorem domainOn : Statement (.domainOn) := all _
theorem domainStartFail (pll : Option (Fin 5)) : Statement (.domainStartFail pll) := all _
theorem domainStop : Statement (.domainStop) := all _
theorem sloeWaitTimeout : Statement (.sloeWaitTimeout) := all _
theorem deviceStateRequest (req : BitVec 2) : Statement (.deviceStateRequest req) := all _
theorem wake (src : Fin 7) : Statement (.wake src) := all _
theorem wakeTimer : Statement (.wakeTimer) := all _
theorem coreWdtFirstExpiry (n : Core) : Statement (.coreWdtFirstExpiry n) := all _
theorem coreWdtSecondExpiry (n : Core) : Statement (.coreWdtSecondExpiry n) := all _
theorem wdtKick (n : Core) (key : Byte) : Statement (.wdtKick n key) := all _
theorem sysWdtKick (key : Byte) : Statement (.sysWdtKick key) := all _
theorem sysWdtExpiry : Statement (.sysWdtExpiry) := all _
theorem por (straps : BitVec 5) : Statement (.por straps) := all _
theorem resetN (long : Bool) : Statement (.resetN long) := all _
theorem swrst (key : BitVec 16) : Statement (.swrst key) := all _
theorem debugReset (token : List Byte) : Statement (.debugReset token) := all _
theorem resetPerform (straps : BitVec 5) : Statement (.resetPerform straps) := all _
theorem bootRomRun : Statement (.bootRomRun) := all _
theorem recoveryImageMessage (cls : Fin 9) (image : List Byte) (last : Bool) : Statement (.recoveryImageMessage cls image last) := all _
theorem spdmGetCertificate (slot : Fin 8) : Statement (.spdmGetCertificate slot) := all _
theorem spdmChallenge (slot : Fin 8) (nonce : List Byte) : Statement (.spdmChallenge slot nonce) := all _
theorem spdmGetMeasurements (idx : Byte) (nonce : List Byte) : Statement (.spdmGetMeasurements idx nonce) := all _
theorem containerVerify (cls : BitVec 4) : Statement (.containerVerify cls) := all _
theorem verifyEnd : Statement (.verifyEnd) := all _
theorem arbAdvance (cls : BitVec 4) (svn : BitVec 6) : Statement (.arbAdvance cls svn) := all _
theorem arbAdvanceEnd : Statement (.arbAdvanceEnd) := all _
theorem keyRevoke (slot : Fin 4) : Statement (.keyRevoke slot) := all _
theorem secLock : Statement (.secLock) := all _
theorem gen (ns : Fin 64) : Statement (.gen ns) := all _
theorem keyLoad (ns : Fin 64) : Statement (.keyLoad ns) := all _
theorem clear (ns : Fin 64) : Statement (.clear ns) := all _
theorem keyOperationEnd : Statement (.keyOperationEnd) := all _
theorem eflUnlock (key : Word) : Statement (.eflUnlock key) := all _
theorem program (g : Agent) (count : BitVec 7) : Statement (.program g count) := all _
theorem eraseRow (g : Agent) : Statement (.eraseRow g) := all _
theorem eraseBlock (g : Agent) : Statement (.eraseBlock g) := all _
theorem blankCheck (g : Agent) (count : BitVec 7) : Statement (.blankCheck g count) := all _
theorem massErase (g : Agent) : Statement (.massErase g) := all _
theorem eflCommandEnd (good : Bool) : Statement (.eflCommandEnd good) := all _
theorem suspend : Statement (.suspend) := all _
theorem suspendTakeEffect : Statement (.suspendTakeEffect) := all _
theorem eraseResume : Statement (.eraseResume) := all _
theorem eflashWindowRead (g : Agent) (off : BitVec 24) : Statement (.eflashWindowRead g off) := all _
theorem rdpRaise (g : Agent) (target : BitVec 2) : Statement (.rdpRaise g target) := all _
theorem rdpLower (g : Agent) : Statement (.rdpLower g) := all _
theorem conversionRequest (m : BitVec 16) : Statement (.conversionRequest m) := all _
theorem sensorScan : Statement (.sensorScan) := all _
theorem aonSensorScan : Statement (.aonSensorScan) := all _
theorem conversionEnd (temp : BitVec 12) : Statement (.conversionEnd temp) := all _
theorem throttleWindow : Statement (.throttleWindow) := all _
theorem restartWaitEnd : Statement (.restartWaitEnd) := all _
theorem calEn (v : Bool) : Statement (.calEn v) := all _
theorem calItemDue (n : Fin 64) : Statement (.calItemDue n) := all _
theorem calDue (n : Fin 64) : Statement (.calDue n) := all _
theorem calMeasurementStart : Statement (.calMeasurementStart) := all _
theorem calMeasurementEnd (n : Fin 64) (v : Option (BitVec 16)) : Statement (.calMeasurementEnd n v) := all _
theorem calSubmit (v : BitVec 16) : Statement (.calSubmit v) := all _
theorem calDiscard : Statement (.calDiscard) := all _
theorem calStarve (n : Fin 64) : Statement (.calStarve n) := all _
theorem evrEn : Statement (.evrEn) := all _
theorem evrScanEnd : Statement (.evrScanEnd) := all _
theorem eventEntry (code : BitVec 16) (a0 a1 a2 : Word) : Statement (.eventEntry code a0 a1 a2) := all _
theorem eventSubmit (code : BitVec 16) (keep : Bool) : Statement (.eventSubmit code keep) := all _
theorem recordProgram : Statement (.recordProgram) := all _
theorem operatingMinuteEnd : Statement (.operatingMinuteEnd) := all _
theorem freezeTimeout : Statement (.freezeTimeout) := all _
theorem eventClear (key : BitVec 16) (areas : BitVec 2) : Statement (.eventClear key areas) := all _
theorem plvEn (v : Bool) (diesGood : Bool) (ppb blocks : BitVec 16) : Statement (.plvEn v diesGood ppb blocks) := all _
theorem powerLossDetect : Statement (.powerLossDetect) := all _
theorem energyOkFall : Statement (.energyOkFall) := all _
theorem vaultPageProgrammed (good : Bool) : Statement (.vaultPageProgrammed good) := all _
theorem dumpEnd : Statement (.dumpEnd) := all _
theorem railsOff : Statement (.railsOff) := all _
theorem mirEn (v : Bool) : Statement (.mirEn v) := all _
theorem hello (pos : Bool) (term : Option (Byte × Bool)) (protMib : BitVec 10) : Statement (.hello pos term protMib) := all _
theorem writeFrame (h : FrameHdr) (data : List Byte) : Statement (.writeFrame h data) := all _
theorem servoFrame (h : FrameHdr) (x : ServoImage) : Statement (.servoFrame h x) := all _
theorem keyFrame (h : FrameHdr) (wrapped : List Byte) : Statement (.keyFrame h wrapped) := all _
theorem idleFrame (h : FrameHdr) : Statement (.idleFrame h) := all _
theorem ackTimeout : Statement (.ackTimeout) := all _
theorem resync : Statement (.resync) := all _
theorem resyncEnd : Statement (.resyncEnd) := all _
theorem keyExchange (ns : Fin 64) : Statement (.keyExchange ns) := all _
theorem autoTakeover : Statement (.autoTakeover) := all _
theorem takeoverLinesHigh : Statement (.takeoverLinesHigh) := all _
theorem takeoverAbandon : Statement (.takeoverAbandon) := all _
theorem fenced (low : Bool) : Statement (.fenced low) := all _
theorem ownLineChange (line : Fin 5) (high : Bool) : Statement (.ownLineChange line high) := all _
theorem pcieLinkUp (p : Port) (speed : Fin 6) (width : Fin 5) : Statement (.pcieLinkUp p speed width) := all _
theorem medlarLinkUp : Statement (.medlarLinkUp) := all _
theorem resetNRelease (straps : BitVec 5) : Statement (.resetNRelease straps) := all _
theorem perstRelease (p : Port) : Statement (.perstRelease p) := all _
theorem attentionButtonRelease : Statement (.attentionButtonRelease) := all _
theorem coalescingTimeExpiry (p : Port) (vec : Fin 1025) : Statement (.coalescingTimeExpiry p vec) := all _
theorem crystalFailure : Statement (.crystalFailure) := all _
theorem retractWaitEnd : Statement (.retractWaitEnd) := all _

end Sys2Proof.Laws.NoWord
end

