-- ==== Sys2Proof/Laws/Quince.lean ====
section
/-!
SUPPORT. Laws/Quince.lean: what a Quince row does on an engine whose word it is, and on any other; what reading a coefficient or a state word does.
-/
namespace Sys2Proof.Machine

/-- Reading a word of an array touches no engine and no value in force. -/
@[simp] theorem sramRead_eng (s : State) (a w : Nat) : (s.sramRead a w).2.eng = s.eng := by
  unfold State.sramRead
  dsimp only
  split
  · rfl
  · split <;> exact State.event_eng _ _ _ _ _

@[simp] theorem sramRead_force (s : State) (a w : Nat) : (s.sramRead a w).2.force = s.force := by
  unfold State.sramRead
  dsimp only
  split
  · rfl
  · split <;> exact State.event_force _ _ _ _ _

@[simp] theorem sramRead_qe (s : State) (a w n : Nat) : (s.sramRead a w).2.qe n = s.qe n := by simp [State.qe]

/-- A RUNNING engine executes the instruction of its word, its program counter advanced. -/
theorem qeFetch_ready {s : State} {n w : Nat} {g : State → Quince → State} (h : s.qeReady n w = true) :
    s.qeFetch n w g = g (s.qeFetched n) (s.qe n).next := by
  simp only [State.qeReady, Bool.and_eq_true, beq_iff_eq, bne_iff_ne] at h
  simp [State.qeFetch, State.qeStep, h.1.1, h.1.2, h.2, Quince.next, State.qeFetched]

/-- An engine that is not RUNNING executes nothing. -/
theorem qeFetch_still {s : State} {n w : Nat} {g : State → Quince → State} (h : s.qeState n ≠ 2) : s.qeFetch n w g = s := by
  simp [State.qeFetch, State.qeStep, h]

/-- An uncorrectable program word faults the engine. -/
theorem qeFetch_bad {s : State} {n w : Nat} {g : State → Quince → State} (h : s.qeState n = 2)
    (h2 : (s.sramRead 0x0C (n * 1024 + (s.qe n).pc)).1 = 2) : s.qeFetch n w g = (s.qeFetched n).qeFault n 1 := by
  simp [State.qeFetch, State.qeStep, h, h2, State.qeFetched]

/-- A word that is another instruction's. -/
theorem qeFetch_other {s : State} {n w : Nat} {g : State → Quince → State} (h : s.qeState n = 2)
    (h2 : (s.sramRead 0x0C (n * 1024 + (s.qe n).pc)).1 ≠ 2) (h3 : Tbl.get (s.qe n).prog 0 (s.qe n).pc ≠ w) : s.qeFetch n w g = s := by
  simp [State.qeFetch, State.qeStep, h, h2, h3]

/-- Every row of one Quince instruction is the fetch of its word. -/
theorem qeRow_exec {c : Instr} {n w : Nat} (h : qeRow c = some (n, w)) :
    ∃ g : State → Quince → State, ∀ s, exec c s = .next (s.qeFetch n w g) := by
  cases c <;> simp only [qeRow, Option.some.injEq, Prod.mk.injEq, reduceCtorEq] at h <;> obtain ⟨rfl, rfl⟩ := h <;>
    exact ⟨_, fun _ => rfl⟩

theorem qePut_inside {s : State} {n : Nat} {q : Quince} (h : q.pc < 1024) : s.qePut n q = s.setQe n q := by
  simp [State.qePut, h]

/-- Reading a coefficient: the instruction waits for its array, faults on an uncorrectable word, or has the value. -/
theorem qeCoef_eq (s : State) (n k : Nat) (g : State → Int → State) : s.qeCoef n k g =
    if s.initBusy 0x0D = true then s else if (s.coefRead n k).1 = 2 then (s.coefRead n k).2.qeFault n 2 else g (s.coefRead n k).2 (s.coefAt n k) := by
  simp only [State.qeCoef, State.qeWait, State.coefRead, State.coefAt, State.coefIx, sramRead_qe]
  rfl

theorem qeWord_eq (s : State) (n k : Nat) (g : State → Int → State) : s.qeWord n k g =
    if s.initBusy 0x0E = true then s else if (s.wordRead n k).1 = 2 then (s.wordRead n k).2.qeFault n 3 else g (s.wordRead n k).2 (s.wordAt n k) := by
  simp only [State.qeWord, State.qeWait, State.wordRead, State.wordAt, sramRead_qe]
  rfl

end Sys2Proof.Machine
end

