-- ==== Sys2Proof/Laws/Serving.lean ====
section
/-!
SUPPORT. Laws/Serving.lean: a step of the command that is being served takes effect.
-/
namespace Sys2Proof.Machine

theorem State.onCmd_serving {s : State} {t opc : Nat} {admin : Bool} (h : s.serving t admin opc = true) (g : Cmd → State) :
    s.onCmd t admin opc g = g (s.cmd t) := by
  unfold State.onCmd
  exact if_pos h

theorem State.onIo_serving {s : State} {t opc : Nat} (h : s.serving t false opc = true) (l : List Nat) (hl : l.contains opc = true)
    (g : Cmd → State) : s.onIo t l g = g (s.cmd t) := by
  simp only [State.serving, Bool.and_eq_true, beq_iff_eq] at h
  obtain ⟨⟨⟨⟨h1, h5⟩, h2⟩, h3⟩, h4⟩ := h
  simp only [State.onIo, h1, h2, h3, h5, hl, h4, Bool.not_false, Bool.and_self, if_true]

/-- A step of a command that is not being served does nothing. -/
theorem State.onCmd_idle {s : State} {t opc : Nat} {admin : Bool} (h : s.serving t admin opc = false) (g : Cmd → State) :
    s.onCmd t admin opc g = s := by
  unfold State.onCmd
  exact if_neg (by simpa [State.serving] using h)

theorem State.onIo_idle {s : State} {t : Nat} {l : List Nat} (h : ∀ o, l.contains o = true → s.serving t false o = false) (g : Cmd → State) :
    s.onIo t l g = s := by
  unfold State.onIo
  refine if_neg fun hc => ?_
  simp only [Bool.and_eq_true, Bool.not_eq_eq_eq_not, Bool.not_true] at hc
  obtain ⟨⟨⟨⟨h1, h5⟩, h2⟩, h3⟩, h4⟩ := hc
  have := h _ h3
  simp [State.serving, h1, h2, h5, h4] at this

/-- The same for a step of one opcode. -/
theorem State.onIo_idle_one {s : State} {t opc : Nat} (h : s.serving t false opc = false) (g : Cmd → State) : s.onIo t [opc] g = s :=
  State.onIo_idle (fun o ho => by simp at ho; exact ho ▸ h) g

/-- A host read of no bytes sends nothing; one within a payload sends one completion. -/
theorem State.sendRead_none (s : State) (p a k : Nat) : s.sendRead p a k 0 = s := by
  cases k <;> rfl

theorem State.sendRead_one (s : State) (p a k n : Nat) (h : n ≤ s.payload p) (h0 : 0 < n) :
    s.sendRead p a (k + 1) n = (let x := s.fetchMarked (.host (Fin.ofNat 2 p)) a n; x.2.2.send (.cplTlp p 0 x.1 (x.2.1.any id))) := by
  rw [State.sendRead, if_neg (by omega), Nat.min_eq_right h]
  simp only [Nat.sub_self]
  exact State.sendRead_none _ _ _ _

end Sys2Proof.Machine
end

