-- ==== Sys2Proof/Laws/Wf.lean ====
section
/-!
SUPPORT. Laws/Wf.lean: the shared updates keep a state well formed (Safety.lean).
-/
namespace Sys2Proof.Machine

/-- Setting a field's entry keeps the register table's form. -/
theorem Regs.wf_set (t : Tbl Nat) (x : Fld) (i v : Nat) (hi : i < 2048) (h : Regs.wf t = true) :
    Regs.wf (Tbl.set t (x.resetAt i) (x.key i) (v % 2 ^ x.width)) = true := by
  unfold Regs.wf at *
  rw [Bool.and_eq_true, List.all_eq_true] at *
  have e : x.resetAt i = keyReset (x.key i) := by simp [keyReset, hi, Fld.key_mod]
  refine ⟨?_, ?_⟩
  · rw [e]; exact Tbl.wf_set keyReset t _ _ h.1
  · intro y hy
    rcases Tbl.set_mem _ _ _ _ y hy with ⟨rfl, -⟩ | hy
    · simpa [hi] using Nat.mod_lt _ (Nat.two_pow_pos _)
    · exact h.2 y hy

theorem Regs.wf_filter (t : Tbl Nat) (p : Nat × Nat → Bool) (h : Regs.wf t = true) : Regs.wf (t.filter p) = true := by
  unfold Regs.wf at *
  rw [Bool.and_eq_true, List.all_eq_true] at *
  exact ⟨Tbl.wf_filter _ _ _ h.1, fun e he => h.2 e (List.mem_filter.mp he).1⟩

/-- Storing bytes keeps memory's form. -/
theorem Memory.wf_setBytes (m : List Host.Cell) (a : Nat) (d : List Byte) (h : Memory.wf m = true) : Memory.wf (setBytes m a d) = true := by
  induction d generalizing m a with
  | nil => exact h
  | cons b r ih => exact ih _ _ (Tbl.wf_set (fun _ => 0) m a b h)

theorem Memory.wf_filter (m : List Host.Cell) (p : Host.Cell → Bool) (h : Memory.wf m = true) : Memory.wf (m.filter p) = true :=
  Tbl.wf_filter _ _ _ h

theorem Flash.wf_eflSetBytes (m : Tbl Byte) (o : Nat) (d : List Byte) (h : Flash.wf m = true) : Flash.wf (eflSetBytes m o d) = true := by
  induction d generalizing m o with
  | nil => exact h
  | cons b r ih => exact ih _ _ (Tbl.wf_set (fun _ => 0xFF) m o b h)

/-- What State.Wf reads. -/
theorem State.Wf.of_eq {s t : State} (h : s.Wf) (hr : t.regs = s.regs) (hf : t.force = s.force) (hm : t.mem = s.mem)
    (he : t.efl.mem = s.efl.mem) : t.Wf := ⟨hr ▸ h.regs, hf ▸ h.force, hm ▸ h.mem, he ▸ h.flash⟩

theorem State.setF_Wf {s : State} (h : s.Wf) (x : Fld) (i v : Nat) : (s.setF x i v).Wf := by
  unfold State.setF
  split
  · next hi => exact ⟨Regs.wf_set _ x i v hi h.regs, h.force, h.mem, h.flash⟩
  · exact h

theorem State.setG_Wf {s : State} (h : s.Wf) (x : Fld) (i v : Nat) : (s.setG x i v).Wf := by
  unfold State.setG
  split
  · next hi => exact ⟨h.regs, Regs.wf_set _ x i v hi h.force, h.mem, h.flash⟩
  · exact h

theorem State.resetFlds_Wf {s : State} (h : s.Wf) (p : Nat → Bool) : (s.resetFlds p).Wf :=
  ⟨Regs.wf_filter _ _ h.regs, Regs.wf_filter _ _ h.force, h.mem, h.flash⟩

theorem State.setMem_Wf {s : State} (h : s.Wf) (a : Nat) (d : List Byte) : ({ s with mem := setBytes s.mem a d } : State).Wf :=
  ⟨h.regs, h.force, Memory.wf_setBytes _ _ _ h.mem, h.flash⟩

/-- A fold of updates that each keep the form keeps it. -/
theorem State.foldl_Wf {α : Type} (g : State → α → State) (hg : ∀ t a, t.Wf → (g t a).Wf) (l : List α) {s : State} (h : s.Wf) :
    (l.foldl g s).Wf := by
  induction l generalizing s with
  | nil => exact h
  | cons a r ih => exact ih (hg s a h)

end Sys2Proof.Machine
end

