-- ==== Sys2Proof/Tests/Slice0.lean ====
section
/-!
SUPPORT. Tests/Slice0.lean: checks of the model's own work: ill-formed commands refused by WellFormed, values the manual gives,
and states that meet the hypotheses of the statements.
-/
set_option maxRecDepth 100000
set_option Elab.async false
namespace Sys2Proof.Tests
open Sys2Proof.Machine

/-! Ill-formed commands, one for each check of WellFormed. -/

theorem test_wf_register_write : Instr.wf (.registerWrite .debug 0 3 ⟨0, false⟩) = false := by decide
theorem test_wf_tags : Instr.wf (.completionTlp 0 1024 [] true false false) = false ∧ Instr.wf (.completionTimeout 0 1024) = false ∧
    Instr.wf (.quarantineHoldExpiry 0 1024) = false ∧ Instr.wf (.translationCompletion 0 1024 4096 0 true true) = false := by decide
theorem test_wf_completion_length : Instr.wf (.completionTlp 0 0 (List.replicate 4097 0) true false false) = false := by decide +kernel
theorem test_wf_windows : Instr.wf (.cmbWrite 0 0 [] false) = false ∧ Instr.wf (.cmbRead 0 0 4097) = false ∧
    Instr.wf (.peerWindowWrite 0 0 [] true false) = false ∧ Instr.wf (.peerWindowRead 0 0x3FFFFFF 2) = false := by decide
theorem test_wf_page_sizes : Instr.wf (.translationCompletion 0 0 4095 0 true true) = false ∧ Instr.wf (.invalidateRequest 0 0 0 5000) = false := by decide
theorem test_wf_ranges : Instr.wf (.commandIntake 0 1 { opc := 9, cid := 0, nsid := 1, slba := 0, nlb := 0, fua := false, ranges := List.replicate 257 (0, 1), selectAll := false, deallocate := true, pract := false, prchk := 0, reserved := false }) = false := by
  decide +kernel
theorem test_wf_log_pages : Instr.wf (.getLogPage 0 2 1 4) = false ∧ Instr.wf (.ledgerLogPage 0 0 0) = false ∧ Instr.wf (.bootChainLogPage 0 0 6) = false ∧
    Instr.wf (.eventLogPage 0 2 4) = false ∧ Instr.wf (.firmwareImageDownload 0 0 0 [0]) = false := by decide
theorem test_wf_blocks : Instr.wf (.write 0 [[]] ⟨none, .ok, .ok⟩) = false ∧ Instr.wf (.read 0 [[0]] ⟨.ok, .ok⟩) = false ∧ Instr.wf (.compare 0 [[0]] [] ⟨.ok, .ok⟩) = false ∧
    Instr.wf (.compare 0 [] [[0]] ⟨.ok, .ok⟩) = false ∧ Instr.wf (.verify 0 [[]] ⟨.ok, .ok⟩) = false ∧ Instr.wf (.zoneAppend 0 [[]] ⟨none, .ok, .ok⟩) = false := by decide
theorem test_wf_bramble : Instr.wf (.brambleAccess (.core 0) 127 (some [0, 0]) false) = false ∧ Instr.wf (.brambleAccess (.core 0) 0 (some []) false) = false := by decide
theorem test_wf_samples : Instr.wf (.qeTrigger 0 (List.replicate 33 0)) = false ∧ Instr.wf (.readRaw 0 (List.replicate 6145 0)) = false := by decide +kernel
theorem test_wf_decode_end : Instr.wf (.decodeEnd 0 0 (some [])) = false := by decide
theorem test_wf_security : Instr.wf (.debugReset (List.replicate 8257 0)) = false ∧ Instr.wf (.spdmChallenge 0 []) = false ∧
    Instr.wf (.spdmGetMeasurements 0 []) = false ∧ Instr.wf (.keyFrame { crcOk := true, seq := 0, ack := 0, nak := false, poison := 0, term := 0, tag := 0, addr := 0 } []) = false := by decide +kernel
theorem test_wf_write_frame : Instr.wf (.writeFrame { crcOk := true, seq := 0, ack := 0, nak := false, poison := 0, term := 0, tag := 0, addr := 0 } [0]) = false := by decide

/-! Values that the manual's examples and tables give. -/

/-- The outermost zone of H0 (the example after R229): 783 sectors, the last group's parity at position 782, 759 data sectors. -/
theorem test_zone_example : 560 * (55920 - 3500) / 37488 = 783 ∧ isParity 783 782 = true ∧ parityPos 783 23 = 782 ∧ dataAt 781 + 1 = 759 ∧
    isParity 783 32 = true ∧ isParity 783 33 = false := by decide

/-- The formatter microword of the example after R191 passes the load check: COND2 branch, ABORT_REQ and TIMEOUT, wait for LANE_READY of 2,000. -/
theorem test_microword_example : wordOk 0 0x200200000401407D00000000080000000000 = true := by decide +kernel

/-- The state after reset with every power domain on. -/
def on : State := State.reset.setF .SUP_DOM_ON_ON 0 0x3FFF

/-- QE0 RUNNING with this word at its program counter. -/
def qrun (w : Nat) : State := (on.setF .ENG_QE_CTRL_STATE 0 2).setQe 0 { prog := Tbl.set [] 0 0 w }

/-- A peer message from peer 0 to peer 0, version 0b01, with its CRC (R65). -/
def peerMsg : List Byte := ([0x00, 0x40] ++ List.replicate 58 0) ++ leBytes 4 (crc32c ([0x00, 0x40] ++ List.replicate 58 0))

/-- A read of block 0 of namespace 1, identifier 9. -/
def sqe : Sqe := { opc := 2, cid := 9, nsid := 1, slba := 0, nlb := 0, fua := false, ranges := [], selectAll := false, deallocate := false, pract := false, prchk := 0, reserved := false }

/-- The two states of an append of a ZONE_WP record of zeros to an empty log. -/
def blog : State × State :=
  let s := (on.setF .BTL_CTRL_EN 0 1).setF .BTL_MLOG_SIZE_LOG2 0 10
  let m := s.f .BTL_MSEQ_LO_NEXT_LO 0 + 2 ^ 32 * s.f .BTL_MSEQ_HI_NEXT_HI 0
  let r := recBytes m 6 0 (List.replicate 20 0)
  let u := (s.wr (s.mlogBase + 32 * 0) r).setFs 0 [(.BTL_MLOG_TAIL_INDEX, (0 + 1) % s.mlogSize), (.BTL_MSEQ_LO_NEXT_LO, m + 1), (.BTL_MSEQ_HI_NEXT_HI, (m + 1) / 2 ^ 32)]
  (u, (u.recApply r).updBtl (fun x => { x with group := [] }))


/-- Sequencer n runs. -/
def run (n : Nat) : State := on.setF .ENG_CS_STAT_STATE n 1

/-- The same holding the descriptor at entry 0 of ring 0, with opcode o. -/
def item (n o : Nat) : State := (run n).updCs n (fun q => { q with item := some { words := [o], src := .ring 0 0 } })

/-- Sequencer 24 runs with the command of tag slot 3 in hand. -/
def hand (c : Cmd) : State := ((run 24).setCmd 3 c).updCs 24 (fun q => { q with item := some { words := [1], src := .intake 3 } })

/-- Wedge sequencer 32 runs and the servo is enabled. -/
def wedge : State := (run 32).setF .SRV_CTRL_EN 0 1

/-- Lane 0 performs a read of sector 0 of track 5 of head 0. -/
def reading (o : Nat) : State :=
  (item 0 o).updLane 0 (fun x => { x with op := some { owner := .ring 0 0, opc := o, head := 0, track := 5, first := 0, count := 1, addr := 0, lba := 0, check := false, next := 0 } })

/-- The separation of H12 and H13 in the example after R267: 45 tracks, so IN2 reads -11,520 and IN3 +11,520. -/
theorem test_mate_separation :
    let s := ((on.setF .SRV_HEAD_RADOFS 12 3).setF .SRV_HEAD_RADOFS 13 0xFE).setF .SRV_ACT_STAT_MODE 2 5
    let s := s.updAct 2 (fun x => { x with target := { opc := 0x13, slot := 0, track := 1200040, mate := some (1, 1200090) } })
    s.separation 2 = 45 ∧ (s.fineInputs 2 0 0).take 4 = [0, 0, 0x10000 - 11520, 11520] := by decide +kernel

/-- Sensor 5 at 125.25 °C trips (the example after R381): TRIPS 1, a warm reset with cause bit 6. -/
theorem test_thermal_trip :
    (match exec (.conversionEnd 1002) (on.setF .THM_CONV_PEND 0 0x20) with
     | .next t => t.f .THM_TRIP_A_TRIPS 0 == 1 && t.f .THM_TRIP_A_SENSOR 0 == 5 && bit t.sup.causes 6
     | _ => false) = true := by decide +kernel

/-- -1 x -1 = +1 in an accumulator, exactly (R268): 2^31; STH of it saturates and sets SF (R269). -/
theorem test_q15_corner :
    let q : Quince := { prog := [(0, 0x1C000000), (1, 0x60400000)], x := [(0, 0x8000)], coef := [(0, 0x8000)] }
    let s := (on.setF .ENG_QE_CTRL_STATE 0 2).setQe 0 q
    (match exec (.qMpy 0 false 0 0) s with
     | .next t => (t.qe 0).acc false == 2 ^ 31 && (match exec (.qSth 0 1 false) t with
       | .next u => (u.qe 0).reg 1 == 32767 && (u.qe 0).sf
       | _ => false)
     | _ => false) = true := by decide +kernel

/-- No row of the table has bits: no word spells a command. -/
theorem test_decode_none : decodeTableWord 32 0xFFFFFFFF = none ∧ State.reset.withFetchWord 32 0 = State.reset := ⟨rfl, rfl⟩

/-- The front command runs, and the queue's rest stays. -/
theorem test_step_front :
    (match step { on with pending := [.secLock, .commit .zt] } with
     | .next t => t.b .SEC_LOCK_LOCK 0 && t.pending == [.commit .zt]
     | _ => false) = true := by decide +kernel

/-- The hypotheses of IdleStepCountsTime can be met, clause by clause. -/
theorem witness_IdleStepCountsTime :
    (∃ (s : State), (s.pending = [])) ∧
    (∃ (s : State), (s.pending = []) ∧ (s.b .BUF_BRM_CTRL_DISABLE_PENDING 0 = false)) :=
  ⟨⟨State.reset, by decide +kernel⟩,
   ⟨State.reset, by decide +kernel⟩⟩

/-- The hypotheses of StepKeepsWf can be met, clause by clause. -/
theorem witness_StepKeepsWf :
    (∃ (s : State) (t : State), (s.Wf) ∧ (step s = .next t)) :=
  ⟨State.reset, State.reset.tick, by exact ⟨⟨rfl, rfl, rfl, rfl⟩, rfl⟩⟩

/-- The hypotheses of FieldReadsWhatWasSet can be met, clause by clause. -/
theorem witness_FieldReadsWhatWasSet :
    (∃ (i : Nat), (i < 2048)) ∧
    (∃ (i : Nat), (i < 2048)) :=
  ⟨⟨1, by decide +kernel⟩,
   ⟨1, by decide +kernel⟩⟩

/-- The hypotheses of MemoryReadsWhatWasWritten can be met, clause by clause. -/
theorem witness_MemoryReadsWhatWasWritten :
    (∃ (s : State) (a : Nat) (d : List Byte), (s.paired = false) ∧ (inWork a d.length = true) ∧ (s.protOffset a = none)) ∧
    (∃ (s : State) (a : Nat) (d : List Byte), (s.paired = false) ∧ (s.inDram a d.length = true) ∧ (s.b .BUF_BRM_CTRL_EN 0 = false) ∧ (s.buf.err = []) ∧ (s.protOffset a = none)) ∧
    (∃ (s : State) (a : Nat), ((s.protOffset a).isSome = true) ∧ (s.b .PLV_STATUS_FROZEN 0 = true)) :=
  ⟨⟨State.reset, 0x10000000, [1], by decide +kernel⟩,
   ⟨State.reset, 0x100000000, [1], by decide +kernel⟩,
   ⟨((State.reset.setF .PLV_PROT_HI_BASE_HI 0 1).setF .PLV_STATUS_FROZEN 0 1), 0x100000000, by decide +kernel⟩⟩

/-- The hypotheses of RegisterWriteClasses can be met, clause by clause. -/
theorem witness_RegisterWriteClasses :
    (∃ (g : Agent) (a : Nat) (s : State), (s.mayWrite g a 4 = true) ∧ (inRegs a = true) ∧ (a % 4 = 0) ∧ (s.blkOn (blkAt a).1 (blkAt a).2 = true) ∧ (fieldsAt (blkAt a).1 a ≠ [])) ∧
    (∃ (g : Agent) (a : Nat) (s : State), (s.mayWrite g a 4 = true) ∧ (inRegs a = true) ∧ (a % 4 = 0) ∧ (s.blkOn (blkAt a).1 (blkAt a).2 = false)) ∧
    (∃ (n : Core) (a : Nat) (size : Nat) (s : State), (s.pmpAllows n a size 1 = true) ∧ (inRegs a = true) ∧ (size ≠ 4 ∨ a % 4 ≠ 0 ∨ (s.blkOn (blkAt a).1 (blkAt a).2 = true ∧ emptyReg a = true))) ∧
    (∃ (n : Core) (a : Nat) (size : Nat) (s : State), (s.pmpAllows n a size 1 = false)) ∧
    (∃ (a : Nat) (s : State), (s.dbg 2 = false) ∧ (inRegs a = true)) ∧
    (∃ (p : Port) (s : State), (s.dom 3 = true) ∧ (s.portOk p = true)) ∧
    (∃ (g : Agent) (n : Cs) (p : Port), (g = .seq n ∨ g = .hepDma p ∨ g = .link)) ∧
    (∃ (s : State) (x : Fld) (y : Fld) (i : Nat) (v : Nat), (x.info.cls = .s) ∧ (i < 2048) ∧ (s.f x i ≠ v) ∧ (s.held4 x i = true) ∧ (y.info.cls = .s)) ∧
    (∃ (s : State) (x : Fld) (i : Nat) (v : Nat), (s.held4 x i = false) ∧ ((x ≠ .CAL_ICFG_MEAS ∧ x ≠ .CAL_ICFG_DEST) ∨ v ≠ 3) ∧ (s.f x i ≠ v)) ∧
    (∃ (s : State) (x : Fld) (y : Fld) (i : Nat) (v : Nat), (x.info.cls = .b) ∧ (i < 2048) ∧ (s.f x i ≠ v) ∧ (s.b x.guard i = true) ∧ (y.info.cls = .b)) ∧
    (∃ (s : State) (x : Fld) (i : Nat) (v : Nat), (s.f x i ≠ v) ∧ (s.b x.guard i = false)) ∧
    (∃ (s : State) (g : Agent) (x : Fld) (i : Nat) (v : Nat), (x.opBit = none) ∧ (s.ownField g x i (bits v x.info.hi x.info.lo) v = none)) :=
  ⟨⟨.core 0, 0x40A00000, State.reset, by decide +kernel⟩,
   ⟨.core 0, 0x40000000, State.reset, by decide +kernel⟩,
   ⟨0, 0x40A00001, 4, State.reset, by decide +kernel⟩,
   ⟨0, 0x40A00000, 4, (State.reset.setCore 0 { user := true }), by decide +kernel⟩,
   ⟨0x40A00000, State.reset, by decide +kernel⟩,
   ⟨0, on, by decide +kernel⟩,
   ⟨.link, 0, 0, by decide +kernel⟩,
   ⟨(State.reset.setF .CIU_CTRL_EN 0 1), .CIU_CFG_MAX_INFLIGHT, .CIU_CFG_MAX_INFLIGHT, 0, 7, by decide +kernel⟩,
   ⟨State.reset, .CIU_CFG_MAX_INFLIGHT, 0, 7, by decide +kernel⟩,
   ⟨(State.reset.setF .EFL_RDCFG_COMMIT_PEND 0 1), .EFL_RDCFG_WS, .EFL_RDCFG_WS, 0, 9, by decide +kernel⟩,
   ⟨State.reset, .EFL_RDCFG_WS, 0, 9, by decide +kernel⟩,
   ⟨State.reset, .debug, .CIU_STATUS_CFG_ERR, 0, 1, by decide +kernel⟩⟩

/-- The hypotheses of CommitAndBoundary can be met, clause by clause. -/
theorem witness_CommitAndBoundary :
    (∃ (g : Group) (x : Fld), (x ∈ groupShadows g)) :=
  ⟨.rdcfg, .EFL_RDCFG_WS, by decide +kernel⟩

/-- The hypotheses of AccessesWithNoEffectOfTheirOwn can be met, clause by clause. -/
theorem witness_AccessesWithNoEffectOfTheirOwn :
    (∃ (p : Pair) (s : State), (s.blkOn (pairBlk p) 0 = true)) ∧
    (∃ (p : Pair) (s : State), (s.blkOn (pairBlk p) 0 = false)) ∧
    (∃ (g : Agent), (∀ p, g ≠ .host p)) ∧
    (∃ (a : Addr) (s : State), (0x40000000 ≤ a.toNat) ∧ (a.toNat < 0x41200000) ∧ (s.blkOn (blkAt a.toNat).1 (blkAt a.toNat).2 = false)) ∧
    (∃ (b : Blk) (s : State), (Tbl.get s.dev.unstartSeen false b.num = false)) ∧
    (∃ (b : Blk) (s : State), (Tbl.get s.dev.unstartSeen false b.num = true)) :=
  ⟨⟨.aont, State.reset, by decide +kernel⟩,
   ⟨.plvImg, State.reset, by decide +kernel⟩,
   by exact ⟨.core 0, fun p h => by cases h⟩,
   ⟨0x40000000, State.reset, by decide +kernel⟩,
   ⟨.hep, State.reset, by decide +kernel⟩,
   ⟨.hep, { State.reset with dev := { unstartSeen := [(0, true)] } }, by decide +kernel⟩⟩

/-- The hypotheses of EventsEnterTheRecorder can be met, clause by clause. -/
theorem witness_EventsEnterTheRecorder :
    (∃ (s : State) (code : Nat), (s.evrMuted code = false) ∧ (s.b .EVR_STATUS_READY 0 = true) ∧ (s.evrLimit code = 0 ∨ Tbl.get s.evr.entered 0 code < s.evrLimit code) ∧ (s.evr.queue.length < 64)) ∧
    (∃ (s : State) (code : Nat), (s.evrMuted code = false) ∧ (s.b .EVR_STATUS_READY 0 = true) ∧ (s.evrLimit code ≠ 0) ∧ (s.evrLimit code ≤ Tbl.get s.evr.entered 0 code)) ∧
    (∃ (s : State) (code : Nat), (s.evrMuted code = true)) ∧
    (∃ (s : State) (code : Nat), (s.evrMuted code = false) ∧ (s.evrLimit code = 0) ∧ (s.evr.queue.length = 64)) ∧
    (∃ (x : Fld), (x.info.blk ≠ .evr)) :=
  ⟨⟨(State.reset.setF .EVR_STATUS_READY 0 1), 0x2001, by decide +kernel⟩,
   ⟨({ State.reset with evr := { entered := [(0x2001, 255)] } }.setF .EVR_STATUS_READY 0 1).setF .EVR_CFG_DEF_LIMIT 0 5, 0x2001, by decide +kernel⟩,
   ⟨(State.reset.setF .EVR_CODE_CODE 20 0x2001).setF .EVR_CODE_LIMIT 20 0xFF, 0x2001, by decide +kernel⟩,
   ⟨({ State.reset with evr := { queue := List.replicate 64 { seq := 0, opMin := 0, cycles := 0, code := 0, flags := 0, secs := 0, a0 := 0, a1 := 0, a2 := 0 } } }.setF .EVR_CFG_DEF_LIMIT 0 0), 0x2001, by decide +kernel⟩,
   ⟨.HEP_CTRL_EN, by decide +kernel⟩⟩

/-- The hypotheses of HostPortControl can be met, clause by clause. -/
theorem witness_HostPortControl :
    (∃ (p : Nat) (s : State), (s.b .HEP_CTRL_EN p = false)) ∧
    (∃ (p : Port) (s : State) (x : Fld), (s.dom 3 = true) ∧ (s.portOk p = true) ∧ (x ≠ .HEP_PW_DROP_A_STRADDLE ∧ x ≠ .HEP_PW_DROP_A_FULL ∧ x ≠ .HEP_PW_DROP_B_CHECK ∧ x ≠ .HEP_PW_DROP_B_TIMEOUT)) ∧
    (∃ (p : Port) (s : State), (s.portOk p = true)) ∧
    (∃ (p : Port) (s : State) (speed : Fin 6) (width : Fin 5), (s.dom 3 = true) ∧ (s.portOk p = true) ∧ ((s.hp p).perst = false) ∧ (speed ≠ 0) ∧ (width = 1 ∨ width = 2 ∨ (width = 4 ∧ s.b .SUP_STRAP_PORT 0 = false))) :=
  ⟨⟨0, on, by decide +kernel⟩,
   ⟨0, on, .HEP_CTRL_EN, by decide +kernel⟩,
   ⟨0, on, by decide +kernel⟩,
   ⟨0, on, 5, 4, by decide +kernel⟩⟩

/-- The hypotheses of HostRequestsEnd can be met, clause by clause. -/
theorem witness_HostRequestsEnd :
    (∃ (p : Port) (s : State), (s.portOk p = true)) ∧
    (∃ (p : Nat) (tag : Nat) (s : State), ((s.hp p).reqs.find? (fun r => r.tag == tag) = none) ∧ ((s.hp p).quar.find? (fun q => q.tag == tag) = none)) ∧
    (∃ (p : Nat) (tag : Nat) (s : State) (r : HostReq), ((s.hp p).reqs.find? (fun r => r.tag == tag) = some r) ∧ ((s.hp p).quar.any (fun q => q.tag == tag) = false)) ∧
    (∃ (p : Nat) (tag : Nat) (dst : Nat) (cs : Nat) (s : State) (r : HostReq), (r.kind = .data tag dst cs) ∧ ((s.hp p).xwait = []) ∧ (s.tagLive tag = true) ∧ ((s.cmd (tag / 8)).live = true)) ∧
    (∃ (p : Nat) (tag : Nat) (data : List Byte) (s : State) (r : HostReq), ((s.hp p).reqs.find? (fun r => r.tag == tag) = some r) ∧ ((s.hp p).quar.any (fun q => q.tag == tag) = false) ∧ (data.length < r.remaining) ∧ (r.kind.fetches = true)) ∧
    (∃ (p : Nat) (tag : Nat) (s : State) (r : HostReq), ((s.hp p).reqs.find? (fun r => r.tag == tag) = some r) ∧ ((s.hp p).quar.any (fun q => q.tag == tag) = false)) ∧
    (∃ (p : Nat) (tag : Nat) (data : List Byte) (s : State) (q : Quar), ((s.hp p).reqs.find? (fun r => r.tag == tag) = none) ∧ ((s.hp p).quar.find? (fun q => q.tag == tag) = some q) ∧ (q.remaining ≤ data.length)) ∧
    (∃ (p : Port) (tag : Nat) (page : Nat) (s : State) (r : HostReq) (inv : List (Nat × Nat)), (s.portOk p = true) ∧ ((s.hp p).reqs.find? (fun r => r.tag == tag) = some r) ∧ (r.kind = .xlate page inv)) ∧
    (∃ (p : Nat) (s : State), ((s.hp p).ats = true)) ∧
    (∃ (p : Port) (s : State) (e : Atc), (s.portOk p = true) ∧ (e ∈ s.hep.atc)) ∧
    (∃ (p : Port) (s : State) (i : Nat) (r : List Nat), (s.portOk p = true) ∧ ((s.hp p).inval = i :: r)) ∧
    (∃ (p : Port) (s : State), (s.portOk p = true)) :=
  ⟨⟨0, on, by decide +kernel⟩,
   ⟨0, 7, on, by decide +kernel⟩,
   ⟨0, 7, (on.setHp 0 { reqs := [{ tag := 7, kind := .xlate 0 [], addr := 0, remaining := 1, got := [], cto := 0, via := none, holds := [] }] }), { tag := 7, kind := .xlate 0 [], addr := 0, remaining := 1, got := [], cto := 0, via := none, holds := [] }, by decide +kernel⟩,
   ⟨0, 8, 0, 0, (on.setCmd 1 { live := true }), { tag := 7, kind := .data 8 0 0, addr := 0, remaining := 1, got := [], cto := 0, via := none, holds := [] }, by decide +kernel⟩,
   ⟨0, 7, [1], (on.setHp 0 { reqs := [{ tag := 7, kind := .sqe 0 24 0 false, addr := 0, remaining := 64, got := [], cto := 0, via := none, holds := [] }] }), { tag := 7, kind := .sqe 0 24 0 false, addr := 0, remaining := 64, got := [], cto := 0, via := none, holds := [] }, by decide +kernel⟩,
   ⟨0, 7, (on.setHp 0 { reqs := [{ tag := 7, kind := .sqe 0 24 0 false, addr := 0, remaining := 64, got := [], cto := 0, via := none, holds := [] }] }), { tag := 7, kind := .sqe 0 24 0 false, addr := 0, remaining := 64, got := [], cto := 0, via := none, holds := [] }, by decide +kernel⟩,
   ⟨0, 7, [1], (on.setHp 0 { quar := [{ tag := 7, remaining := 1, quiet := false }] }), { tag := 7, remaining := 1, quiet := false }, by decide +kernel⟩,
   ⟨0, 7, 3, (on.setHp 0 { reqs := [{ tag := 7, kind := .xlate 3 [], addr := 0, remaining := 8, got := [], cto := 0, via := none, holds := [] }] }), { tag := 7, kind := .xlate 3 [], addr := 0, remaining := 8, got := [], cto := 0, via := none, holds := [] }, [], by decide +kernel⟩,
   ⟨0, (on.setHp 0 { ats := true }), by decide +kernel⟩,
   ⟨0, (on.updHep (fun h => { h with atc := [{ port := 0, start := 0, size := 4096, host := 0, rd := true, wr := true }] })), { port := 0, start := 0, size := 4096, host := 0, rd := true, wr := true }, by decide +kernel⟩,
   ⟨0, (on.setHp 0 { inval := [1] }), 1, [], by decide +kernel⟩,
   ⟨0, on, by decide +kernel⟩⟩

/-- The hypotheses of CmbAndPeerWindow can be met, clause by clause. -/
theorem witness_CmbAndPeerWindow :
    (∃ (p : Port) (s : State), (s.portOk p = true) ∧ (s.b .BUF_STATUS_READY 0 = true)) ∧
    (∃ (p : Port) (s : State), (s.portOk p = true) ∧ (s.b .BUF_STATUS_READY 0 = false)) ∧
    (∃ (p : Port) (len : Nat) (s : State), (s.portOk p = true) ∧ (s.b .BUF_STATUS_READY 0 = true) ∧ (0 < len) ∧ (len ≤ s.payload p)) ∧
    (∃ (p : Port) (s : State), (s.portOk p = true) ∧ (s.b .BUF_STATUS_READY 0 = false)) ∧
    (∃ (p : Port) (s : State), (s.portOk p = true)) ∧
    (∃ (p : Port) (off : BitVec 26) (data : List Byte) (s : State), (s.portOk p = true) ∧ (s.g .HEP_PW_CTRL_PW_EN p = 1) ∧ (off.toNat % 64 = 0) ∧ (data.length = 64)) ∧
    (∃ (p : Port) (s : State), (s.portOk p = true)) ∧
    (∃ (p : Nat) (block : Nat) (m : List Byte) (s : State), (s.peerOk p (block * 64 / 4096) m = true) ∧ ((s.f .HEP_PW_PROD_PROD p + 1) % 2 ^ s.g .HEP_PW_RING_SIZE_LOG2 p ≠ s.f .HEP_PW_CONS_CONS p) ∧ (p < 2)) ∧
    (∃ (p : Nat) (s : State), (p < 2) ∧ (s.f .HEP_PW_RING_LO_BASE_LO p ≠ s.g .HEP_PW_RING_LO_BASE_LO p ∨ s.f .HEP_PW_RING_SIZE_LOG2 p ≠ s.g .HEP_PW_RING_SIZE_LOG2 p)) :=
  ⟨⟨0, (on.setF .BUF_STATUS_READY 0 1), by decide +kernel⟩,
   ⟨0, on, by decide +kernel⟩,
   ⟨0, 4, (on.setF .BUF_STATUS_READY 0 1), by decide +kernel⟩,
   ⟨0, on, by decide +kernel⟩,
   ⟨0, on, by decide +kernel⟩,
   ⟨0, 0, List.replicate 64 0, (on.setG .HEP_PW_CTRL_PW_EN 0 1), by decide +kernel⟩,
   ⟨0, on, by decide +kernel⟩,
   ⟨0, 0, peerMsg, (on.setG .HEP_PW_RING_SIZE_LOG2 0 6), by decide +kernel⟩,
   ⟨0, (on.setF .HEP_PW_RING_SIZE_LOG2 0 7), by decide +kernel⟩⟩

/-- The hypotheses of VectorsButtonsAndHeads can be met, clause by clause. -/
theorem witness_VectorsButtonsAndHeads :
    (∃ (p : Port) (s : State), (s.portOk p = true)) ∧
    (∃ (p : Port) (s : State), (s.portOk p = true)) ∧
    (∃ (p : Port) (s : State), (s.portOk p = true)) ∧
    (∃ (t : Slot) (s : State), (s.serving t true 2 = true)) :=
  ⟨⟨0, on, by decide +kernel⟩,
   ⟨0, on, by decide +kernel⟩,
   ⟨0, on, by decide +kernel⟩,
   ⟨5, (on.setCmd 5 { live := true, admin := true, opc := 2 }), by decide +kernel⟩⟩

/-- The hypotheses of CommandIntakeAndRelease can be met, clause by clause. -/
theorem witness_CommandIntakeAndRelease :
    (∃ (s : State) (k : Nat) (n : Nat) (x : SubQ), (n = min (min x.waiting (s.grantRoom (k % 2048))) (if s.ciu.ab = 7 then x.waiting else 2 ^ s.ciu.ab))) ∧
    (∃ (t : Nat) (c : Cmd) (s : State) (u : State) (v : State) (w : State), (u = (s.tableUse 0x10).takeSlot.setCmd t c) ∧ (v = u.setInflight (u.f .CIU_OVL_STAT_INFLIGHT 0 + 1)) ∧ (w = if v.b .CIU_STATUS_LIMIT 0 = true then v.eventOnce 0x2003 0x2003 0 0 0 else v)) ∧
    (∃ (t : Slot) (s : State) (u : State), (u = s.setCmd t { s.cmd t with phase := .active })) ∧
    (∃ (t : Nat) (s : State), ((s.cmd t).reading = [])) :=
  ⟨⟨on, 1, 0, {}, by decide +kernel⟩,
   ⟨0, {}, on, ((on.tableUse 0x10).takeSlot.setCmd 0 {}), (((on.tableUse 0x10).takeSlot.setCmd 0 {}).setInflight 1), (((on.tableUse 0x10).takeSlot.setCmd 0 {}).setInflight 1), by exact ⟨rfl, by decide +kernel, by decide +kernel⟩⟩,
   by exact ⟨3, on, _, rfl⟩,
   ⟨3, on, by decide +kernel⟩⟩

/-- The hypotheses of ControllerQueuesAndEnables can be met, clause by clause. -/
theorem witness_ControllerQueuesAndEnables :
    (∃ (s : State), (s.dom 3 = true)) ∧
    (∃ (s : State), (s.dom 3 = true)) ∧
    (∃ (s : State), (s.dom 3 = true)) ∧
    (∃ (s : State), (s.dom 3 = false)) ∧
    (∃ (q : BitVec 11) (cid : BitVec 16) (s : State) (u : State), (s.dom 3 = true) ∧ (u = s.setFs 0 [(.CIU_ABT_REQ_CID, cid.toNat), (.CIU_ABT_REQ_SQID, q.toNat)])) :=
  ⟨⟨on, by decide +kernel⟩,
   ⟨on, by decide +kernel⟩,
   ⟨on, by decide +kernel⟩,
   ⟨State.reset, by decide +kernel⟩,
   ⟨1, 9, on, (on.setFs 0 [(.CIU_ABT_REQ_CID, 9), (.CIU_ABT_REQ_SQID, 1)]), by exact ⟨by decide +kernel, rfl⟩⟩⟩

/-- The hypotheses of LogPagesIdentifyAndFeatures can be met, clause by clause. -/
theorem witness_LogPagesIdentifyAndFeatures :
    (∃ (t : Slot) (s : State), (s.serving t true 2 = true)) ∧
    (∃ (a : Nat) (n : Nat) (s : State) (u : State) (d : List Byte) (bad : List Bool), (s.fetchMarked .link a n = (d, bad, u))) ∧
    (∃ (t : Slot) (s : State), (s.serving t true 2 = true)) ∧
    (∃ (t : Slot) (s : State), (s.serving t true 6 = true)) ∧
    (∃ (t : Slot) (fid : Byte) (v : Word) (s : State) (k : State), (s.serving t true 9 = true) ∧ (k = s.setCtrl (s.cmd t).port { s.ctrl (s.cmd t).port with features := Tbl.set (s.ctrl (s.cmd t).port).features 0 fid.toNat v.toNat })) ∧
    (∃ (t : Slot) (s : State), (s.serving t true 10 = true)) ∧
    (∃ (t : Slot) (s : State), (s.serving t true 12 = true)) ∧
    (∃ (t : Slot) (s : State), (s.serving t true 20 = true)) :=
  ⟨⟨3, (on.setCmd 3 { live := true, admin := true, opc := 2 }), by decide +kernel⟩,
   ⟨0, 0, on, on, [], [], by decide +kernel⟩,
   ⟨3, (on.setCmd 3 { live := true, admin := true, opc := 2 }), by decide +kernel⟩,
   ⟨3, (on.setCmd 3 { live := true, admin := true, opc := 6, nsid := 1 }), by decide +kernel⟩,
   ⟨3, 1, 5, (on.setCmd 3 { live := true, admin := true, opc := 9 }), (let s := on.setCmd 3 { live := true, admin := true, opc := 9 }; s.setCtrl 0 { s.ctrl 0 with features := Tbl.set (s.ctrl 0).features 0 1 5 }), by decide +kernel⟩,
   ⟨3, (on.setCmd 3 { live := true, admin := true, opc := 10 }), by decide +kernel⟩,
   ⟨3, (on.setCmd 3 { live := true, admin := true, opc := 12 }), by decide +kernel⟩,
   ⟨3, (on.setCmd 3 { live := true, admin := true, opc := 20 }), by decide +kernel⟩⟩

/-- The hypotheses of NamespacesFirmwareAndSecurity can be met, clause by clause. -/
theorem witness_NamespacesFirmwareAndSecurity :
    (∃ (t : Slot) (s : State), (s.serving t true 0x0D = true)) ∧
    (∃ (t : Slot) (s : State), (s.serving t true 0x0D = true)) ∧
    (∃ (t : Slot) (s : State), (s.serving t true 0x15 = true)) ∧
    (∃ (t : Slot) (s : State), (s.serving t true 0x80 = true)) ∧
    (∃ (t : Slot) (s : State), (s.serving t true 0x84 = true)) ∧
    (∃ (t : Slot) (s : State), (s.serving t true 0x11 = true)) ∧
    (∃ (t : Slot) (s : State) (active : Nat), (s.serving t true 0x10 = true) ∧ (s.bootControl.2.2.1 = active)) ∧
    (∃ (t : Slot) (s : State), (s.serving t true 0x10 = true)) ∧
    (∃ (t : Slot) (s : State), (s.serving t true 0x81 = true)) ∧
    (∃ (t : Slot) (s : State), (s.serving t true 0x82 = true)) :=
  ⟨⟨3, (on.setCmd 3 { live := true, admin := true, opc := 0x0D }), by decide +kernel⟩,
   ⟨3, (on.setCmd 3 { live := true, admin := true, opc := 0x0D }), by decide +kernel⟩,
   ⟨3, (on.setCmd 3 { live := true, admin := true, opc := 0x15 }), by decide +kernel⟩,
   ⟨3, (on.setCmd 3 { live := true, admin := true, opc := 0x80 }), by decide +kernel⟩,
   ⟨3, (on.setCmd 3 { live := true, admin := true, opc := 0x84 }), by decide +kernel⟩,
   ⟨3, (on.setCmd 3 { live := true, admin := true, opc := 0x11 }), by decide +kernel⟩,
   ⟨3, (on.setCmd 3 { live := true, admin := true, opc := 0x10 }), 0, by decide +kernel⟩,
   ⟨3, (on.setCmd 3 { live := true, admin := true, opc := 0x10 }), by decide +kernel⟩,
   ⟨3, (on.setCmd 3 { live := true, admin := true, opc := 0x81 }), by decide +kernel⟩,
   ⟨3, (on.setCmd 3 { live := true, admin := true, opc := 0x82 }), by decide +kernel⟩⟩

/-- The hypotheses of BlockCommands can be met, clause by clause. -/
theorem witness_BlockCommands :
    (∃ (t : Slot) (s : State), (s.serving t false 0 = true)) ∧
    (∃ (t : Nat) (off : BitVec 26) (s : State) (u : State) (r : Option (List (List Byte))), (s.cmbBlocks (s.cmd t).port off.toNat (hostBlock (s.cmd t).pract (s.nsp ((s.cmd t).nsid - 1)).fmt) ((s.cmd t).blocks - (s.cmd t).slots.length) = (r, u))) ∧
    (∃ (t : Nat) (i : Nat) (was : Nat) (blocks : List (List Byte)) (d : List (List Byte)) (s : State) (u : State) (v : State), (i = (s.cmd t).nsid - 1) ∧ (was = (s.cmd t).slots.length) ∧ (d = blocks.take ((s.cmd t).blocks - was)) ∧ (u = ((s.setCmd t { s.cmd t with moved := (s.cmd t).moved || ((s.cmd t).opc != 0x08 && !(d.take s.slotsFree).isEmpty) }).storeBlocks t i (s.nsp i).fmt (s.landing (s.cmd t) + was) (d.take s.slotsFree)).publishPieces t was) ∧ (v = u.setCmd t { u.cmd t with phase := .slots }) ∧ ((s.nsp i).zoned = false ∨ was ≠ 0)) ∧
    (∃ (t : Nat) (s : State), ((s.nsp ((s.cmd t).nsid - 1)).zoned = true) ∧ ((s.cmd t).slots = [])) ∧
    (∃ (t : Nat) (s : State) (sct : Nat) (sc : Nat), ((s.nsp ((s.cmd t).nsid - 1)).zoned = true) ∧ ((s.cmd t).slots = []) ∧ (s.zoneWriteStatus (s.cmd t) = some (sct, sc))) ∧
    (∃ (t : Nat) (ns : Nat) (fmt : Nat) (lba : Nat) (n : Nat) (d : List Byte) (s : State) (u : State), (n = s.findSlot 0) ∧ (u = (s.takeBuf n).wrTag (s.slotAddr n) (slotBytes fmt lba (s.encrypt ns lba (withPi (s.cmd t).pract fmt lba d))) (some (s.tagOf t)))) ∧
    (∃ (t : Slot) (media : List (List Byte)) (s : State) (u : State) (st : Option (Nat × Nat)) (l : List (List Byte × List Bool)), (s.serving t false 2 = true) ∧ (s.fetchBlocks (s.cmd t) media = (st, l, u))) ∧
    (∃ (t : Slot) (media : List (List Byte)) (s : State) (u : State) (st : Option (Nat × Nat)) (l : List (List Byte × List Bool)), (s.serving t false 5 = true) ∧ (s.fetchBlocks (s.cmd t) media = (st, l, u))) ∧
    (∃ (t : Slot) (media : List (List Byte)) (s : State) (u : State) (st : Option (Nat × Nat)) (l : List (List Byte × List Bool)), (s.serving t false 12 = true) ∧ (s.fetchBlocks (s.cmd t) media = (st, l, u))) ∧
    (∃ (c : Cmd) (media : List (List Byte)) (s : State) (l : List (List Byte × List Bool)) (bad : Bool) (gone : Bool) (u : State), (s.fetchFrom c media 0 c.blocks = (l, bad, gone, u))) ∧
    (∃ (t : Slot) (s : State), (s.serving t false 9 = true)) :=
  ⟨⟨3, (on.setCmd 3 { live := true, opc := 0 }), by decide +kernel⟩,
   ⟨3, 0, on, on, some [], by decide +kernel⟩,
   by exact ⟨3, _, _, [], _, (on.setCmd 3 { live := true, opc := 1 }), _, _, rfl, rfl, rfl, rfl, rfl, by decide +kernel⟩,
   by exact ⟨3, (on.setCmd 3 { live := true, opc := 1, nsid := 1 }).setNs 0 { zoned := true }, by decide +kernel, by decide +kernel⟩,
   ⟨3, ((on.setNs 0 { live := true, zoned := true }).setZone 0 0 { st := .full }).setCmd 3 { live := true, opc := 1, nsid := 1 }, 1, 0xB9, by decide +kernel⟩,
   ⟨3, 0, 0, 0, 0, [], on, ((on.takeBuf 0).wrTag (on.slotAddr 0) (slotBytes 0 0 (on.encrypt 0 0 [])) (some (on.tagOf 3))), by exact ⟨by decide +kernel, rfl⟩⟩,
   ⟨3, [], (on.setCmd 3 { live := true, opc := 2 }), (on.setCmd 3 { live := true, opc := 2 }), none, [], by decide +kernel⟩,
   ⟨3, [], (on.setCmd 3 { live := true, opc := 5 }), (on.setCmd 3 { live := true, opc := 5 }), none, [], by decide +kernel⟩,
   ⟨3, [], (on.setCmd 3 { live := true, opc := 12 }), (on.setCmd 3 { live := true, opc := 12 }), none, [], by decide +kernel⟩,
   ⟨{}, [], on, [], false, false, on, by decide +kernel⟩,
   ⟨3, (on.setCmd 3 { live := true, opc := 9 }), by decide +kernel⟩⟩

/-- The hypotheses of ZonesAndReservations can be met, clause by clause. -/
theorem witness_ZonesAndReservations :
    (∃ (t : Slot) (i : Nat) (n : Nat) (z : Zone) (s : State), (s.serving t false 0x79 = true) ∧ ((s.cmd t).selectAll = false) ∧ (i = (s.cmd t).nsid - 1) ∧ (n = (s.cmd t).slba / zoneSize) ∧ (z = s.zone i n)) ∧
    (∃ (t : Slot) (s : State), (s.serving t false 0x79 = true) ∧ ((s.cmd t).selectAll = true)) ∧
    (∃ (t : Slot) (i : Nat) (n : Nat) (first : Nat) (s : State), (s.serving t false 0x7A = true) ∧ (i = (s.cmd t).nsid - 1) ∧ (n = ((s.nsp i).blocks + zoneSize - 1) / zoneSize) ∧ (first = (s.cmd t).slba / zoneSize)) ∧
    (∃ (t : Slot) (s : State) (r : Resv) (k : Nat), (s.serving t false 0x0D = true) ∧ (s.resv ((s.cmd t).nsid - 1) = r) ∧ (r.key (s.cmd t).port = k)) ∧
    (∃ (t : Slot) (action : Fin 3) (rtype : Fin 8) (preempt : BitVec 64) (s : State) (u : State) (r : Resv) (x : Resv) (y : Resv) (p : Nat) (i : Nat) (hit : Bool), (s.serving t false 0x11 = true) ∧ (i = (s.cmd t).nsid - 1) ∧ (r = s.resv i) ∧ (p = (s.cmd t).port) ∧ (hit = (decide (r.key (1 - p) ≠ 0) && decide (r.key (1 - p) = preempt.toNat))) ∧ (x = (if hit = true then r.setKey (1 - p) 0 else r)) ∧ (y = (if (hit = true ∧ r.holder = 1 - p + 1) ∨ x.holder = p + 1 then { x with holder := p + 1, rtype := rtype.val } else x)) ∧ (u = (if action.val = 2 ∧ hit = true then ((s.ciu.cmd.filter (fun e => e.2.live && !e.2.admin && e.2.port == 1 - p && e.2.nsid == (s.cmd t).nsid)).map Prod.fst).foldl
     (fun v k => (v.abortFind (some (1 - p)) (v.cmd k).sq (v.cmd k).cid).2.2) s else s))) ∧
    (∃ (t : Slot) (s : State) (r : Resv), (s.serving t false 0x15 = true) ∧ (s.resv ((s.cmd t).nsid - 1) = r)) ∧
    (∃ (t : Slot) (r : Resv) (who : List Nat) (s : State), (s.serving t false 0x0E = true) ∧ (r = s.resv ((s.cmd t).nsid - 1)) ∧ (who = [0, 1].filter (fun p => r.key p != 0))) :=
  ⟨by exact ⟨3, _, _, _, ((on.setCmd 3 { live := true, opc := 0x79, nsid := 1 }).setZone 0 0 { st := .implicitOpen, wp := 5 }), by decide +kernel, by decide +kernel, rfl, rfl, rfl⟩,
   ⟨3, (on.setCmd 3 { live := true, opc := 0x79, nsid := 1, selectAll := true }), by decide +kernel⟩,
   by exact ⟨3, _, _, _, (on.setCmd 3 { live := true, opc := 0x7A, nsid := 1 }), by decide +kernel, rfl, rfl, rfl⟩,
   ⟨3, (on.setCmd 3 { live := true, opc := 0x0D, nsid := 1 }), {}, 0, by decide +kernel⟩,
   by exact ⟨3, 0, 1, 0, ((on.setCmd 3 { live := true, opc := 0x11, nsid := 1 }).setResv 0 { key0 := 7 }), _, _, _, _, _, _, _, by decide +kernel, rfl, rfl, rfl, rfl, rfl, rfl, rfl⟩,
   ⟨3, ((on.setCmd 3 { live := true, opc := 0x15, nsid := 1 }).setResv 0 { key0 := 7, holder := 1 }), { key0 := 7, holder := 1 }, by decide +kernel⟩,
   by exact ⟨3, _, _, (on.setCmd 3 { live := true, opc := 0x0E, nsid := 1 }), by decide +kernel, rfl, rfl⟩⟩

/-- The hypotheses of DramServiceAndRepair can be met, clause by clause. -/
theorem witness_DramServiceAndRepair :
    (∃ (s : State), (s.dom 2 = true)) ∧
    (∃ (s : State) (u : State), (u = s.scrubGranule (dramBase / 64 + s.buf.scrub))) :=
  ⟨⟨on, by decide +kernel⟩,
   ⟨on, on, by decide +kernel⟩⟩

/-- The hypotheses of BrambleAccessAndMaintenance can be met, clause by clause. -/
theorem witness_BrambleAccessAndMaintenance :
    (∃ (a : Addr) (s : State), (s.b .BUF_STATUS_READY 0 = false ∨ s.inDram a.toNat 1 = false)) ∧
    (∃ (s : State), (s.dbg 3 = false)) ∧
    (∃ (g : Agent) (a : Addr) (s : State), (s.b .BUF_STATUS_READY 0 = true) ∧ (s.inDram a.toNat 1 = true) ∧ (g ≠ .debug ∨ s.dbg 3 = true)) ∧
    (∃ (e : Evict) (l : List Evict), (∀ x ∈ l, x.issued = true) ∧ (e.issued = false)) ∧
    (∃ (s : State) (e : Evict) (r : List Evict), (s.buf.evq = e :: r)) ∧
    (∃ (op : Nat) (count : Nat) (setWay : Bool) (s : State) (u : State) (line : Nat) (la : Nat), (line = s.f .BUF_CMO_LINE_LINE 0) ∧ (la = s.f .BUF_CMO_ADDR_LO_ADDR_LO 0 + s.f .BUF_CMO_ADDR_HI_ADDR_HI 0 * 2 ^ 25) ∧ (u = s.setFs 0 [(.BUF_CMO_CTRL_COUNT, count), (.BUF_CMO_CTRL_OP, op), (.BUF_CMO_CTRL_MODE, setWay.toNat), (.BUF_CMO_CTRL_BUSY, 1)])) ∧
    (∃ (op : Nat), (op = 1 ∨ op = 2 ∨ op = 3)) ∧
    (∃ (s : State), (s.dom 2 = true)) ∧
    (∃ (s : State), (s.dom 2 = false)) ∧
    (∃ (s : State) (u : State) (v : State), (u = (s.buf.evq.map (fun e => e.addr)).foldl (fun x la => x.evictNow la) s) ∧ (v = ((u.buf.line.map Prod.fst).foldl (fun x n => x.cleanWay n) u).updBuf (fun b => { b with line := [], mru := [], pip := [], rind := [], evq := [], stream := [], walk := 0 }))) :=
  ⟨⟨0x100000000, on, by decide +kernel⟩,
   ⟨on, by decide +kernel⟩,
   ⟨.core 0, 0x100000000, (on.setFs 0 [(.BUF_STATUS_READY, 1), (.BUF_BRM_CTRL_EN, 1)]), by decide +kernel⟩,
   ⟨{ addr := 1, snap := { data := [], p0 := false, p1 := false }, issued := false }, [], by decide +kernel⟩,
   ⟨(on.setEvq [{ addr := 1, snap := { data := [], p0 := false, p1 := false }, issued := true }]), { addr := 1, snap := { data := [], p0 := false, p1 := false }, issued := true }, [], by decide +kernel⟩,
   ⟨1, 1, false, on, (on.setFs 0 [(.BUF_CMO_CTRL_COUNT, 1), (.BUF_CMO_CTRL_OP, 1), (.BUF_CMO_CTRL_MODE, 0), (.BUF_CMO_CTRL_BUSY, 1)]), 0, 0, by decide +kernel⟩,
   ⟨1, by decide +kernel⟩,
   ⟨(on.setF .BUF_BRM_CTRL_EN 0 1), by decide +kernel⟩,
   ⟨State.reset, by decide +kernel⟩,
   by exact ⟨on, _, _, rfl, rfl⟩⟩

/-- The hypotheses of SramArrays can be met, clause by clause. -/
theorem witness_SramArrays :
    (∃ (s : State), (s.dom 2 = true)) ∧
    (∃ (a : Nat) (s : State) (u : State), (a = s.opnd .BUF_SRAM_INIT_ARRAY) ∧ (u = (s.setB .BUF_SRAM_INIT_BUSY 0 false).updBuf (fun b => { b with sramErr := b.sramErr.filter (fun e => e.1 / 2 ^ 24 != a) }))) ∧
    (∃ (s : State), (s.dom 2 = true)) ∧
    (∃ (a : Nat) (row : Nat) (k : Nat) (r : Nat) (s : State) (u : State) (v : State) (w : State), (a = s.opnd .BUF_SPARE_ARRAY) ∧ (row = s.opnd .BUF_SPARE_ROW) ∧ (u = s.setB .BUF_SPARE_BUSY 0 false) ∧ (k = Tbl.get u.buf.spares 0 (spareKey (a, row))) ∧ (v = ((u.rowCopy a row).updBuf (fun b => { b with spares := Tbl.set b.spares 0 (spareKey (a, row)) (k + 1), soft := b.soft ++ [(a, row)] })).setF .BUF_SPARE_STAT_SOFT 0 (min 255 (u.f .BUF_SPARE_STAT_SOFT 0 + 1))) ∧ (r = (if (s.opnd .BUF_SPARE_PERM == 1 && decide (128 ≤ v.buf.fuseMap.length)) = true then 3 else 1)) ∧ (w = (if (s.opnd .BUF_SPARE_PERM == 1 && r == 1) = true then (v.updBuf (fun b => { b with fuseMap := b.fuseMap ++ [(a, row)] })).setF .BUF_SPARE_STAT_FUSED 0 (v.buf.fuseMap.length + 1) else v))) ∧
    (∃ (s : State), (s.dom 2 = true)) ∧
    (∃ (s : State), (s.dom 2 = false)) ∧
    (∃ (array : Nat) (word : Nat) (m : Nat) (s : State) (t : State), (m = Tbl.get s.buf.sramErr 0 (array * 2 ^ 24 + word)) ∧ (t = (s.setF .BUF_SRAM_ERR_ARRAY 0 array).setF .BUF_SRAM_WORD_WORD 0 word)) :=
  ⟨⟨on, by decide +kernel⟩,
   by exact ⟨_, on, _, rfl, rfl⟩,
   ⟨on, by decide +kernel⟩,
   by exact ⟨_, _, _, _, on, _, _, _, rfl, rfl, rfl, rfl, rfl, rfl, rfl⟩,
   ⟨on, by decide +kernel⟩,
   ⟨State.reset, by decide +kernel⟩,
   by exact ⟨5, 1, _, on, _, rfl, rfl⟩⟩

/-- The hypotheses of MapLogRecords can be met, clause by clause. -/
theorem witness_MapLogRecords :
    (∃ (s : State), (s.dom 4 = false)) ∧
    (∃ (typ : Nat) (flags : Byte) (body : List Byte) (s : State) (v : State) (r : Nat) (b : List Byte), (s.dom 4 = true) ∧ ((s.appPort typ flags.toNat body).append typ flags.toNat ((body ++ List.replicate 20 0).take 20) = (r, b, v))) ∧
    (∃ (s : State), (s.dom 4 = true)) ∧
    (∃ (s : State), (s.dom 4 = true)) :=
  ⟨⟨State.reset, by decide +kernel⟩,
   ⟨4, 0, [], on, ((on.appPort 4 0 []).append 4 0 (List.replicate 20 0)).2.2, 2, [], by exact ⟨by decide +kernel, Prod.ext (by decide +kernel) (Prod.ext (by decide +kernel) rfl)⟩⟩,
   ⟨on, by decide +kernel⟩,
   ⟨on, by decide +kernel⟩⟩

/-- The hypotheses of AppendsAndBandStates can be met, clause by clause. -/
theorem witness_AppendsAndBandStates :
    (∃ (typ : Nat) (flags : Nat) (tail : Nat) (gen : Nat) (mseq : Nat) (body : List Byte) (b : List Byte) (r : List Byte) (s : State) (u : State) (v : State) (w : State) (x : State), (tail = s.f .BTL_MLOG_TAIL_INDEX 0) ∧ (gen = s.f .BTL_GEN_LO_NEXT_LO 0 + 2 ^ 32 * s.f .BTL_GEN_HI_NEXT_HI 0) ∧ (mseq = s.f .BTL_MSEQ_LO_NEXT_LO 0 + 2 ^ 32 * s.f .BTL_MSEQ_HI_NEXT_HI 0) ∧ (b = (body ++ List.replicate 20 0).take 20) ∧ (r = recBytes mseq typ flags (if typ = 1 then patch b 12 (leBytes 6 gen) else b)) ∧ (u = (if [1, 2, 3, 4, 7].contains typ = true then s.touchBand (leAt r 8 4) else s)) ∧ (v = (if typ = 2 then u.touchBand (leAt r 12 4) else u)) ∧ (w = (v.wr (v.mlogBase + 32 * tail) r).setFs 0 [(.BTL_MLOG_TAIL_INDEX, (tail + 1) % (v.wr (v.mlogBase + 32 * tail) r).mlogSize), (.BTL_MSEQ_LO_NEXT_LO, mseq + 1), (.BTL_MSEQ_HI_NEXT_HI, (mseq + 1) / 2 ^ 32)]) ∧ (x = (if typ = 1 then w.setFs 0 [(.BTL_GEN_LO_NEXT_LO, gen + 1), (.BTL_GEN_HI_NEXT_HI, (gen + 1) / 2 ^ 32)] else w))) ∧
    (∃ (p : Nat) (r : List Byte), (p = leAt r 8 4)) :=
  ⟨by exact ⟨6, 1, _, _, _, [], _, _, State.reset, _, _, _, _, rfl, rfl, rfl, rfl, rfl, rfl, rfl, rfl, rfl⟩,
   ⟨0, [], by decide +kernel⟩⟩

/-- The hypotheses of CoresAndInterrupts can be met, clause by clause. -/
theorem witness_CoresAndInterrupts :
    (∃ (s : State), (s.dom 4 = true)) ∧
    (∃ (s : State), (s.dom 4 = true)) ∧
    (∃ (s : State), (s.dom 4 = false)) ∧
    (∃ (n : Core) (s : State) (u : State) (v : State), (u = s.wakeCores) ∧ (v = u.counted n)) ∧
    (∃ (n : Core) (dword : Bool) (s : State) (u : State) (v : State) (k : Nat), (u = s.wakeCores) ∧ (v = u.counted n) ∧ (k = (if dword = true then 8 else 4))) ∧
    (∃ (n : Nat) (a : Nat) (rd : Nat) (x : Nat) (k : Nat) (val : Nat) (g : Agent) (op : AmoOp) (dword : Bool) (d : List Byte) (s : State) (u : State) (v : State) (w : State), (k = (if dword = true then 8 else 4)) ∧ (val = x % 2 ^ (8 * k)) ∧ ((d, u) = s.fetch g a k) ∧ (v = (if u.poisoned a k = true then u.eccLog (a / 64) true else u)) ∧ (w = (if op = .sc then s.asCore n (fun s => s.wrTagBy g a (leBytes k val) none) else if op = .lr then u.setX n rd (loaded dword (ofLe d)) else u.asCore n (fun s => s.wrTagBy g a (leBytes k (amoValue op (8 * k) (ofLe d) val)) none)))) :=
  ⟨⟨on, by decide +kernel⟩,
   ⟨on, by decide +kernel⟩,
   ⟨State.reset, by decide +kernel⟩,
   ⟨0, on, on.wakeCores, (on.wakeCores.counted 0), by exact ⟨rfl, rfl⟩⟩,
   ⟨0, true, on, on.wakeCores, (on.wakeCores.counted 0), 8, by exact ⟨rfl, rfl, rfl⟩⟩,
   by exact ⟨0, 0x10000000, 1, 5, _, _, .core 0, .lr, true, _, on, _, _, _, rfl, rfl, rfl, rfl, rfl⟩⟩

/-- The hypotheses of SequencerControl can be met, clause by clause. -/
theorem witness_SequencerControl :
    (∃ (s : State), (s.dom 4 = true)) ∧
    (∃ (r : Nat) (s : State) (u : State), (r = s.eng.loadRes) ∧ (u = (s.setFs 0 [(.ENG_CSL_CTRL_BUSY, 0), (.ENG_CSL_STAT_DONE, 1), (.ENG_CSL_STAT_RESULT, r), (.ENG_CSL_STAT_BAD_ADDR, s.eng.loadBad), (.ENG_STATUS_LOAD_EV, 1)]).updEng (fun e => { e with loadRes := 0, loadBad := 0 }))) ∧
    (∃ (n : Cs) (entry : BitVec 12) (s : State) (u : State), (u = s.setF .ENG_CS_CTRL_ENTRY n entry.toNat)) ∧
    (∃ (s : State), (s.dom 4 = true)) ∧
    (∃ (s : State), (s.dom 4 = true)) ∧
    (∃ (s : State), (s.dom 4 = true)) ∧
    (∃ (s : State), (s.dom 4 = false)) ∧
    (∃ (n : Nat) (code : Nat), (n < 44) ∧ (code < 16)) :=
  ⟨⟨on, by decide +kernel⟩,
   by exact ⟨_, on, _, rfl, rfl⟩,
   by exact ⟨0, 5, on, _, rfl⟩,
   ⟨on, by decide +kernel⟩,
   ⟨on, by decide +kernel⟩,
   ⟨on, by decide +kernel⟩,
   ⟨State.reset, by decide +kernel⟩,
   ⟨43, 4, by decide +kernel⟩⟩

/-- The hypotheses of ScratchOperations can be met, clause by clause. -/
theorem witness_ScratchOperations :
    (∃ (n : Cs) (d : Fin 16) (r : Fin 16) (s : State) (x : Nat), (x = (s.sreg n d + 2 ^ 32 - s.sreg n r) % 2 ^ 32)) :=
  ⟨0, 0, 1, on, 0, by decide +kernel⟩

/-- The hypotheses of QuinceControl can be met, clause by clause. -/
theorem witness_QuinceControl :
    (∃ (n : Qe) (m : Nat) (s : State) (u : State), (s.dom 4 = true) ∧ (m = s.qeRole n) ∧ (u = ((s.setFs n [(.ENG_QE_CTRL_STATE, 1), (.ENG_QE_CTRL_FAULT, 0)]).setQe n { s.qe n with trigs := 0, stopPend := false }).softStart m)) ∧
    (∃ (s : State), (s.dom 4 = true)) ∧
    (∃ (m : BitVec 4) (bind : Bool) (on : Bool) (r : Nat) (s : State) (u : State), (s.dom 4 = true) ∧ (on = s.b .ENG_SPARE_QE_BIND 0) ∧ (r = (if on = true then s.f .ENG_SPARE_QE_REPLACES 0 else m.toNat)) ∧ (u = (s.setFs 0 [(.ENG_SPARE_QE_REPLACES, m.toNat), (.ENG_SPARE_QE_BIND, bind.toNat)]).setFs r [(.ENG_QE_CTRL_BOUND, bind.toNat), (.ENG_QE_CTRL_STATE, 0)])) ∧
    (∃ (s : State), (s.dom 4 = false)) ∧
    (∃ (n : Qe) (inputs : List (BitVec 16)) (m : Nat) (v : Nat → Nat) (s : State), (m = s.qeRole n) ∧ (v = (fun i => (inputs.map BitVec.toNat).getD i 0))) ∧
    (∃ (k : Nat) (s : State) (t : State), (t = s.qeTrigger k (s.thermalInputs (k - 8)))) ∧
    (∃ (m : Nat) (n : Nat) (s : State) (t : State), (n = s.qeOf m) ∧ (t = s.bankApply m)) :=
  ⟨⟨2, 2, on, (((on.setFs 2 [(.ENG_QE_CTRL_STATE, 1), (.ENG_QE_CTRL_FAULT, 0)]).setQe 2 { on.qe 2 with trigs := 0, stopPend := false }).softStart 2), by exact ⟨by decide +kernel, by decide +kernel, rfl⟩⟩,
   ⟨on, by decide +kernel⟩,
   ⟨3, true, false, 3, on, ((on.setFs 0 [(.ENG_SPARE_QE_REPLACES, 3), (.ENG_SPARE_QE_BIND, 1)]).setFs 3 [(.ENG_QE_CTRL_BOUND, 1), (.ENG_QE_CTRL_STATE, 0)]), by exact ⟨by decide +kernel, by decide +kernel, by decide +kernel, rfl⟩⟩,
   ⟨State.reset, by decide +kernel⟩,
   ⟨0, [], 0, (fun i => (([] : List (BitVec 16)).map BitVec.toNat).getD i 0), on, by exact ⟨by decide +kernel, rfl⟩⟩,
   ⟨9, on, (on.qeTrigger 9 (on.thermalInputs 1)), by rfl⟩,
   ⟨3, 3, on, (on.bankApply 3), by exact ⟨by decide +kernel, rfl⟩⟩⟩

/-- The hypotheses of QuinceRegisterInstructions can be met, clause by clause. -/
theorem witness_QuinceRegisterInstructions :
    (∃ (n : Qe) (s : State), (s.qeReady n (qWord 0x0 0 0 false 0) = true)) ∧
    (∃ (n : Qe) (a : Bool) (s : State), (s.qeReady n (qWord 0x1 0 0 a 0) = true)) ∧
    (∃ (n : Qe) (a : Bool) (x : Fin 16) (s : State), (s.qeReady n (qWord 0x2 0 x a 0) = true)) ∧
    (∃ (n : Qe) (a : Bool) (x : Fin 16) (t : Fin 16) (s : State), (s.qeReady n (qWord 0x3 0 x a t) = true)) ∧
    (∃ (n : Qe) (a : Bool) (x : Fin 16) (t : Fin 16) (s : State), (s.qeReady n (qWord 0xA 0 x a t) = true)) ∧
    (∃ (n : Qe) (a : Bool) (x : Fin 16) (t : Fin 16) (s : State), (s.qeReady n (qWord 0xB 0 x a t) = true)) ∧
    (∃ (n : Qe) (a : Bool) (s : State), (s.qeReady n (qWord 0xC 0 0 a 0) = true)) ∧
    (∃ (n : Qe) (a : Bool) (s : State), (s.qeReady n (qWord 0xD 0 0 a 0) = true)) ∧
    (∃ (n : Qe) (a : Bool) (sh : BitVec 4) (s : State), (s.qeReady n (qWord 0xE 0 0 a sh.toNat) = true)) ∧
    (∃ (n : Qe) (d : Fin 16) (x : Fin 16) (s : State), (s.qeReady n (qWord 0x10 d x false 0) = true)) ∧
    (∃ (n : Qe) (d : Fin 16) (imm : BitVec 16) (s : State), (s.qeReady n (qWord 0x11 d 0 false imm.toNat) = true)) ∧
    (∃ (n : Qe) (d : Fin 16) (p : Fin 32) (s : State), (s.qeReady n (qWord 0x13 d 0 false p) = true)) ∧
    (∃ (n : Qe) (x : Fin 16) (p : Fin 32) (s : State), (s.qeReady n (qWord 0x14 0 x false p) = true)) ∧
    (∃ (n : Qe) (d : Fin 16) (x : Fin 16) (t : Fin 16) (s : State), (s.qeReady n (qWord 0x15 d x false t) = true)) ∧
    (∃ (n : Qe) (d : Fin 16) (x : Fin 16) (t : Fin 16) (s : State), (s.qeReady n (qWord 0x16 d x false t) = true)) ∧
    (∃ (n : Qe) (d : Fin 16) (x : Fin 16) (t : Fin 16) (s : State), (s.qeReady n (qWord 0x17 d x false t) = true)) ∧
    (∃ (n : Qe) (d : Fin 16) (a : Bool) (s : State), (s.qeReady n (qWord 0x18 d 0 a 0) = true)) ∧
    (∃ (n : Qe) (d : Fin 16) (a : Bool) (s : State), (s.qeReady n (qWord 0x19 d 0 a 0) = true)) ∧
    (∃ (n : Qe) (d : Fin 16) (x : Fin 16) (s : State), (s.qeReady n (qWord 0x1B d x false 0) = true)) ∧
    (∃ (n : Qe) (d : Fin 16) (x : Fin 16) (t : Fin 16) (s : State), (s.qeReady n (qWord 0x1C d x false t) = true)) ∧
    (∃ (n : Qe) (d : Fin 16) (x : Fin 16) (t : Fin 16) (s : State), (s.qeReady n (qWord 0x1D d x false t) = true)) ∧
    (∃ (n : Qe) (x : Fin 16) (t : Fin 16) (s : State), (s.qeReady n (qWord 0x20 0 x false t) = true)) ∧
    (∃ (n : Qe) (a : Bool) (s : State), (s.qeReady n (qWord 0x21 0 0 a 0) = true)) :=
  ⟨⟨0, (qrun (qWord 0x0 0 0 false 0)), by decide +kernel⟩,
   ⟨0, true, (qrun (qWord 0x1 0 0 true 0)), by decide +kernel⟩,
   ⟨0, true, 3, (qrun (qWord 0x2 0 3 true 0)), by decide +kernel⟩,
   ⟨0, false, 3, 4, (qrun (qWord 0x3 0 3 false 4)), by decide +kernel⟩,
   ⟨0, false, 3, 4, (qrun (qWord 0xA 0 3 false 4)), by decide +kernel⟩,
   ⟨0, true, 3, 4, (qrun (qWord 0xB 0 3 true 4)), by decide +kernel⟩,
   ⟨0, true, (qrun (qWord 0xC 0 0 true 0)), by decide +kernel⟩,
   ⟨0, true, (qrun (qWord 0xD 0 0 true 0)), by decide +kernel⟩,
   ⟨0, true, 9, (qrun (qWord 0xE 0 0 true (9 : BitVec 4).toNat)), by decide +kernel⟩,
   ⟨0, 2, 3, (qrun (qWord 0x10 2 3 false 0)), by decide +kernel⟩,
   ⟨0, 2, 0x8000, (qrun (qWord 0x11 2 0 false (0x8000 : BitVec 16).toNat)), by decide +kernel⟩,
   ⟨0, 2, 31, (qrun (qWord 0x13 2 0 false 31)), by decide +kernel⟩,
   ⟨0, 2, 31, (qrun (qWord 0x14 0 2 false 31)), by decide +kernel⟩,
   ⟨0, 2, 3, 4, (qrun (qWord 0x15 2 3 false 4)), by decide +kernel⟩,
   ⟨0, 2, 3, 4, (qrun (qWord 0x16 2 3 false 4)), by decide +kernel⟩,
   ⟨0, 2, 3, 4, (qrun (qWord 0x17 2 3 false 4)), by decide +kernel⟩,
   ⟨0, 2, true, (qrun (qWord 0x18 2 0 true 0)), by decide +kernel⟩,
   ⟨0, 2, true, (qrun (qWord 0x19 2 0 true 0)), by decide +kernel⟩,
   ⟨0, 2, 3, (qrun (qWord 0x1B 2 3 false 0)), by decide +kernel⟩,
   ⟨0, 2, 3, 4, (qrun (qWord 0x1C 2 3 false 4)), by decide +kernel⟩,
   ⟨0, 2, 3, 4, (qrun (qWord 0x1D 2 3 false 4)), by decide +kernel⟩,
   ⟨0, 3, 4, (qrun (qWord 0x20 0 3 false 4)), by decide +kernel⟩,
   ⟨0, true, (qrun (qWord 0x21 0 0 true 0)), by decide +kernel⟩⟩

/-- The hypotheses of QuinceMemoryInstructions can be met, clause by clause. -/
theorem witness_QuinceMemoryInstructions :
    (∃ (n : Qe) (a : Bool) (x : Fin 16) (k : Byte) (s : State), (s.qeReady n (qWord 0x7 0 x a k.toNat) = true)) ∧
    (∃ (n : Qe) (a : Bool) (x : Fin 16) (k : Byte) (s : State), (s.qeReady n (qWord 0x8 0 x a k.toNat) = true)) ∧
    (∃ (n : Qe) (a : Bool) (x : Fin 16) (k : Byte) (s : State), (s.qeReady n (qWord 0x9 0 x a k.toNat) = true)) ∧
    (∃ (n : Qe) (d : Fin 16) (k : Byte) (s : State), (s.qeReady n (qWord 0x12 d 0 false k.toNat) = true)) ∧
    (∃ (n : Qe) (a : Bool) (k : Byte) (s : State), (s.qeReady n (qWord 0x4 0 0 a k.toNat) = true)) ∧
    (∃ (n : Qe) (a : Bool) (k : Byte) (s : State), (s.qeReady n (qWord 0x6 0 0 a k.toNat) = true)) ∧
    (∃ (n : Qe) (a : Bool) (k : Byte) (s : State), (s.qeReady n (qWord 0x5 0 0 a k.toNat) = true)) ∧
    (∃ (n : Qe) (a : Bool) (k : Byte) (s : State) (u : State) (v : State) (q : Quince) (lo : Int) (hi : Int) (m : Int), (s.qeReady n (qWord 0xF 0 0 a k.toNat) = true) ∧ (u = s.qeFetched n) ∧ (v = (u.coefRead n k.toNat).2) ∧ (q = (s.qe n).next) ∧ (lo = u.coefAt n k.toNat) ∧ (hi = v.coefAt n (k.toNat + 1)) ∧ (m = max (lo * 2 ^ 16) (min (hi * 2 ^ 16) (q.acc a)))) ∧
    (∃ (n : Qe) (d : Fin 16) (x : Fin 16) (k : Byte) (s : State) (u : State) (v : State) (q : Quince) (lo : Int) (hi : Int) (m : Int), (s.qeReady n (qWord 0x1A d x false k.toNat) = true) ∧ (u = s.qeFetched n) ∧ (v = (u.coefRead n k.toNat).2) ∧ (q = (s.qe n).next) ∧ (lo = u.coefAt n k.toNat) ∧ (hi = v.coefAt n (k.toNat + 1)) ∧ (m = max lo (min hi (q.reg x)))) :=
  ⟨⟨0, true, 3, 255, (qrun (qWord 0x7 0 3 true (255 : Byte).toNat)), by decide +kernel⟩,
   ⟨0, true, 3, 255, (qrun (qWord 0x8 0 3 true (255 : Byte).toNat)), by decide +kernel⟩,
   ⟨0, true, 3, 255, (qrun (qWord 0x9 0 3 true (255 : Byte).toNat)), by decide +kernel⟩,
   ⟨0, 3, 255, (qrun (qWord 0x12 3 0 false (255 : Byte).toNat)), by decide +kernel⟩,
   ⟨0, true, 255, (qrun (qWord 0x4 0 0 true (255 : Byte).toNat)), by decide +kernel⟩,
   ⟨0, true, 255, (qrun (qWord 0x6 0 0 true (255 : Byte).toNat)), by decide +kernel⟩,
   ⟨0, true, 255, (qrun (qWord 0x5 0 0 true (255 : Byte).toNat)), by decide +kernel⟩,
   ⟨0, true, 254, (qrun (qWord 0xF 0 0 true 254)), ((qrun (qWord 0xF 0 0 true 254)).qeFetched 0), (((qrun (qWord 0xF 0 0 true 254)).qeFetched 0).coefRead 0 254).2, ((qrun (qWord 0xF 0 0 true 254)).qe 0).next, 0, 0, 0, by refine ⟨by decide +kernel, rfl, rfl, rfl, by decide +kernel, by decide +kernel, by decide +kernel⟩⟩,
   ⟨0, 3, 4, 254, (qrun (qWord 0x1A 3 4 false 254)), ((qrun (qWord 0x1A 3 4 false 254)).qeFetched 0), (((qrun (qWord 0x1A 3 4 false 254)).qeFetched 0).coefRead 0 254).2, ((qrun (qWord 0x1A 3 4 false 254)).qe 0).next, 0, 0, 0, by refine ⟨by decide +kernel, rfl, rfl, rfl, by decide +kernel, by decide +kernel, by decide +kernel⟩⟩⟩

/-- The hypotheses of QuinceFlowAndEnd can be met, clause by clause. -/
theorem witness_QuinceFlowAndEnd :
    (∃ (n : Qe) (target : BitVec 10) (s : State), (s.qeReady n (qWord 0x22 0 0 false target.toNat) = true)) ∧
    (∃ (n : Qe) (cond : BitVec 4) (target : BitVec 10) (s : State), (s.qeReady n (qWord 0x23 cond.toNat 0 false target.toNat) = true)) ∧
    (∃ (n : Qe) (b : BitVec 4) (s : State), (s.qeReady n (qWord 0x24 0 0 false b.toNat) = true)) ∧
    (∃ (n : Qe) (s : State), (s.qeReady n (qWord 0x3F 0 0 false 0) = true)) ∧
    (∃ (c : Nat), (c ≤ 9)) ∧
    (∃ (n : Qe) (w : Nat) (s : State), (w = Tbl.get (s.qe n).prog 0 (s.qe n).pc)) ∧
    (∃ (c : Instr) (n : Nat) (w : Nat), (qeRow c = some (n, w))) ∧
    (∃ (n : Nat) (q : Quince) (s : State) (t : State) (u : State) (v : State) (m : Nat) (len : Nat), (m = s.qeRole n) ∧ (len = min 4095 q.count) ∧ (t = (s.setQe n { q with outp := q.outPend.foldl (fun t e => Tbl.set t 0 e.1 (e.2 - 1)) q.outp, outPend := [], stopPend := false }).setF .ENG_QE_CTRL_STATE n (if q.stopPend = true then 0 else 1)) ∧ (u = (t.setFs m [(.SRV_QE_STAT_LAST, len), (.SRV_QE_STAT_MAX, max len (t.f .SRV_QE_STAT_MAX m)), (.SRV_QE_STAT_CF, q.cf.toNat), (.SRV_QE_STAT_SF, q.sf.toNat)]).inc .SRV_QE_CNT_RUNS m 1) ∧ (v = (if q.cf = true then u.inc .SRV_QE_CNT_CLAMPS m 1 else u))) ∧
    (∃ (n : Nat) (c : Nat) (m : Nat) (s : State) (t : State), (m = s.qeRole n) ∧ (t = (((s.setQe n { s.qe n with outPend := [], stopPend := false }).setFs n [(.ENG_QE_CTRL_STATE, 3), (.ENG_QE_CTRL_FAULT, c)]).setB .ENG_STATUS_FAULT_EV 0 true).event 0x5003 n c 0)) :=
  ⟨⟨0, 1023, (qrun (qWord 0x22 0 0 false (1023 : BitVec 10).toNat)), by decide +kernel⟩,
   ⟨0, 9, 1023, (qrun (qWord 0x23 (9 : BitVec 4).toNat 0 false (1023 : BitVec 10).toNat)), by decide +kernel⟩,
   ⟨0, 15, (qrun (qWord 0x24 0 0 false (15 : BitVec 4).toNat)), by decide +kernel⟩,
   ⟨0, (qrun (qWord 0x3F 0 0 false 0)), by decide +kernel⟩,
   ⟨9, by decide +kernel⟩,
   ⟨0, (qWord 0x23 10 0 false 0), (qrun (qWord 0x23 10 0 false 0)), by decide +kernel⟩,
   ⟨(.qEnd 3), 3, (qWord 0x3F 0 0 false 0), by decide +kernel⟩,
   ⟨9, {}, on, ((on.setQe 9 {}).setF .ENG_QE_CTRL_STATE 9 1), ((((on.setQe 9 {}).setF .ENG_QE_CTRL_STATE 9 1).setFs 9 [(.SRV_QE_STAT_LAST, 0), (.SRV_QE_STAT_MAX, 0), (.SRV_QE_STAT_CF, 0), (.SRV_QE_STAT_SF, 0)]).inc .SRV_QE_CNT_RUNS 9 1), ((((on.setQe 9 {}).setF .ENG_QE_CTRL_STATE 9 1).setFs 9 [(.SRV_QE_STAT_LAST, 0), (.SRV_QE_STAT_MAX, 0), (.SRV_QE_STAT_CF, 0), (.SRV_QE_STAT_SF, 0)]).inc .SRV_QE_CNT_RUNS 9 1), 9, 0, by decide +kernel⟩,
   ⟨3, 5, 3, on, ((((on.setQe 3 { on.qe 3 with outPend := [], stopPend := false }).setFs 3 [(.ENG_QE_CTRL_STATE, 3), (.ENG_QE_CTRL_FAULT, 5)]).setB .ENG_STATUS_FAULT_EV 0 true).event 0x5003 3 5 0), by exact ⟨by decide +kernel, rfl⟩⟩⟩

/-- The hypotheses of FormatterCommands can be met, clause by clause. -/
theorem witness_FormatterCommands :
    (∃ (n : Cs) (s : State) (u : State), (u = s.issuing n laneCmd)) ∧
    (∃ (n : Nat) (l : Nat) (pma : Nat) (wr : Bool) (s : State) (t : State), (pma = s.sreg n 0 + 2 ^ 32 * s.sreg n 1) ∧ (t = s.armLane l (pmaHead pma) (pmaTrack pma) wr)) ∧
    (∃ (n : Cs) (s : State) (u : State) (v : State), (u = s.issuing n laneCmd) ∧ (v = (u.setDone n 0x41 false).setDone n 0x42 false)) ∧
    (∃ (n : Cs) (s : State) (u : State), (u = s.issuing n laneCmd)) ∧
    (∃ (n : Cs) (a : Nat) (s : State) (u : State) (v : State), (u = s.issuing n dmaCmd) ∧ (a = u.spair n 2) ∧ (v = (u.fetch (.seq n) a 4160).2)) :=
  ⟨⟨0, (run 0), ((run 0).issuing 0 laneCmd), by rfl⟩,
   ⟨0, 0, 0, true, (run 0), ((run 0).armLane 0 0 0 true), by exact ⟨by decide +kernel, rfl⟩⟩,
   ⟨0, (run 0), ((run 0).issuing 0 laneCmd), ((((run 0).issuing 0 laneCmd).setDone 0 0x41 false).setDone 0 0x42 false), by exact ⟨rfl, rfl⟩⟩,
   ⟨0, (run 0), ((run 0).issuing 0 laneCmd), by rfl⟩,
   by exact ⟨0, _, run 0, _, _, rfl, rfl, rfl⟩⟩

/-- The hypotheses of PostAndRingCommands can be met, clause by clause. -/
theorem witness_PostAndRingCommands :
    (∃ (n : Cs) (cls : Nat) (s : State) (u : State), (cls = (s.csClass n).getD 1) ∧ (u = s.issuing n (postBit cls))) ∧
    (∃ (n : Cs) (cls : Nat) (s : State) (u : State), (cls = (s.csClass n).getD 1) ∧ (u = s.issuing n (takeBit cls))) ∧
    (∃ (n : Nat) (r : Nat) (i : Nat) (t : Nat) (c : Chain) (d : Desc) (s : State), ((s.cs n).item = none) ∧ ((s.cs n).prev = some (r, i)) ∧ (s.csTarget n = some t) ∧ ((s.ring r).chains.find? (fun c => c.descs.any (fun d => d.idx == i)) = some c) ∧ (c.descs.find? (fun d => d.st != .done) = some d)) ∧
    (∃ (n : Nat) (s : State), ((s.cs n).item ≠ none ∨ (s.cs n).prev = none ∨ s.csTarget n = none)) ∧
    (∃ (n : Cs) (m : Nat) (s : State) (u : State), (u = s.issuing n unitCmd) ∧ (u.csAs n = some m)) ∧
    (∃ (n : Cs) (s : State) (u : State), (u = s.issuing n unitCmd)) ∧
    (∃ (n : Nat) (r : Nat) (s : State) (t : State) (u : State) (v : State), (t = s.updMwr (fun m => { m with last := Tbl.set m.last 0 (2 * (r % 8) + (if s.b .MWR_RING_CFG_PRIO r = true then 0 else 1)) r })) ∧ (u = (t.fetchChain r).updCs n (fun q => { q with desc := t.entryWords r (t.ringFetch r) })) ∧ (v = ((u.fetchSkip r (u.ring r).fin.length).roundEnd (r % 8)).setDone n 0x41 true)) ∧
    (∃ (r : Nat) (i : Nat) (c : Chain) (d : Desc) (s : State), (s.chainOf r i = some c) ∧ (c.descs.find? (fun d => d.st != .done) = some d)) ∧
    (∃ (r : Nat) (i : Nat) (s : State), (s.chainOf r i = none)) :=
  ⟨⟨36, 4, (item 36 33), ((item 36 33).issuing 36 (postBit 4)), by exact ⟨by decide +kernel, rfl⟩⟩,
   ⟨36, 4, (item 36 33), ((item 36 33).issuing 36 (takeBit 4)), by exact ⟨by decide +kernel, rfl⟩⟩,
   ⟨36, 0, 0, 12, { descs := [{ idx := 0, words := [], st := .done }, { idx := 1, words := [33], st := .waiting }] }, { idx := 1, words := [33], st := .waiting }, (((run 36).updCs 36 (fun q => { q with prev := some (0, 0) })).setRing 0 { chains := [{ descs := [{ idx := 0, words := [], st := .done }, { idx := 1, words := [33], st := .waiting }] }] }), by decide +kernel⟩,
   ⟨36, (run 36), by decide +kernel⟩,
   ⟨16, 16, (run 16), ((run 16).issuing 16 unitCmd), by exact ⟨rfl, by decide +kernel⟩⟩,
   ⟨16, (run 16), ((run 16).issuing 16 unitCmd), by rfl⟩,
   by exact ⟨16, 0, run 16, _, _, _, rfl, rfl, rfl⟩,
   ⟨0, 2, { descs := [{ idx := 2, words := [1], st := .waiting }] }, { idx := 2, words := [1], st := .waiting }, ((run 16).setRing 0 { chains := [{ descs := [{ idx := 2, words := [1], st := .waiting }] }] }), by decide +kernel⟩,
   ⟨0, 2, (run 16), by decide +kernel⟩⟩

/-- The hypotheses of HostCommands can be met, clause by clause. -/
theorem witness_HostCommands :
    (∃ (n : Cs) (s : State) (u : State), (u = s.issuing n unitCmd) ∧ (u.ciu.grants = [] ∨ (u.cs n).idle = false)) ∧
    (∃ (n : Cs) (q : Fin 1025) (g : Grant) (rest : List Grant) (p : Port) (s : State) (u : State) (v : State) (w : State), (u = s.issuing n unitCmd) ∧ (u.ciu.grants = g :: rest) ∧ ((u.cs n).idle = true) ∧ (g.p = p.val) ∧ (g.q = q.val) ∧ (v = ((((u.dropItem n).updCiu (fun c => { c with grants := rest })).setDone n 0x41 false).setDone n 0x46 false).setInflight (((u.dropItem n).updCiu (fun c => { c with grants := rest })).f .CIU_OVL_STAT_INFLIGHT 0 + 1)) ∧ (w = (if (u.sq p g.q).cmb = true then v.fetchCmb n p g else v.request p (.sqe g.q n g.order false) ((u.sq p g.q).base + 64 * g.i) 64))) ∧
    (∃ (n : Cs) (s : State) (u : State), (u = s.issuing n unitCmd) ∧ (u.itemSlot n = none)) ∧
    (∃ (n : Cs) (t : Nat) (c : Cmd) (f : Option (Nat × Nat) × List (List Byte × List Bool) × State) (s : State) (u : State) (v : State) (w : State), (u = s.issuing n unitCmd) ∧ (u.itemSlot n = some t) ∧ (c = u.cmd t) ∧ (c.posted = false) ∧ (c.phase = .hit) ∧ (f = u.fetchBlocks c []) ∧ (v = f.2.2.endReading t) ∧ (w = (if f.1.isSome = true then (v.sendBlocks c.port c.cid f.2.1).event 0x1006 0 0 0 else v.sendBlocks c.port c.cid f.2.1))) ∧
    (∃ (n : Cs) (t : Nat) (c : Cmd) (src : Addr) (len : Nat) (f : List Byte × List Bool × State) (s : State) (u : State) (v : State) (w : State), (u = s.issuing n unitCmd) ∧ (u.itemSlot n = some t) ∧ (c = u.cmd t) ∧ (c.phase ≠ .hit) ∧ (f = u.fetchMarked (.seq n) src.toNat len) ∧ (v = (f.2.2.sendMarked c.port c.cid f.1 f.2.1).event 0x1006 0 0 0) ∧ (w = f.2.2.sendData c.port c.cid f.1 false)) ∧
    (∃ (n : Cs) (t : Nat) (c : Cmd) (s : State) (u : State), (u = s.issuing n unitCmd) ∧ (u.itemSlot n = some t) ∧ (c = u.cmd t) ∧ (c.posted = true)) ∧
    (∃ (n : Cs) (t : Nat) (c : Cmd) (s : State) (u : State), (u = s.issuing n unitCmd) ∧ (u.itemSlot n = some t) ∧ (c = u.cmd t)) ∧
    (∃ (off : Nat) (c : Cmd) (m : Option (List (List Byte)) × State) (s : State), (m = s.cmbBlocks c.port off (hostBlock c.pract (s.nsp (c.nsid - 1)).fmt) 1)) ∧
    (∃ (t : Nat) (lba : Nat) (dst : Nat) (c : Cmd) (d : List Byte) (fmt : Nat) (k : Nat) (s : State) (u : State) (v : State) (w : State), (u = s.setCmd t { c with moved := true }) ∧ (fmt = (s.nsp (c.nsid - 1)).fmt) ∧ (v = u.wrTag dst (slotBytes fmt lba (u.encrypt (c.nsid - 1) lba (withPi c.pract fmt lba d))) (some (u.tagOf t))) ∧ (k = (dst - v.slotAddr 0) / 4160) ∧ (w = (v.takeBuf k).setCmd t { v.cmd t with slots := (v.cmd t).slots ++ [k] })) ∧
    (∃ (n : Cs) (p : Nat) (q : Nat) (i : Nat) (st : Nat) (w : List Nat) (s : State) (u : State), (u = s.issuing n unitCmd) ∧ ((u.cs n).item = some { words := w, src := .sqe p q i }) ∧ (st = u.sreg n 13)) ∧
    (∃ (n : Cs) (t : Nat) (st : Nat) (c : Cmd) (w : List Nat) (s : State) (u : State), (u = s.issuing n unitCmd) ∧ ((u.cs n).item = some { words := w, src := .intake t }) ∧ (st = u.sreg n 13) ∧ (c = u.cmd t)) ∧
    (∃ (n : Cs) (s : State) (u : State), (u = s.issuing n unitCmd)) :=
  ⟨by exact ⟨24, run 24, _, rfl, by decide +kernel⟩,
   by exact ⟨24, 1, { p := 0, q := 1, i := 0, order := 0 }, [], 0, (run 24).updCiu (fun c => { c with grants := [{ p := 0, q := 1, i := 0, order := 0 }] }), _, _, _, rfl, by decide +kernel, by decide +kernel, rfl, rfl, rfl, rfl⟩,
   by exact ⟨24, run 24, _, rfl, by decide +kernel⟩,
   by exact ⟨24, 3, _, _, hand { live := true, sq := 1, cid := 9, phase := .hit }, _, _, _, rfl, by decide +kernel, rfl, by decide +kernel, by decide +kernel, rfl, rfl, rfl⟩,
   by exact ⟨24, 3, _, 0, 16, _, hand { live := true, sq := 1, cid := 9 }, _, _, _, rfl, by decide +kernel, rfl, by decide +kernel, rfl, rfl, rfl⟩,
   by exact ⟨24, 3, _, hand { live := true, sq := 1, cid := 9, posted := true }, _, rfl, by decide +kernel, rfl, by decide +kernel⟩,
   by exact ⟨24, 3, _, hand { live := true, sq := 1, cid := 9 }, _, rfl, by decide +kernel, rfl⟩,
   by exact ⟨0, {}, _, on, rfl⟩,
   by exact ⟨3, 0, 0, { live := true }, [1], _, _, hand { live := true, sq := 1, cid := 9 }, _, _, _, rfl, rfl, rfl, rfl, rfl⟩,
   by exact ⟨24, 0, 1, 0, _, [2], (run 24).updCs 24 (fun q => { q with item := some { words := [2], src := .sqe 0 1 0 } }), _, rfl, by decide +kernel, rfl⟩,
   by exact ⟨24, 3, _, _, [1], hand { live := true, sq := 1, cid := 9 }, _, rfl, by decide +kernel, rfl, rfl⟩,
   by exact ⟨24, run 24, _, rfl⟩⟩

/-- The hypotheses of TagAndLedgerCommands can be met, clause by clause. -/
theorem witness_TagAndLedgerCommands :
    (∃ (n : Cs) (w : List Nat) (p : Nat) (q : Nat) (o : Nat) (cid : Nat) (s : State) (u : State), (u = s.issuing n tagCmd) ∧ ((u.cs n).item = some { words := w, src := .sqe p q o }) ∧ (cid = dw w 0 / 2 ^ 16 % 2 ^ 16)) ∧
    (∃ (n : Nat) (t : Nat) (p : Nat) (q : Nat) (o : Nat) (w : List Nat) (s : State) (u : State), (u = ((s.tableUse 0x10).takeSlot.setCmd t { sqeCmd (sqeOf w) p q o with cls := 0, seen := false }).updCs n (fun x => { x with item := some { words := w, src := .intake t } }))) ∧
    (∃ (n : Cs) (tag : Nat) (s : State) (u : State), (u = s.issuing n tagCmd) ∧ (tag = u.sreg n 12 % 2 ^ 16)) ∧
    (∃ (n : Cs) (s : State) (u : State), (u = s.issuing n ovlCmd)) ∧
    (∃ (n : Cs) (s : State) (u : State), (u = s.issuing n ldgCmd)) ∧
    (∃ (n : Cs) (s : State) (u : State) (idx : Cmd → List (Option Nat)), (u = s.issuing n idxCmd) ∧ (idx = (fun c => (List.range c.blocks).map (fun i => u.bufIdx (c.nsid - 1) (c.slba + i))))) :=
  ⟨by exact ⟨24, [2], 0, 1, 0, _, (run 24).updCs 24 (fun q => { q with item := some { words := [2], src := .sqe 0 1 0 } }), _, rfl, by decide +kernel, rfl⟩,
   by exact ⟨24, 3, 0, 1, 0, [2], run 24, _, rfl⟩,
   by exact ⟨24, _, run 24, _, rfl, rfl⟩,
   by exact ⟨24, hand {}, _, rfl⟩,
   by exact ⟨24, hand {}, _, rfl⟩,
   by exact ⟨24, hand {}, _, _, rfl, rfl⟩⟩

/-- The hypotheses of WedgeCommands can be met, clause by clause. -/
theorem witness_WedgeCommands :
    (∃ (n : Cs) (s : State) (u : State), (u = s.issuing n unitCmd)) ∧
    (∃ (n : Cs) (s : State) (u : State), (u = s.issuing n unitCmd)) ∧
    (∃ (n : Nat) (a : Nat) (w : Nat) (t : Nat) (s : State) (u : State), (w = s.sreg n 1 % 1024 % 560) ∧ (t = s.sreg n 3) ∧ (u = s.countStamp a w t)) ∧
    (∃ (v : Nat) (s : State) (u : State), ((v, u) = s.free)) ∧
    (∃ (a : Nat) (w : Nat) (t : Nat) (d : Nat) (span : Nat) (known : Bool) (s : State) (v : State), (d = wedgesFrom (s.srv.stamped - 1) w) ∧ (span = (t + 2 ^ 32 - s.mpd.lastAt) % 2 ^ 32) ∧ (known = (s.srv.stamped != 0 && decide (d ≤ span))) ∧ (v = (s.updSrv (fun v => { v with stamped := w + 1 })).updMpd (fun x => { x with lastAt := t, period := if known = true then span / d else 0, theta := (w * s.f .MPD_SPN_CFG_PP 0 * 4096 / 560 + s.f .MPD_AOFS_AOFS a) % 4096 })) ∧ (s.spn ≠ 6)) :=
  ⟨by exact ⟨32, wedge, _, rfl⟩,
   by exact ⟨32, wedge, _, rfl⟩,
   by exact ⟨32, 0, _, _, wedge, _, rfl, rfl, rfl⟩,
   by exact ⟨_, wedge, _, rfl⟩,
   by exact ⟨0, 1, 2, _, _, _, wedge, _, rfl, rfl, rfl, rfl, by decide +kernel⟩⟩

/-- The hypotheses of CopyAndMotorCommands can be met, clause by clause. -/
theorem witness_CopyAndMotorCommands :
    (∃ (n : Cs) (l : Nat) (pma : Nat) (z : Nat) (e : Nat → State) (s : State) (u : State) (v : State), (u = s.issuing n unitCmd) ∧ (l = u.sreg n 14 % 8) ∧ (pma = u.sreg n 0 + 2 ^ 32 * u.sreg n 1) ∧ (z = (u.zoneFor (pmaHead pma) (pmaTrack pma)).getD 0) ∧ (v = (u.setDone n 0x40 false).setDone n 0x41 false) ∧ (e = (fun opc => if u.blkOn .chn l = false then u else if u.b .CHN_CTRL_EN l = false then u.csFault n 5 else if (u.lane l).op.isSome = true then u else v.laneBegin l (.copy n) (subWords opc l (v.sreg n 6) pma (v.spair n 2) 0 false z)))) ∧
    (∃ (n : Cs) (s : State) (u : State), (u = s.issuing n unitCmd)) ∧
    (∃ (n : Cs) (src : Nat) (dst : Nat) (k : Nat) (s : State) (t : State) (u : State), (t = (s.fetch (.seq n) src k).2) ∧ (u = (t.fetch (.seq n) dst k).2)) ∧
    (∃ (n : Nat) (r : Nat) (i : Nat) (w : List Nat) (f : AppResult × List Byte × State) (s : State) (u : State), (f = s.logDesc r i w) ∧ (u = f.2.2.updCs n (fun q => { q with item := some { words := w.take 8 ++ (List.range 8).map (fun k => leAt f.2.1 (4 * k) 4), src := .ring r i }, detail := logDetail f.1 }))) ∧
    (∃ (n : Cs) (s : State) (u : State), (u = s.issuing n unitCmd)) :=
  ⟨by exact ⟨36, _, _, _, _, run 36, _, _, rfl, rfl, rfl, rfl, rfl, rfl⟩,
   by exact ⟨36, run 36, _, rfl⟩,
   by exact ⟨36, 0, 64, 16, run 36, _, _, rfl, rfl⟩,
   by exact ⟨36, 0, 0, [], _, run 36, _, rfl, rfl⟩,
   by exact ⟨40, run 40, _, rfl⟩⟩

/-- The hypotheses of ServoItems can be met, clause by clause. -/
theorem witness_ServoItems :
    (∃ (a : Nat) (opc : Nat) (n : Nat) (r : Nat) (i : Nat) (w : List Nat) (w' : List Nat) (s : State) (u : State), (s.itemOf (8 + a) opc = some (u, n, w)) ∧ ((u.cs n).item = some { words := w', src := .ring r i })) ∧
    (∃ (a : Nat) (opc : Nat) (s : State), (s.itemOf (8 + a) opc = none)) ∧
    (∃ (a : Nat) (s : State) (v : State) (x : State), (v = (s.setMode a 1).setF .SRV_ACT_STAT_MATE a 7) ∧ (x = v.updAct a (fun x => { x with target := { opc := 0x14, slot := v.pri a, track := x.target.track }, pend := none, slot := [], loadCnt := 0, seekCnt := 0, softPend := true }))) ∧
    (∃ (a : Act) (s : State) (u : State) (v : State), (u = s.updAct a (fun x => { x with hold := false, vcm := 0, ma0 := 0, ma1 := 0 })) ∧ (v = (if loopMode (u.mode a) = true then u.faultAct a 4 else u))) :=
  ⟨by exact ⟨0, 0x10, 32, 0, 0, [0x10], [0x10], item 32 0x10, item 32 0x10, by decide +kernel, by decide +kernel⟩,
   by exact ⟨0, 0x10, wedge, by decide +kernel⟩,
   by exact ⟨0, wedge, _, _, rfl, rfl⟩,
   by exact ⟨0, wedge, _, _, rfl, rfl⟩⟩

/-- The hypotheses of WedgesOfAHead can be met, clause by clause. -/
theorem witness_WedgesOfAHead :
    (∃ (a : Act) (mate : Bool) (k : Nat) (s : State), (k = s.wedgeSlot a (s.act a).windowSel mate)) ∧
    (∃ (a : Nat) (k : Nat) (s : State) (u : State) (v : State), (u = (s.updHd a k (fun h => { h with missed := true, run := h.run + 1 })).inc .SRV_ACT_CNT_MISSED a 1) ∧ (v = (if k = u.pri a then u.setF .SRV_ACT_STAT_MISSES a (min 15 (u.hd a k).run) else u))) ∧
    (∃ (mx : Nat) (s : State), (mx = max 1 (s.f .SRV_CFG_MISS_MAX 0))) ∧
    (∃ (a : Act) (mate : Bool) (k : Nat) (s : State), (k = s.wedgeSlot a (s.act a).demodSel mate)) ∧
    (∃ (a : Nat) (k : Nat) (m : WedgeMeas) (wn : Nat) (s : State) (u : State) (v : State), ((s.hd a k).missed = false) ∧ (m.tidOk = true) ∧ (0 < m.ba.toNat + m.bb.toNat + m.bc.toNat + m.bd.toNat) ∧ (wn = (if m.wnOk = true then m.wn.toNat else ((s.hd a k).wn + 1) % 560)) ∧ (u = (s.endRun a k).updHd a k (fun h => { h with p := (m.tid.toNat : Rat) + burstX m.ba.toNat m.bb.toNat m.bc.toNat m.bd.toNat - (signed 8 m.rro.toNat : Rat) / 512, p1 := h.p, tid := (m.tid.toNat : Int), tid1 := h.tid, hist := min 2 (h.hist + 1), wn := wn, tidOk := true })) ∧ (v = u.setF .SRV_ACT_PES_SUM a (min 65535 (m.ba.toNat + m.bb.toNat + m.bc.toNat + m.bd.toNat)))) :=
  ⟨by exact ⟨0, false, _, wedge, rfl⟩,
   by exact ⟨0, 0, wedge, _, _, rfl, rfl⟩,
   by exact ⟨_, wedge, rfl⟩,
   by exact ⟨0, false, _, wedge, rfl⟩,
   by exact ⟨0, 0, { wn := 0, wnOk := true, tid := 0, tidOk := true, rro := 0, ba := 1, bb := 1, bc := 1, bd := 1 }, _, wedge, _, _, by decide +kernel, rfl, by decide +kernel, rfl, rfl, rfl⟩⟩

/-- The hypotheses of RingControl can be met, clause by clause. -/
theorem witness_RingControl :
    (∃ (r : Nat) (n : Nat) (s : State), (n = s.ringSize r)) ∧
    (∃ (r : Nat) (s : State) (u : State) (v : State), (u = s.setRing r { fin := (s.ring r).fin, grants := (s.ring r).grants }) ∧ (v = u.setF .MWR_RING_FETCH_FETCH r (u.ringHead r))) ∧
    (∃ (r : Nat) (s : State) (u : State) (v : State), (u = s.setRing r { s.ring r with abortTail := s.ringTail r, stop := none }) ∧ (v = (u.ring r).chains.foldl (fun u c => u.withdrawChain r c) u)) ∧
    (∃ (r : Nat) (s : State) (u : State), (u = (s.setRing r { s.ring r with stop := none }).setF .MWR_RING_FETCH_FETCH r ((s.setRing r { s.ring r with stop := none }).ringHead r))) ∧
    (∃ (r : Ring) (tag : Tag) (l : List Chain) (s : State) (u : State) (v : State) (w : State) (x : Nat × State), (u = s.setFs 0 [(.MWR_WITHDRAW_WD_TAG, tag.toNat), (.MWR_WITHDRAW_WD_RING, r), (.MWR_WD_RES_DONE, 0), (.MWR_WD_RES_BUSY, 1)]) ∧ (l = (u.ring r).chains.filter (fun c => c.descs.head?.elim false (fun d => tagMatch d.words tag.toNat))) ∧ (v = l.foldl (fun u c => u.withdrawChain r c) u) ∧ (w = (if v.ringState r = 0 then v.setF .MWR_RING_FETCH_FETCH r (v.ringHead r) else v)) ∧ (x = w.scanUnfetched r tag.toNat (w.ringTail r) (w.ringFetch r) false 0 (w.ringSize r))) :=
  ⟨by exact ⟨0, _, on, rfl⟩,
   by exact ⟨0, on, _, _, rfl, rfl⟩,
   by exact ⟨0, on, _, _, rfl, rfl⟩,
   by exact ⟨0, on, _, rfl⟩,
   by exact ⟨0, 8, _, on, _, _, _, _, rfl, rfl, rfl, rfl, rfl⟩⟩

/-- The hypotheses of LaneItemsAndReading can be met, clause by clause. -/
theorem witness_LaneItemsAndReading :
    (∃ (l : Lane) (s : State) (u : State), (u = s.laneItem l 4)) ∧
    (∃ (l : Nat) (opc : Nat) (n : Nat) (r : Nat) (i : Nat) (w : List Nat) (w' : List Nat) (s : State) (u : State), (s.itemOf l opc = some (u, n, w)) ∧ ((u.cs n).item = some { words := w', src := .ring r i })) ∧
    (∃ (l : Nat) (opc : Nat) (s : State), (s.itemOf l opc = none)) ∧
    (∃ (l : Nat) (n : Nat) (r : Nat) (i : Nat) (w : List Nat) (s : State) (u : State), (u = (s.armLane l (pmaHead (dPma w)) (pmaTrack (dPma w)) (dOpc w == 2)).zoneTake l (argZone w) (s.zoneEntry (s.f .CHN_ZT_ACTIVE 0) (argZone w))) ∧ (s.laneHolder (.ring r i) = some n)) ∧
    (∃ (l : Lane) (primary : Option Int) (recovery : Option Int) (prim : Option Int) (recov : Option Int) (o : LaneOp) (s : State) (u : State) (v : State), ((s.lane l).op = some o) ∧ (u = s.laneGap l) ∧ (prim = primary.filter (fun v => decide (-u.syncWin l ≤ v) && decide (v ≤ u.syncWin l))) ∧ (recov = recovery.filter (fun v => decide (-(if prim.isSome = true then u.rsyncWin l else u.syncWin l) ≤ v) && decide (v ≤ (if prim.isSome = true then u.rsyncWin l else u.syncWin l)))) ∧ (v = (u.updOp l (fun y => { y with sectors := y.sectors ++ [{ pos := o.next, prim := prim, recov := recov, tries := if u.b .CHN_CTRL_REPLAY_EN l = true then u.f .CHN_REPLAY_REPLAY_MAX l else 0, sets := u.f .CHN_REPLAY_DETSETS l }], next := y.next + 1 })).tableUse 0x0F)) ∧
    (∃ (l : Lane) (s : State), ((s.lane l).op = none)) ∧
    (∃ (l : Lane) (dec : Fin 4) (field : Option (List Byte)) (p : Nat) (o : LaneOp) (x : Sector) (f : List Byte) (data : Bool) (good : Bool) (s : State) (u : State) (v : State), ((s.lane l).op = some o) ∧ (s.decoderWork l dec = some p) ∧ (u = s.decoderIdle l dec) ∧ (u.sectorAt l p = some x) ∧ (f = fieldOf (field.getD [])) ∧ (data = !isParity (zSpt (u.lane l).zone) p) ∧ (good = (field.isSome && (!o.check || !data || fieldCheck (o.seedLba p) f))) ∧ (v = (if x.st = 2 ∧ (u.lane l).adapting = true then u.updLane l (fun y => { y with adaptPend := true }) else u))) ∧
    (∃ (l : Lane) (o : LaneOp) (s : State), ((s.lane l).op = some o)) ∧
    (∃ (l : Nat) (p : Nat) (set : Nat) (off : Int) (x : Sector) (s : State) (u : State) (v : State), (s.sectorAt l p = some x) ∧ (u = s.updSector l p (fun y => { y with tried := (99, set) :: y.tried, prim := if -8 ≤ off ∧ off ≤ 8 then some 0 else none, recov := if -8 ≤ off ∧ off ≤ 8 then some off else none })) ∧ (v = s.updSector l p (fun y => { y with st := 4, tried := (off, set) :: y.tried }))) ∧
    (∃ (l : Nat) (p : Nat) (s : State), (s.sectorAt l p = none)) ∧
    (∃ (l : Lane) (dec : Fin 4) (spare : Option Nat) (s : State) (u : State) (v : State) (w : State), (u = s.decoderIdle l dec) ∧ (spare = (if 2 ≤ dec.val then some (dec.val - 2) else (List.range 2).find? (fun k => u.b .CHN_SPARE_DEC_BIND k && u.f .CHN_SPARE_DEC_LANE k == l.val && u.f .CHN_SPARE_DEC_DEC k == dec.val))) ∧ (v = (if spare = some 0 then u.setB .CHN_COM_STATUS_SPARE0_FLT 0 true else if spare ≠ none then u.setB .CHN_COM_STATUS_SPARE1_FLT 0 true else if dec.val = 0 then u.setB .CHN_STATUS_DEC0_FLT l true else u.setB .CHN_STATUS_DEC1_FLT l true)) ∧ (w = (v.setB .CHN_STATUS_DEC_EV l true).event 0x700A 0 0 0)) ∧
    (∃ (k : Fin 2) (l : Lane) (dec : Bool) (on : Bool) (clash : Bool) (s : State) (u : State), (on = s.b .CHN_SPARE_DEC_BIND k) ∧ (clash = (s.b .CHN_SPARE_DEC_BIND (1 - k.val) && s.f .CHN_SPARE_DEC_LANE (1 - k.val) == l.val && s.f .CHN_SPARE_DEC_DEC (1 - k.val) == dec.toNat)) ∧ (u = s.setFs k [(.CHN_SPARE_DEC_LANE, l.val), (.CHN_SPARE_DEC_DEC, dec.toNat)])) :=
  ⟨by exact ⟨0, reading 4, _, rfl⟩,
   by exact ⟨0, 1, 0, 0, 0, [1], [1], item 0 1, item 0 1, by decide +kernel, by decide +kernel⟩,
   by exact ⟨0, 1, on, by decide +kernel⟩,
   by exact ⟨0, 0, 0, 0, [1], item 0 1, _, rfl, by decide +kernel⟩,
   by exact ⟨0, none, none, _, _, _, reading 1, _, _, rfl, rfl, rfl, rfl, rfl⟩,
   ⟨0, on, by decide +kernel⟩,
   by exact ⟨0, 0, none, 0, { owner := .ring 0 0, opc := 1, head := 0, track := 5, first := 0, count := 1, addr := 0, lba := 0, check := false, next := 1, sectors := [{ pos := 0, st := 2 }] }, { pos := 0, st := 2 }, _, _, _, ((reading 1).updOp 0 (fun o => { o with sectors := [{ pos := 0, st := 2 }], next := 1 })).updLane 0 (fun x => { x with dec := [(0, 1)] }), _, _, by decide +kernel, by decide +kernel, rfl, by decide +kernel, rfl, rfl, rfl, rfl⟩,
   by exact ⟨0, _, reading 1, rfl⟩,
   by exact ⟨0, 0, 3, 1, { pos := 0 }, (reading 1).updOp 0 (fun o => { o with sectors := [{ pos := 0 }] }), _, _, by decide +kernel, rfl, rfl⟩,
   ⟨0, 0, on, by decide +kernel⟩,
   by exact ⟨0, 2, _, on, _, _, _, rfl, rfl, rfl, rfl⟩,
   by exact ⟨0, 3, true, _, _, Tests.on, _, rfl, rfl, rfl⟩⟩

/-- The hypotheses of LaneWritingAndControl can be met, clause by clause. -/
theorem witness_LaneWritingAndControl :
    (∃ (a : Nat) (o : LaneOp) (s : State) (u : State) (f : List Byte), (a = o.addr + 4160 * (dataAt o.next - o.first)) ∧ (f = (s.fetch .link a 4160).1) ∧ (u = (s.fetch .link a 4160).2)) ∧
    (∃ (l : Lane) (v : Bool) (s : State) (t : State) (u : State) (w : State), (t = (s.setB .CHN_CTRL_EN l v).event 0x7005 0 0 0) ∧ (u = (t.seqsOf l).foldl (fun u n => if (u.cs n).item.isSome = true then u.updCs n (fun q => { q with abortReq := true }) else u) t) ∧ (w = u.updOp l (fun o => match o.owner with | .copy _ => { o with stop := some 1 } | .ring _ _ => o))) ∧
    (∃ (a : Act) (frame : PreampFrame) (l : Nat) (s : State) (u : State) (v : State), (l = 2 * a.val) ∧ (u = s.send (.preamp a (frame.kind == .head || frame.kind == .mode) frame.data.toNat)) ∧ (v = (u.inc .CHN_PA_LINK_ERR l 1).event 0x700B 0 0 0)) :=
  ⟨by exact ⟨_, { owner := .ring 0 0, opc := 2, head := 0, track := 5, first := 0, count := 1, addr := 0, lba := 0, check := false, next := 0 }, reading 2, _, _, rfl, rfl, rfl⟩,
   by exact ⟨0, true, on, _, _, _, rfl, rfl, rfl⟩,
   by exact ⟨0, { kind := .head, data := 0 }, _, on, _, _, rfl, rfl, rfl⟩⟩

/-- The hypotheses of CopiesAndLogs can be met, clause by clause. -/
theorem witness_CopiesAndLogs :
    (∃ (s : State) (u : State), (u = s.handOver 12)) ∧
    (∃ (w : List Nat) (bad : List (Nat × Nat)) (s : State) (x : Nat × Bool × Bool × State), (x = s.verifyTracks (dw w 8) false 0 (min (dCount w) (leAt (s.band (dw w 8)) 6 2 - leAt (s.band (dw w 8)) 24 2)) bad)) ∧
    (∃ (w : List Nat) (h : Nat) (l : Nat) (t : Nat), (h = pmaHead (dPma w)) ∧ (t = pmaTrack (dPma w)) ∧ (l = h / 6 * 2)) ∧
    (∃ (n : Cs) (w : List Nat) (h : Nat) (l : Nat) (t : Nat) (d : Nat) (dspt : Nat) (k0 : Nat) (hf : List (List Byte × Bool)) (x : List (List Byte × Bool) × State) (s : State) (u : State), (h = pmaHead (dPma w)) ∧ (t = pmaTrack (dPma w)) ∧ (d = pmaSector (dPma w)) ∧ (l = h / 6 * 2) ∧ (dspt = s.zoneDspt (s.zoneFor h t)) ∧ (k0 = (s.copyHeaded w && d != 1).toNat) ∧ ((hf, u) = s.copyHeader w) ∧ (x = u.copyBlocks n (dAddr w) (dArg w) ((s.bandAt h t).bind (fun p => u.bandLba p t d dspt)) k0 (dCount w - k0))) ∧
    (∃ (r : Nat) (i : Nat) (w : List Nat) (f : AppResult × List Byte × State) (s : State), (f = s.logDesc r i w)) :=
  ⟨by exact ⟨on, _, rfl⟩,
   by exact ⟨[], [], on, _, rfl⟩,
   by exact ⟨[0x21], _, _, _, rfl, rfl, rfl⟩,
   by exact ⟨0, [0x21], _, _, _, _, _, _, _, _, on, _, rfl, rfl, rfl, rfl, rfl, rfl, rfl, rfl⟩,
   by exact ⟨0, 0, [], _, on, rfl⟩⟩

/-- The hypotheses of MotorItems can be met, clause by clause. -/
theorem witness_MotorItems :
    (∃ (opc : Nat) (n : Nat) (w : List Nat) (s : State) (u : State), (s.itemOf 13 opc = some (u, n, w))) ∧
    (∃ (opc : Nat) (s : State), (s.itemOf 13 opc = none)) ∧
    (∃ (w : List Nat) (s : State) (u : State) (v : State) (k : Nat), (u = s.updMpd (fun x => { x with brakeAsk := bit (dArg0 w) 0, coast := 0 })) ∧ (v = (List.range 4).foldl (fun u a => if bit (dArg0 w) a = true then u.retract a false else u) s) ∧ (k = (List.range 4).foldl (fun m a => if (bit (dArg0 w) a && v.retRes a == 3) = true then m + 2 ^ a else m) 0)) :=
  ⟨by exact ⟨0x31, 40, [0x31], item 40 0x31, item 40 0x31, by decide +kernel⟩,
   by exact ⟨0x31, on, by decide +kernel⟩,
   by exact ⟨[0x33], on, _, _, _, rfl, rfl, rfl⟩⟩

/-- The hypotheses of SpindleEvents can be met, clause by clause. -/
theorem witness_SpindleEvents :
    (∃ (rpm : BitVec 16) (backward : Bool) (n : Nat) (s : State) (u : State) (v : State), (n = tierRpm s.mpd.target) ∧ (u = (s.setRpm rpm.toNat).setB .MPD_SPN_STAT_DIR 0 backward) ∧ (v = (if n ≤ 50 * rpm.toNat then u.event 0x9003 rpm.toNat backward.toNat 0 else u))) ∧
    (∃ (valid : Bool) (angle : BitVec 12) (k : Nat) (s : State) (u : State), (k = (if valid = true then min 6 (s.mpd.crossings + 1) else 0)) ∧ (u = s.updMpd (fun x => { x with crossings := k, angle := if valid = true then angle.toNat else x.angle }))) ∧
    (∃ (residual : BitVec 12) (s : State) (u : State), (u = s.updMpd (fun x => { x with residual := residual.toNat, runs := [] }))) ∧
    (∃ (s : State) (u : State), (u = (s.updMpd (fun x => { x with coast := 0 })).event 0x900C 0 0 0)) ∧
    (∃ (v : Nat) (s : State) (u : State), ((v, u) = s.free)) ∧
    (∃ (rpm : BitVec 16) (n : Nat) (s : State) (u : State) (v : State), (n = tierRpm s.mpd.target) ∧ (u = s.setRpm rpm.toNat) ∧ (v = (u.setSpn 0).updMpd (fun x => { x with coast := if x.coast = 2 then 2 else 0, brakeAsk := false }))) ∧
    (∃ (s : State) (u : State), (u = (if s.spn = 9 then s.coastFrom 0 else s))) :=
  ⟨by exact ⟨0, false, _, on, _, _, rfl, rfl, rfl⟩,
   by exact ⟨true, 5, _, on, _, rfl, rfl⟩,
   by exact ⟨9, on, _, rfl⟩,
   by exact ⟨on, _, rfl⟩,
   by exact ⟨_, wedge, _, rfl⟩,
   by exact ⟨9, _, on, _, _, rfl, rfl, rfl⟩,
   by exact ⟨on, _, rfl⟩⟩

/-- The hypotheses of DriverTripsAndRetracts can be met, clause by clause. -/
theorem witness_DriverTripsAndRetracts :
    (∃ (h : Head) (s : State) (u : State), (u = ((s.setF .MPD_MA_FLT_FLT 0 (setBit (s.f .MPD_MA_FLT_FLT 0) h true)).setB .MPD_STATUS_DRV_EV 0 true).event 0x9009 5 1 0)) ∧
    (∃ (a : Nat) (cause : Nat) (s : State) (t : State) (u : State) (v : State) (w : State), (t = ((((s.setF .MPD_VCM_STAT_TRIP a cause).setB .MPD_STATUS_DRV_EV 0 true).event 0x9009 (1 + a) cause 0).updAct a (fun x => { x with vcm := 0 }))) ∧ (u = (if loopMode (t.mode a) = true then t.faultAct a 3 else t)) ∧ (v = (u.heldBy (8 + a) [0x10, 0x11, 0x12, 0x13, 0x14]).elim u (fun e => (u.updAct a (fun x => { x with taken := none, pend := none })).post e.1 0x0D 3 0)) ∧ (w = (if bit v.mpd.retWait a = true then (v.updMpd (fun x => { x with retWait := 0 })).motorEnd [0x33] 0x0D 3 0 else v))) ∧
    (∃ (a : Nat) (parked : Bool) (s : State) (t : State) (u : State) (v : State) (w : State), (t = (((s.setRet a (if parked = true then 1 else 2)).setB .MPD_STATUS_RET_EV 0 true).event 0x900A a (if parked = true then 1 else 2) 0).updAct a (fun x => { x with vcm := 0 })) ∧ (u = (if parked = true then (((List.range 6).foldl (fun u k => if k = u.pri a ∨ k = u.mate a then u.endRun a k else u) t).setMode a 0).setF .SRV_ACT_STAT_MATE a 7 else if t.mode a = 7 ∨ t.blkOn .srv 0 = false then t else t.faultAct a 5)) ∧ (v = (u.heldBy (8 + a) [0x13]).elim u (fun e => u.servoEnd a e.1 (if parked = true then 0 else 5) 0)) ∧ (w = v.updMpd (fun x => { x with retWait := setBit x.retWait a false }))) :=
  ⟨by exact ⟨3, on, _, rfl⟩,
   by exact ⟨0, 1, on, _, _, _, _, rfl, rfl, rfl, rfl⟩,
   by exact ⟨0, true, on, _, _, _, _, rfl, rfl, rfl, rfl⟩⟩

/-- The hypotheses of UnexpectedCompletions can be met, clause by clause. -/
theorem witness_UnexpectedCompletions :
    (∃ (p : Port) (tag : Nat) (poisoned : Bool) (s : State) (u : State), ((s.hp p).reqs.find? (fun r => r.tag == tag) = none) ∧ ((s.hp p).quar.find? (fun q => q.tag == tag) = none) ∧ (u = (if poisoned = true then s.poisonedTlp p else s))) ∧
    (∃ (h : Nat) (s : State) (u : State), ((h, u) = s.free)) :=
  ⟨by exact ⟨0, 5, true, on, _, by decide +kernel, by decide +kernel, rfl⟩,
   by exact ⟨_, on, _, rfl⟩⟩

/-- The hypotheses of EnableAndMaintenanceDuringTheWalk can be met, clause by clause. -/
theorem witness_EnableAndMaintenanceDuringTheWalk :
    (∃ (s : State), (s.b .BUF_BRM_CTRL_DISABLE_PENDING 0 = true)) ∧
    (∃ (s : State) (t : State), (t = s.setB .BUF_STATUS_CFG_ERR 0 true)) :=
  ⟨by exact ⟨on.setF .BUF_BRM_CTRL_DISABLE_PENDING 0 1, by decide +kernel⟩,
   by exact ⟨on, _, rfl⟩⟩

/-- The hypotheses of SupplyEvents can be met, clause by clause. -/
theorem witness_SupplyEvents :
    (∃ (rail : Fin 17) (ds : List Nat) (s : State) (u : State) (v : State), (ds = (railDoms rail).filter (fun d => s.dom d)) ∧ (u = ((s.setF .SUP_DOM_FLT_FLT 0 (ds.foldl (fun m d => setBit m d true) (s.f .SUP_DOM_FLT_FLT 0))).setB .SUP_STATUS_RAIL_EV 0 true).event 0xA007 rail 0 0) ∧ (v = ds.foldl (fun u d => u.domStop d) u)) ∧
    (∃ (mv : BitVec 16) (s : State) (u : State), (u = s.setF .SUP_VIN_VIN_MV 0 mv.toNat)) ∧
    (∃ (pin : BitVec 16) (vin : BitVec 16) (s : State) (u : State) (v : State) (w : State), (u = s.setFs 0 [(.SUP_VIN_PIN, pin.toNat), (.SUP_VIN_VIN_MV, vin.toNat)]) ∧ (v = (if u.sup.gov = true then u else (u.setB .SUP_STATUS_GOV_EV 0 true).event 0xA006 0 0 0).updSup (fun x => { x with gov := true, govMs := 0 })) ∧ (w = (u.updSup (fun x => { x with gov := false, spinCut := 0 })).setB .SUP_GOV_SPIN_CUT 0 false)) ∧
    (∃ (s : State) (u : State), (u = s.updSup (fun x => { x with xtal := true, bootWait := false }))) :=
  ⟨by exact ⟨9, _, on, _, _, rfl, rfl, rfl⟩,
   by exact ⟨0, on, _, rfl⟩,
   by exact ⟨0, 0, on, _, _, _, rfl, rfl, rfl⟩,
   by exact ⟨on, _, rfl⟩⟩

/-- The hypotheses of SloeAndDeviceStates can be met, clause by clause. -/
theorem witness_SloeAndDeviceStates :
    (∃ (r : SloeReq) (l : List SloeReq) (s : State) (u : State) (v : State), (s.sup.sloe = r :: l) ∧ (u = s.addSum (s.figure r.dom)) ∧ (v = (s.setDom r.dom true).sloePop.railShow)) ∧
    (∃ (r : SloeReq) (l : List SloeReq) (s : State) (u : State) (v : State), (s.sup.sloe = r :: l) ∧ (u = s.subSum (if r.dom = 16 then s.sup.spinFig else s.figure r.dom)) ∧ (v = ((u.setF .SUP_DOM_FLT_FLT 0 (setBit (u.f .SUP_DOM_FLT_FLT 0) r.dom true)).setB .SUP_STATUS_SLOE_EV 0 true).event 0xA002 r.dom 0 0)) ∧
    (∃ (s : State), (s.sup.sloe = [])) ∧
    (∃ (s : State) (u : State), (u = s.sloeShow)) ∧
    (∃ (req : BitVec 2) (s : State) (u : State), (u = s.setF .SUP_DSTATE_REQ 0 req.toNat)) ∧
    (∃ (r : Nat) (s : State) (u : State), (u = (s.setF .SUP_DSTATE_NOW 0 r).railShow)) ∧
    (∃ (k : Nat) (s : State) (u : State), (u = (s.standBy 0).setFs 0 [(.SUP_DSTATE_REQ, 0), (.SUP_WAKE_STAT, setBit (s.f .SUP_WAKE_STAT 0) k true)])) :=
  ⟨by exact ⟨_, _, on.updSup (fun x => { x with sloe := [{ dom := 14, on := true }] }), _, _, rfl, rfl, rfl⟩,
   by exact ⟨_, _, on.updSup (fun x => { x with sloe := [{ dom := 14, on := true }], step := true }), _, _, rfl, rfl, rfl⟩,
   by exact ⟨on, rfl⟩,
   by exact ⟨on, _, rfl⟩,
   by exact ⟨1, on, _, rfl⟩,
   by exact ⟨2, on, _, rfl⟩,
   by exact ⟨3, on, _, rfl⟩⟩

/-- The hypotheses of WatchdogsAndResets can be met, clause by clause. -/
theorem witness_WatchdogsAndResets :
    (∃ (k : Nat) (s : State) (u : State) (v : State), (u = s.updSup (fun x => { x with kickHalf := Tbl.set x.kickHalf false k true })) ∧ (v = s.updSup (fun x => { x with kickHalf := Tbl.set x.kickHalf false k false }))) ∧
    (∃ (cause : Nat) (core : Nat) (waits : Bool) (s : State) (t : State) (u : State) (v : State) (w : State), (t = s.updSup (fun x => { x with causes := setBit x.causes cause true, causeCore := if cause = 3 then core else x.causeCore })) ∧ (waits = (t.paired && (List.range 5).any t.owns && t.mir.aliveIn)) ∧ (u = t.setB .MIR_CTRL_ALIVE 0 false) ∧ (v = (if u.sup.step = true then u.sup.sloe.head?.elim u (fun r => (u.subSum (if r.dom = 16 then u.sup.spinFig else u.figure r.dom)).sloePop) else u)) ∧ (w = (if drivenState v.spn = true ∨ v.spn = 8 then v.coastFrom 0 else v))) ∧
    (∃ (straps : BitVec 5) (s : State) (u : State), (u = (s.updSup (fun x => { x with held := false })).sampleStraps straps.toNat)) ∧
    (∃ (straps : BitVec 5) (c : Nat) (cold : Bool) (keep : Bool) (s : State) (u : State) (v : State) (w : State) (x : State), (c = s.sup.causes) ∧ (cold = (bit c 2 || bit c 5)) ∧ (keep = (s.dom 13 && decide (10 * s.f .MPD_HARV_HARV_FLOOR 0 < s.f .MPD_SPN_STAT_RPM 0))) ∧ (u = (if bit c 6 = true then { s.wipe cold false keep with thm := { (s.wipe cold false keep).thm with off := max 1 (s.wipe cold false keep).thm.off } } else s.wipe cold false keep)) ∧ (v = u.updSup (fun x => { x with report := c })) ∧ (w = (v.setF .SUP_RST_CAUSE_CAUSE 0 (v.f .SUP_RST_CAUSE_CAUSE 0 ||| c)).inc .SUP_RST_CAUSE_RESETS 0 1) ∧ (x = (if cold = true then (if bit c 3 = true then w.setF .SUP_RST_CAUSE_CORE 0 s.sup.causeCore else w).sampleStraps straps.toNat else (if bit c 3 = true then w.setF .SUP_RST_CAUSE_CORE 0 s.sup.causeCore else w).portReset))) :=
  ⟨by exact ⟨3, on, _, _, rfl, rfl⟩,
   by exact ⟨2, 0, _, on, _, _, _, _, rfl, rfl, rfl, rfl, rfl⟩,
   by exact ⟨0, on, _, rfl⟩,
   by exact ⟨0, _, _, _, on, _, _, _, _, rfl, rfl, rfl, rfl, rfl, rfl, rfl⟩⟩

/-- The hypotheses of ImagesCountersAndKeys can be met, clause by clause. -/
theorem witness_ImagesCountersAndKeys :
    (∃ (a : Nat) (x : List Byte × Bool × State) (y : List Byte × Bool × State) (s : State) (v : State), (a = s.opnd .SEC_VFY_LO_BASE_LO * 64 + s.opnd .SEC_VFY_HI_BASE_HI * 2 ^ 32) ∧ (x = s.vfyRead a 8192) ∧ (y = x.2.2.vfyRead (a + 8192) (min (2 ^ 22) (leAt x.1 8 4))) ∧ (v = y.2.2)) ∧
    (∃ (c : List Byte) (d : List Byte), (d = cDigest c)) ∧
    (∃ (cls : BitVec 4) (svn : BitVec 6) (s : State) (u : State), (u = s.setFs 0 [(.SEC_ARB_ADV_CLASS, cls.toNat), (.SEC_ARB_ADV_SVN, svn.toNat), (.SEC_ARB_ADV_DONE, 0), (.SEC_ARB_ADV_REFUSED, 0)])) ∧
    (∃ (slot : Fin 4) (s : State) (u : State), (u = s.setF .SEC_KEYREV_SLOT 0 slot)) ∧
    (∃ (i : Nat) (op : Nat) (k : Nat) (g : Nat) (v : Nat) (s : State) (t : State) (u : State) (w : State), (u = s.setFs 0 [(.SEC_KEY_CTRL_NSIDX, i), (.SEC_KEY_CTRL_OP, op), (.SEC_KEY_CTRL_BUSY, 1), (.SEC_KEY_CTRL_DONE, 0)]) ∧ ((v, w) = s.free) ∧ (k = v % 2 ^ 512) ∧ (g = (Tbl.get w.sec.gen 0 i + 1) % 2 ^ 32) ∧ (t = (w.setKey i (k + 1)).updSec (fun x => { x with gen := Tbl.set x.gen 0 i g }))) :=
  ⟨by exact ⟨_, _, _, on, _, rfl, rfl, rfl, rfl⟩,
   by exact ⟨[], _, rfl⟩,
   by exact ⟨0, 0, on, _, rfl⟩,
   by exact ⟨1, on, _, rfl⟩,
   by exact ⟨1, 1, _, _, _, on, _, _, _, rfl, rfl, rfl, rfl, rfl⟩⟩

/-- The hypotheses of BootRecoveryAndAttestation can be met, clause by clause. -/
theorem witness_BootRecoveryAndAttestation :
    (∃ (s : State) (u : State), (u = (if s.sup.report = 0 then s else s.event 0xA009 s.sup.report 0 0).firstEntries.finishErases)) ∧
    (∃ (k : Nat) (active : Nat) (trial : Nat) (tries : Nat) (seq : Nat) (s : State), (s.bootControl = (k, seq, active, trial, tries))) ∧
    (∃ (slot : Nat) (s : State) (u : State), (u = s.slotReads slot)) ∧
    (∃ (cls : Fin 9) (image : List Byte) (img : Nat → Option (List Byte)) (s : State) (u : State), (u = s.updSec (fun x => { x with recov := Tbl.set x.recov [] cls.val image })) ∧ (img = (fun k => if Tbl.get u.sec.recov [] k = [] then none else some (Tbl.get u.sec.recov [] k)))) ∧
    (∃ (idx : Byte) (m : List Byte) (s : State), (m = (if idx.toNat = 0 then [13] else if idx.toNat = 255 then ((List.range 13).map (fun k => s.measurement (k + 1))).flatten else s.measurement idx.toNat))) :=
  ⟨by exact ⟨on, _, rfl⟩,
   ⟨1, 0, 0, 0, 0, on, by rfl⟩,
   by exact ⟨0, on, _, rfl⟩,
   by exact ⟨0, [], _, on, _, rfl, rfl⟩,
   by exact ⟨3, _, on, rfl⟩⟩

/-- The hypotheses of EmbeddedFlashCommands can be met, clause by clause. -/
theorem witness_EmbeddedFlashCommands :
    (∃ (code : Nat) (units : Nat) (e : EflOp) (s : State) (u : State), (u = (s.setFs 0 [(.EFL_CMD_CODE, code), (.EFL_CMD_COUNT, units - 1), (.EFL_RES_DONE, 0)]).updEfl (fun e => { e with unlock := 0 })) ∧ (e = { code := code, addr := u.f .EFL_ADDR_OFFSET 0 * 16, units := units })) ∧
    (∃ (r : Nat) (s : State) (u : State), (u = s.setFs 0 [(.EFL_RES_RESULT, r), (.EFL_RES_DONE, 1), (.EFL_STATUS_OP_EV, 1)])) ∧
    (∃ (e : EflOp) (v : Nat) (p : Nat × State) (s : State) (u : State) (w : State), (u = (s.updEfl (fun x => { x with run := none, suspReq := false })).setB .EFL_RES_BUSY 0 (s.updEfl (fun x => { x with run := none, suspReq := false })).efl.susp.isSome) ∧ (p = u.programUnits (e.addr / 16) 0 e.units) ∧ ((v, w) = p.2.free)) ∧
    (∃ (v : Nat) (s : State) (u : State), ((v, u) = s.free)) ∧
    (∃ (o : Nat) (s : State) (t : State) (u : State), (t = s.eflCheck (o / 16)) ∧ (u = s.send (.readData 0))) ∧
    (∃ (t : Nat) (s : State) (u : State), (u = ((s.setF .EFL_RDP_TARGET 0 t).updEfl (fun e => { e with unlock := 0 })).setB .EFL_RES_DONE 0 false)) ∧
    (∃ (v : State → State) (w : State → State), (v = (fun u => (((((u.eraseStart 5 0).eflWipe 4096 (eflSize - 4096)).putOption 0 1 0).putOption 1 1 0).journalPut 0xA5 3 0 0).levelShow)) ∧ (w = (fun u => ({ v u with evr := { (v u).evr with queue := [], keepNext := 0, circNext := 0, entered := [], suppressed := [] } }).setFs 0 [(.EVR_SEQ_NEXT, 1), (.EVR_OPMIN_OP_MIN, 0), (.EVR_CYCLES_CYCLES, 0), (.EVR_STATUS_QDEPTH, 0), (.EVR_STATUS_KEEP_FULL, 0)]))) :=
  ⟨by exact ⟨2, 1, _, on, _, rfl, rfl⟩,
   by exact ⟨0, on, _, rfl⟩,
   by exact ⟨{ code := 2, addr := 4096, units := 1 }, _, _, on, _, _, rfl, rfl, rfl⟩,
   by exact ⟨_, on, _, rfl⟩,
   by exact ⟨0, on, _, _, rfl, rfl⟩,
   by exact ⟨0, on, _, rfl⟩,
   by exact ⟨_, _, rfl, rfl⟩⟩

/-- The hypotheses of TemperaturesAndCalibration can be met, clause by clause. -/
theorem witness_TemperaturesAndCalibration :
    (∃ (s : State) (u : State) (v : State), (u = s.setF .THM_CONV_PEND 0 (s.f .THM_CONV_PEND 0 ||| 0xF000)) ∧ (v = s.updThm (fun t => { t with slot := (s.thm.slot + 1) % 8, winLevel := if (s.thm.slot + 1) % 8 = 0 then s.f .THM_LVL_LEVEL 0 else s.thm.winLevel, gate := decide ((s.thm.slot + 1) % 8 < if (s.thm.slot + 1) % 8 = 0 then s.f .THM_LVL_LEVEL 0 else s.thm.winLevel) }))) ∧
    (∃ (temp : BitVec 12) (n : Nat) (s : State) (u : State) (v : State), (firstFrom 16 0 (fun k => bit (s.f .THM_CONV_PEND 0) k) = some n) ∧ (u = s.setF .THM_CONV_PEND 0 (setBit (s.f .THM_CONV_PEND 0) n false)) ∧ (v = ((if -440 ≤ temp.toInt ∧ temp.toInt ≤ 1400 then u.setFs n [(.THM_TEMP_TEMP, temp.toNat), (.THM_TEMP_VALID, 1)] else ((u.setB .THM_TEMP_VALID n false).setB .THM_STATUS_SENS_EV 0 true).event 0xD006 n 0 0).coolCheck n (decide (-440 ≤ temp.toInt) && decide (temp.toInt ≤ 1400))).maxShow)) ∧
    (∃ (s : State) (u : State), (firstFrom 16 0 (fun k => bit (s.f .THM_CONV_PEND 0) k) = none) ∧ (u = s.updThm (fun t => { t with off := 0, cool := [] }))) ∧
    (∃ (c : Nat) (l : Nat) (n : Nat) (on : Int) (step : Int) (s : State) (u : State), (on = s.temp .THM_THR2_THROT_ON 0) ∧ (step = ((max 1 (s.f .THM_THR3_STEP 0) : Nat) : Int)) ∧ (c = (if on ≤ s.maxTemp then (min 7 ((s.maxTemp - on) / step + 1)).toNat else 0)) ∧ (l = s.f .THM_LVL_LEVEL 0) ∧ (n = max (if l < c then c else if s.f .THM_LVL_MIN_LVL 0 < l ∧ s.maxTemp < on + (l - 1 : Int) * step - s.hyst then l - 1 else l) (s.f .THM_LVL_MIN_LVL 0)) ∧ (u = (s.setF .THM_LVL_LEVEL 0 n).setB .THM_STATUS_LVL_EV 0 true)) ∧
    (∃ (b : Bool) (s : State), (b = (if s.temp .THM_THR2_THR_HOLD 0 ≤ s.maxTemp then true else if s.maxTemp < s.temp .THM_THR2_THR_HOLD 0 - s.hyst then false else s.b .THM_LVL_LVL_HOLD 0))) ∧
    (∃ (n : Nat) (s : State) (u : State), (firstFrom 64 0 (fun k => s.calOn k && s.f .CAL_ISTAT_STATE k == 1 && s.gapOpen k) = some n) ∧ (u = s.calTo n 2)) ∧
    (∃ (s : State), (firstFrom 64 0 (fun k => s.calOn k && s.f .CAL_ISTAT_STATE k == 1 && s.gapOpen k) = none)) ∧
    (∃ (s : State) (u : State), (u = (s.setB .CAL_FW_WAIT 0 false).updCal (fun c => { c with chain := 0 }))) ∧
    (∃ (n : Nat) (v : Int) (start : Int) (l : List Int) (s : State) (u : State), (start = (if (s.calItem n).vals.isEmpty = true then s.maxTemp else (s.calItem n).startMax)) ∧ (l = (s.calItem n).vals ++ [v]) ∧ (u = s.setCalItem n { s.calItem n with vals := l, startMax := start })) ∧
    (∃ (n : Nat) (l : List Int) (s : State) (u : State) (v : State) (w : State), (u = ((s.calTo n 0).setFs n [(.CAL_IRES_VALUE, unsigned 16 ((l.foldl (· + ·) 0).tdiv l.length)), (.CAL_IRES_TEMP, s.f .THM_MAX_TEMP 0), (.CAL_ISTAT_REJ, 0), (.CAL_ISTAT_DONE_N, 0)]).inc .CAL_ISTAT_ACCEPTS n 1) ∧ (v = ((s.inc .CAL_ISTAT_REJ n 1).setB .CAL_STATUS_REJ_EV 0 true).event 0xD007 n 0 0) ∧ (w = (v.setF .CAL_ISTAT_DONE_N n 0).setCalItem n { v.calItem n with vals := [] })) :=
  ⟨by exact ⟨on, _, _, rfl, rfl⟩,
   by exact ⟨200, 3, on.setF .THM_CONV_PEND 0 0xFFF8, _, _, by decide +kernel, rfl, rfl⟩,
   by exact ⟨on, _, by decide +kernel, rfl⟩,
   by exact ⟨_, _, _, _, _, State.reset, _, rfl, rfl, rfl, rfl, rfl, rfl⟩,
   by exact ⟨_, on, rfl⟩,
   by exact ⟨3, ((((((on.setF .CAL_CTRL_EN 0 1).setF .CAL_ICFG_VALID 3 1).setF .CAL_ISTAT_STATE 3 1).setF .CAL_ICFG_MEAS 3 2))), _, by decide +kernel, rfl⟩,
   by exact ⟨on, by decide +kernel⟩,
   by exact ⟨on, _, rfl⟩,
   by exact ⟨3, 7, _, _, on, _, rfl, rfl, rfl⟩,
   by exact ⟨3, [4], on, _, _, _, rfl, rfl, rfl⟩⟩

/-- The hypotheses of EventRecorderCommands can be met, clause by clause. -/
theorem witness_EventRecorderCommands :
    (∃ (code : BitVec 16) (keep : Bool) (s : State) (u : State), (u = s.setFs 0 [(.EVR_SUB_CTRL_CODE, code.toNat), (.EVR_SUB_CTRL_KEEP, keep.toNat)])) ∧
    (∃ (k : List (Nat × List Byte)) (c : List (Nat × List Byte)) (bad : Nat) (s : State) (u : State) (v : State), (k = s.records keepBase 0x10000) ∧ (c = s.records circBase 0x200000) ∧ (bad = (s.recPositions keepBase 0x10000).length + (s.recPositions circBase 0x200000).length - k.length - c.length) ∧ (u = (s.updEvr (fun e => { e with scanning := false, queue := [], entered := [], suppressed := [], keepNext := (nextPos k).getD 0, circNext := (nextPos c).getD 0 % 65536 })).setFs 0 [(.EVR_SEQ_NEXT, maxField (k ++ c) 0 + 1), (.EVR_OPMIN_OP_MIN, maxField (k ++ c) 4), (.EVR_CYCLES_CYCLES, maxField (k ++ c) 8 + (s.b .SUP_RST_CAUSE_PWRCYC 0).toNat), (.EVR_STATUS_READY, 1), (.SUP_RST_CAUSE_PWRCYC, 0), (.EVR_STATUS_QDEPTH, 0)]) ∧ (v = s.evr.queue.foldl (fun u r => u.evrEnter r.code r.a0 r.a1 r.a2 (bit r.flags 1) (bit r.flags 0)) u)) ∧
    (∃ (r : EvRec) (q : List EvRec) (s : State) (u : State), (s.evr.queue = r :: q) ∧ (u = (s.updEvr (fun e => { e with queue := q })).setF .EVR_STATUS_QDEPTH 0 q.length)) ∧
    (∃ (n : Nat) (s : State) (u : State), (n = s.f .EVR_OPMIN_OP_MIN 0 + 1) ∧ (u = (s.updEvr (fun e => { e with minuteAt := s.aont, entered := [], suppressed := [] })).setF .EVR_OPMIN_OP_MIN 0 n)) ∧
    (∃ (areas : BitVec 2) (s : State) (u : State), (u = s.setF .EVR_CLR_AREAS 0 areas.toNat)) ∧
    (∃ (areas : Nat) (all : List (Nat × List Byte)) (r : EvRec) (x : Bool × State) (y : Bool × State) (s : State) (u : State) (v : State), (all = (if bit areas 1 = true then s.records keepBase 0x10000 else []) ++ (if bit areas 0 = true then s.records circBase 0x200000 else [])) ∧ (x = s.eraseTry 3 keepBase) ∧ (u = (if bit areas 1 = true then (x.2.updEvr (fun e => { e with keepNext := 0 })).setB .EVR_STATUS_KEEP_FULL 0 false else s)) ∧ (y = (List.range 32).foldl (fun z i => ((z.1 && (z.2.eraseTry 3 (circBase + 65536 * i)).1), (z.2.eraseTry 3 (circBase + 65536 * i)).2)) (if bit areas 1 = true then x.1 else true, u)) ∧ (v = (if bit areas 0 = true then y.2.updEvr (fun e => { e with circNext := 0 }) else u)) ∧ (r = v.evrRecord 0xE003 (maxField all 0) all.length areas false true)) :=
  ⟨by exact ⟨0x1001, true, on, _, rfl⟩,
   by exact ⟨_, _, _, on, _, _, rfl, rfl, rfl, rfl, rfl⟩,
   by exact ⟨_, _, on.updEvr (fun e => { e with queue := [⟨0, 0, 0, 0, 0, 0, 0, 0, 0⟩] }), _, rfl, rfl⟩,
   by exact ⟨_, on, _, rfl, rfl⟩,
   by exact ⟨2, on, _, rfl⟩,
   by exact ⟨2, _, _, _, _, on, _, _, rfl, rfl, rfl, rfl, rfl, rfl⟩⟩

/-- The hypotheses of VaultAndPowerLoss can be met, clause by clause. -/
theorem witness_VaultAndPowerLoss :
    (∃ (opc : Nat) (n : Nat) (w : List Nat) (s : State) (u : State), (s.itemOf 14 opc = some (u, n, w))) ∧
    (∃ (opc : Nat) (s : State), (s.itemOf 14 opc = none)) ∧
    (∃ (good : Bool) (v : Nat) (s : State) (u : State) (w : State), ((v, w) = s.free) ∧ (u = (if good = true then s else w.nandFail (v % w.dies) (s.f .PLV_AREA_NEXT 0 * w.areaBlks + v / w.dies % w.areaBlks)))) ∧
    (∃ (a : Nat) (bad : Nat) (n : Nat) (m : Img) (s : State) (t : State) (u : State) (v : State) (w : State), (s.newestImg = some a) ∧ (t = s.vaultScan) ∧ (m = Tbl.get t.plv.img {} a) ∧ ((bad, u) = t.free) ∧ (n = ((List.range m.pages).filter (fun p => bit bad p)).length) ∧ (v = (List.range m.pages).foldl (fun x p => x.restorePage m bad p) u) ∧ (w = (((v.updCiu (fun c => { c with bidx := m.bidx, alloc := slotsOf m.bidx })).setF .CIU_BUF_STAT_USED 0 (slotsOf m.bidx).length).restoreChecks.updBtl (fun t => { t with restored := some m.degraded })).setF .PLV_RES_UNCORR 0 (min 0xFFFF n))) ∧
    (∃ (s : State), (s.newestImg = none)) ∧
    (∃ (ppb : BitVec 16) (blocks : BitVec 16) (s : State) (u : State) (w : State), (u = s.setFs 0 [(.PLV_GEOM_PPB, ppb.toNat), (.PLV_GEOM_BLOCKS, blocks.toNat)]) ∧ (w = u.setFs 0 [(.PLV_CTRL_EN, 1), (.PLV_STATUS_READY, 1), (.PLV_CNT_USABLE, u.usables.length), (.PLV_CNT_PFAIL, 0)])) ∧
    (∃ (s : State) (t : State) (u : State) (v : State) (w : State), (t = s.updPlv (fun p => { p with lost := true })) ∧ (u = (if t.b .BUF_PPR_BUSY 0 = true then t.repairEnd 3 else t)) ∧ (v = (if u.plv.dump.isSome = true then (List.range 8).foldl (fun x n => (x.setCore n {}).setB .ENG_IQ_CTRL_RUN n false) u else if u.b .PLV_STATUS_IN_FORCE 0 = true then u.lossFreeze else u)) ∧ (w = v.lossRetract.harvestStart)) ∧
    (∃ (s : State) (u : State), (u = (s.event 0x3040 0 0 0).beginImage (s.f .PLV_AREA_NEXT 0) false false)) ∧
    (∃ (x : Dump) (d : Nat) (pos : Nat) (good : Bool) (s : State) (u : State) (r : State × Nat), (s.plv.dump = some x) ∧ (d = x.next % s.dies) ∧ (pos = Tbl.get x.pos 0 d) ∧ (u = (if good = true then s.pageOut x d pos else s.nandFail d (pos / s.ppb))) ∧ (r = (if good = true ∧ (pos + 1) % u.ppb ≠ 0 then (u, pos + 1) else u.nextBlock d (pos / s.ppb)))) ∧
    (∃ (x : Dump) (s : State) (u : State) (v : State), (s.plv.dump = some x) ∧ (u = s.updPlv (fun p => { p with dump := none })) ∧ (v = (((u.setB .PLV_STATUS_ARMED 0 false).thaw).showImg (some x.area)).forceShow.event 0x3041 (((u.setB .PLV_STATUS_ARMED 0 false).thaw).showImg (some x.area)).imgSeq 0 0)) ∧
    (∃ (s : State) (u : State), (u = (if s.spn = 9 then s.coastFrom 0 else s))) :=
  ⟨by exact ⟨0x40, 41, [0x40], item 41 0x40, item 41 0x40, by decide +kernel⟩,
   by exact ⟨0x40, on, by decide +kernel⟩,
   by exact ⟨true, _, on, _, _, rfl, rfl⟩,
   by exact ⟨0, _, _, _, (on.setFs 0 [(.PLV_GEOM_BLOCKS, 24), (.PLV_GEOM_PPB, 384), (.PLV_CFG_DIES, 1), (.PLV_NAND_AREA_BLKS, 12), (.PLV_PROT_SIZE_PROT_MIB, 64)]).updPlv (fun p => { p with img := Tbl.set p.img {} 0 { seq := 1, pages := 4160, page := Tbl.set [] none 0 (some { data := [], poison := 0 }) } }), _, _, _, _, by decide +kernel, rfl, rfl, rfl, rfl, rfl, rfl⟩,
   by exact ⟨on, by decide +kernel⟩,
   by exact ⟨384, 4096, on, _, _, rfl, rfl⟩,
   by exact ⟨on, _, _, _, _, rfl, rfl, rfl, rfl⟩,
   by exact ⟨on, _, rfl⟩,
   by exact ⟨_, _, _, false, on.updPlv (fun p => { p with dump := some { area := 0, next := 0, save := true, item := false, pos := [] } }), _, _, rfl, rfl, rfl, rfl, rfl⟩,
   by exact ⟨_, on.updPlv (fun p => { p with dump := some { area := 0, next := 0, save := true, item := false, pos := [] } }), _, _, rfl, rfl, rfl⟩,
   by exact ⟨on, _, rfl⟩⟩

/-- The hypotheses of PairedOperation can be met, clause by clause. -/
theorem witness_PairedOperation :
    (∃ (r : List Byte) (s : State), (r = (match s.mir.termRecord with | some (t, o) => [1, BitVec.ofNat 8 t, BitVec.ofNat 8 o.toNat] | none => [0, 0, 0]))) ∧
    (∃ (p : Bool) (term : Option (Byte × Bool)) (r : Nat × Bool) (s : State) (u : State) (v : State) (w : State), (u = (s.updMir (fun x => { x with aliveIn := true })).mirShow) ∧ (r = decideRecord u.mir.termRecord (term.map (fun x => (x.1.toNat, x.2))) u.pos) ∧ (v = u.updMir (fun x => { x with nextSeq := 1, lastSeq := 0, replay := [], backlog := [], resends := 0, termRecord := some r })) ∧ (w = (((v.setFs 0 [(.MIR_TERM_TERM, r.1), (.MIR_STATUS_LINK_UP, 1)]).event 0xF002 p.toNat 0 0).mayDrive (fun x => { x with decided := r.2.toNat == u.pos })))) ∧
    (∃ (h : FrameHdr) (s : State) (u : State) (v : State), (u = s.inc .MIR_CNT_TERM_DROP 0 1) ∧ (v = (s.updMir (fun m => { m with staleEpisode := false })).ackTo h.ack.toNat)) ∧
    (∃ (mode : BitVec 4) (prim : BitVec 3) (mate : BitVec 3) (track : BitVec 24) (coarse : BitVec 16) (fine0 : BitVec 16) (fine1 : BitVec 16) (si : BitVec 32) (since : BitVec 32) (c : ServoCopy), (c = { mode := mode.toNat, track := track.toNat, prim := prim.toNat, mate := mate.toNat, out0 := coarse.toNat, fine0 := fine0.toNat, fine1 := fine1.toNat, samInterval := si.toNat, sinceSam := since.toNat })) ∧
    (∃ (ns : Fin 64) (s : State) (u : State) (v : State), (u = s.setB .MIR_RESYNC_BUSY 0 true) ∧ (v = s.setFs 0 [(.MIR_KX_NSIDX, ns.val), (.MIR_KX_BUSY, 1), (.MIR_KX_DONE, 0)])) ∧
    (∃ (i : Nat) (a : Nat) (y : List Byte × State) (s : State), (a = s.protAddr (256 * i)) ∧ (y = s.fetch .link a 256)) ∧
    (∃ (s : State) (u : State) (v : State), (u = (s.updMir (fun m => { m with aliveIn := false })).mirShow) ∧ (v = (s.updMir (fun m => { m with fenceLow := true, fenced := true, aliveCleared := false })).event 0xF006 0 0 0)) ∧
    (∃ (t : Nat) (s : State) (u : State) (v : State), (t = (s.term + 1) % 256) ∧ (u = ((s.setF .MIR_TERM_TERM 0 t).updMir (fun m => { m with termRecord := some (t, (s.setF .MIR_TERM_TERM 0 t).pos == 1) })).mayDrive (fun m => { m with takeBegun := true, takePend := false })) ∧ (v = if u.pos = 1 then u.linesTo false else u.mirShow)) ∧
    (∃ (line : Fin 5) (high : Bool) (s : State) (u : State) (v : State), (u = s.updMir (fun m => { m with own := setBit m.own line high })) ∧ (v = (if s.drives line = u.drives line then u else if line.val = 4 then (if s.drives line = true then u.loseSpn else u.gainSpn) else if s.drives line = true then u.loseAct line else u.gainAct line))) :=
  ⟨by exact ⟨_, on, rfl⟩,
   by exact ⟨true, none, _, on, _, _, _, rfl, rfl, rfl, rfl⟩,
   by exact ⟨{ seq := 1, ack := 0, term := 0, nak := false, addr := 0, tag := 0, poison := 0, crcOk := true }, on, _, _, rfl, rfl⟩,
   by exact ⟨3, 0, 0, 0, 0, 0, 0, 0, 0, _, rfl⟩,
   by exact ⟨1, on, _, _, rfl, rfl⟩,
   by exact ⟨0, _, _, on, rfl, rfl⟩,
   by exact ⟨on, _, _, rfl, rfl⟩,
   by exact ⟨_, on, _, _, rfl, rfl, rfl⟩,
   by exact ⟨4, true, on, _, _, rfl, rfl⟩⟩

end Sys2Proof.Tests
end

/-!
Completions with an unknown tag (R41): what AER logs of them, and that neither the log of a poisoned TLP nor a timer's
expiry makes such a tag known. The proof of R41's statement follows.
-/
namespace Sys2Proof.Machine

@[simp] theorem State.hp_setHp_same (s : State) (p : Nat) (x : HepPort) : (s.setHp p x).hp p = x :=
  Tbl.get_set_same _ _ _ _

@[simp] theorem State.event_hp (s : State) (c a0 a1 a2 p : Nat) : (s.event c a0 a1 a2).hp p = s.hp p := by
  obtain ⟨r, e, h⟩ := s.event_only c a0 a1 a2
  rw [h]; rfl

@[simp] theorem State.free_hp (s : State) (p : Nat) : s.free.2.hp p = s.hp p := rfl

/-- An Unexpected Completion in AER is an advisory non-fatal error: its entry, its status and its message (R40). -/
theorem State.aer_unexpected (s : State) (p : Nat) :
    s.aer p 1 = (s.free.2.setHp p { s.free.2.hp p with
      aer := (s.free.2.hp p).aer ++ [{ kind := 1, advisory := true, header := s.free.1 % 2 ^ 128 }],
      advisory := true }).send (.errMsg p 0) := by
  simp [State.aer]

/-- A poisoned TLP is an AER entry, with no advisory status and no message. -/
theorem State.aer_poisoned (s : State) (p : Nat) :
    s.aer p 2 = s.free.2.setHp p { s.free.2.hp p with
      aer := (s.free.2.hp p).aer ++ [{ kind := 2, advisory := false, header := s.free.1 % 2 ^ 128 }] } := by
  simp [State.aer]

/-- Logging a poisoned TLP leaves the port's outstanding requests. -/
@[simp] theorem State.poisonedTlp_reqs (s : State) (p : Nat) : ((s.poisonedTlp p).hp p).reqs = (s.hp p).reqs := by
  simp [State.poisonedTlp, State.aer_poisoned]

/-- Logging a poisoned TLP leaves the port's quarantine. -/
@[simp] theorem State.poisonedTlp_quar (s : State) (p : Nat) : ((s.poisonedTlp p).hp p).quar = (s.hp p).quar := by
  simp [State.poisonedTlp, State.aer_poisoned]

/-- A tag that is neither outstanding nor quarantined at a port. -/
def State.UnknownTag (s : State) (p tag : Nat) : Prop :=
  (s.hp p).reqs.find? (fun r => r.tag == tag) = none ∧ (s.hp p).quar.find? (fun q => q.tag == tag) = none

theorem State.UnknownTag.poisonedTlp {s : State} {p tag : Nat} (h : s.UnknownTag p tag) :
    (s.poisonedTlp p).UnknownTag p tag := by
  simpa [State.UnknownTag] using h

/-- No request waits under the tag, so a timer's expiry ends none. -/
theorem State.UnknownTag.timeout_eq {s : State} {p tag : Nat} (h : s.UnknownTag p tag) : s.timeout p tag = s := by
  simp [State.timeout, h.1]

theorem State.UnknownTag.not_quiet {s : State} {p tag : Nat} (h : s.UnknownTag p tag) :
    (s.hp p).quar.any (fun q => q.tag == tag && q.quiet) = false := by
  have hq := List.find?_eq_none.mp h.2
  simp only [List.any_eq_false]
  intro q hm
  simp [hq q hm]

/-- A completion with an unknown tag, good or not and whatever its data, is logged and recorded; a poisoned one is logged
as poisoned before (R41). -/
theorem State.UnknownTag.completion_eq {s : State} {p tag : Nat} (h : s.UnknownTag p tag)
    (d : List Byte) (good poisoned expiring : Bool) :
    s.completion p tag d good poisoned expiring =
      ((if poisoned = true then s.poisonedTlp p else s).aer p 1).event 0x1004 0 0 0 := by
  have hu : (if poisoned = true then s.poisonedTlp p else s).UnknownTag p tag := by
    split
    · exact h.poisonedTlp
    · exact h
  simp only [State.completion, h.not_quiet, Bool.not_false, Bool.and_true, hu.timeout_eq, ite_self]
  rw [hu.1, hu.2]

/-- Settles O49: the tag stays unknown through the log of a poisoned TLP and the expiry of a timer, so the completion
reaches R41's branch; what AER logs is each kind's entry. -/
theorem unexpectedCompletions : Obligations.UnexpectedCompletions := by
  unfold Obligations.UnexpectedCompletions
  constructor
  · intro p tag d good poisoned expiring s u hr hq hu
    have ht : s.UnknownTag p tag := ⟨hr, hq⟩
    rw [hu, exec_completionTlp, execCompletionTlp, State.onPort, ht.completion_eq]
  · intro p h s u hfree
    obtain rfl : h = s.free.1 := congrArg Prod.fst hfree
    obtain rfl : u = s.free.2 := congrArg Prod.snd hfree
    exact ⟨s.aer_unexpected p, by rw [State.poisonedTlp, s.aer_poisoned p]⟩

end Sys2Proof.Machine

/-!
Bramble during its disable walk (R124): a write that the walk refuses, and what a first and a later CFG_ERR of a block
record (R29). The proof of R124's statement follows.
-/
namespace Sys2Proof.Machine

/-- A CFG_ERR of a block that has had one since power-up records no event. -/
theorem State.cfgErr_seen {s : State} {b : CfgBlk} (addr : Nat)
    (h : Tbl.get s.dev.cfgSeen false (b.fld.key b.idx) = true) : s.cfgErr b addr = s.setB b.fld b.idx true :=
  if_pos (State.setB_dev s _ _ _ ▸ h)

/-- The first CFG_ERR of a block since power-up records event 0x001 of its subsystem, with the register's address. -/
theorem State.cfgErr_first {s t : State} {b : CfgBlk} (addr : Nat)
    (h : Tbl.get s.dev.cfgSeen false (b.fld.key b.idx) = false) (ht : t = s.setB b.fld b.idx true) :
    s.cfgErr b addr =
      ({ t with dev := { t.dev with cfgSeen := Tbl.set t.dev.cfgSeen false (b.fld.key b.idx) true } }).event
        (b.sub * 0x1000 + 1) addr 0 0 := by
  subst ht
  rw [← State.setB_dev s b.fld b.idx true] at h
  exact if_neg (Bool.eq_false_iff.mp h)

/-- A write to a block that the block, while its domain is on, takes as a rejected configuration write. -/
theorem State.onBlk_cfgErr {s : State} {b : Blk} {c : CfgBlk} {i a : Nat} {g : State → State} (h : g s = s.cfgErr c a) :
    s.onBlk b i g = if s.blkOn b i = true then s.cfgErr c a else s.unstarted b := by
  rw [State.onBlk, h]

/-- The walk refuses a write of 1 to EN, whether or not Bramble's EN reads 1 (R124). -/
theorem State.brambleEnable_walk {s : State} (h : s.b .BUF_BRM_CTRL_DISABLE_PENDING 0 = true) :
    exec .brambleEnable s = .next (if s.blkOn .buf 0 = true then s.cfgErr .buf (Fld.BUF_BRM_CTRL_EN.addr 0)
      else s.unstarted .buf) := by
  rw [exec_brambleEnable]
  exact congrArg Host.Outcome.next (State.onBlk_cfgErr (if_pos h))

/-- The walk refuses a GO of each maintenance operation, whatever its range (R124). -/
theorem State.maintain_walk {s : State} (h : s.b .BUF_BRM_CTRL_DISABLE_PENDING 0 = true)
    (op count : Nat) (setWay : Bool) :
    s.maintain op count setWay = if s.blkOn .buf 0 = true then s.cfgErr .buf (Fld.BUF_CMO_CTRL_GO.addr 0)
      else s.unstarted .buf :=
  State.onBlk_cfgErr (if_pos (.inr (.inr (.inr (.inr h)))))

/-- Settles O50: each of the four writes is refused by the walk's own condition before anything else of it takes effect,
and BUF's first and later CFG_ERR are those of any block. -/
theorem enableAndMaintenanceDuringTheWalk : Obligations.EnableAndMaintenanceDuringTheWalk := by
  unfold Obligations.EnableAndMaintenanceDuringTheWalk
  constructor
  · intro count setWay s hwalk
    have hgo := State.maintain_walk hwalk
    refine ⟨State.brambleEnable_walk hwalk, ?_, ?_, ?_⟩
    · rw [exec_clean, execClean, hgo]
    · rw [exec_invalidate, execInvalidate, hgo]
    · rw [exec_cleanAndInvalidate, execCleanAndInvalidate, hgo]
  · intro a s t ht
    exact ⟨fun hseen => (State.cfgErr_seen (b := .buf) a hseen).trans ht.symm, fun hfirst => State.cfgErr_first (b := .buf) a hfirst ht⟩

end Sys2Proof.Machine

/-!
Resets, steps and fields: the statements O1, O3, O4 and O6, which follow from the definitions and the rules of a field's set.
-/
namespace Sys2Proof.Machine
set_option Elab.async false

/-- Settles O1: a step on a queue is the front command's meaning by definition, and every meaning's definition answers a next state. -/
theorem stepRunsTheFrontCommand : Obligations.StepRunsTheFrontCommand := by
  unfold Obligations.StepRunsTheFrontCommand
  refine ⟨fun c rest s => rfl, fun c s => ?_⟩
  cases c <;> exact ⟨_, rfl⟩

/-- After reset no field is listed, so that each reads its reset value. -/
theorem State.reset_f (x : Fld) (i : Nat) : State.reset.f x i = x.resetAt i := ite_self _

theorem State.reset_g (x : Fld) (i : Nat) : State.reset.g x i = x.resetAt i := ite_self _

/-- Settles O3: the state after reset lists no field and no byte. -/
theorem resetLeavesTheTableValues : Obligations.ResetLeavesTheTableValues := by
  unfold Obligations.ResetLeavesTheTableValues
  exact ⟨fun x i a => ⟨State.reset_f x i, State.reset_g x i, rfl⟩, rfl, rfl, rfl⟩

/-- Settles O4: the empty tables are in canonical form. -/
theorem resetIsWellFormed : Obligations.ResetIsWellFormed := by
  unfold Obligations.ResetIsWellFormed
  exact ⟨rfl, rfl, rfl, rfl⟩

/-- What any copy's value in force is after a set of one. -/
theorem State.g_setG (s : State) (x y : Fld) (i j v : Nat) (hi : i < 2048) :
    (s.setG x i v).g y j = if x = y ∧ i = j then v % 2 ^ x.width else s.g y j := by
  split
  next h =>
    obtain ⟨rfl, rfl⟩ := h
    exact s.g_setG_same x i v hi
  next h => exact s.g_setG_other x y i j v (by tauto)

/-- Settles O6, by the rules of `setF` and `setG` for the field set, for every other one, and for the rest of the state. -/
theorem fieldReadsWhatWasSet : Obligations.FieldReadsWhatWasSet := by
  unfold Obligations.FieldReadsWhatWasSet
  refine ⟨fun s x y i j v hi => ⟨?_, ?_, ?_, ?_, ?_⟩, fun s x y i j v hi => ⟨?_, ?_, ?_, ?_, ?_⟩⟩
  · exact s.f_setF x y i j v hi
  · exact s.g_setF x y i j v
  · exact s.setF_mem x i v
  · exact s.setF_pending x i v
  · exact s.setF_out x i v
  · exact s.g_setG x y i j v hi
  · exact s.f_setG x y i j v
  · exact s.setG_mem x i v
  · exact s.setG_pending x i v
  · exact s.setG_out x i v
end Sys2Proof.Machine

/-!
The passing of a microsecond: what it leaves in SUP_AONT, and the refutation of O2.
-/
namespace Sys2Proof.Machine
set_option Elab.async false

/-- The cores that go on from WFI leave the registers as they are. -/
theorem State.wakeCores_regs (s : State) : s.wakeCores.regs = s.regs := by
  refine List.foldlRecOn (motive := fun u : State => u.regs = s.regs) _ _ rfl fun u hu n _ => ?_
  split
  · exact hu
  · exact hu

/-- Of the registers, the main clock's microsecond changes ENG_MTIME only. -/
theorem State.mainTick_regs (s : State) : s.mainTick.regs = (s.setMtime (s.mtime + 100)).regs := by
  refine List.foldlRecOn (motive := fun u : State => u.regs = (s.setMtime (s.mtime + 100)).regs) _ _ ?_ fun u hu n _ => ?_
  · refine List.foldlRecOn (motive := fun u : State => u.regs = (s.setMtime (s.mtime + 100)).regs) _ _ rfl fun u hu n _ => ?_
    split
    · exact hu
    · exact hu
  · unfold State.coreRuns
    split
    · exact hu
    · exact hu

theorem State.f_of_regs {s t : State} (h : s.regs = t.regs) (x : Fld) (i : Nat) : s.f x i = t.f x i := by
  unfold State.f
  rw [h]

/-- Where no disable walk is under way, what follows the counts of time leaves the registers as they are. -/
theorem State.tickRest_regs {s : State} (h : s.b .BUF_BRM_CTRL_DISABLE_PENDING 0 = false) :
    ((s.wqTick.fenceTick.walkSet.dropResv).wakeCores).regs = s.regs := by
  have hs : s.wqTick.fenceTick.walkSet = s.wqTick.fenceTick := by
    refine if_neg ?_
    rw [show s.wqTick.fenceTick.b .BUF_BRM_CTRL_DISABLE_PENDING 0 = false from h]
    exact Bool.false_ne_true
  rw [hs, State.wakeCores_regs]
  rfl

/-- SUP_AONT's high half holds 16 bits. -/
theorem State.setAont_hi_lt (s : State) (v : Nat) : (s.setAont v).f .SUP_AONT_HI_T_HI 0 < 2 ^ 16 := by
  unfold State.setAont State.setFs
  rw [List.foldl_cons, List.foldl_cons, List.foldl_nil, State.f_setF_same _ _ _ _ (by decide)]
  exact Nat.mod_lt _ (Nat.two_pow_pos _)

/-- Counting time leaves every field but SUP_AONT and ENG_MTIME. -/
theorem State.f_setAont_other (s : State) (v : Nat) {y : Fld} (i : Nat) (hl : Fld.SUP_AONT_LO_T_LO ≠ y) (hh : Fld.SUP_AONT_HI_T_HI ≠ y) :
    (s.setAont v).f y i = s.f y i := s.f_setFs_ne 0 i _ y (by simp [hl, hh])

theorem State.f_mainTick_other (s : State) {y : Fld} (i : Nat) (hl : Fld.ENG_MTIME_LO_MTIME_LO ≠ y)
    (hh : Fld.ENG_MTIME_HI_MTIME_HI ≠ y) : s.mainTick.f y i = s.f y i := by
  rw [State.f_of_regs s.mainTick_regs]
  exact s.f_setFs_ne 0 i _ y (by simp [hl, hh])

/-- After a microsecond without a disable walk SUP_AONT's high half holds 16 bits. -/
theorem State.tick_aont_hi_lt {s : State} (h : s.b .BUF_BRM_CTRL_DISABLE_PENDING 0 = false) : s.tick.f .SUP_AONT_HI_T_HI 0 < 2 ^ 16 := by
  have hw : (s.setAont (s.aont + 1)).b .BUF_BRM_CTRL_DISABLE_PENDING 0 = false :=
    (congrArg (· != 0) (s.f_setAont_other _ 0 (by decide) (by decide))).trans h
  have hm : (s.setAont (s.aont + 1)).mainTick.b .BUF_BRM_CTRL_DISABLE_PENDING 0 = false :=
    (congrArg (· != 0) (State.f_mainTick_other _ 0 (by decide) (by decide))).trans hw
  unfold State.tick
  dsimp only
  split
  · rw [State.f_of_regs (State.tickRest_regs hw)]
    exact s.setAont_hi_lt _
  · rw [State.f_of_regs (State.tickRest_regs hm), State.f_mainTick_other _ 0 (by decide) (by decide)]
    exact s.setAont_hi_lt _

/-- On an empty queue a step is the passing of a microsecond. -/
theorem step_idle {s : State} (h : s.pending = []) : step s = .next s.tick := by
  unfold step
  rw [h]

/-- The state after reset with SUP_AONT one microsecond before its 48 bits wrap. -/
def aontLast : State := State.reset.setAont (2 ^ 48 - 1)

theorem aontLast_aont : aontLast.aont = 2 ^ 48 - 1 := by decide +kernel

/-- Refutes O2: SUP_AONT has 48 bits, T_HI only 16, so that one microsecond after 2^48 - 1 T_HI reads 0, and not 2^16. -/
theorem not_idleStepCountsTime : ¬ Obligations.IdleStepCountsTime := by
  unfold Obligations.IdleStepCountsTime
  intro h
  have hw : aontLast.b .BUF_BRM_CTRL_DISABLE_PENDING 0 = false :=
    (congrArg (· != 0) (State.reset.f_setAont_other _ 0 (by decide) (by decide))).trans rfl
  have hp : aontLast.pending = [] := State.setFs_pending _ _ _
  obtain ⟨t, ht, -, hhi, -⟩ := h.2 aontLast hp hw
  have hlt := State.tick_aont_hi_lt hw
  rw [step_idle hp] at ht
  rw [Host.Outcome.next.inj ht, hhi, aontLast_aont] at hlt
  exact absurd hlt (by decide)
end Sys2Proof.Machine

/-!
Bytes of memory: what a write of the device's own agents leaves in Work SRAM, in DRAM and in the protected state, and the proof of O7.
-/
namespace Sys2Proof.Machine
set_option Elab.async false

/-- A byte of memory after bytes have been stored. -/
theorem get_setBytes (m : List Host.Cell) (a b : Nat) (d : List Byte) :
    Tbl.get (setBytes m a d) 0 b = if a ≤ b ∧ b < a + d.length then d.getD (b - a) 0 else Tbl.get m 0 b := by
  induction d generalizing m a with
  | nil => rw [if_neg (by simp)]; rfl
  | cons x r ih =>
    rw [setBytes, ih]
    by_cases hb : b = a
    · subst hb
      rw [if_neg (by omega), if_pos (by simp), Tbl.get_set_same]
      simp
    · rw [Tbl.get_set_other _ _ _ _ _ _ hb]
      by_cases h : a + 1 ≤ b ∧ b < a + 1 + r.length
      · rw [if_pos h, if_pos (by simp only [List.length_cons]; omega), show b - a = b - (a + 1) + 1 by omega, List.getD_cons_succ]
      · rw [if_neg h, if_neg (by simp only [List.length_cons]; omega)]

/-- Outside the protected state a write is the landing of its bytes. -/
theorem State.wr_unprotected {s : State} {a : Nat} (d : List Byte) (h : s.protOffset a = none) :
    s.wr a d = s.wrBy .link a d := by
  unfold State.wr State.wrTag State.wrTagBy State.wrMir
  rw [if_neg (by simp [h]), if_pos (by simp [h])]

/-- Check bits of an SRAM word change no byte of memory. -/
theorem State.sramWritten_mem (s : State) (x w : Nat) : (s.sramWritten x w).mem = s.mem := by
  unfold State.sramWritten State.flipMask
  by_cases hc : (s.b .BUF_FLIP_CTRL_ARM 0 && s.f .BUF_FLIP_CTRL_ARRAY 0 == x) = true
  · rw [if_pos hc]
    exact State.setB_mem _ _ _ _
  · rw [if_neg hc]
    rfl

theorem State.sramRead_mem (s : State) (x w : Nat) : (s.sramRead x w).2.mem = s.mem := by
  unfold State.sramRead
  extract_lets m k u v
  clear_value k
  split
  · rfl
  · split <;> simp [State.event_mem, u, v]

theorem State.sramStore_mem (s : State) (x w : Nat) (p : Bool) : (s.sramStore x w p).mem = s.mem := by
  unfold State.sramStore
  split
  · exact s.sramWritten_mem x w
  · have h := s.sramRead_mem x w
    generalize s.sramRead x w = q at h ⊢
    obtain ⟨k, u⟩ := q
    dsimp only
    split
    · exact h
    · exact (u.sramWritten_mem x w).trans h

theorem State.sramStores_mem (s : State) (l : List Nat) (p : Nat → Bool) :
    (l.foldl (fun t w => t.sramStore 0 w (p w)) s).mem = s.mem :=
  List.foldlRecOn (motive := fun t : State => t.mem = s.mem) l _ rfl fun t ht w _ => (t.sramStore_mem 0 w _).trans ht

theorem State.coresSee_byteAt (s : State) (a n b : Nat) : (s.coresSee a n).byteAt b = s.byteAt b := rfl

/-- A write outside DRAM: the words' check bits, then the bytes. -/
theorem State.wrBy_low (s : State) {g : Agent} {a : Nat} {d : List Byte} (ha : ¬ dramBase ≤ a) : s.wrBy g a d =
    (let t := if inWork a d.length then
        (wordsOf (a - workBase) d.length).foldl (fun t w => t.sramStore 0 w (holdsAll (a - workBase) d.length 8 w)) s else s;
      ({ t with mem := setBytes t.mem a d } : State)).coresSee a d.length := by
  unfold State.wrBy
  extract_lets n u t
  exact congrArg (State.coresSee · a n) (if_neg ha)

theorem State.wrBy_high (s : State) {g : Agent} {a : Nat} {d : List Byte} (ha : dramBase ≤ a) : s.wrBy g a d =
    ((linesOf a d.length).foldl (fun t la => t.writeLine g (linePart a d la).1 (linePart a d la).2) s).coresSee a d.length := by
  unfold State.wrBy
  extract_lets n u t
  exact congrArg (State.coresSee · a n) (if_pos ha)

theorem inWork_iff (a n : Nat) : inWork a n = true ↔ workBase ≤ a ∧ a + n ≤ workBase + workSize := by
  unfold inWork
  exact decide_eq_true_iff

theorem State.wrBy_sram {s : State} {g : Agent} {a b : Nat} {d : List Byte} (h : inWork a d.length = true) :
    (s.wrBy g a d).byteAt b = if a ≤ b ∧ b < a + d.length then d.getD (b - a) 0 else s.byteAt b := by
  have ha : ¬ dramBase ≤ a := by
    have hw := ((inWork_iff _ _).1 h).2
    unfold workBase workSize at hw
    unfold dramBase
    omega
  rw [s.wrBy_low ha, if_pos h, State.coresSee_byteAt]
  exact (congrArg (fun m => Tbl.get (setBytes m a d) 0 b) (State.sramStores_mem _ _ _)).trans (get_setBytes s.mem a b d)

/-- With Bramble off and no error in the granules from gr on. -/
structure State.DramClean (s : State) (gr : Nat) : Prop where
  off : s.brmOn = false
  err : ∀ k, gr ≤ k → Tbl.get s.buf.err 0 k = 0

/-- A granule without an error stays as it is when part of it is written. -/
theorem State.mergeGranule_clean {s : State} {gr k : Nat} (h : s.DramClean gr) (hk : gr ≤ k) :
    (s.mergeGranule k).mem = s.mem ∧ (s.mergeGranule k).DramClean gr := by
  have hd : s.decodeGranule k = if Tbl.get s.buf.poison false k then (2, s.eccLog k true) else (0, s) := by
    unfold State.decodeGranule
    rw [h.err k hk]
    rfl
  have he : s.mergeGranule k = (s.decodeGranule k).2 := by
    unfold State.mergeGranule
    rw [h.err k hk]
    rfl
  rw [he, hd]
  split
  · refine ⟨State.setFs_mem _ _ _, ?_, ?_⟩
    · rw [← h.off]
      exact congrArg (· != 0) (s.f_setFs_ne 0 0 _ _ (by simp))
    · intro j hj
      rw [show ((2, s.eccLog k true) : Nat × State).2.buf = s.buf from State.setFs_buf _ _ _]
      exact h.err j hj
  · exact ⟨rfl, h⟩

/-- A new check code leaves memory, and every other granule's errors. -/
theorem State.granuleCode_clean {s : State} {gr k : Nat} (h : s.DramClean gr) (hk : k < gr) :
    (s.granuleCode k).mem = s.mem ∧ (s.granuleCode k).DramClean gr := by
  have hs : ∃ (m : Nat) (t : State), s.granuleCode k = t.updBuf (fun b => { b with err := Tbl.set b.err 0 k m }) ∧ t.mem = s.mem ∧ t.brmOn = s.brmOn ∧
      t.buf = s.buf := by
    refine ⟨(s.flipMask 0x20).1, (s.flipMask 0x20).2, rfl, ?_⟩
    unfold State.flipMask
    by_cases hc : (s.b .BUF_FLIP_CTRL_ARM 0 && s.f .BUF_FLIP_CTRL_ARRAY 0 == 0x20) = true
    · rw [if_pos hc]
      exact ⟨State.setB_mem _ _ _ _, State.b_setB_ne _ _ _ _ _ _ (by decide), State.setB_buf _ _ _ _⟩
    · rw [if_neg hc]
      exact ⟨rfl, rfl, rfl⟩
  obtain ⟨m, t, hc, hm, hb, he⟩ := hs
  rw [hc]
  refine ⟨hm, hb.trans h.off, fun j hj => ?_⟩
  refine Eq.trans ?_ (h.err j hj)
  rw [← he]
  exact Tbl.get_set_other t.buf.err 0 0 m k j (by omega)

theorem State.setPoison_clean {s : State} {gr k : Nat} (h : s.DramClean gr) (p : Bool) : (s.setPoison k p).DramClean gr := ⟨h.off, h.err⟩

theorem mem_granulesOf {a n k : Nat} (h : k ∈ granulesOf a n) : a / 64 ≤ k ∧ k ≤ (a + n - 1) / 64 := by
  unfold granulesOf at h
  split at h
  · simp at h
  · simp only [List.mem_map, List.mem_range] at h
    obtain ⟨i, hi, rfl⟩ := h
    omega

/-- Bytes within one line land, with the granules of later lines as they were. -/
theorem State.writeLine_clean {s : State} {g : Agent} {a la : Nat} {d : List Byte} (h : s.DramClean (2 * la))
    (ha : la * 128 ≤ a) (hd : a + d.length ≤ la * 128 + 128) :
    (s.writeLine g a d).mem = setBytes s.mem a d ∧ (s.writeLine g a d).DramClean (2 * (la + 1)) := by
  have later : ∀ t : State, t.DramClean (2 * la) → t.DramClean (2 * (la + 1)) := fun t ht => ⟨ht.off, fun k hk => ht.err k (by omega)⟩
  unfold State.writeLine
  dsimp only
  split
  next h0 => exact ⟨by rw [List.length_eq_zero_iff.1 h0]; rfl, later s h⟩
  next h0 =>
    rw [if_neg (by simp [h.off])]
    have h1 : ∀ t : State, t = (granulesOf a d.length).foldl
        (fun u gr => if holdsAll a d.length 64 gr then u.setPoison gr false else u.mergeGranule gr) s →
        t.mem = s.mem ∧ t.DramClean (2 * la) := by
      rintro t rfl
      refine List.foldlRecOn (motive := fun t : State => t.mem = s.mem ∧ t.DramClean (2 * la)) _ _ ⟨rfl, h⟩ fun t ht k hk => ?_
      have hk := mem_granulesOf hk
      split
      · exact ⟨ht.1, t.setPoison_clean ht.2 _⟩
      · obtain ⟨hm, hc⟩ := State.mergeGranule_clean ht.2 (k := k) (by omega)
        exact ⟨hm.trans ht.1, hc⟩
    generalize List.foldl (fun u gr => if holdsAll a d.length 64 gr = true then u.setPoison gr false else u.mergeGranule gr) s _ = t at h1
    obtain ⟨hm, hc⟩ := h1 t rfl
    have h2 : ∀ l : List Nat, (∀ k ∈ l, k < 2 * (la + 1)) →
        (l.foldl (fun u gr => u.granuleCode gr) ({ t with mem := setBytes t.mem a d } : State)).mem = setBytes s.mem a d ∧
          (l.foldl (fun u gr => u.granuleCode gr) ({ t with mem := setBytes t.mem a d } : State)).DramClean (2 * (la + 1)) := fun l hl => by
      refine List.foldlRecOn (motive := fun u : State => u.mem = setBytes s.mem a d ∧ u.DramClean (2 * (la + 1))) l _
        ⟨congrArg (setBytes · a d) hm, later _ ⟨hc.off, hc.err⟩⟩ fun u hu k hk => ?_
      obtain ⟨hm, hc⟩ := State.granuleCode_clean hu.2 (hl k hk)
      exact ⟨hm.trans hu.1, hc⟩
    obtain ⟨hm', hc'⟩ := h2 (granulesOf a d.length) fun k hk => by have := mem_granulesOf hk; omega
    exact ⟨hm', ⟨hc'.off, hc'.err⟩⟩

/-- The parts of a byte string are its bytes within each line. -/
theorem linePart_spec {a la : Nat} {d : List Byte} (h0 : a / 128 ≤ la) (h1 : la * 128 < a + d.length) :
    (linePart a d la).1 = max a (la * 128) ∧
      (linePart a d la).1 + (linePart a d la).2.length = min (a + d.length) (la * 128 + 128) ∧
      ∀ i, i < (linePart a d la).2.length → (linePart a d la).2.getD i 0 = d.getD ((linePart a d la).1 - a + i) 0 := by
  unfold linePart
  split
  next h =>
    refine ⟨by omega, by simp only [List.length_take]; omega, fun i hi => ?_⟩
    simp only [List.length_take] at hi
    simp only [List.getD_eq_getElem?_getD, List.getElem?_take, Nat.sub_self, Nat.zero_add]
    rw [if_pos (by omega)]
  next h =>
    refine ⟨by omega, by simp only [List.length_take, List.length_drop]; omega, fun i hi => ?_⟩
    simp only [List.length_take, List.length_drop] at hi
    simp only [List.getD_eq_getElem?_getD, List.getElem?_take, List.getElem?_drop]
    rw [if_pos (by omega)]

/-- The lines of a range written one after another: the bytes below the line reached have landed. -/
theorem State.writeLines_clean {s : State} {g : Agent} {a k : Nat} {d : List Byte} (h : s.DramClean (2 * (a / 128)))
    (hd : 0 < d.length) (hk : k ≤ (a + d.length - 1) / 128 - a / 128 + 1) (t : State)
    (ht : t = ((List.range k).map (· + a / 128)).foldl (fun t la => t.writeLine g (linePart a d la).1 (linePart a d la).2) s) :
    t.DramClean (2 * (a / 128 + k)) ∧
      ∀ b, t.byteAt b = if a ≤ b ∧ b < min (a + d.length) ((a / 128 + k) * 128) then d.getD (b - a) 0 else s.byteAt b := by
  induction k generalizing t with
  | zero =>
    subst ht
    exact ⟨h, fun b => (if_neg (by omega)).symm⟩
  | succ k ih =>
    rw [List.range_succ, List.map_append, List.foldl_append] at ht
    obtain ⟨hc, hb⟩ := ih (by omega) _ rfl
    generalize ((List.range k).map (· + a / 128)).foldl (fun t la => t.writeLine g (linePart a d la).1 (linePart a d la).2) s = u at ht hc hb
    obtain ⟨h1, h2, h3⟩ := linePart_spec (a := a) (la := k + a / 128) (d := d) (by omega) (by omega)
    have hl : u.DramClean (2 * (k + a / 128)) := ⟨hc.off, fun j hj => hc.err j (by omega)⟩
    obtain ⟨hm, hc'⟩ := State.writeLine_clean (g := g) (a := (linePart a d (k + a / 128)).1) (d := (linePart a d (k + a / 128)).2) hl
      (by omega) (by omega)
    obtain rfl : t = u.writeLine g (linePart a d (k + a / 128)).1 (linePart a d (k + a / 128)).2 := ht
    refine ⟨⟨hc'.off, fun j hj => hc'.err j (by omega)⟩, fun b => ?_⟩
    rw [State.byteAt, hm, get_setBytes]
    split
    next hb' =>
      rw [h3 _ (by omega), if_pos (by omega)]
      congr 1
      omega
    next hb' =>
      rw [show Tbl.get u.mem 0 b = u.byteAt b from rfl, hb]
      by_cases hx : a ≤ b ∧ b < min (a + d.length) ((a / 128 + k) * 128)
      · rw [if_pos hx, if_pos (by omega)]
      · rw [if_neg hx, if_neg (by omega)]

theorem State.wrBy_dram {s : State} {g : Agent} {a b : Nat} {d : List Byte} (ha : dramBase ≤ a) (hb : s.brmOn = false)
    (he : s.buf.err = []) :
    (s.wrBy g a d).byteAt b = if a ≤ b ∧ b < a + d.length then d.getD (b - a) 0 else s.byteAt b := by
  have hc : s.DramClean (2 * (a / 128)) := ⟨hb, fun k _ => by rw [he, Tbl.get_nil]⟩
  rw [s.wrBy_high ha, State.coresSee_byteAt]
  unfold linesOf
  split
  next h0 => rw [if_neg (by omega)]; rfl
  next h0 =>
    obtain ⟨-, h⟩ := State.writeLines_clean (g := g) hc (Nat.pos_of_ne_zero h0) le_rfl _ rfl
    refine (h b).trans ?_
    by_cases hx : a ≤ b ∧ b < a + d.length
    · rw [if_pos hx, if_pos (by omega)]
    · rw [if_neg hx, if_neg (by omega)]

/-- Settles O7: outside the protected state a write is the landing of its bytes, in Work SRAM at once and in DRAM line by line; the protected
state takes none from the freeze on. -/
theorem memoryReadsWhatWasWritten : Obligations.MemoryReadsWhatWasWritten := by
  unfold Obligations.MemoryReadsWhatWasWritten
  refine ⟨fun s a b d hp hw ho => ?_, fun s a b d hp hd hb he ho => ?_, fun s a b d ho hf => ?_⟩
  · rw [State.wr_unprotected d ho]
    exact State.wrBy_sram hw
  · rw [State.wr_unprotected d ho]
    simp only [State.inDram, decide_eq_true_eq] at hd
    exact State.wrBy_dram hd.1 hb he
  · unfold State.wr State.wrTag State.wrTagBy State.wrMir
    rw [if_pos (by rw [ho, hf]; rfl)]
end Sys2Proof.Machine

/-!
Every operation of the model keeps the state well formed, an operation after another in the order of the model's files, and with them every step: O5.
A lemma `State.Wf.op` says that `op` of a well-formed state is well formed, so that a proof follows the definition as a chain of operations.
-/
namespace Sys2Proof.Machine
set_option Elab.async false

/-- What a state's well-formedness reads is the registers, the values in force, memory and the eFlash array: any other part may change. -/
theorem State.Wf.same {s t : State} (h : s.Wf) (hr : t.regs = s.regs := by rfl) (hf : t.force = s.force := by rfl)
    (hm : t.mem = s.mem := by rfl) (he : t.efl.mem = s.efl.mem := by rfl) : t.Wf := h.of_eq hr hf hm he

theorem State.Wf.dev {s : State} (h : s.Wf) {x : Dev} : ({ s with dev := x } : State).Wf := h.same

theorem State.Wf.hep {s : State} (h : s.Wf) {x : Hep} : ({ s with hep := x } : State).Wf := h.same

theorem State.Wf.ciu {s : State} (h : s.Wf) {x : Ciu} : ({ s with ciu := x } : State).Wf := h.same

theorem State.Wf.buf {s : State} (h : s.Wf) {x : Buf} : ({ s with buf := x } : State).Wf := h.same

theorem State.Wf.btl {s : State} (h : s.Wf) {x : Btl} : ({ s with btl := x } : State).Wf := h.same

theorem State.Wf.eng {s : State} (h : s.Wf) {x : Eng} : ({ s with eng := x } : State).Wf := h.same

theorem State.Wf.mwr {s : State} (h : s.Wf) {x : Mwr} : ({ s with mwr := x } : State).Wf := h.same

theorem State.Wf.chn {s : State} (h : s.Wf) {x : Chn} : ({ s with chn := x } : State).Wf := h.same

theorem State.Wf.srv {s : State} (h : s.Wf) {x : Srv} : ({ s with srv := x } : State).Wf := h.same

theorem State.Wf.mpd {s : State} (h : s.Wf) {x : Mpd} : ({ s with mpd := x } : State).Wf := h.same

theorem State.Wf.sup {s : State} (h : s.Wf) {x : Sup} : ({ s with sup := x } : State).Wf := h.same

theorem State.Wf.sec {s : State} (h : s.Wf) {x : Sec} : ({ s with sec := x } : State).Wf := h.same

theorem State.Wf.thm {s : State} (h : s.Wf) {x : Thm} : ({ s with thm := x } : State).Wf := h.same

theorem State.Wf.cal {s : State} (h : s.Wf) {x : Cal} : ({ s with cal := x } : State).Wf := h.same

theorem State.Wf.plv {s : State} (h : s.Wf) {x : Plv} : ({ s with plv := x } : State).Wf := h.same

theorem State.Wf.mir {s : State} (h : s.Wf) {x : Mir} : ({ s with mir := x } : State).Wf := h.same

theorem State.Wf.evr {s : State} (h : s.Wf) {x : Evr} : ({ s with evr := x } : State).Wf := h.same

theorem State.Wf.out {s : State} (h : s.Wf) {x : List Msg} : ({ s with out := x } : State).Wf := h.same

theorem State.Wf.freeCtr {s : State} (h : s.Wf) {x : Nat} : ({ s with freeCtr := x } : State).Wf := h.same

theorem State.Wf.pending {s : State} (h : s.Wf) {x : List Instr} : ({ s with pending := x } : State).Wf := h.same

theorem State.Wf.setMem {s : State} (h : s.Wf) {a : Nat} {d : List Byte} : ({ s with mem := setBytes s.mem a d } : State).Wf :=
  State.setMem_Wf h a d

theorem State.Wf.filterMem {s : State} (h : s.Wf) {p : Host.Cell → Bool} : ({ s with mem := s.mem.filter p } : State).Wf :=
  ⟨h.regs, h.force, Memory.wf_filter _ _ h.mem, h.flash⟩

theorem State.Wf.ite {c : Prop} [Decidable c] {s t : State} (hs : s.Wf) (ht : t.Wf) : (if c then s else t).Wf := by
  split <;> assumption

theorem State.Wf.ite_snd {α : Type} {c : Prop} [Decidable c] {p q : α × State} (hp : p.2.Wf) (hq : q.2.Wf) :
    (if c then p else q).2.Wf := by
  split <;> assumption

theorem State.Wf.ite_snd_snd {α β : Type} {c : Prop} [Decidable c] {p q : α × β × State} (hp : p.2.2.Wf) (hq : q.2.2.Wf) :
    (if c then p else q).2.2.Wf := by
  split <;> assumption

theorem State.Wf.ite_snd3 {α β γ : Type} {c : Prop} [Decidable c] {p q : α × β × γ × State} (hp : p.2.2.2.Wf) (hq : q.2.2.2.Wf) :
    (if c then p else q).2.2.2.Wf := by
  split <;> assumption

theorem State.Wf.pair {α : Type} {a : α} {s : State} (h : s.Wf) : (a, s).2.Wf := h

theorem State.Wf.pair2 {α β : Type} {a : α} {b : β} {s : State} (h : s.Wf) : (a, b, s).2.2.Wf := h

theorem State.Wf.foldl {α : Type} {l : List α} {g : State → α → State} {s : State} (h : s.Wf)
    (hg : ∀ t, t.Wf → ∀ a, (g t a).Wf) : (l.foldl g s).Wf :=
  State.foldl_Wf g (fun t a ht => hg t ht a) l h

theorem State.Wf.elim {α : Type} {o : Option α} {g : α → State} {s : State} (h : s.Wf) (hg : ∀ a, (g a).Wf) :
    (o.elim s g).Wf := by
  cases o with
  | none => exact h
  | some a => exact hg a

theorem State.Wf.of_pair {α : Type} {p : α × State} {a : α} {t : State} (h : p.2.Wf) (e : p = (a, t)) : t.Wf := by
  rw [e] at h; exact h

theorem State.Wf.of_pair2 {α β : Type} {p : α × β × State} {a : α} {b : β} {t : State} (h : p.2.2.Wf) (e : p = (a, b, t)) : t.Wf := by
  rw [e] at h; exact h

theorem State.Wf.of_pair3 {α β γ : Type} {p : α × β × γ × State} {a : α} {b : β} {c : γ} {t : State} (h : p.2.2.2.Wf)
    (e : p = (a, b, c, t)) : t.Wf := by
  rw [e] at h; exact h

theorem State.Wf.pair3 {α β γ : Type} {a : α} {b : β} {c : γ} {s : State} (h : s.Wf) : (a, b, c, s).2.2.2.Wf := h

/-- The next state of a meaning, where it answers one, is well formed. -/
def Outcome.Wf (o : Outcome) : Prop := ∀ t, o = .next t → t.Wf

theorem State.Wf.next {s : State} (h : s.Wf) : Outcome.Wf (.next s) := fun _ e => Host.Outcome.next.inj e ▸ h

/-- The state that an answer holds, where it holds one, is well formed. -/
def OptWf (o : Option State) : Prop := ∀ t, o = some t → t.Wf

theorem OptWf.none : OptWf Option.none := fun _ e => absurd e.symm (Option.some_ne_none _)

theorem State.Wf.some {s : State} (h : s.Wf) : OptWf (Option.some s) := fun _ e => Option.some.inj e ▸ h

theorem OptWf.ite {c : Prop} [Decidable c] {o p : Option State} (ho : OptWf o) (hp : OptWf p) : OptWf (if c then o else p) := by
  split <;> assumption

/-! ### The operations of Sys2Proof/Machine/Ops.lean -/

theorem State.Wf.setF {s : State} (h : s.Wf) {x : Fld} {i v : Nat} : (s.setF x i v).Wf := State.setF_Wf h x i v

theorem State.Wf.setB {s : State} (h : s.Wf) {x} {i} {v} : (s.setB x i v).Wf := h.setF

theorem State.Wf.inc {s : State} (h : s.Wf) {x} {i} {n} : (s.inc x i n).Wf := h.setF

theorem State.Wf.setG {s : State} (h : s.Wf) {x : Fld} {i v : Nat} : (s.setG x i v).Wf := State.setG_Wf h x i v

theorem State.Wf.apply {s : State} (h : s.Wf) {x} {i} : (s.apply x i).Wf := h.setG

theorem State.Wf.applyAll {s : State} (h : s.Wf) {xs} {i} : (s.applyAll xs i).Wf := h.foldl (fun _ h _ => h.apply)

theorem State.Wf.setFs {s : State} (h : s.Wf) {i} {xs} : (s.setFs i xs).Wf := h.foldl (fun _ h _ => h.setF)

theorem State.Wf.resetFlds {s : State} (h : s.Wf) {p : Nat → Bool} : (s.resetFlds p).Wf := State.resetFlds_Wf h p

theorem State.Wf.latch {s : State} (h : s.Wf) {xs} : (s.latch xs).Wf := h.dev

theorem State.Wf.free {s : State} (h : s.Wf) : (s.free).2.Wf := h.freeCtr.pair

theorem State.Wf.send {s : State} (h : s.Wf) {m} : (s.send m).Wf := h.plv.ite h.out

theorem State.Wf.evrPush {s : State} (h : s.Wf) {r} : (s.evrPush r).Wf := h.evr.setF.ite h.evr.inc.setB

theorem State.Wf.evrSuppress {s : State} (h : s.Wf) {code} : (s.evrSuppress code).Wf := h.evr.inc

theorem State.Wf.evrEnter {s : State} (h : s.Wf) {code} {a0} {a1} {a2} {fw} {keep} :
    (s.evrEnter code a0 a1 a2 fw keep).Wf := h.ite ((h.evrSuppress.ite (h.evr.evrPush.setF.ite h.evrPush)).ite h.evrPush)

theorem State.Wf.event {s : State} (h : s.Wf) {code} {a0} {a1} {a2} : (s.event code a0 a1 a2).Wf := h.evrEnter

theorem State.Wf.eventAddr {s : State} (h : s.Wf) {code} {a} : (s.eventAddr code a).Wf := h.event

theorem State.Wf.eventOnce {s : State} (h : s.Wf) {key} {code} {a0} {a1} {a2} : (s.eventOnce key code a0 a1 a2).Wf := h.ite h.dev.event

theorem State.Wf.cfgErr {s : State} (h : s.Wf) {b} {addr} : (s.cfgErr b addr).Wf := h.setB.ite h.setB.dev.event

theorem State.Wf.cfgErrAt {s : State} (h : s.Wf) {b} {x} {i} : (s.cfgErrAt b x i).Wf := h.cfgErr

theorem State.Wf.unstarted {s : State} (h : s.Wf) {b} : (s.unstarted b).Wf := h.ite h.dev.setF.event

theorem State.Wf.inBlk {s : State} (h : s.Wf) {b} {i} {g} (hg : ∀ t : State, State.Wf t → State.Wf (g t)) : (s.inBlk b i g).Wf := (hg _ h).ite h

theorem State.Wf.onBlk {s : State} (h : s.Wf) {b} {i} {g} (hg : ∀ t : State, State.Wf t → State.Wf (g t)) : (s.onBlk b i g).Wf := (hg _ h).ite h.unstarted

theorem State.Wf.accFault {s : State} (h : s.Wf) {a} : (s.accFault a).Wf := by
  unfold State.accFault
  split
  · exact h.dev
  · exact h

/-! ### The operations of Sys2Proof/Machine/Mem.lean -/

theorem State.Wf.updBuf {s : State} (h : s.Wf) {g} : (s.updBuf g).Wf := h.buf

theorem State.Wf.setPoison {s : State} (h : s.Wf) {gr} {p} : (s.setPoison gr p).Wf := h.updBuf

theorem State.Wf.flipMask {s : State} (h : s.Wf) {array} : (s.flipMask array).2.Wf := h.setB.pair.ite_snd h.pair

theorem State.Wf.sramWritten {s : State} (h : s.Wf) {array} {word} : (s.sramWritten array word).Wf := by
  unfold State.sramWritten
  split
  next x m t e =>
    have ht := h.flipMask.of_pair e
    exact ht.updBuf

theorem State.Wf.sramRead {s : State} (h : s.Wf) {array} {word} : (s.sramRead array word).2.Wf := by
  unfold State.sramRead
  exact h.pair.ite_snd (h.setF.setF.updBuf.inc.event.pair.ite_snd h.setF.setF.setB.inc.event.pair)

theorem State.Wf.sramStore {s : State} (h : s.Wf) {array} {word} {whole} : (s.sramStore array word whole).Wf := by
  unfold State.sramStore
  split
  · exact h.sramWritten
  · split
    next x m t e =>
      have ht := h.sramRead.of_pair e
      exact ht.ite ht.sramWritten

theorem State.Wf.fatal {s : State} (h : s.Wf) {p} : (s.fatal p).Wf := h.ciu

theorem State.Wf.arrayUse {s : State} (h : s.Wf) {array} : (s.arrayUse array).2.Wf := by
  unfold State.arrayUse
  split
  next x bad t e =>
    have ht : t.Wf := by
      refine State.Wf.of_pair ?_ e
      split
      · exact h.pair
      · split
        next x1 m t1 e1 =>
          have ht1 := h.free.of_pair e1
          split
          · exact ht1.pair
          · split
            next x2 m1 t2 e2 =>
              have ht2 := ht1.sramRead.of_pair e2
              exact ht2.pair
    split
    · split
      next x1 m t1 e1 =>
        have ht1 := ht.free.of_pair e1
        exact ht1.sramWritten.pair
    · exact ht.pair

theorem State.Wf.tableUse {s : State} (h : s.Wf) {array} : (s.tableUse array).Wf := by
  unfold State.tableUse
  split
  next x bad t e =>
    have ht := h.arrayUse.of_pair e
    exact ht.fatal.fatal.ite ht

theorem State.Wf.restoreSnap {s : State} (h : s.Wf) {la} {x} : (s.restoreSnap la x).Wf := h.setMem.setPoison.setPoison

theorem State.Wf.granuleCode {s : State} (h : s.Wf) {gr} : (s.granuleCode gr).Wf := by
  unfold State.granuleCode
  split
  next x m t e =>
    have ht := h.flipMask.of_pair e
    exact ht.updBuf

theorem State.Wf.eccLog {s : State} (h : s.Wf) {gr} {ue} : (s.eccLog gr ue).Wf := h.setFs

theorem State.Wf.decodeGranule {s : State} (h : s.Wf) {gr} : (s.decodeGranule gr).2.Wf := by
  unfold State.decodeGranule
  split
  · exact h.eccLog.pair.ite_snd h.pair
  · exact h.inc.eccLog.event.pair
  · exact h.setPoison.eccLog.pair
  · exact h.inc.eccLog.eventAddr.setPoison.granuleCode.pair

theorem State.Wf.putWrong {s : State} (h : s.Wf) {gr} {m} : (s.putWrong gr m).Wf := h.setMem.ite h

theorem State.Wf.fill {s : State} (h : s.Wf) {la} : (s.fill la).2.Wf := by
  unfold State.fill
  split
  · exact h.pair
  · extract_lets x m0 m1
    split
    next x1 m t e =>
      have ht := h.decodeGranule.of_pair e
      split
      next x2 m2 t1 e1 =>
        have ht1 := ht.decodeGranule.of_pair e1
        exact (((ht1.updBuf.ite ht1).putWrong).putWrong).pair

theorem State.Wf.dramWrite {s : State} (h : s.Wf) {la} {x} : (s.dramWrite la x).Wf := by
  unfold State.dramWrite
  exact h.granuleCode.granuleCode.updBuf

theorem State.Wf.enqueue {s : State} (h : s.Wf) : (s.enqueue).Wf := h.updBuf

theorem State.Wf.readLine {s : State} (h : s.Wf) {n} : (s.readLine n).Wf := by
  unfold State.readLine
  extract_lets la
  refine State.Wf.foldl h (fun t ht a => ?_)
  split
  next x m t1 e =>
    have ht1 := ht.sramRead.of_pair e
    exact ht1.setPoison.ite ht1

theorem State.Wf.setLine {s : State} (h : s.Wf) {n} {l} : (s.setLine n l).Wf := h.updBuf.setF

theorem State.Wf.setEvq {s : State} (h : s.Wf) {q} : (s.setEvq q).Wf := h.updBuf.setF

theorem State.Wf.dropRind {s : State} (h : s.Wf) {la} : (s.dropRind la).Wf := h.updBuf

theorem State.Wf.dropPip {s : State} (h : s.Wf) {la} : (s.dropPip la).Wf := h.updBuf

theorem State.Wf.dropCopy {s : State} (h : s.Wf) {la} : (s.dropCopy la).Wf := by
  unfold State.dropCopy
  split
  · exact h.restoreSnap.updBuf
  · exact h

theorem State.Wf.rindDone {s : State} (h : s.Wf) {la} : (s.rindDone la).Wf := h.updBuf

theorem State.Wf.evictionDone {s : State} (h : s.Wf) : (s.evictionDone).Wf := by
  unfold State.evictionDone
  split
  · exact h
  · exact h.dramWrite.setEvq.rindDone

theorem State.Wf.evictNow {s : State} (h : s.Wf) {la} :
    (s.evictNow la).Wf := h.ite (((h.foldl (fun _ h _ => h.dramWrite)).setEvq).rindDone)

theorem State.Wf.enterRind {s : State} (h : s.Wf) {v} : (s.enterRind v).Wf := h.updBuf.foldl (fun _ h _ => h.ite h.dropCopy)

theorem State.Wf.evict {s : State} (h : s.Wf) {n} : (s.evict n).Wf := by
  unfold State.evict
  extract_lets l s1 x s2 s3 accept s4
  have hs1 : s1.Wf := h.readLine
  have hs2 : s2.Wf := hs1.evictionDone.ite hs1
  have hs3 : s3.Wf := hs2.setEvq.ite hs2
  have hs4 : s4.Wf := hs3.dramWrite.enqueue.ite hs3
  exact h.ite hs4.setLine.enterRind

theorem State.Wf.victim {s : State} (h : s.Wf) {set} : (s.victim set).2.Wf := by
  unfold State.victim
  split
  · exact h.pair
  · split
    next x m t e =>
      have ht := h.free.of_pair e
      exact ht.pair

theorem State.Wf.allocLine {s : State} (h : s.Wf) {la} {dirty} {ceSeen} : (s.allocLine la dirty ceSeen).Wf := by
  unfold State.allocLine
  split
  next x m t e =>
    have ht := h.tableUse.victim.of_pair e
    exact ht.evict.setLine.foldl (fun _ h _ => h.sramWritten)

theorem State.Wf.prefetch {s : State} (h : s.Wf) {la} : (s.prefetch la).Wf := by
  unfold State.prefetch
  split
  · exact h
  · split
    next x bad t e =>
      have ht := h.fill.of_pair e
      exact ht.updBuf.foldl (fun _ h _ => h.ite h.dropCopy)

theorem State.Wf.prefetchAll {s : State} (h : s.Wf) {a} {n} : (s.prefetchAll a n).Wf := (h.foldl (fun _ h _ => h.prefetch)).ite h

theorem State.Wf.streamMiss {s : State} (h : s.Wf) {c} {la} : (s.streamMiss c la).Wf := by
  unfold State.streamMiss
  split
  · exact h.updBuf.prefetch.prefetch.ite h.updBuf

theorem State.Wf.lookup {s : State} (h : s.Wf) {g} {la} {noFill} : (s.lookup g la noFill).Wf := by
  unfold State.lookup
  split
  · exact h.setLine
  · split
    · exact h.dropPip.allocLine
    · split
      · exact h.dropRind.allocLine
      · split
        next x bad t e =>
          have ht := (h.pair.ite_snd h.fill).of_pair e
          extract_lets s1
          have hs1 : s1.Wf := ht.allocLine
          split
          · exact hs1.ite hs1.streamMiss
          · exact hs1

theorem State.Wf.readWords {s : State} (h : s.Wf) {a} {n} : (s.readWords a n).Wf := by
  unfold State.readWords
  refine State.Wf.foldl h (fun t ht a1 => ?_)
  split
  · split
    next x m t1 e =>
      have ht1 := ht.sramRead.of_pair e
      exact ht1.setPoison.ite ht1
  · exact ht

theorem State.Wf.touch {s : State} (h : s.Wf) {g} {a} {n} :
    (s.touch g a n).Wf := .ite (.ite ((h.foldl (fun _ h _ => h.lookup)).readWords) (h.foldl (fun _ h _ => h.decodeGranule))) ((h.foldl (fun _ h _ => h.sramRead)).ite h)

theorem State.Wf.fetch {s : State} (h : s.Wf) {g} {a} {n} : (s.fetch g a n).2.Wf := h.touch.pair.ite_snd h.touch.pair

theorem State.Wf.fetchN {s : State} (h : s.Wf) {g} {a} {n} : (s.fetchN g a n).2.Wf := by
  unfold State.fetchN
  split
  next x d t e =>
    have ht := h.fetch.of_pair e
    exact ht.pair

theorem State.Wf.cancelEvict {s : State} (h : s.Wf) {la} : (s.cancelEvict la).Wf := by
  unfold State.cancelEvict
  split
  · extract_lets s1
    have hs1 : s1.Wf := h.setEvq.dropRind
    split
    · exact hs1
    · exact hs1.allocLine
  · exact h

theorem State.Wf.markDirty {s : State} (h : s.Wf) {la} : (s.markDirty la).Wf := by
  unfold State.markDirty
  split
  · exact h
  · split
    · exact (h.ite h.setLine).updBuf
    · exact h

theorem State.Wf.mergeGranule {s : State} (h : s.Wf) {gr} : (s.mergeGranule gr).Wf := h.decodeGranule.putWrong

theorem State.Wf.writeLine {s : State} (h : s.Wf) {g} {a} {d} : (s.writeLine g a d).Wf := by
  unfold State.writeLine
  extract_lets la n s1 s2 s3 s4 s5 s6
  have hs1 : s1.Wf := h.cancelEvict.lookup.markDirty
  have hs2 : s2.Wf := hs1.foldl (fun _ h _ => h.setPoison.ite h)
  have hs3 : s3.Wf := by
    unfold s3
    refine State.Wf.foldl hs2 (fun t ht a1 => ?_)
    split
    · exact ht.sramStore
    · exact ht
  have hs4 : s4.Wf := hs3.setMem
  have hs5 : s5.Wf := h.foldl (fun _ h _ => h.setPoison.ite h.mergeGranule)
  have hs6 : s6.Wf := hs5.setMem
  exact h.ite ((hs4.evictNow.dramWrite.enqueue.ite hs4).ite ((hs6.foldl (fun _ h _ => h.granuleCode)).enqueue))

theorem State.Wf.coresSee {s : State} (h : s.Wf) {a} {n} : (s.coresSee a n).Wf := h.eng

theorem State.Wf.wrBy {s : State} (h : s.Wf) {g} {a} {d} :
    (s.wrBy g a d).Wf := ((h.foldl (fun _ h _ => h.writeLine)).ite (((h.foldl (fun _ h _ => h.sramStore)).ite h).setMem)).coresSee

theorem State.Wf.wrRaw {s : State} (h : s.Wf) {a} {d} : (s.wrRaw a d).Wf := h.wrBy

theorem State.Wf.updEng {s : State} (h : s.Wf) {g} : (s.updEng g).Wf := h.eng

theorem State.Wf.setCore {s : State} (h : s.Wf) {n} {c} : (s.setCore n c).Wf := h.updEng

theorem State.Wf.setX {s : State} (h : s.Wf) {n} {r} {v} : (s.setX n r v).Wf := h.ite h.setCore

theorem State.Wf.asCore {s : State} (h : s.Wf) {n} {g} (hg : ∀ t : State, State.Wf t → State.Wf (g t)) : (s.asCore n g).Wf := (hg _ h).eng

theorem State.Wf.cacheLine {s : State} (h : s.Wf) {n} {la} : (s.cacheLine n la).Wf := by
  unfold State.cacheLine
  extract_lets c
  split
  · exact h
  · split
    next x q t e =>
      have ht : t.Wf := by
        refine State.Wf.of_pair ?_ e
        split
        · exact h.pair
        · split
          next x1 m t1 e1 =>
            have ht1 := h.free.of_pair e1
            exact ht1.pair
      exact ht.eng

theorem State.Wf.loadFault {s : State} (h : s.Wf) {g} : (s.loadFault g).Wf := by
  unfold State.loadFault
  split
  · exact h.accFault.eng
  · exact h

theorem State.Wf.misaligned {s : State} (h : s.Wf) {g} : (s.misaligned g).Wf := by
  unfold State.misaligned
  split
  · exact h.dev
  · exact h

theorem State.Wf.frameOut {s : State} (h : s.Wf) {f} : (s.frameOut f).Wf := h.send

theorem State.Wf.frameFlush {s : State} (h : s.Wf) : (s.frameFlush).Wf := h.mir.foldl (fun _ h _ => h.frameOut)

theorem State.Wf.sendFrame {s : State} (h : s.Wf) {typ} {addr} {d} {poison} {tag} : (s.sendFrame typ addr d poison tag).Wf := h.mir.frameFlush

theorem State.Wf.mirrorWrite {s : State} (h : s.Wf) {a n : Nat} {tag : Option Nat} : (s.mirrorWrite a n tag).Wf := by
  generalize hf : @State.mirrorWrite = f
  delta State.mirrorWrite at hf
  subst hf
  beta_reduce
  cases s.protOffset a with
  | none => exact h
  | some o => exact h.foldl fun _ h _ => h.sendFrame

theorem State.Wf.wrMir {s : State} (h : s.Wf) {g} {a} {d} {tag} {mir} :
    (s.wrMir g a d tag mir).Wf := h.ite (h.wrBy.ite (h.eventOnce.ite (h.wrBy.mirrorWrite.ite h.wrBy)))

theorem State.Wf.wrTagBy {s : State} (h : s.Wf) {g} {a} {d} {tag} : (s.wrTagBy g a d tag).Wf := h.wrMir

theorem State.Wf.wrLedger {s : State} (h : s.Wf) {a} {d} {tag} : (s.wrLedger a d tag).Wf := h.wrMir

theorem State.Wf.wrTag {s : State} (h : s.Wf) {a} {d} {tag} : (s.wrTag a d tag).Wf := h.wrTagBy

theorem State.Wf.wr {s : State} (h : s.Wf) {a} {d} : (s.wr a d).Wf := h.wrTag

theorem State.Wf.wrN {s : State} (h : s.Wf) {a} {n} {v} : (s.wrN a n v).Wf := h.wr

theorem State.Wf.wrPoison {s : State} (h : s.Wf) {a} {d} : (s.wrPoison a d).Wf := h.wr.ite ((h.wr.foldl (fun _ h _ => h.setPoison)).ite h.wr)

/-! ### The operations of Sys2Proof/Machine/Intake.lean -/

theorem State.Wf.updCiu {s : State} (h : s.Wf) {g} : (s.updCiu g).Wf := h.ciu

theorem State.Wf.updHep {s : State} (h : s.Wf) {g} : (s.updHep g).Wf := h.hep

theorem State.Wf.updDev {s : State} (h : s.Wf) {g} : (s.updDev g).Wf := h.dev

theorem State.Wf.setHp {s : State} (h : s.Wf) {p} {x} : (s.setHp p x).Wf := h.updHep

theorem State.Wf.setCtrl {s : State} (h : s.Wf) {p} {x} : (s.setCtrl p x).Wf := h.updCiu

theorem State.Wf.setSq {s : State} (h : s.Wf) {p} {q} {x} : (s.setSq p q x).Wf := h.updCiu

theorem State.Wf.setCq {s : State} (h : s.Wf) {p} {q} {x} : (s.setCq p q x).Wf := h.updCiu

theorem State.Wf.setCmd {s : State} (h : s.Wf) {t} {x} : (s.setCmd t x).Wf := h.updCiu

theorem State.Wf.setNs {s : State} (h : s.Wf) {n} {x} : (s.setNs n x).Wf := h.updCiu

theorem State.Wf.setZone {s : State} (h : s.Wf) {n} {z} {x} : (s.setZone n z x).Wf := h.updCiu

theorem State.Wf.atcUse {s : State} (h : s.Wf) {e} : (s.atcUse e).Wf := h.updHep

theorem State.Wf.issue {s : State} (h : s.Wf) {p} {t} {k} {addr} {len} {e} : (s.issue p t k addr len e).Wf := by
  unfold State.issue
  extract_lets h1 s1
  have hs1 : s1.Wf := h.setHp
  split
  · exact hs1.send
  · exact hs1.send

theorem State.Wf.askPage {s : State} (h : s.Wf) {p} {page} : (s.askPage p page).Wf := by
  unfold State.askPage
  split
  · exact h
  · split
    · exact h.issue
    · exact h

theorem State.Wf.tryRead {s : State} (h : s.Wf) {p} {w} : (s.tryRead p w).Wf := by
  unfold State.tryRead
  extract_lets wait
  split
  · exact h.setHp
  · split
    · exact h.issue
    · split
      · exact h.atcUse.issue
      · exact h.askPage.setHp

theorem State.Wf.pump {s : State} (h : s.Wf) {p} : (s.pump p).Wf := h.setHp.foldl (fun _ h _ => h.tryRead)

theorem State.Wf.request {s : State} (h : s.Wf) {p} {k} {addr} {len} : (s.request p k addr len).Wf := h.tryRead

theorem State.Wf.writeXlate {s : State} (h : s.Wf) {p} {a} : (s.writeXlate p a).Wf := by
  unfold State.writeXlate
  split
  · exact h
  · split
    · exact h.atcUse
    · exact h.askPage

theorem State.Wf.sendData {s : State} (h : s.Wf) {p} {cid} {d} {ep} : (s.sendData p cid d ep).Wf := by
  unfold State.sendData
  extract_lets s1
  have hs1 : s1.Wf := by
    unfold s1
    split
    · split
      next x m t e =>
        have ht := h.free.of_pair e
        exact ht.writeXlate
    · exact h
  exact hs1.tableUse.send

theorem State.Wf.sendMarked {s : State} (h : s.Wf) {p} {cid} {d} {bad} : (s.sendMarked p cid d bad).Wf := h.sendData.ite (h.foldl (fun _ h _ => h.sendData))

theorem State.Wf.fetchMarked {s : State} (h : s.Wf) {g} {a} {n} : State.Wf (State.fetchMarked s g a n).2.2 := by
  unfold State.fetchMarked
  split
  next x d t e =>
    have ht := h.fetch.of_pair e
    exact ht.pair2

theorem State.Wf.setVec {s : State} (h : s.Wf) {p} {v} {m} : (s.setVec p v m).Wf := h.setHp

theorem State.Wf.sendMsix {s : State} (h : s.Wf) {p} {v} : (s.sendMsix p v).Wf := h.setVec.send

theorem State.Wf.settleVec {s : State} (h : s.Wf) {p} {v} : (s.settleVec p v).Wf := h.setVec.ite h

theorem State.Wf.raiseVec {s : State} (h : s.Wf) {p} {v} : (s.raiseVec p v).Wf := h.setVec.settleVec.ite (h.setVec.ite h.sendMsix)

theorem State.Wf.putCqe {s : State} (h : s.Wf) {p} {k} {sq} {cid} {sct} {sc} {dw0} : (s.putCqe p k sq cid sct sc dw0).Wf := h.writeXlate.setCq.send

theorem State.Wf.postCqeTo {s : State} (h : s.Wf) {p} {k} {sq} {cid} {sct} {sc} {dw0} : (s.postCqeTo p k sq cid sct sc dw0).Wf := h.putCqe.raiseVec

theorem State.Wf.postCqe {s : State} (h : s.Wf) {p} {sq} {cid} {sct} {sc} {dw0} : (s.postCqe p sq cid sct sc dw0).Wf := h.postCqeTo

theorem State.Wf.ledgerRead {s : State} (h : s.Wf) {i} : (s.ledgerRead i).2.Wf := h.fetch

theorem State.Wf.setNonfinal {s : State} (h : s.Wf) {n} : (s.setNonfinal n).Wf := h.setF.setF.setF

/-- A recursion over fuel whose every turn keeps the state well formed keeps it so. -/
theorem Wf.brecOn {F : (n : Nat) → Nat.below (motive := fun _ => State → State) n → State → State}
    (h0 : ∀ b s, s.Wf → (F 0 b s).Wf)
    (hs : ∀ k b, (∀ s, s.Wf → (b.1 s).Wf) → ∀ s, s.Wf → (F (k + 1) b s).Wf) (n : Nat) : ∀ s : State, s.Wf → (Nat.brecOn (motive := fun _ => State → State) n F s).Wf := by
  induction n with
  | zero => exact fun s h => h0 _ s h
  | succ k ih => exact fun s h => hs k _ ih s h

theorem State.Wf.ledgerSkip {s : State} (h : s.Wf) {fuel : Nat} : (s.ledgerSkip fuel).Wf := by
  have hr : ∀ (s : State) (i : Nat), s.Wf → (s.ledgerRead i).2.Wf := fun _ _ h => h.ledgerRead
  generalize hf : @State.ledgerSkip = f
  delta State.ledgerSkip State.ledgerSkip._f at hf
  generalize @State.ledgerRead = rd at hf hr
  revert rd
  refine id ?_
  intro rd hf hr
  subst hf
  refine Wf.brecOn (fun _ _ h => h) (fun k b ih s h => ?_) fuel s h
  have ht := hr s (s.f .LDG_APPEND_INDEX 0) h
  dsimp only
  generalize rd s (s.f .LDG_APPEND_INDEX 0) = q at ht ⊢
  obtain ⟨c, t⟩ := q
  exact (ih _ (State.Wf.inc ht).event.setF).ite ht

theorem State.Wf.ledgerAppend {s : State} (h : s.Wf) {t} :
    (s.ledgerAppend t).Wf := ((h.ledgerSkip.wrLedger.setFs.foldl (fun _ h _ => h.setFs)).setNonfinal).setCmd

theorem State.Wf.ledgerPut {s : State} (h : s.Wf) {i} {b} {tag} : (s.ledgerPut i b tag).Wf := h.wrLedger

theorem State.Wf.ledgerState {s : State} (h : s.Wf) {i st status : Nat} {tag : Option Nat} : (s.ledgerState i st status tag).Wf := by
  generalize hf : @State.ledgerState = f
  delta State.ledgerState at hf
  subst hf
  beta_reduce
  cases e : s.ledgerRead i with
  | mk b t =>
    have ht := h.ledgerRead.of_pair e
    exact ht.ledgerPut.setNonfinal.ite ht.ledgerPut

theorem State.Wf.ledgerFlags {s : State} (h : s.Wf) {i v : Nat} {tag : Option Nat} : (s.ledgerFlags i v tag).Wf := by
  generalize hf : @State.ledgerFlags = f
  delta State.ledgerFlags at hf
  subst hf
  beta_reduce
  cases e : s.ledgerRead i with
  | mk b t => exact (h.ledgerRead.of_pair e).ledgerPut

theorem State.Wf.setInflight {s : State} (h : s.Wf) {n} : (s.setInflight n).Wf := h.setF.setB.setB

theorem State.Wf.fetchEnd {s : State} (h : s.Wf) : (s.fetchEnd).Wf := h.setInflight

theorem State.Wf.takeSlot {s : State} (h : s.Wf) : (s.takeSlot).Wf := h.updCiu

theorem State.Wf.freeSlot {s : State} (h : s.Wf) {n} : (s.freeSlot n).Wf := h.updCiu.setF

theorem State.Wf.leave {s : State} (h : s.Wf) {t} :
    (s.leave t).Wf := (h.setCmd.updCiu.ite h.setCmd.updCiu.setInflight).foldl (fun _ h _ => h.freeSlot.ite h)

theorem State.Wf.stale {s : State} (h : s.Wf) : (s.stale).Wf := h.inc.event

theorem State.Wf.onTag {s : State} (h : s.Wf) {tag} {g} (hg : ∀ t : State, State.Wf t → State.Wf (g t)) : (s.onTag tag g).Wf := h.stale.ite ((hg _ h).ite h)

theorem State.Wf.finish {s : State} (h : s.Wf) {t} {sct} {sc} {dw0} : (s.finish t sct sc dw0).Wf := by
  unfold State.finish
  extract_lets c tag s1 s2 s3
  have hs1 : s1.Wf := by
    unfold s1
    split
    · exact h.ledgerState
    · exact h
  have hs2 : s2.Wf := hs1.postCqe
  have hs3 : s3.Wf := by
    unfold s3
    split
    · exact hs2.ledgerFlags
    · exact hs2
  exact hs1.leave.ite hs3.leave

theorem State.Wf.endUnposted {s : State} (h : s.Wf) {t} : (s.endUnposted t).Wf := by
  unfold State.endUnposted
  extract_lets c s1
  have hs1 : s1.Wf := by
    unfold s1
    split
    · exact h.ledgerState.ite h.ledgerState
    · exact h
  exact hs1.leave

theorem State.Wf.onCmd {s : State} (h : s.Wf) {t} {admin} {opc} {g} (hg : ∀ a1, State.Wf (g a1)) : (s.onCmd t admin opc g).Wf := (hg _).ite h

theorem State.Wf.takeBuf {s : State} (h : s.Wf) {n} : (s.takeBuf n).Wf := h.updCiu.setF

theorem State.Wf.storeBlocks {s : State} (h : s.Wf) {t ns fmt lba : Nat} {l : List (List Byte)} : (s.storeBlocks t ns fmt lba l).Wf := by
  induction l generalizing s lba with
  | nil => exact h
  | cons d r ih => exact ih h.takeBuf.wrTag.setCmd

theorem State.Wf.dropBlocks {s : State} (h : s.Wf) {t} : (s.dropBlocks t).Wf := h.setCmd

/-! ### The operations of Sys2Proof/Machine/Btl.lean -/

theorem State.Wf.updBtl {s : State} (h : s.Wf) {g} : (s.updBtl g).Wf := h.btl

theorem State.Wf.setBand {s : State} (h : s.Wf) {p} {b} : (s.setBand p b).Wf := h.wr

theorem State.Wf.bandTo {s : State} (h : s.Wf) {p} {st} : (s.bandTo p st).Wf := h.setBand.ite h.setBand

theorem State.Wf.recount {s : State} (h : s.Wf) : (s.recount).Wf := by
  unfold State.recount
  split
  · exact h.setFs.updBtl.event.ite h.setFs

theorem State.Wf.clearAcc {s : State} (h : s.Wf) {acc} : (s.clearAcc acc).Wf := h.foldl (fun _ h _ => h.wr)

theorem State.Wf.touchBand {s : State} (h : s.Wf) {p} : (s.touchBand p).Wf := h.touch.ite h

theorem State.Wf.retiring {s : State} (h : s.Wf) {p} : (s.retiring p).Wf := h.bandTo.setB

theorem State.Wf.retired {s : State} (h : s.Wf) {p} : (s.retired p).Wf := h.bandTo.inc

theorem State.Wf.headFailed {s : State} (h : s.Wf) {head} : (s.headFailed head).Wf := by
  unfold State.headFailed
  refine State.Wf.event ?_
  refine State.Wf.foldl h (fun t ht a => ?_)
  extract_lets b u
  have hu : u.Wf := ht.setBand
  split
  · exact ht
  · split
    · exact hu.retired
    · exact hu.retired
    · exact hu.retiring
    · exact hu.retiring
    · exact hu

theorem State.Wf.zoneMoved {s : State} (h : s.Wf) {role} {ns} {zone} : (s.zoneMoved role ns zone).Wf := h.setZone.event.ite h

theorem State.Wf.rebuilt {s : State} (h : s.Wf) {old} : (s.rebuilt old).Wf := h.event.ite h

theorem State.Wf.recApply {s : State} (h : s.Wf) {r} : (s.recApply r).Wf := by
  unfold State.recApply
  extract_lets p b acc role prot b1 o
  split
  · exact h.setBand.clearAcc.updBtl
  · exact h.bandTo.ite (h.bandTo.retired.zoneMoved.rebuilt.ite h.bandTo.bandTo)
  · exact h.bandTo
  · split
    · exact h.retiring.event
    · exact h.retiring.event
    · exact h.retired
  · exact h.bandTo
  · exact h.headFailed
  · exact h

theorem State.Wf.refuse {s : State} (h : s.Wf) {r} : State.Wf (State.refuse s r).2.2 := h.inc.pair2

theorem State.Wf.groupView {s : State} (h : s.Wf) : (s.groupView).Wf := h.foldl (fun _ h _ => h.recApply)

theorem State.Wf.mlogShow {s : State} (h : s.Wf) : (s.mlogShow).Wf := ((h.event.ite h).updBtl).setB

theorem State.Wf.append0 {s : State} (h : s.Wf) {typ} {flags} {body} : State.Wf (State.append0 s typ flags body).2.2 := by
  unfold State.append0
  extract_lets body1 tail gen mseq body2 r s1 s2 s3 s4 s5 s6
  have hs1 : s1.Wf := h.touchBand.ite h
  have hs2 : s2.Wf := hs1.touchBand.ite hs1
  have hs3 : s3.Wf := hs2.wr
  have hs4 : s4.Wf := hs3.setFs
  have hs5 : s5.Wf := hs4.setFs.ite hs4
  have hs6 : s6.Wf := hs5.updBtl.ite hs5.groupView.recApply.updBtl
  exact h.refuse.ite_snd_snd (h.refuse.ite_snd_snd (h.mlogShow.refuse.ite_snd_snd (hs2.event.refuse.ite_snd_snd hs6.recount.mlogShow.pair2)))

theorem State.Wf.degrade {s : State} (h : s.Wf) :
    (s.degrade).Wf := h.setB.setB.append0.event.ite (h.setB.setB.append0.event.ite h)

theorem State.Wf.append {s : State} (h : s.Wf) {typ} {flags} {body} : State.Wf (State.append s typ flags body).2.2 := by
  unfold State.append
  split
  next x r b t e =>
    have ht := h.append0.of_pair2 e
    exact (ht.degrade.ite ht).pair2

theorem State.Wf.appendReg {s : State} (h : s.Wf) {typ} {flags} {body} : (s.appendReg typ flags body).Wf := by
  unfold State.appendReg
  refine State.Wf.onBlk h (fun t ht => ?_)
  extract_lets body1 s1 s2
  have hs1 : s1.Wf := ht.foldl (fun _ h _ => h.setF)
  have hs2 : s2.Wf := hs1.setFs
  split
  next x r b t1 e =>
    have ht1 := hs2.append.of_pair2 e
    exact ht1.setF.ite (ht1.setF.setFs.setFs.ite ht1.setF.setFs)

theorem execOpenRecord_wf {s : State} {flags} {band} {owner} {purpose} {nsidx} {acc} (h : s.Wf) : Outcome.Wf (execOpenRecord flags band owner purpose nsidx acc s) := State.Wf.next (h.appendReg)

theorem execCommitRecord_wf {s : State} {flags} {new} {old} {owner} {upto} {nsidx} {hgen8} (h : s.Wf) : Outcome.Wf (execCommitRecord flags new old owner upto nsidx hgen8 s) := State.Wf.next (h.appendReg)

theorem execResetRecord_wf {s : State} {flags} {band} {hgen} (h : s.Wf) : Outcome.Wf (execResetRecord flags band hgen s) := State.Wf.next (h.appendReg)

theorem execRetireRecord_wf {s : State} {flags} {band} {cause} (h : s.Wf) : Outcome.Wf (execRetireRecord flags band cause s) := State.Wf.next (h.appendReg)

theorem execMcPutRecord_wf {s : State} {flags} {nsidx} {len} {lba} {pma} (h : s.Wf) : Outcome.Wf (execMcPutRecord flags nsidx len lba pma s) := State.Wf.next (h.appendReg)

theorem execZoneWpRecord_wf {s : State} {flags} {nsidx} {zone} {wp} (h : s.Wf) : Outcome.Wf (execZoneWpRecord flags nsidx zone wp s) := State.Wf.next (h.appendReg)

theorem execSealRecord_wf {s : State} {flags} {band} {hgen} (h : s.Wf) : Outcome.Wf (execSealRecord flags band hgen s) := State.Wf.next (h.appendReg)

theorem execCheckpointRecord_wf {s : State} {flags} {pma} {covers} (h : s.Wf) : Outcome.Wf (execCheckpointRecord flags pma covers s) := State.Wf.next (h.appendReg)

theorem execModeRecord_wf {s : State} {flags} {degraded} (h : s.Wf) : Outcome.Wf (execModeRecord flags degraded s) := State.Wf.next (h.appendReg)

theorem execHeadFailRecord_wf {s : State} {head} (h : s.Wf) :
    Outcome.Wf (execHeadFailRecord head s) := State.Wf.next (h.onBlk (fun _ h => h.setF.cfgErrAt.ite h.setF.append))

theorem State.Wf.mlogResume {s : State} (h : s.Wf) : (s.mlogResume).Wf := by
  unfold State.mlogResume
  extract_lets l next s1
  have hs1 : s1.Wf := by
    unfold s1
    split
    · exact h.setF
    · exact h
  split
  · exact hs1.setF
  · exact hs1

theorem State.Wf.degradedResume {s : State} (h : s.Wf) : (s.degradedResume).Wf := by
  unfold State.degradedResume
  split
  · exact h.setB.updBtl
  · exact h

theorem State.Wf.spareChanged {s : State} (h : s.Wf) : (s.spareChanged).Wf := h.recount.degrade.ite h

theorem execBtlEn_wf {s : State} {v} (h : s.Wf) :
    Outcome.Wf (execBtlEn v s) := State.Wf.next (h.onBlk (fun _ h => (h.ite (h.setB.mlogResume.degradedResume.recount.mlogShow.degrade.ite h.cfgErrAt)).ite (h.cfgErrAt.ite h.setB)))

theorem State.Wf.setRq {s : State} (h : s.Wf) {q} : (s.setRq q).Wf := h.updBtl.setFs

theorem execRefreshQueueRead_wf {s : State} (h : s.Wf) : Outcome.Wf (execRefreshQueueRead s) := State.Wf.next (h.onBlk (fun _ h => h.send.setRq))

theorem State.Wf.expose {s : State} (h : s.Wf) {p} : (s.expose p).Wf := h.setBand.ite ((h.setBand.setRq.ite h.setBand.setB).event)

theorem State.Wf.trackWritten {s : State} (h : s.Wf) {head} {track} : (s.trackWritten head track).Wf := by
  unfold State.trackWritten
  split
  · exact h
  · extract_lets rad own s1
    have hs1 : s1.Wf := h.foldl (fun _ h _ => h.ite (h.expose.ite h))
    clear_value own
    split
    · exact hs1
    · exact hs1.setBand.ite hs1

theorem State.Wf.bandParity {s : State} (h : s.Wf) {head} {track} {pos} {d} : (s.bandParity head track pos d).Wf := by
  unfold State.bandParity
  split
  · exact h
  · split
    · exact h
    · extract_lets b a
      split
      · exact h
      · split
        next x d1 t e =>
          have ht := h.fetch.of_pair e
          exact ht.wr

theorem State.Wf.markSector {s : State} (h : s.Wf) {head} {track} {d} {bad} : (s.markSector head track d bad).Wf := h.btl

theorem State.Wf.logAppend {s : State} (h : s.Wf) {chain} {args} : State.Wf (State.logAppend s chain args).2.2 := by
  unfold State.logAppend
  extract_lets typ body band key body1
  split
  next x r b t e =>
    have ht := h.append.of_pair2 e
    exact ht.pair2.ite_snd_snd (ht.updBtl.pair2.ite_snd_snd ht.pair2)

theorem State.Wf.forgetChain {s : State} (h : s.Wf) {chain} : (s.forgetChain chain).Wf := h.updBtl

theorem State.Wf.verifyFailed {s : State} (h : s.Wf) {p} : (s.verifyFailed p).Wf := by
  unfold State.verifyFailed
  extract_lets st
  split
  next x r b t e =>
    have ht := h.append.of_pair2 e
    exact ht.retiring.event.recount.degrade.ite ht

theorem State.Wf.trackVerified {s : State} (h : s.Wf) {p} : (s.trackVerified p).Wf := h.setBand

/-! ### The operations of Sys2Proof/Machine/Link.lean -/

theorem State.Wf.onPort {s : State} (h : s.Wf) {p} {g} (hg : ∀ t : State, State.Wf t → State.Wf (g t)) : (s.onPort p g).Wf := (hg _ h).ite h

theorem State.Wf.aer {s : State} (h : s.Wf) {p} {k} : (s.aer p k).Wf := by
  unfold State.aer
  split
  next x m t e =>
    have ht := h.free.of_pair e
    exact ht.setHp.send.ite ht.setHp

theorem State.Wf.poisonedTlp {s : State} (h : s.Wf) {p} : (s.poisonedTlp p).Wf := h.aer.event

theorem State.Wf.asyncEvent {s : State} (h : s.Wf) {p} {typ} {info} {page} : (s.asyncEvent p typ info page).Wf := by
  unfold State.asyncEvent
  extract_lets c
  split
  · exact h.setCtrl.finish.send
  · exact h.setCtrl

theorem State.Wf.setQuar {s : State} (h : s.Wf) {p} {q} : (s.setQuar p q).Wf := h.setHp.setF

theorem State.Wf.dropReq {s : State} (h : s.Wf) {p} {tag} : (s.dropReq p tag).Wf := h.setHp

theorem State.Wf.raiseDone {s : State} (h : s.Wf) {cs} {c} : (s.raiseDone cs c).Wf := h.eng

theorem State.Wf.dmaErr {s : State} (h : s.Wf) {k} : (s.dmaErr k).Wf := by
  unfold State.dmaErr
  split
  · exact h.raiseDone
  · exact h.raiseDone
  · exact h

theorem State.Wf.plainReads {s : State} (h : s.Wf) {p} {page} : (s.plainReads p page).Wf := h.setHp.pump

theorem State.Wf.failDma {s : State} (h : s.Wf) {p} {k} : (s.failDma p k).Wf := by
  unfold State.failDma
  split
  · exact h.dmaErr.onTag (fun _ h => h.dropBlocks.finish)
  · exact h.dmaErr.fetchEnd
  · exact h.plainReads
  · exact h
  · exact h

theorem State.Wf.endController {s : State} (h : s.Wf) {p} :
    (s.endController p).Wf := ((((((h.foldl (fun _ h _ => h.leave.ite ((h.ite h.dropBlocks).endUnposted))).updCiu).setHp).eng).setInflight).foldl (fun _ h _ => h.settleVec)).setCtrl

theorem State.Wf.endRequests {s : State} (h : s.Wf) {p} :
    (s.endRequests p).Wf := (((h.foldl (fun _ h _ => h.dmaErr)).setInflight).setHp).setQuar

theorem State.Wf.dropAtc {s : State} (h : s.Wf) {p} : (s.dropAtc p).Wf := h.updHep

theorem State.Wf.resetFunction {s : State} (h : s.Wf) {p} : (s.resetFunction p).Wf := h.setCtrl.setHp

theorem State.Wf.badDoorbell {s : State} (h : s.Wf) {p} : (s.badDoorbell p).Wf := h.asyncEvent.event

/-! ### The operations of Sys2Proof/Machine/Nvme.lean -/

theorem execSqDoorbell_wf {s : State} {p} {q} {tail} {poisoned} (h : s.Wf) :
    Outcome.Wf (execSqDoorbell p q tail poisoned s) := State.Wf.next (h.ite (h.poisonedTlp.ite (h.ite (h.badDoorbell.ite h.setSq))))

theorem State.Wf.grant {s : State} (h : s.Wf) {k} {x} : (s.grant k x).Wf := h.updCiu.setSq.setB

theorem State.Wf.newRound {s : State} (h : s.Wf) {weighted} : (s.newRound weighted).Wf := h.ite h.updCiu

theorem execArbitrationGrant_wf {s : State} (h : s.Wf) : Outcome.Wf (execArbitrationGrant s) := by
  unfold execArbitrationGrant
  refine State.Wf.next ?_
  split
  · exact h
  · extract_lets all top s1
    have hs1 : s1.Wf := h.newRound
    clear_value top
    split
    · exact h
    · extract_lets l weighted
      split
      · split
        · exact hs1
        · extract_lets s2
          have hs2 : s2.Wf := hs1.updCiu
          split
          · exact hs2.grant
          · exact hs2
      · split
        · exact hs1.grant
        · exact hs1

theorem State.Wf.startCmd {s : State} (h : s.Wf) {t} : (s.startCmd t).Wf := h.setCmd.ite (h.setCmd.ite h.setCmd)

theorem State.Wf.enterFlight {s : State} (h : s.Wf) {t} {c} : (s.enterFlight t c).Wf := by
  unfold State.enterFlight
  extract_lets s1 s2 s3 s4
  have hs1 : s1.Wf := h.tableUse.takeSlot.setCmd
  have hs2 : s2.Wf := hs1.setInflight
  have hs3 : s3.Wf := hs2.eventOnce.ite hs2
  have hs4 : s4.Wf := hs3.ledgerAppend.ite hs3
  exact hs4.setCmd.inc.ite hs4.startCmd

theorem State.Wf.cidConflict {s : State} (h : s.Wf) {p} {q} {cid} : (s.cidConflict p q cid).Wf := h.inc.event.postCqe

theorem State.Wf.takeIn {s : State} (h : s.Wf) {p} {q} {o} {e} : (s.takeIn p q o e).Wf := by
  unfold State.takeIn
  extract_lets c
  split
  · exact h.cidConflict
  · split
    · exact h.postCqe
    · split
      · exact h.enterFlight
      · exact h

theorem execCommandIntake_wf {s : State} {p} {q} {e} (h : s.Wf) : Outcome.Wf (execCommandIntake p q e s) := by
  unfold execCommandIntake
  refine State.Wf.next ?_
  split
  · exact h
  · exact h.updCiu.takeIn.setInflight

theorem execOverlapWaitEnd_wf {s : State} {t} (h : s.Wf) : Outcome.Wf (execOverlapWaitEnd t s) := State.Wf.next (h.startCmd.ite h)

theorem execBufferSlotWaitEnd_wf {s : State} {t} (h : s.Wf) : Outcome.Wf (execBufferSlotWaitEnd t s) := State.Wf.next (h.setCmd.updCiu.ite h)

theorem execCiuEn_wf {s : State} {v} (h : s.Wf) :
    Outcome.Wf (execCiuEn v s) := State.Wf.next (h.onBlk (fun _ h => (h.ite (h.setB.ite h.cfgErrAt)).ite (h.setB.ite h.cfgErrAt)))

theorem execLdgEn_wf {s : State} {v} {mirror} (h : s.Wf) :
    Outcome.Wf (execLdgEn v mirror s) := State.Wf.next (h.onBlk (fun _ h => (h.ite (h.setB.setB.ite h.setB.cfgErrAt)).ite (h.cfgErrAt.ite h.setB)))

theorem execBufferSlotRelease_wf {s : State} {n} (h : s.Wf) :
    Outcome.Wf (execBufferSlotRelease n s) := State.Wf.next (h.onBlk (fun _ h => h.cfgErrAt.ite (h.updCiu.ite h.freeSlot)))

theorem State.Wf.askAbort {s : State} (h : s.Wf) {t} : (s.askAbort t).Wf := h.eng

theorem State.Wf.abortFind {s : State} (h : s.Wf) {p} {q} {cid} : State.Wf (State.abortFind s p q cid).2.2 := by
  unfold State.abortFind
  split
  · exact h.pair2
  · exact h.pair2.ite_snd_snd h.askAbort.dropBlocks.finish.event.pair2

theorem execAbortLookup_wf {s : State} {q} {cid} (h : s.Wf) : Outcome.Wf (execAbortLookup q cid s) := by
  unfold execAbortLookup
  refine State.Wf.next ?_
  refine State.Wf.onBlk h (fun t ht => ?_)
  extract_lets s1
  have hs1 : s1.Wf := ht.setFs
  split
  next x r tag t1 e =>
    have ht1 := hs1.abortFind.of_pair2 e
    exact ht1.setFs

theorem execAbort_wf {s : State} {t} {q} {cid} (h : s.Wf) : Outcome.Wf (execAbort t q cid s) := by
  unfold execAbort
  refine State.Wf.next ?_
  refine State.Wf.onCmd h (fun a => ?_)
  split
  next x r tag t1 e =>
    have ht1 := h.abortFind.of_pair2 e
    exact ht1.setFs.finish

theorem execControllerEnable_wf {s : State} {p} (h : s.Wf) :
    Outcome.Wf (execControllerEnable p s) := State.Wf.next (h.inBlk (fun _ h => h.ite h.setCtrl.setSq.setCq))

theorem execControllerReset_wf {s : State} {p} (h : s.Wf) : Outcome.Wf (execControllerReset p s) := State.Wf.next (h.inBlk (fun _ h => h.endController.ite h))

theorem execCreateIoSubmissionQueue_wf {s : State} {t} {q} {cq} {size} {base} {prio} (h : s.Wf) :
    Outcome.Wf (execCreateIoSubmissionQueue t q cq size base prio s) := State.Wf.next (h.onCmd (fun _ => h.finish.ite (h.finish.ite (h.finish.ite h.setSq.finish))))

theorem execCreateIoCompletionQueue_wf {s : State} {t} {q} {size} {base} {vec} {inCmb} (h : s.Wf) :
    Outcome.Wf (execCreateIoCompletionQueue t q size base vec inCmb s) := State.Wf.next (h.onCmd (fun _ => h.finish.ite (h.finish.ite (h.finish.ite h.setCq.finish))))

theorem State.Wf.endFetches {s : State} (h : s.Wf) {p} {q} :
    (s.endFetches p q).Wf := ((((h.foldl (fun _ h _ => h.postCqe.fetchEnd)).eng).setHp).updCiu).setInflight

theorem execDeleteIoSubmissionQueue_wf {s : State} {t} {q} (h : s.Wf) :
    Outcome.Wf (execDeleteIoSubmissionQueue t q s) := State.Wf.next (h.onCmd (fun _ => h.finish.ite ((((h.foldl (fun _ h _ => h.leave.ite (h.finish.ite h.dropBlocks.finish))).endFetches).setSq).finish)))

theorem execDeleteIoCompletionQueue_wf {s : State} {t} {q} (h : s.Wf) :
    Outcome.Wf (execDeleteIoCompletionQueue t q s) := State.Wf.next (h.onCmd (fun _ => h.finish.ite (h.finish.ite h.setCq.settleVec.finish)))

theorem State.Wf.freeBytes {s : State} (h : s.Wf) {n} : (s.freeBytes n).2.Wf := by
  unfold State.freeBytes
  split
  next x m t e =>
    have ht := h.free.of_pair e
    exact ht.pair

theorem State.Wf.answer {s : State} (h : s.Wf) {t} {d} : (s.answer t d).Wf := h.sendData.setCmd.finish

theorem State.Wf.answerFrom {s : State} (h : s.Wf) {t} {a} {n} : (s.answerFrom t a n).Wf := by
  unfold State.answerFrom
  split
  next x d bad t1 e =>
    have ht1 := h.fetchMarked.of_pair2 e
    exact ht1.sendMarked.event.setCmd.finish.ite ht1.answer

theorem execGetLogPage_wf {s : State} {t} {lid} {x} {len} (h : s.Wf) : Outcome.Wf (execGetLogPage t lid x len s) := by
  unfold execGetLogPage
  refine State.Wf.next ?_
  refine State.Wf.onCmd h (fun a => ?_)
  split
  · split
    next x d t1 e =>
      have ht1 := h.freeBytes.of_pair e
      exact ht1.answer
  · exact h.finish

theorem execLedgerLogPage_wf {s : State} {t} {off} {len} (h : s.Wf) : Outcome.Wf (execLedgerLogPage t off len s) := State.Wf.next (h.onCmd (fun _ => h.answerFrom.ite h.finish))

theorem execIdentify_wf {s : State} {t} {cns} (h : s.Wf) : Outcome.Wf (execIdentify t cns s) := by
  unfold execIdentify
  refine State.Wf.next ?_
  refine State.Wf.onCmd h (fun a => ?_)
  split
  next x d t1 e =>
    have ht1 := h.freeBytes.of_pair e
    exact ht1.answer.ite ((ht1.finish.ite (ht1.answer.ite (ht1.answer.ite ht1.answer))).ite ht1.answer)

theorem execSetFeatures_wf {s : State} {t} {fid} {v} (h : s.Wf) : Outcome.Wf (execSetFeatures t fid v s) := by
  unfold execSetFeatures
  refine State.Wf.next ?_
  refine State.Wf.onCmd h (fun a => ?_)
  extract_lets n keep
  split
  · exact h.setCtrl.setFs.finish
  · split
    · split
      · exact h.setCtrl.setF.finish
      · exact h.finish
    · exact h.setCtrl.finish.ite (h.setCtrl.finish.ite h.finish)

theorem execGetFeatures_wf {s : State} {t} {fid} (h : s.Wf) :
    Outcome.Wf (execGetFeatures t fid s) := State.Wf.next (h.onCmd (fun _ => h.finish.ite (h.finish.ite (h.finish.ite h.finish))))

theorem execAsynchronousEventRequest_wf {s : State} {t} (h : s.Wf) : Outcome.Wf (execAsynchronousEventRequest t s) := by
  unfold execAsynchronousEventRequest
  refine State.Wf.next ?_
  refine State.Wf.onCmd h (fun a => ?_)
  extract_lets x
  split
  · exact h
  · split
    · exact h.setCtrl
    · exact h.setCtrl.finish

theorem State.Wf.commitBands {s : State} (h : s.Wf) {n} : (s.commitBands n).Wf := h.setF.spareChanged

theorem execNamespaceCreate_wf {s : State} {t} {blocks} {msize} {zoned} {prot} (h : s.Wf) : Outcome.Wf (execNamespaceCreate t blocks msize zoned prot s) := by
  unfold execNamespaceCreate
  refine State.Wf.next ?_
  refine State.Wf.onCmd h (fun a => ?_)
  extract_lets need
  split
  · exact h.finish
  · split
    · exact h.finish
    · split
      · exact h.finish
      · exact h.setNs.commitBands.finish

theorem execNamespaceAttachment_wf {s : State} {t} {ns} {p} {attach} (h : s.Wf) :
    Outcome.Wf (execNamespaceAttachment t ns p attach s) := State.Wf.next (h.onCmd (fun _ => h.finish.ite (h.finish.ite (h.finish.ite (h.finish.ite h.setNs.finish)))))

theorem execDeviceSelfTest_wf {s : State} {t} {code} (h : s.Wf) :
    Outcome.Wf (execDeviceSelfTest t code s) := State.Wf.next (h.onCmd (fun _ => h.updCiu.finish.ite h.finish))

/-! ### The operations of Sys2Proof/Machine/Nvm.lean -/

theorem State.Wf.onIo {s : State} (h : s.Wf) {t} {opcs} {g} (hg : ∀ a1, State.Wf (g a1)) : (s.onIo t opcs g).Wf := (hg _).ite h

theorem State.Wf.zoneAdvance {s : State} (h : s.Wf) {c} : (s.zoneAdvance c).Wf := h.ite h.setZone

theorem State.Wf.publishPieces {s : State} (h : s.Wf) {t} {was} : (s.publishPieces t was).Wf := h.ite h.updCiu

theorem State.Wf.writeData {s : State} (h : s.Wf) {t} {blocks} {pi} : (s.writeData t blocks pi).Wf := by
  unfold State.writeData
  extract_lets c i n was d free moved s1 _ s2
  have hs1 : s1.Wf := h.setCmd.storeBlocks.publishPieces
  have hs2 : s2.Wf := hs1.setCmd
  split
  · exact h.finish
  · exact h.setCmd.dropBlocks.finish.ite (hs1.ite (hs2.ite hs2.updCiu.event))

theorem State.Wf.cmbBlocks {s : State} (h : s.Wf) {p off n k : Nat} : (s.cmbBlocks p off n k).2.Wf := by
  have hr : ∀ (s : State) (g a n), s.Wf → (s.fetchMarked g a n).2.2.Wf := fun _ _ _ _ h => h.fetchMarked
  generalize hf : @State.cmbBlocks = f
  delta State.cmbBlocks at hf
  generalize @State.fetchMarked = rd at hf hr
  revert rd
  refine id ?_
  intro rd hf hr
  subst hf
  exact State.Wf.pair (hr _ _ _ _ h)

theorem takeBlocks_wf {t : Nat} {pi : PiResult} {q : Option (List (List Byte)) × State} (h : q.2.Wf) : (takeBlocks t pi q).Wf := by
  obtain ⟨b, s⟩ := q
  cases b with
  | none => exact State.Wf.finish (State.Wf.dropBlocks h)
  | some l => exact State.Wf.writeData h

theorem State.Wf.writeFrom {s : State} (h : s.Wf) {t} {blocks} {src} {pi} {fin} : (s.writeFrom t blocks src pi fin).Wf := by
  unfold State.writeFrom
  split
  · exact h.dropBlocks.finish
  · split
    · exact h.writeData
    · exact takeBlocks_wf h.cmbBlocks

theorem execWrite_wf {s : State} {t} {blocks} {e} (h : s.Wf) : Outcome.Wf (execWrite t blocks e s) := State.Wf.next (h.onIo (fun _ => h.writeFrom))

theorem execWriteZeroes_wf {s : State} {t} (h : s.Wf) : Outcome.Wf (execWriteZeroes t s) := State.Wf.next (h.onIo (fun _ => h.writeData))

theorem execZoneAppend_wf {s : State} {t} {blocks} {e} (h : s.Wf) : Outcome.Wf (execZoneAppend t blocks e s) := State.Wf.next (h.onIo (fun _ => h.writeFrom))

theorem State.Wf.publishAll {s : State} (h : s.Wf) {t} : (s.publishAll t).Wf := by
  unfold State.publishAll
  exact h.updCiu

theorem State.Wf.becomeBuffered {s : State} (h : s.Wf) {t : Nat} : (s.becomeBuffered t).Wf := by
  have hr : ∀ (s : State) (i : Nat), s.Wf → (s.ledgerRead i).2.Wf := fun _ _ h => h.ledgerRead
  generalize hf : @State.becomeBuffered = f
  delta State.becomeBuffered at hf
  generalize @State.ledgerRead = rd at hf hr
  revert rd
  refine id ?_
  intro rd hf hr
  subst hf
  beta_reduce
  extract_lets c lba s1 s2 s3 wait s4
  have h1 : s1.Wf := h.publishAll
  clear_value s1
  have h2 : s2.Wf := by
    unfold s2
    cases c.ledger with
    | none => exact h1
    | some i =>
      have ht := hr s1 i h1
      dsimp only
      generalize rd s1 i = q at ht ⊢
      obtain ⟨was, u⟩ := q
      exact ht.ledgerPut
  have h4 : s4.Wf := h2.zoneAdvance.setCmd.updCiu
  exact h4.ite h4.plv.event

theorem execWriteDataBuffered_wf {s : State} {t} (h : s.Wf) : Outcome.Wf (execWriteDataBuffered t s) := State.Wf.next (h.onIo (fun _ => h.becomeBuffered.ite h))

theorem execWriteCompletionRelease_wf {s : State} {t} (h : s.Wf) : Outcome.Wf (execWriteCompletionRelease t s) := State.Wf.next (h.finish.ite h)

theorem State.Wf.newest {s : State} (h : s.Wf) {c : Cmd} {media : List (List Byte)} {i : Nat} : (s.newest c media i).2.Wf := by
  have hr : ∀ (s : State) (g a n), s.Wf → (s.fetchMarked g a n).2.2.Wf := fun _ _ _ _ h => h.fetchMarked
  generalize hf : @State.newest = f
  delta State.newest at hf
  generalize @State.fetchMarked = rd at hf hr
  revert rd
  refine id ?_
  intro rd hf hr
  subst hf
  beta_reduce
  extract_lets fmt judge
  cases s.bufIdx (c.nsid - 1) (c.slba + i) with
  | none =>
    cases media[i]? with
    | none => exact h
    | some b => cases b <;> exact h
  | some n =>
    have ht := hr s (.hepDma (Fin.ofNat 2 c.port)) (s.slotAddr n) 4160 h
    dsimp only
    generalize rd s _ _ _ = q at ht ⊢
    exact ht.pair

theorem State.Wf.fetchFrom {s : State} (h : s.Wf) {c : Cmd} {media : List (List Byte)} {i k : Nat} : (s.fetchFrom c media i k).2.2.2.Wf := by
  induction k generalizing s i with
  | zero => exact h
  | succ k ih =>
    rw [State.fetchFrom]
    split
    next t e => exact (ih (h.newest.of_pair e)).pair3
    next b m wrong t e =>
      have ht := h.newest.of_pair e
      exact (ih (ht.event.ite ht)).pair3

theorem State.Wf.fetchBlocks {s : State} (h : s.Wf) {c} {media} : State.Wf (State.fetchBlocks s c media).2.2 := by
  unfold State.fetchBlocks
  split
  next x l bad fst t e =>
    have ht := h.fetchFrom.of_pair3 e
    exact ht.pair2

theorem State.Wf.sendBlocks {s : State} (h : s.Wf) {p} {cid} {l} : (s.sendBlocks p cid l).Wf := (h.foldl (fun _ h _ => h.sendMarked)).ite h.sendData

theorem State.Wf.useBlocks {s : State} (h : s.Wf) {t} {c} {media} {pi} {fin} {g} (hg : ∀ t : State, State.Wf t → ∀ a1, State.Wf (g t a1)) : (s.useBlocks t c media pi fin g).Wf := by
  unfold State.useBlocks
  split
  · exact h.finish
  · split
    next x st l t1 e =>
      have ht1 := h.fetchBlocks.of_pair2 e
      split
      · exact ht1.finish
      · exact ht1.finish.ite (hg _ ht1 _)

theorem execRead_wf {s : State} {t} {media} {e} (h : s.Wf) : Outcome.Wf (execRead t media e s) := by
  unfold execRead
  refine State.Wf.next ?_
  refine State.Wf.onIo h (fun a => ?_)
  split
  · exact h.finish
  · split
    next x st l t1 e1 =>
      have ht1 := h.fetchBlocks.of_pair2 e1
      split
      · exact ht1.sendBlocks.event.setCmd.finish
      · exact ht1.finish
      · exact ht1.finish.ite ht1.answer

theorem execCompare_wf {s : State} {t} {host} {media} {e} (h : s.Wf) :
    Outcome.Wf (execCompare t host media e s) := State.Wf.next (h.onIo (fun _ => h.useBlocks (fun _ h _ => h.finish.ite h.finish)))

theorem execVerify_wf {s : State} {t} {media} {e} (h : s.Wf) :
    Outcome.Wf (execVerify t media e s) := State.Wf.next (h.onIo (fun _ => h.useBlocks (fun _ h _ => h.finish)))

theorem execFlush_wf {s : State} {t} (h : s.Wf) : Outcome.Wf (execFlush t s) := State.Wf.next (h.onIo (fun _ => h.finish))

theorem State.Wf.deallocate {s : State} (h : s.Wf) {ns} {r} : (s.deallocate ns r).Wf := h.foldl (fun _ h _ => h.append)

theorem execDatasetManagement_wf {s : State} {t} (h : s.Wf) :
    Outcome.Wf (execDatasetManagement t s) := State.Wf.next (h.onIo (fun _ => ((h.foldl (fun _ h _ => h.deallocate)).ite h).finish))

theorem State.Wf.onZones {s : State} (h : s.Wf) {t} {g} : (s.onZones t g).Wf := by
  unfold State.onZones
  refine State.Wf.onIo h (fun a => ?_)
  extract_lets i
  split
  · refine State.Wf.finish ?_
    refine State.Wf.foldl h (fun t1 ht1 a1 => ?_)
    split
    · exact ht1.setZone
    · exact ht1
  · split
    · exact h.setZone.finish
    · exact h.finish

theorem execZoneClose_wf {s : State} {t} (h : s.Wf) : Outcome.Wf (execZoneClose t s) := State.Wf.next (h.onZones)

theorem execZoneFinish_wf {s : State} {t} (h : s.Wf) : Outcome.Wf (execZoneFinish t s) := State.Wf.next (h.onZones)

theorem execZoneOpen_wf {s : State} {t} (h : s.Wf) : Outcome.Wf (execZoneOpen t s) := State.Wf.next (h.onZones)

theorem execZoneReset_wf {s : State} {t} (h : s.Wf) : Outcome.Wf (execZoneReset t s) := State.Wf.next (h.onZones)

theorem execZoneOffline_wf {s : State} {t} (h : s.Wf) : Outcome.Wf (execZoneOffline t s) := State.Wf.next (h.onZones)

theorem execZoneManagementReceive_wf {s : State} {t} (h : s.Wf) : Outcome.Wf (execZoneManagementReceive t s) := State.Wf.next (h.onIo (fun _ => h.answer))

theorem State.Wf.setResv {s : State} (h : s.Wf) {i} {r} : (s.setResv i r).Wf := h.updCiu

theorem execReservationRegister_wf {s : State} {t} {action} {cur} {new} (h : s.Wf) :
    Outcome.Wf (execReservationRegister t action cur new s) := State.Wf.next (h.onIo (fun _ => (h.finish.ite h.setResv.finish).ite (h.finish.ite h.setResv.finish)))

theorem execReservationReport_wf {s : State} {t} (h : s.Wf) : Outcome.Wf (execReservationReport t s) := State.Wf.next (h.onIo (fun _ => h.answer))

theorem execReservationAcquire_wf {s : State} {t} {action} {rtype} {cur} {preempt} (h : s.Wf) :
    Outcome.Wf (execReservationAcquire t action rtype cur preempt s) := State.Wf.next (h.onIo (fun _ => h.finish.ite (h.finish.ite ((h.setResv.finish.ite (h.finish.ite h.finish)).ite ((((h.foldl (fun _ h _ => h.abortFind)).ite h).setResv).finish)))))

theorem execReservationRelease_wf {s : State} {t} {clear} {cur} (h : s.Wf) :
    Outcome.Wf (execReservationRelease t clear cur s) := State.Wf.next (h.onIo (fun _ => h.finish.ite (h.setResv.finish.ite (h.setResv.finish.ite h.finish))))

/-! ### The operations of Sys2Proof/Machine/Buf.lean -/

theorem execBufDdrEn_wf {s : State} {v} (h : s.Wf) :
    Outcome.Wf (execBufDdrEn v s) := State.Wf.next (h.onBlk (fun _ h => (h.ite h.updBuf).ite (h.cfgErrAt.ite h.updBuf.setFs)))

theorem execDdrTrainingEnd_wf {s : State} {good} (h : s.Wf) : Outcome.Wf (execDdrTrainingEnd good s) := State.Wf.next (h.ite (h.updBuf.setFs.ite h.updBuf.cfgErrAt))

theorem State.Wf.putDram {s : State} (h : s.Wf) {la} {x} : (s.putDram la x).Wf := h.updBuf.ite h.restoreSnap

theorem State.Wf.scrubGranule {s : State} (h : s.Wf) {gr} : (s.scrubGranule gr).Wf := by
  unfold State.scrubGranule
  extract_lets la m x o y
  split
  · exact h
  · split
    next x1 m1 t e =>
      have ht := h.decodeGranule.of_pair e
      exact ((ht.buf.ite ht.buf.granuleCode).putDram).enqueue

theorem execPatrolScrub_wf {s : State} (h : s.Wf) :
    Outcome.Wf (execPatrolScrub s) := State.Wf.next (h.ite (h.scrubGranule.updBuf.event.ite h.scrubGranule.updBuf))

theorem State.Wf.deliver {s : State} (h : s.Wf) {g} {a} {d} : (s.deliver g a d).Wf := by
  unfold State.deliver
  split
  · split
    next x bad t e =>
      have ht := h.arrayUse.of_pair e
      exact ht.eccLog.loadFault.send.ite (ht.loadFault.send.ite ht.cacheLine.send)
  · exact h.send

theorem State.Wf.readAccess {s : State} (h : s.Wf) {g : Agent} {a : Nat} : (s.readAccess g a).Wf := by
  unfold State.readAccess
  extract_lets go
  have hgo : ∀ t : State, t.Wf → (go t).Wf := fun t ht => ht.fetch.deliver
  cases g with
  | core n => exact .ite h.deliver (hgo _ h.eng)
  | _ => exact hgo s h

theorem State.Wf.writeAccess {s : State} (h : s.Wf) {g} {a} {d} {whole} : (s.writeAccess g a d whole).Wf := by
  unfold State.writeAccess
  extract_lets at0 d1
  split
  · exact h.asCore (fun _ h => h.wrTagBy)
  · exact h.wrTagBy

theorem State.Wf.fillLine {s : State} (h : s.Wf) {la} : (s.fillLine la).Wf := by
  unfold State.fillLine
  split
  · exact h.decodeGranule.decodeGranule
  · split
    · exact h
    · split
      next x bad t e =>
        have ht := h.fill.of_pair e
        exact ht.allocLine

theorem State.Wf.amoAccess {s : State} (h : s.Wf) {g} {n} {a} {op} {dword} {rd} {v} : (s.amoAccess g n a op dword rd v).Wf := by
  unfold State.amoAccess
  extract_lets k val put hold
  split
  · exact .ite (((h.asCore (fun _ h => h.wrTagBy)).setCore).setX) h.setCore.setX
  · split
    next x d t e =>
      have ht := h.fetch.of_pair e
      exact .ite (.ite ((ht.eccLog.ite ht).loadFault) ((ht.eccLog.ite ht).accFault)) (ht.setX.setCore.ite ((ht.asCore (fun _ h => h.wrTagBy)).setX))

theorem State.Wf.perform {s : State} (h : s.Wf) {x} : (s.perform x).Wf := by
  unfold State.perform
  split
  · exact h.amoAccess
  · exact h.fillLine.ite h.readAccess
  · exact h.writeAccess

theorem State.Wf.access {s : State} (h : s.Wf) {x} : (s.access x).Wf := h.updBuf.ite h.perform

theorem State.Wf.retry {s : State} (h : s.Wf) : (s.retry).Wf := h.updBuf.foldl (fun _ h _ => h.access)

theorem State.Wf.seqDramFault {s : State} (h : s.Wf) {n} : (s.seqDramFault n).Wf := h.setFs.setB.event

theorem execBrambleAccess_wf {s : State} {g} {a} {w} {whole} (h : s.Wf) : Outcome.Wf (execBrambleAccess g a w whole s) := by
  unfold execBrambleAccess
  refine State.Wf.next ?_
  extract_lets a1 k
  split
  · exact h
  · split
    · split
      · exact h.seqDramFault
      · exact h.accFault.ite h.loadFault.send
    · exact (h.accFault.ite h.loadFault.send).ite (h.misaligned.ite h.access)

theorem execDramFill_wf {s : State} {a} (h : s.Wf) : Outcome.Wf (execDramFill a s) := State.Wf.next (h.access.ite h)

theorem execPipPrefetch_wf {s : State} {a} (h : s.Wf) : Outcome.Wf (execPipPrefetch a s) := State.Wf.next (h.prefetch.ite h)

theorem execPostPackageRepair_wf {s : State} {bank} {row} {ch} (h : s.Wf) :
    Outcome.Wf (execPostPackageRepair bank row ch s) := State.Wf.next (h.onBlk (fun _ h => h.cfgErrAt.ite h.setFs.latch))

theorem State.Wf.granuleBack {s : State} (h : s.Wf) {gr} : (s.granuleBack gr).Wf := h.ite h.updBuf.putDram

theorem State.Wf.rowBack {s : State} (h : s.Wf) : (s.rowBack).Wf := h.foldl (fun _ h _ => h.granuleBack.granuleBack.ite h)

theorem State.Wf.repairEnd {s : State} (h : s.Wf) {r} : (s.repairEnd r).Wf := h.rowBack.setFs.event.retry

theorem execRepairEnd_wf {s : State} {good} (h : s.Wf) : Outcome.Wf (execRepairEnd good s) := State.Wf.next (h.repairEnd.ite h)

theorem execEvictionAccept_wf {s : State} (h : s.Wf) : Outcome.Wf (execEvictionAccept s) := State.Wf.next (h.setEvq.ite h)

theorem execEvictionDone_wf {s : State} (h : s.Wf) : Outcome.Wf (execEvictionDone s) := State.Wf.next (h.evictionDone.retry.ite h)

theorem State.Wf.cleanWay {s : State} (h : s.Wf) {n} : (s.cleanWay n).Wf := h.evictNow.readLine.dramWrite.enqueue.setLine.ite h

theorem State.Wf.dropWay {s : State} (h : s.Wf) {n} : (s.dropWay n).Wf := by
  unfold State.dropWay
  extract_lets l s1
  have hs1 : s1.Wf := h.setLine
  split
  · exact h
  · split
    · exact hs1.restoreSnap
    · exact hs1.dropCopy

theorem State.Wf.cmoAddr {s : State} (h : s.Wf) {op} {la} : (s.cmoAddr op la).Wf := by
  unfold State.cmoAddr
  extract_lets s1 s2 s3 s4
  have hs1 : s1.Wf := h.evictNow
  have hs2 : s2.Wf := by
    unfold s2
    split
    · split
      · exact hs1.cleanWay
      · exact hs1
    · exact h
  have hs3 : s3.Wf := hs2.setEvq
  have hs4 : s4.Wf := hs3.evictNow.dropPip.dropRind
  split
  · exact hs2
  · split
    · exact hs4.dropWay
    · exact hs4.dropCopy

theorem State.Wf.cmoWay {s : State} (h : s.Wf) {op} {n} : (s.cmoWay op n).Wf := (h.cleanWay.ite h).ite ((h.cleanWay.ite h).dropWay)

theorem State.Wf.maintain {s : State} (h : s.Wf) {op} {count} {setWay} :
    (s.maintain op count setWay).Wf := h.onBlk (fun _ h => h.cfgErrAt.ite (h.setFs.ite ((h.setFs.foldl (fun _ h _ => h.cmoWay)).ite (h.setFs.foldl (fun _ h _ => h.cmoAddr)))))

theorem execClean_wf {s : State} {count} {setWay} (h : s.Wf) : Outcome.Wf (execClean count setWay s) := State.Wf.next (h.maintain)

theorem execInvalidate_wf {s : State} {count} {setWay} (h : s.Wf) : Outcome.Wf (execInvalidate count setWay s) := State.Wf.next (h.maintain)

theorem execCleanAndInvalidate_wf {s : State} {count} {setWay} (h : s.Wf) : Outcome.Wf (execCleanAndInvalidate count setWay s) := State.Wf.next (h.maintain)

theorem execMaintenanceEnd_wf {s : State} (h : s.Wf) : Outcome.Wf (execMaintenanceEnd s) := State.Wf.next (h.setB)

theorem execBrambleDisable_wf {s : State} (h : s.Wf) : Outcome.Wf (execBrambleDisable s) := State.Wf.next (h.onBlk (fun _ h => h.updBuf.setB.ite h))

theorem State.Wf.walkSet {s : State} (h : s.Wf) : (s.walkSet).Wf := .ite ((h.foldl (fun _ h _ => h.cleanWay)).updBuf) h

theorem execDisableWalkEnd_wf {s : State} (h : s.Wf) :
    Outcome.Wf (execDisableWalkEnd s) := State.Wf.next (h.ite ((((((h.foldl (fun _ h _ => h.evictNow)).foldl (fun _ h _ => h.cleanWay)).updBuf).foldl (fun _ h _ => h.dropCopy)).setFs).event))

theorem execBrambleEnable_wf {s : State} (h : s.Wf) :
    Outcome.Wf (execBrambleEnable s) := State.Wf.next (h.onBlk (fun _ h => h.cfgErrAt.ite (h.ite h.updBuf.setFs)))

theorem State.Wf.setArray {s : State} (h : s.Wf) {x} {v} : (s.setArray x v).Wf := h.setF.ite h.cfgErrAt

theorem execSramInit_wf {s : State} {array} (h : s.Wf) :
    Outcome.Wf (execSramInit array s) := State.Wf.next (h.onBlk (fun _ h => h.cfgErrAt.ite h.setFs.latch))

theorem execSramInitEnd_wf {s : State} (h : s.Wf) :
    Outcome.Wf (execSramInitEnd s) := State.Wf.next (h.ite (h.setB.updBuf.filterMem.coresSee.retry.ite h.setB.updBuf.eng))

theorem execSpareRow_wf {s : State} {array} {row} {perm} (h : s.Wf) :
    Outcome.Wf (execSpareRow array row perm s) := State.Wf.next (h.onBlk (fun _ h => h.cfgErrAt.ite h.setFs.latch))

theorem State.Wf.rowCopy {s : State} (h : s.Wf) {a} {row} : (s.rowCopy a row).Wf := h.updBuf

theorem execSpareRowEnd_wf {s : State} (h : s.Wf) :
    Outcome.Wf (execSpareRowEnd s) := State.Wf.next (h.ite (h.setB.setF.event.ite (((h.setB.rowCopy.updBuf.setF.updBuf.setF.ite h.setB.rowCopy.updBuf.setF).setF).event)))

theorem execFlipArm_wf {s : State} {array} {check} (h : s.Wf) : Outcome.Wf (execFlipArm array check s) := State.Wf.next (h.onBlk (fun _ h => h.cfgErrAt.ite h.setFs))

/-! ### The operations of Sys2Proof/Machine/Rings.lean -/

theorem State.Wf.setCs {s : State} (h : s.Wf) {n} {x} : (s.setCs n x).Wf := h.updEng

theorem State.Wf.updCs {s : State} (h : s.Wf) {n} {g} : (s.updCs n g).Wf := h.setCs

theorem State.Wf.csFault {s : State} (h : s.Wf) {n} {code} : (s.csFault n code).Wf := h.updCs.setFs.setB.event

theorem State.Wf.setSreg {s : State} (h : s.Wf) {n} {r} {v} : (s.setSreg n r v).Wf := h.updCs

theorem State.Wf.setDone {s : State} (h : s.Wf) {n} {c} {v} : (s.setDone n c v).Wf := h.updCs

theorem State.Wf.updMwr {s : State} (h : s.Wf) {g} : (s.updMwr g).Wf := h.mwr

theorem State.Wf.setRing {s : State} (h : s.Wf) {r} {x} : (s.setRing r x).Wf := h.updMwr

theorem State.Wf.readEntries {s : State} (h : s.Wf) {r : Nat} {l : List Nat} : (s.readEntries r l).2.Wf := by
  have hr : ∀ (s : State) (g : Agent) (a n : Nat), s.Wf → (s.fetch g a n).2.Wf := fun _ _ _ _ h => h.fetch
  generalize hf : @State.readEntries = f
  delta State.readEntries State.readEntries._f at hf
  generalize @State.fetch = rd at hf hr
  revert rd
  refine id ?_
  intro rd hf hr
  subst hf
  induction l generalizing s with
  | nil => exact h
  | cons i l ih => exact ih (hr s .link (s.ringBase r + 64 * i) 64 h)

theorem State.Wf.publishHead {s : State} (h : s.Wf) {r} : (s.publishHead r).Wf := h.wrN

theorem State.Wf.setRingState {s : State} (h : s.Wf) {r} {st} : (s.setRingState r st).Wf := h.setFs.setFs.setF.publishHead

theorem State.Wf.setChains {s : State} (h : s.Wf) {r} {l} : (s.setChains r l).Wf := h.setRing.setFs

theorem State.Wf.entryDone {s : State} (h : s.Wf) {r} {i} {irq} {code} {detail} {units} : (s.entryDone r i irq code detail units).Wf := h.wrN.setRing

theorem State.Wf.headPass {s : State} (h : s.Wf) {r fuel : Nat} : (s.headPass r fuel).Wf := by
  induction fuel generalizing s with
  | zero => exact h
  | succ k ih =>
    have hs : ∀ {x y : Nat} {z : RingSt}, ((s.setRing r z).setF .MWR_RING_PTR_HEAD x y).Wf := h.setRing.setF
    exact h.ite (ih (hs.setF.ite hs))

theorem State.Wf.headAdvance {s : State} (h : s.Wf) {r} : (s.headAdvance r).Wf := h.ite h.headPass.publishHead

theorem State.Wf.fetchSkip {s : State} (h : s.Wf) {r fuel : Nat} : (s.fetchSkip r fuel).Wf := by
  induction fuel generalizing s with
  | zero => exact h
  | succ k ih => exact (ih h.setF).ite h

theorem State.Wf.setDesc {s : State} (h : s.Wf) {r} {i} {st} : (s.setDesc r i st).Wf := h.setRing

theorem State.Wf.sweep {s : State} (h : s.Wf) {r} : (s.sweep r).Wf := h.setChains.foldl (fun _ h _ => h.forgetChain)

theorem State.Wf.descDone {s : State} (h : s.Wf) {r} {i} {code} {detail} {units} : (s.descDone r i code detail units).Wf := by
  unfold State.descDone
  split
  · exact h
  · exact ((State.Wf.ite ((h.foldl (fun _ h _ => h.entryDone.setDesc)).foldl (fun _ h _ => h.entryDone.setDesc)) (h.foldl (fun _ h _ => h.entryDone.setDesc))).sweep).headAdvance

theorem State.Wf.setTq {s : State} (h : s.Wf) {tgt} {q} : (s.setTq tgt q).Wf := h.updMwr

theorem State.Wf.unqueue {s : State} (h : s.Wf) {r} {i} : (s.unqueue r i).Wf := h.updMwr

theorem State.Wf.takeDesc {s : State} (h : s.Wf) {n} {r} {i} {w} : (s.takeDesc n r i w).Wf := h.setDesc.updCs.setB

theorem State.Wf.handOver {s : State} (h : s.Wf) {tgt} : (s.handOver tgt).Wf := by
  unfold State.handOver
  split
  · exact h
  · split
    · split
      · exact h.setTq.takeDesc.updMwr.ite h.setTq.takeDesc
      · exact h.setTq
    · exact h

theorem State.Wf.updChn {s : State} (h : s.Wf) {g} : (s.updChn g).Wf := h.chn

theorem State.Wf.setLane {s : State} (h : s.Wf) {l} {x} : (s.setLane l x).Wf := h.updChn

theorem State.Wf.updLane {s : State} (h : s.Wf) {l} {g} : (s.updLane l g).Wf := h.setLane

theorem State.Wf.ztApply {s : State} (h : s.Wf) : (s.ztApply).Wf := h.applyAll.setB.setFs.foldl (fun _ h _ => h.updLane.setB)

theorem State.Wf.ztBoundary {s : State} (h : s.Wf) : (s.ztBoundary).Wf := h.ztApply.ite h

theorem State.Wf.syncApply {s : State} (h : s.Wf) {l} : (s.syncApply l).Wf := h.applyAll.setB

theorem State.Wf.laneStop0 {s : State} (h : s.Wf) {l} : (s.laneStop0 l).Wf := (h.syncApply.ite h).ztBoundary

theorem State.Wf.laneFreed {s : State} (h : s.Wf) {n} : (s.laneFreed n).Wf := by
  unfold State.laneFreed
  split
  · exact h.laneStop0.ite h
  · exact h

theorem State.Wf.dropItem {s : State} (h : s.Wf) {n} : (s.dropItem n).Wf := h.updCs.setB.laneFreed

theorem State.Wf.resultBack {s : State} (h : s.Wf) {r} : (s.resultBack r).Wf := by
  unfold State.resultBack
  split
  · exact h.setDone
  · exact h

theorem State.Wf.ringStale {s : State} (h : s.Wf) {w} : (s.ringStale w).Wf := h.stale.ite h

theorem State.Wf.post {s : State} (h : s.Wf) {n} {code} {detail} {units} : (s.post n code detail units).Wf := h.elim (fun _ => h.dropItem.descDone.ringStale.resultBack)

theorem State.Wf.onItem {s : State} (h : s.Wf) {tgt} {opcs} {g} (hg : ∀ t : State, State.Wf t → ∀ a1, ∀ a2, State.Wf (g t a1 a2)) : (s.onItem tgt opcs g).Wf := h.handOver.elim (fun _ => hg _ h.handOver _ _)

theorem State.Wf.withdrawDesc {s : State} (h : s.Wf) {r} {d} : (s.withdrawDesc r d).Wf := by
  unfold State.withdrawDesc
  split
  · exact h.entryDone.setDesc
  · exact h.ite h.unqueue.entryDone.setDesc
  · refine State.Wf.foldl h (fun t ht a => ?_)
    split
    · exact ht.updCs.ite ht
    · exact ht
  · exact h

theorem State.Wf.withdrawChain {s : State} (h : s.Wf) {r} {c} : (s.withdrawChain r c).Wf := h.foldl (fun _ h _ => h.withdrawDesc)

/-! ### The operations of Sys2Proof/Machine/Flags.lean -/

theorem State.Wf.setMtime {s : State} (h : s.Wf) {v} : (s.setMtime v).Wf := h.setFs

theorem State.Wf.setAont {s : State} (h : s.Wf) {v} : (s.setAont v).Wf := h.setFs

theorem State.Wf.cyclesPass {s : State} (h : s.Wf) {c} : (s.cyclesPass c).Wf := h.foldl (fun _ h _ => h.setCore.ite h)

theorem State.Wf.wakeCores {s : State} (h : s.Wf) : (s.wakeCores).Wf := h.foldl (fun _ h _ => h.setCore.ite h)

/-! ### The operations of Sys2Proof/Machine/Mwr.lean -/

theorem State.Wf.roundEnd {s : State} (h : s.Wf) {k} : (s.roundEnd k).Wf := h.ite (h.foldl (fun _ h _ => h.setRing))

theorem State.Wf.selectRing {s : State} (h : s.Wf) {k} : (s.selectRing k).2.Wf := by
  unfold State.selectRing
  extract_lets urgent s1
  have hs1 : s1.Wf := h.roundEnd
  clear_value urgent
  split
  · exact h.pair
  · exact hs1.pair

theorem State.Wf.fetchChain {s : State} (h : s.Wf) {r} : (s.fetchChain r).Wf := by
  unfold State.fetchChain
  extract_lets s1 f n stopAt
  have hs1 : s1.Wf := h.tableUse
  split
  · exact hs1
  · split
    next x x1 t e =>
      have ht := hs1.readEntries.of_pair e
      extract_lets next s2 ds _ s3 s4 s5 c s6
      have hs2 : s2.Wf := ht.ite ht.prefetchAll
      have hs3 : s3.Wf := hs2.setRing
      have hs4 : s4.Wf := hs3.setF
      have hs5 : s5.Wf := hs4.foldl (fun _ h _ => h.entryDone.ite h.entryDone)
      have hs6 : s6.Wf := hs3.setChains
      split
      · exact hs3.setRing.setFs
      · exact hs5.eventOnce.headAdvance.ite hs3.setRing.setFs
      · exact hs6.setF

theorem State.Wf.forward {s : State} (h : s.Wf) {n} {r} {i} {t} : (s.forward n r i t).Wf := by
  unfold State.forward
  split
  · exact h
  · split
    · exact h
    · exact h.ite (h.setDone.stale.descDone.ite (h.descDone.ite (h.ite (h.setDone.ite h.setDone.setDesc.setTq.handOver))))

theorem execMwrEn_wf {s : State} {v} (h : s.Wf) :
    Outcome.Wf (execMwrEn v s) := State.Wf.next (h.onBlk (fun _ h => (h.ite (h.setB.ite h.cfgErrAt)).ite (h.cfgErrAt.ite h.setB)))

theorem State.Wf.discardBell {s : State} (h : s.Wf) : (s.discardBell).Wf := h.inc.eventOnce

theorem State.Wf.ringRewritten {s : State} (h : s.Wf) {r} : (s.ringRewritten r).Wf := h.setRing

theorem State.Wf.doorbell {s : State} (h : s.Wf) {r} {tail} :
    (s.doorbell r tail).Wf := (h.ite (h.setF.ite h.setF.inc.setRingState.event)).ite (h.inc.ite h.discardBell)

theorem execDoorbell_wf {s : State} {r} {tail} (h : s.Wf) : Outcome.Wf (execDoorbell r tail s) := State.Wf.next (h.onBlk (fun _ h => h.doorbell))

theorem execErrorEntry_wf {s : State} {r} (h : s.Wf) : Outcome.Wf (execErrorEntry r s) := by
  unfold execErrorEntry
  refine State.Wf.next ?_
  split
  · exact h.setFs.setRingState.event.ite h
  · exact h

theorem State.Wf.ringEnable {s : State} (h : s.Wf) {r} :
    (s.ringEnable r).Wf := h.ite (h.cfgErrAt.ite (h.setRing.setF.fetchSkip.setRingState.ite h.cfgErrAt))

theorem execRingEnable_wf {s : State} {r} (h : s.Wf) : Outcome.Wf (execRingEnable r s) := State.Wf.next (h.onBlk (fun _ h => h.ringEnable))

theorem State.Wf.ringDisable {s : State} (h : s.Wf) {r} : (s.ringDisable r).Wf := h.setRingState.roundEnd.ite h

theorem execRingDisable_wf {s : State} {r} (h : s.Wf) : Outcome.Wf (execRingDisable r s) := State.Wf.next (h.onBlk (fun _ h => h.ringDisable))

theorem execDrainEnd_wf {s : State} {r} (h : s.Wf) : Outcome.Wf (execDrainEnd r s) := State.Wf.next (h.setF.setRingState.ite h)

theorem State.Wf.abortUnfetched {s : State} (h : s.Wf) {r fuel : Nat} : (s.abortUnfetched r fuel).Wf := by
  induction fuel generalizing s with
  | zero => exact h
  | succ k ih => exact h.ite (ih (h.entryDone.ite h).setF)

theorem State.Wf.ringAbort {s : State} (h : s.Wf) {r} :
    (s.ringAbort r).Wf := .ite ((((((h.setRing.foldl (fun _ h _ => h.withdrawChain)).abortUnfetched).sweep).headAdvance).setRingState).roundEnd) h

theorem execAbortComplete_wf {s : State} {r} (h : s.Wf) : Outcome.Wf (execAbortComplete r s) := State.Wf.next (h.onBlk (fun _ h => h.ringAbort))

theorem execAbortCompleteEnd_wf {s : State} {r} (h : s.Wf) : Outcome.Wf (execAbortCompleteEnd r s) := State.Wf.next (h.setRingState.event.ite h)

theorem State.Wf.ringResume {s : State} (h : s.Wf) {r} : (s.ringResume r).Wf := h.setRing.setF.fetchSkip.setRingState.ite h

theorem execResume_wf {s : State} {r} (h : s.Wf) : Outcome.Wf (execResume r s) := State.Wf.next (h.onBlk (fun _ h => h.ringResume))

theorem State.Wf.ringClrOvr {s : State} (h : s.Wf) {r} : (s.ringClrOvr r).Wf := h.setRingState.ite h

theorem execClrOvr_wf {s : State} {r} (h : s.Wf) : Outcome.Wf (execClrOvr r s) := State.Wf.next (h.onBlk (fun _ h => h.ringClrOvr))

theorem State.Wf.scanUnfetched {s : State} (h : s.Wf) {r tag tail i : Nat} {inside : Bool} {count fuel : Nat} : (s.scanUnfetched r tag tail i inside count fuel).2.Wf := by
  induction fuel generalizing s i inside count with
  | zero => exact h
  | succ k ih => exact h.pair.ite_snd (ih (h.entryDone.ite h))

theorem execWithdraw_wf {s : State} {r} {tag} (h : s.Wf) : Outcome.Wf (execWithdraw r tag s) := by
  unfold execWithdraw
  refine State.Wf.next ?_
  refine State.Wf.onBlk h (fun t ht => ?_)
  split
  · exact ht.cfgErrAt
  · extract_lets s1 l s2 s3
    have hs1 : s1.Wf := ht.setFs
    have hs2 : s2.Wf := hs1.foldl (fun _ h _ => h.withdrawChain)
    have hs3 : s3.Wf := hs2.setF.ite hs2
    split
    next x m t1 e =>
      have ht1 := hs3.scanUnfetched.of_pair e
      exact ht1.sweep.fetchSkip.headAdvance.updMwr

theorem execWithdrawScanEnd_wf {s : State} (h : s.Wf) : Outcome.Wf (execWithdrawScanEnd s) := by
  unfold execWithdrawScanEnd
  refine State.Wf.next ?_
  split
  · exact h.updMwr.setFs.event
  · exact h

/-! ### The operations of Sys2Proof/Machine/Micro.lean -/

theorem State.Wf.sample {s : State} (h : s.Wf) {n} : (s.sample n).Wf := h.updCs.setF

theorem State.Wf.advance {s : State} (h : s.Wf) {n} :
    (s.advance n).Wf := h.ite (h.updCs.ite (h.sample.ite (h.updCs.sample.ite h.updCs.setF)))

theorem State.Wf.wordEnd {s : State} (h : s.Wf) {n} : (s.wordEnd n).Wf := by
  unfold State.wordEnd
  extract_lets s1
  have hs1 : s1.Wf := h.updCs
  split
  · exact hs1.handOver.ite hs1
  · exact hs1

theorem State.Wf.arrive {s : State} (h : s.Wf) {n} {a} : (s.arrive n a).Wf := by
  unfold State.arrive
  extract_lets a1 cls s1
  have hs1 : s1.Wf := h.wordEnd.setF
  split
  next x m t e =>
    have ht := hs1.sramRead.of_pair e
    split
    next x1 m1 t1 e1 =>
      have ht1 := ht.sramRead.of_pair e1
      exact ht1.csFault.ite ht1.setF.advance

theorem State.Wf.branch {s : State} (h : s.Wf) {n} {a} : (s.branch n a).Wf := h.csFault.ite h.arrive

theorem State.Wf.onScratch {s : State} (h : s.Wf) {n} {op} {ok} {g} (hg : ∀ t : State, State.Wf t → State.Wf (g t)) : (s.onScratch n op ok g).Wf := .ite (((hg _ h).updCs).advance) h

theorem State.Wf.onSeq {s : State} (h : s.Wf) {n} {cls} {e} {v} {ok} {g} (hg : ∀ t : State, State.Wf t → State.Wf (g t)) : (s.onSeq n cls e v ok g).Wf := .ite ((hg _ h.updCs).advance) h

theorem State.Wf.onBranch {s : State} (h : s.Wf) {n} {mode} {ok} {g} (hg : ∀ t : State, State.Wf t → State.Wf (g t)) : (s.onBranch n mode ok g).Wf := (hg _ h).ite h

/-! ### The operations of Sys2Proof/Machine/Eng.lean -/

theorem execCoreRun_wf {s : State} {n} {v} (h : s.Wf) :
    Outcome.Wf (execCoreRun n v s) := State.Wf.next (h.onBlk (fun _ h => h.cfgErrAt.ite ((h.ite h.setCore.updEng.setB).ite h.setCore.updDev.setB)))

theorem execMtimeCompare_wf {s : State} {n} (h : s.Wf) : Outcome.Wf (execMtimeCompare n s) := State.Wf.next (h.ite h.setMtime.setAont.cyclesPass.wakeCores)

theorem execIpiSet_wf {s : State} {m} (h : s.Wf) : Outcome.Wf (execIpiSet m s) := State.Wf.next (h.onBlk (fun _ h => h.setF.wakeCores))

theorem execIpiClear_wf {s : State} {m} (h : s.Wf) : Outcome.Wf (execIpiClear m s) := State.Wf.next (h.onBlk (fun _ h => h.setF))

theorem execInterruptClaim_wf {s : State} {n} (h : s.Wf) :
    Outcome.Wf (execInterruptClaim n s) := State.Wf.next (h.onBlk (fun _ h => h.send.ite h.send.updEng.setB))

theorem execInterruptComplete_wf {s : State} {n} {src} (h : s.Wf) :
    Outcome.Wf (execInterruptComplete n src s) := State.Wf.next (h.onBlk (fun _ h => h.updEng.setB.wakeCores.ite h))

theorem State.Wf.onCore {s : State} (h : s.Wf) {n} {g} (hg : ∀ t : State, State.Wf t → State.Wf (g t)) : (s.onCore n g).Wf := (hg _ h.wakeCores.setCore).ite h.wakeCores

theorem execWfi_wf {s : State} {n} {mie} (h : s.Wf) : Outcome.Wf (execWfi n mie s) := State.Wf.next (h.onCore (fun _ h => h.setCore.wakeCores))

theorem execFenceI_wf {s : State} {n} (h : s.Wf) : Outcome.Wf (execFenceI n s) := State.Wf.next (h.onCore (fun _ h => h.updEng))

theorem execLrScAmo_wf {s : State} {n} {op} {dword} {a} {rd} {v} (h : s.Wf) :
    Outcome.Wf (execLrScAmo n op dword a rd v s) := State.Wf.next (h.onCore (fun _ h => h.misaligned.ite ((h.loadFault.ite h.accFault).ite h.access)))

theorem State.Wf.setWord {s : State} (h : s.Wf) {cls} {a} {w} : (s.setWord cls a w).Wf := h.updEng.sramWritten.sramWritten

theorem State.Wf.loadWords {s : State} (h : s.Wf) {cls src a k : Nat} : (s.loadWords cls src a k).2.2.Wf := by
  induction k generalizing s src a with
  | zero => exact h
  | succ k ih =>
    rw [State.loadWords]
    split
    next d t e =>
      have ht := h.fetch.of_pair e
      exact ht.pair2.ite_snd_snd ((ih ht.setWord).ite_snd_snd ht.pair2)

theorem State.Wf.loadStore {s : State} (h : s.Wf) {cls} {first} {count} : (s.loadStore cls first count).Wf := by
  unfold State.loadStore
  split
  · exact h.updEng
  · extract_lets s1
    have hs1 : s1.Wf := h.setF
    split
    next x r tag t e =>
      have ht := hs1.loadWords.of_pair2 e
      exact ht.updEng

theorem execControlStoreLoad_wf {s : State} {cls} {first} {count} (h : s.Wf) :
    Outcome.Wf (execControlStoreLoad cls first count s) := State.Wf.next (h.onBlk (fun _ h => h.cfgErrAt.ite h.setFs.latch.loadStore))

theorem execControlStoreLoadEnd_wf {s : State} (h : s.Wf) :
    Outcome.Wf (execControlStoreLoadEnd s) := State.Wf.next (h.ite (h.setFs.updEng.setF.ite h.setFs.updEng.event))

theorem execJump_wf {s : State} {n} {next} (h : s.Wf) : Outcome.Wf (execJump n next s) := State.Wf.next (h.onBranch (fun _ h => h.branch))

theorem State.Wf.condBranch {s : State} (h : s.Wf) {n} {k} {next} {c} : (s.condBranch n k next c).Wf := h.onBranch (fun _ h => h.branch)

theorem execCond1_wf {s : State} {n} {next} {c0} (h : s.Wf) : Outcome.Wf (execCond1 n next c0 s) := State.Wf.next (h.condBranch)

theorem execCond2_wf {s : State} {n} {next} {c0} {c1} (h : s.Wf) : Outcome.Wf (execCond2 n next c0 c1 s) := State.Wf.next (h.condBranch)

theorem execCond3_wf {s : State} {n} {next} {c0} {c1} {c2} (h : s.Wf) : Outcome.Wf (execCond3 n next c0 c1 c2 s) := State.Wf.next (h.condBranch)

theorem execCond4_wf {s : State} {n} {next} {c0} {c1} {c2} {c3} (h : s.Wf) : Outcome.Wf (execCond4 n next c0 c1 c2 c3 s) := State.Wf.next (h.condBranch)

theorem execCall_wf {s : State} {n} {next} {ret} (h : s.Wf) :
    Outcome.Wf (execCall n next ret s) := State.Wf.next (h.onBranch (fun _ h => h.csFault.ite h.updCs.branch))

theorem execRet_wf {s : State} {n} (h : s.Wf) : Outcome.Wf (execRet n s) := by
  unfold execRet
  refine State.Wf.next ?_
  refine State.Wf.onBranch h (fun t ht => ?_)
  split
  · exact ht.csFault
  · exact ht.updCs.branch

theorem execDispatch_wf {s : State} {n} {next} (h : s.Wf) : Outcome.Wf (execDispatch n next s) := State.Wf.next (h.onBranch (fun _ h => h.branch))

theorem execLoop_wf {s : State} {n} {next} (h : s.Wf) : Outcome.Wf (execLoop n next s) := State.Wf.next (h.onBranch (fun _ h => h.updCs.branch))

theorem execHalt_wf {s : State} {n} (h : s.Wf) : Outcome.Wf (execHalt n s) := State.Wf.next (h.onBranch (fun _ h => h.updCs.setF))

theorem execWaitEnd_wf {s : State} {n} {cause} (h : s.Wf) : Outcome.Wf (execWaitEnd n cause s) := by
  unfold execWaitEnd
  refine State.Wf.next ?_
  split
  · exact h
  · split
    · exact h.sample.ite h
    · exact h.ite h.updCs.sample
    · exact h.sample.ite h

theorem execCsStart_wf {s : State} {n} {entry} (h : s.Wf) :
    Outcome.Wf (execCsStart n entry s) := State.Wf.next (h.onBlk (fun _ h => h.setF.cfgErrAt.ite (h.setF.ite h.setF.updCs.setF.arrive)))

theorem execCsStop_wf {s : State} {n} (h : s.Wf) : Outcome.Wf (execCsStop n s) := State.Wf.next (h.onBlk (fun _ h => h.updCs.ite h))

theorem execKill_wf {s : State} {n} (h : s.Wf) : Outcome.Wf (execKill n s) := State.Wf.next (h.onBlk (fun _ h => h.updCs.ite h))

theorem execAbandon_wf {s : State} {n} (h : s.Wf) : Outcome.Wf (execAbandon n s) := by
  unfold execAbandon
  refine State.Wf.next ?_
  refine State.Wf.onBlk h (fun t ht => ?_)
  split
  · extract_lets s1
    have hs1 : s1.Wf := by
      unfold s1
      split
      · exact ht.dropItem.descDone
      · exact ht.dropItem.endUnposted
      · exact ht.dropItem.ite ht.dropItem.fetchEnd
      · exact ht.dropItem
    exact hs1.event
  · exact ht.cfgErrAt

theorem execSpareCsBind_wf {s : State} {k} {cls} {repl} {bind} (h : s.Wf) :
    Outcome.Wf (execSpareCsBind k cls repl bind s) := State.Wf.next (h.onBlk (fun _ h => h.setFs.ite (.ite ((h.setFs.setFs.ite h.setFs).event) (.ite ((h.setFs.setFs.ite h.setFs).event) h.cfgErrAt))))

theorem State.Wf.scratchDS {s : State} (h : s.Wf) {n} {op} {d} {r} {g} : (s.scratchDS n op d r g).Wf := h.onScratch (fun _ h => h.setSreg)

theorem State.Wf.scratchDI {s : State} (h : s.Wf) {n} {op} {d} {imm} {g} : (s.scratchDI n op d imm g).Wf := h.onScratch (fun _ h => h.setSreg)

theorem execAMov_wf {s : State} {n} {d} {r} (h : s.Wf) : Outcome.Wf (execAMov n d r s) := State.Wf.next (h.scratchDS)

theorem execALdi_wf {s : State} {n} {d} {imm} (h : s.Wf) : Outcome.Wf (execALdi n d imm s) := State.Wf.next (h.scratchDI)

theorem execALdh_wf {s : State} {n} {d} {imm} (h : s.Wf) : Outcome.Wf (execALdh n d imm s) := State.Wf.next (h.scratchDI)

theorem execAAdd_wf {s : State} {n} {d} {r} (h : s.Wf) : Outcome.Wf (execAAdd n d r s) := State.Wf.next (h.scratchDS)

theorem execAAddi_wf {s : State} {n} {d} {imm} (h : s.Wf) : Outcome.Wf (execAAddi n d imm s) := State.Wf.next (h.scratchDI)

theorem execASub_wf {s : State} {n} {d} {r} (h : s.Wf) : Outcome.Wf (execASub n d r s) := State.Wf.next (h.scratchDS)

theorem execAAnd_wf {s : State} {n} {d} {r} (h : s.Wf) : Outcome.Wf (execAAnd n d r s) := State.Wf.next (h.scratchDS)

theorem execAOr_wf {s : State} {n} {d} {r} (h : s.Wf) : Outcome.Wf (execAOr n d r s) := State.Wf.next (h.scratchDS)

theorem execAXor_wf {s : State} {n} {d} {r} (h : s.Wf) : Outcome.Wf (execAXor n d r s) := State.Wf.next (h.scratchDS)

theorem execAShr_wf {s : State} {n} {d} {imm} (h : s.Wf) : Outcome.Wf (execAShr n d imm s) := State.Wf.next (h.scratchDI)

theorem execAShl_wf {s : State} {n} {d} {imm} (h : s.Wf) : Outcome.Wf (execAShl n d imm s) := State.Wf.next (h.scratchDI)

theorem execALdd_wf {s : State} {n} {d} {imm} (h : s.Wf) : Outcome.Wf (execALdd n d imm s) := by
  unfold execALdd
  refine State.Wf.next ?_
  refine State.Wf.onScratch h (fun t ht => ?_)
  split
  · exact ht.setSreg
  · split
    next x m t1 e =>
      have ht1 := ht.free.of_pair e
      exact ht1.setSreg

theorem execAStd_wf {s : State} {n} {r} {imm} (h : s.Wf) : Outcome.Wf (execAStd n r imm s) := State.Wf.next (h.onScratch (fun _ h => h.updCs))

theorem execALdlc_wf {s : State} {n} {r} (h : s.Wf) : Outcome.Wf (execALdlc n r s) := State.Wf.next (h.onScratch (fun _ h => h.updCs))

theorem execACmp_wf {s : State} {n} {d} {r} (h : s.Wf) : Outcome.Wf (execACmp n d r s) := State.Wf.next (h.onScratch (fun _ h => h.updCs))

theorem State.Wf.onRing {s : State} (h : s.Wf) {n} {r} {v} {ok} {g} (hg : ∀ t : State, State.Wf t → State.Wf (g t)) : (s.onRing n r v ok g).Wf := h.onSeq (fun _ h => (hg _ h).ite h)

theorem execSelect_wf {s : State} (h : s.Wf) {n : Cs} : (execSelect n s).Wf := by
  refine State.Wf.next (State.Wf.onSeq h fun t ht => ?_)
  split
  next m _ =>
    split
    next r u e => exact (ht.selectRing.of_pair e).setSreg
    next u e => exact ht.selectRing.of_pair e
  next => exact ht

theorem State.Wf.grantChain {s : State} (h : s.Wf) {n} {r} : (s.grantChain n r).Wf := h.updMwr.fetchChain.updCs.fetchSkip.roundEnd.setDone.setDone

theorem execRingFetch_wf {s : State} {n} {r} (h : s.Wf) : Outcome.Wf (execRingFetch n r s) := State.Wf.next (h.onRing (fun _ h => h.ite h.grantChain))

theorem execForward_wf {s : State} {n} {r} {i} (h : s.Wf) : Outcome.Wf (execForward n r i s) := State.Wf.next (h.onRing (fun _ h => h.forward))

theorem execComplete_wf {s : State} {n} {r} {i} {code} (h : s.Wf) : Outcome.Wf (execComplete n r i code s) := by
  unfold execComplete
  refine State.Wf.next ?_
  refine State.Wf.onRing h (fun t ht => ?_)
  split
  · exact ht.setDone
  · extract_lets s1
    have hs1 : s1.Wf := by
      unfold s1
      refine State.Wf.foldl ht (fun t1 ht1 a => ?_)
      split
      · exact ht1.dropItem.ite ht1
      · exact ht1
    exact hs1.unqueue.descDone.ringStale.setDone

theorem execRingError_wf {s : State} {n} {r} (h : s.Wf) : Outcome.Wf (execRingError n r s) := State.Wf.next (h.onRing (fun _ h => h.setRing.setFs.ite h))

/-! ### The operations of Sys2Proof/Machine/Hep.lean -/

theorem State.Wf.applyPw {s : State} (h : s.Wf) {p} : (s.applyPw p).Wf := (h.applyAll.setFs.ite h.applyAll).setFs

theorem State.Wf.hepEn {s : State} (h : s.Wf) {p} {v} :
    (s.hepEn p v).Wf := (h.ite (h.setB.ite h.cfgErrAt)).ite (h.cfgErrAt.ite (h.setB.applyPw.ite h.setB))

theorem execHepEn_wf {s : State} {p} {v} (h : s.Wf) :
    Outcome.Wf (execHepEn p v s) := State.Wf.next (h.onBlk (fun _ h => h.onPort (fun _ h => h.hepEn)))

theorem State.Wf.flushVecs {s : State} (h : s.Wf) {p} : (s.flushVecs p).Wf := h.ite (h.foldl (fun _ h _ => h.sendMsix.ite h))

theorem State.Wf.atsOff {s : State} (h : s.Wf) {p} : (s.atsOff p).Wf := h.setHp.dropAtc.pump

theorem State.Wf.cfgWrite {s : State} (h : s.Wf) {p} {w} : (s.cfgWrite p w).Wf := by
  unfold State.cfgWrite
  extract_lets h1
  split
  · exact h.setHp
  · exact h.setHp
  · exact h.setHp
  · exact h.setHp.ite h.atsOff
  · exact h.setHp.flushVecs
  · exact h.setHp
  · exact h.setHp
  · exact h.setHp
  · exact h.setHp
  · exact h.setHp
  · exact h.setHp
  · exact h.setHp

theorem execConfigurationRequest_wf {s : State} {p} {r} (h : s.Wf) : Outcome.Wf (execConfigurationRequest p r s) := by
  unfold execConfigurationRequest
  refine State.Wf.next ?_
  refine State.Wf.inBlk h (fun t ht => ?_)
  refine State.Wf.onPort ht (fun t1 ht1 => ?_)
  split
  · exact ht1.send
  · split
    · exact ht1.cfgWrite.send
    · exact ht1.send

theorem State.Wf.timeout {s : State} (h : s.Wf) {p} {tag} : (s.timeout p tag).Wf := by
  unfold State.timeout
  split
  · exact h
  · exact h.dropReq.setQuar.aer.event.failDma

theorem execCompletionTimeout_wf {s : State} {p} {tag} (h : s.Wf) : Outcome.Wf (execCompletionTimeout p tag s) := State.Wf.next (h.timeout)

theorem State.Wf.sqeArrived {s : State} (h : s.Wf) {p} {q} {cs} {order} {d} : (s.sqeArrived p q cs order d).Wf := h.eng.setB

theorem State.Wf.requestDone {s : State} (h : s.Wf) {p} {r} {d} : (s.requestDone p r d).Wf := by
  unfold State.requestDone
  extract_lets s1
  have hs1 : s1.Wf := h.dropReq.pump
  split
  · exact hs1.onTag (fun _ h => h.wrTag.setCmd.raiseDone)
  · exact hs1.sqeArrived
  · exact hs1.postCqeTo
  · exact hs1
  · exact hs1

theorem State.Wf.fetchFailed {s : State} (h : s.Wf) {p} {k} : (s.fetchFailed p k).Wf := h.aer.event.failDma.fatal

theorem State.Wf.cplOutstanding {s : State} (h : s.Wf) {p} {r} {d} {good} {poisoned} : (s.cplOutstanding p r d good poisoned).Wf := by
  unfold State.cplOutstanding
  split
  · split
    · exact h.dropReq.request
    · exact h.dropReq.pump.fetchFailed
    · exact h.dropReq.pump.aer.event.failDma
  · split
    · exact h.dropReq.pump.failDma
    · split
      · exact h.requestDone
      · extract_lets _ s1
        have hs1 : s1.Wf := h.setHp
        split
        · exact hs1.setCmd.ite hs1
        · exact hs1

theorem State.Wf.cplLate {s : State} (h : s.Wf) {p} {q} {n} {good} :
    (s.cplLate p q n good).Wf := .ite (((h.ite h.aer.inc.event).setQuar).pump) ((h.ite h.aer.inc.event).setQuar)

theorem State.Wf.completion {s : State} (h : s.Wf) {p} {tag} {d} {good} {poisoned} {expiring} : (s.completion p tag d good poisoned expiring).Wf := by
  unfold State.completion
  extract_lets quiet s1 s2
  have hs1 : s1.Wf := h.poisonedTlp.ite h
  have hs2 : s2.Wf := hs1.timeout.ite hs1
  split
  · exact hs2.cplOutstanding
  · split
    · exact hs2.cplLate
    · exact hs2.aer.event

theorem execCompletionTlp_wf {s : State} {p} {tag} {d} {good} {poisoned} {expiring} (h : s.Wf) : Outcome.Wf (execCompletionTlp p tag d good poisoned expiring s) := State.Wf.next (h.onPort (fun _ h => h.completion))

theorem execQuarantineHoldExpiry_wf {s : State} {p} {tag} (h : s.Wf) : Outcome.Wf (execQuarantineHoldExpiry p tag s) := State.Wf.next (h.event.setQuar.pump.ite h)

theorem execCmbWrite_wf {s : State} {p} {off} {d} {poisoned} (h : s.Wf) :
    Outcome.Wf (execCmbWrite p off d poisoned s) := State.Wf.next (h.onPort (fun _ h => (h.poisonedTlp.ite h).ite (.ite ((h.poisonedTlp.ite h).wrPoison) ((h.poisonedTlp.ite h).wr))))

theorem State.Wf.sendRead {s : State} (h : s.Wf) {p a fuel n : Nat} : (s.sendRead p a fuel n).Wf := by
  induction fuel generalizing s a n with
  | zero => exact h
  | succ k ih =>
    rw [State.sendRead]
    split
    · exact h
    · extract_lets m
      split
      next d bad t e => exact ih (h.fetchMarked.of_pair2 e).send

theorem execCmbRead_wf {s : State} {p} {off} {len} (h : s.Wf) : Outcome.Wf (execCmbRead p off len s) := State.Wf.next (h.onPort (fun _ h => h.sendRead.ite h.send))

theorem State.Wf.peerDeliver {s : State} (h : s.Wf) {p} {block} {m} : (s.peerDeliver p block m).Wf := h.inc.ite (h.inc.ite (h.wr.setF.setHp.ite h.wr.setF.setHp))

theorem State.Wf.peerFragment {s : State} (h : s.Wf) {p} {off} {d} : (s.peerFragment p off d).Wf := by
  unfold State.peerFragment
  extract_lets h1 block slot
  clear_value slot
  split
  · exact h.inc
  · exact h.setHp.peerDeliver.ite h.setHp

theorem State.Wf.peerBlocks {s : State} (h : s.Wf) {p block fuel : Nat} {d : List Byte} : (s.peerBlocks p block fuel d).Wf := by
  induction fuel generalizing s block d with
  | zero => exact h
  | succ k ih => exact ih h.peerDeliver

theorem State.Wf.peerWrite {s : State} (h : s.Wf) {p} {off} {d} {contiguous} {poisoned} :
    (s.peerWrite p off d contiguous poisoned).Wf := (h.poisonedTlp.ite h).ite (.ite (((h.poisonedTlp.ite h).setHp).inc) (.ite ((h.poisonedTlp.ite h).inc) (.ite ((h.poisonedTlp.ite h).peerBlocks) (.ite ((h.poisonedTlp.ite h).peerFragment) ((h.poisonedTlp.ite h).inc)))))

theorem execPeerWindowWrite_wf {s : State} {p} {off} {d} {contiguous} {poisoned} (h : s.Wf) : Outcome.Wf (execPeerWindowWrite p off d contiguous poisoned s) := State.Wf.next (h.onPort (fun _ h => h.peerWrite))

theorem execPeerWindowRead_wf {s : State} {p} {x} {len} (h : s.Wf) : Outcome.Wf (execPeerWindowRead p x len s) := State.Wf.next (h.onPort (fun _ h => h.send))

theorem execAssemblyTimeout_wf {s : State} {p} {slot} (h : s.Wf) : Outcome.Wf (execAssemblyTimeout p slot s) := State.Wf.next (h.ite h.setHp.inc)

theorem execWindowIdleBoundary_wf {s : State} {p} (h : s.Wf) : Outcome.Wf (execWindowIdleBoundary p s) := State.Wf.next (h.applyPw.ite h)

theorem execForcedBoundary_wf {s : State} {p} (h : s.Wf) : Outcome.Wf (execForcedBoundary p s) := State.Wf.next (h.ite ((h.ite h.setHp.inc.event).applyPw))

theorem execCntClr_wf {s : State} {p} (h : s.Wf) :
    Outcome.Wf (execCntClr p s) := State.Wf.next (h.onBlk (fun _ h => h.onPort (fun _ h => h.setFs)))

theorem execFlr_wf {s : State} {p} (h : s.Wf) :
    Outcome.Wf (execFlr p s) := State.Wf.next (h.onPort (fun _ h => h.event.endRequests.endController.dropAtc.resetFunction))

theorem State.Wf.portDown {s : State} (h : s.Wf) {p} :
    (s.portDown p).Wf := h.setQuar.endRequests.endController.dropAtc.resetFunction.setFs

theorem execLinkDown_wf {s : State} {p} (h : s.Wf) : Outcome.Wf (execLinkDown p s) := State.Wf.next (h.event.portDown.ite h)

theorem execPerst_wf {s : State} {p} (h : s.Wf) :
    Outcome.Wf (execPerst p s) := State.Wf.next (h.onPort (fun _ h => ((h.event.ite h).portDown).setHp))

theorem execPerstRelease_wf {s : State} {p} (h : s.Wf) : Outcome.Wf (execPerstRelease p s) := State.Wf.next (h.setHp)

theorem execPcieLinkUp_wf {s : State} {p} {speed} {width} (h : s.Wf) : Outcome.Wf (execPcieLinkUp p speed width s) := State.Wf.next (h.setFs.ite h)

theorem State.Wf.translated {s : State} (h : s.Wf) {p} {page} {inv} {size} {host} {rd} {wr} :
    (s.translated p page inv size host rd wr).Wf := h.event.askPage.ite ((h.updHep.pump.ite h.updHep.plainReads).ite h.plainReads)

theorem execTranslationCompletion_wf {s : State} {p} {tag} {size} {host} {rd} {wr} (h : s.Wf) : Outcome.Wf (execTranslationCompletion p tag size host rd wr s) := by
  unfold execTranslationCompletion
  refine State.Wf.next ?_
  refine State.Wf.onPort h (fun t ht => ?_)
  split
  · split
    · exact ht.dropReq.translated
    · exact ht
  · exact ht.completion

theorem execInvalidateRequest_wf {s : State} {p} {itag} {start} {size} (h : s.Wf) : Outcome.Wf (execInvalidateRequest p itag start size s) := State.Wf.next (h.onPort (fun _ h => h.setHp.updHep))

theorem execInvalidateCompletion_wf {s : State} {p} (h : s.Wf) : Outcome.Wf (execInvalidateCompletion p s) := by
  unfold execInvalidateCompletion
  refine State.Wf.next ?_
  refine State.Wf.onPort h (fun t ht => ?_)
  extract_lets h1
  split
  · exact ht
  · exact ht.ite ht.setHp.send

theorem execAtsEnableClear_wf {s : State} {p} (h : s.Wf) : Outcome.Wf (execAtsEnableClear p s) := State.Wf.next (h.onPort (fun _ h => h.atsOff))

theorem execMsixVectorUnmask_wf {s : State} {p} {v} (h : s.Wf) : Outcome.Wf (execMsixVectorUnmask p v s) := State.Wf.next (h.setVec.sendMsix.ite h.setVec)

theorem execCqHeadDoorbell_wf {s : State} {p} {q} {head} {poisoned} (h : s.Wf) :
    Outcome.Wf (execCqHeadDoorbell p q head poisoned s) := State.Wf.next (h.ite (h.poisonedTlp.ite (h.ite (h.badDoorbell.ite h.setCq.settleVec))))

theorem execCoalescingTimeExpiry_wf {s : State} {p} {v} (h : s.Wf) : Outcome.Wf (execCoalescingTimeExpiry p v s) := State.Wf.next (h.ite (h.setVec.settleVec.ite h.sendMsix))

theorem State.Wf.setButton {s : State} (h : s.Wf) {v} : (s.setButton v).Wf := h.foldl (fun _ h _ => h.setB.setB)

theorem State.Wf.press {s : State} (h : s.Wf) : (s.press).Wf := (h.setButton.updHep.foldl (fun _ h _ => h.setB.setB)).event

theorem execAttentionButtonPress_wf {s : State} (h : s.Wf) :
    Outcome.Wf (execAttentionButtonPress s) := State.Wf.next (h.press.foldl (fun _ h _ => h.setHp.asyncEvent.ite h))

theorem execAttentionButtonRelease_wf {s : State} (h : s.Wf) : Outcome.Wf (execAttentionButtonRelease s) := State.Wf.next (h.setButton)

theorem execLogPageC8_wf {s : State} {t} {retain} (h : s.Wf) :
    Outcome.Wf (execLogPageC8 t retain s) := State.Wf.next (h.onCmd (fun _ => ((h.ite h.setHp).sendData).finish))

/-! ### The operations of Sys2Proof/Machine/Pool.lean -/

theorem State.Wf.onPool {s : State} (h : s.Wf) {n} {e} {v} {ok} {g} (hg : ∀ t : State, State.Wf t → State.Wf (g t)) : (s.onPool n e v ok g).Wf := h.onSeq hg

theorem State.Wf.onHand {s : State} (h : s.Wf) {n} {e} {v} {ok} {g} (hg : ∀ t : State, State.Wf t → ∀ a1, ∀ a2, State.Wf (g t a1 a2)) : (s.onHand n e v ok g).Wf := by
  unfold State.onHand
  refine State.Wf.onPool h (fun t ht => ?_)
  split
  · exact hg _ ht _ _
  · exact ht

theorem State.Wf.fetchCmb {s : State} (h : s.Wf) {n : Cs} {p : Port} {g : Grant} : (s.fetchCmb n p g).Wf := by
  have hr : ∀ (s : State) (g a n), s.Wf → (s.fetchMarked g a n).2.2.Wf := fun _ _ _ _ h => h.fetchMarked
  generalize hf : @State.fetchCmb = f
  delta State.fetchCmb at hf
  generalize @State.fetchMarked = rd at hf hr
  revert rd
  refine id ?_
  intro rd hf hr
  subst hf
  have ht := hr s (.hepDma p) (s.cmbBase p + (s.sq p g.q).base + 64 * g.i) 64 h
  exact (State.Wf.prefetchAll ht).fetchFailed.ite (State.Wf.prefetchAll ht).sqeArrived

theorem execFetchSqe_wf {s : State} {n} {p} {q} (h : s.Wf) : Outcome.Wf (execFetchSqe n p q s) := by
  unfold execFetchSqe
  refine State.Wf.next ?_
  split
  · exact h
  · refine State.Wf.onPool h (fun t ht => ?_)
    split
    · exact ht
    · extract_lets p1 x s1 s2 s3
      have hs1 : s1.Wf := ht.dropItem.updCiu
      have hs2 : s2.Wf := hs1.setDone.setDone.setInflight
      have hs3 : s3.Wf := hs2.fetchCmb.ite hs2.request
      exact ht.ite (ht.csFault.ite (hs3.eventOnce.ite hs3))

theorem State.Wf.dmaEnd {s : State} (h : s.Wf) {n} {st} : (s.dmaEnd n st).Wf := by
  unfold State.dmaEnd
  split
  · exact h.setDone.setDone
  · exact h.setSreg.setDone.setDone

theorem State.Wf.endReading {s : State} (h : s.Wf) {t} : (s.endReading t).Wf := h.setCmd.foldl (fun _ h _ => h.freeSlot.ite h)

theorem execTx_wf {s : State} {n} {d} (h : s.Wf) : Outcome.Wf (execTx n d s) := by
  unfold execTx
  refine State.Wf.next ?_
  refine State.Wf.onHand h (fun t1 ht1 a a => ?_)
  extract_lets moved
  split
  · exact ht1
  · split
    · split
      next x st l t e =>
        have ht := ht1.fetchBlocks.of_pair2 e
        exact ht.endReading.sendBlocks.event.setCmd.dmaEnd.ite (ht.endReading.dmaEnd.ite ht.endReading.sendBlocks.setCmd.dmaEnd)
    · split
      · exact ht1.csFault
      · split
        next x d1 bad t e =>
          have ht := ht1.fetchMarked.of_pair2 e
          exact ht.sendMarked.event.setCmd.dmaEnd.ite (ht.dmaEnd.ite ht.sendData.setCmd.dmaEnd)

theorem State.Wf.rxBlock {s : State} (h : s.Wf) {n} {t} {c} {lba} {dst} {d} {pi} :
    (s.rxBlock n t c lba dst d pi).Wf := h.setCmd.dmaEnd.ite ((h.setCmd.wrTag.takeBuf.setCmd.publishPieces.ite h.setCmd.wrTag).dmaEnd)

theorem State.Wf.rxGot {s : State} (h : s.Wf) {n} {t} {c} {lba} {dst} {pi} {d} : (s.rxGot n t c lba dst pi d).Wf := by
  unfold State.rxGot
  split
  · exact h.rxBlock
  · exact h.dropBlocks.finish.dmaEnd

theorem State.Wf.rxCmb {s : State} (h : s.Wf) {n} {t} {c} {lba} {dst} {off} {pi} : (s.rxCmb n t c lba dst off pi).Wf := h.cmbBlocks.rxGot

theorem execRx_wf {s : State} {n} {lba} {dst} {data} {pi} (h : s.Wf) : Outcome.Wf (execRx n lba dst data pi s) := by
  unfold execRx
  refine State.Wf.next ?_
  refine State.Wf.onHand h (fun t1 ht1 a a => ?_)
  extract_lets w len
  split
  · exact ht1
  · split
    · exact ht1.csFault
    · split
      · exact ht1.rxCmb
      · exact ht1.setDone.request.ite ht1.rxBlock

theorem execPostCqe_wf {s : State} {n} (h : s.Wf) : Outcome.Wf (execPostCqe n s) := by
  unfold execPostCqe
  refine State.Wf.next ?_
  refine State.Wf.onPool h (fun t ht => ?_)
  extract_lets st put
  split
  · exact ht.ite ht.putCqe.updCs.fetchEnd
  · exact ht.ite ht.putCqe.setCmd.fetchEnd
  · exact ht

theorem execMsix_wf {s : State} {n} (h : s.Wf) : Outcome.Wf (execMsix n s) := by
  unfold execMsix
  refine State.Wf.next ?_
  refine State.Wf.onPool h (fun t ht => ?_)
  split
  · exact ht.raiseVec
  · exact ht.raiseVec
  · exact ht

theorem execPrefetch_wf {s : State} {n} {a} (h : s.Wf) :
    Outcome.Wf (execPrefetch n a s) := State.Wf.next (h.onPool (fun _ h => h.prefetch.ite h.csFault))

theorem State.Wf.giveTag {s : State} (h : s.Wf) {n} {t} {p} {q} {o} {w} : (s.giveTag n t p q o w).Wf := h.tableUse.takeSlot.setCmd.updCs.setSreg.setDone

theorem execAlloc_wf {s : State} {n} (h : s.Wf) : Outcome.Wf (execAlloc n s) := by
  unfold execAlloc
  refine State.Wf.next ?_
  refine State.Wf.onPool h (fun t ht => ?_)
  split
  · extract_lets cid
    split
    · exact ht
    · split
      · exact ht.cidConflict.updCs.fetchEnd.setDone
      · split
        · exact ht.setDone
        · exact ht.giveTag
  · exact ht

theorem execRelease_wf {s : State} {n} (h : s.Wf) :
    Outcome.Wf (execRelease n s) := State.Wf.next (h.onPool (fun _ h => h.onTag (fun _ h => (h.dropItem.ite h).leave)))

theorem execInsert_wf {s : State} {x} (h : s.Wf) : Outcome.Wf (execInsert x s) := State.Wf.next (h.onHand (fun _ h _ _ => h.setCmd))

theorem execSearch_wf {s : State} {n} (h : s.Wf) :
    Outcome.Wf (execSearch n s) := State.Wf.next (h.onHand (fun _ h _ _ => (h.setDone.ite h.setDone.setCmd.inc).ite h.setDone.setCmd))

theorem execRemove_wf {s : State} {n} (h : s.Wf) : Outcome.Wf (execRemove n s) := State.Wf.next (h.onHand (fun _ h _ _ => h.setCmd))

theorem execAppendAccepted_wf {s : State} {n} (h : s.Wf) :
    Outcome.Wf (execAppendAccepted n s) := State.Wf.next (h.onHand (fun _ h _ _ => h.ledgerAppend.ite h))

theorem execLdgState_wf {s : State} {n} {st} (h : s.Wf) : Outcome.Wf (execLdgState n st s) := by
  unfold execLdgState
  refine State.Wf.next ?_
  refine State.Wf.onHand h (fun t1 ht1 a a => ?_)
  split
  · exact ht1.ledgerRead.ledgerState
  · exact ht1

theorem execLdgFlags_wf {s : State} {n} {f} (h : s.Wf) : Outcome.Wf (execLdgFlags n f s) := by
  unfold execLdgFlags
  refine State.Wf.next ?_
  refine State.Wf.onHand h (fun t1 ht1 a a => ?_)
  split
  · exact ht1.ledgerFlags
  · exact ht1

theorem execLookup_wf {s : State} {n} (h : s.Wf) :
    Outcome.Wf (execLookup n s) := State.Wf.next (h.onHand (fun _ h _ _ => (h.setCmd.ite h).setDone))

theorem execPublish_wf {s : State} {n} (h : s.Wf) :
    Outcome.Wf (execPublish n s) := State.Wf.next (h.onHand (fun _ h _ _ => h.becomeBuffered.ite h))

/-! ### The operations of Sys2Proof/Machine/Media.lean -/

theorem State.Wf.bandHeader {s : State} (h : s.Wf) {p} {src} : (s.bandHeader p src).2.Wf := by
  unfold State.bandHeader
  extract_lets b sb
  split
  · extract_lets mk
    split
    · exact h.pair
    · exact h.pair
    · split
      next x m t e =>
        have ht := h.free.of_pair e
        exact ht.pair

/-! ### The operations of Sys2Proof/Machine/Chn.lean -/

theorem State.Wf.laneFlags {s : State} (h : s.Wf) {l} : (s.laneFlags l).Wf := h.setFs

theorem State.Wf.pairFlags {s : State} (h : s.Wf) {l} : (s.pairFlags l).Wf := h.laneFlags.laneFlags

theorem State.Wf.armLane {s : State} (h : s.Wf) {l} {head} {track} {wr} : (s.armLane l head track wr).Wf := h.updLane.setFs.pairFlags

theorem State.Wf.disarmLane {s : State} (h : s.Wf) {l} : (s.disarmLane l).Wf := h.updLane.setFs.pairFlags.laneStop0

theorem State.Wf.laneDone {s : State} (h : s.Wf) {l} {c} {v} : (s.laneDone l c v).Wf := by
  unfold State.laneDone
  split
  · split
    · exact h.setDone
    · exact h
  · split
    · exact h.setDone
    · exact h

theorem State.Wf.laneDrop {s : State} (h : s.Wf) {l} : (s.laneDrop l).Wf := h.updLane.updChn.setF

theorem State.Wf.laneFinish {s : State} (h : s.Wf) {l} {code} {detail} {units} : (s.laneFinish l code detail units).Wf := by
  unfold State.laneFinish
  split
  · exact h
  · extract_lets h1 s1 s2 bad fails s3
    have hs1 : s1.Wf := h.laneDrop.disarmLane
    have hs2 : s2.Wf := hs1.event.ite hs1
    have hs3 : s3.Wf := by
      unfold s3
      split
      · exact hs2
      · split
        · exact hs2.verifyFailed.ite (hs2.ite hs2.trackVerified)
        · exact hs2
    clear_value h1
    split
    · exact hs2.post
    · exact hs2
    · exact hs3.setDone.setDone

theorem State.Wf.writeFault {s : State} (h : s.Wf) {l} {detail} : (s.writeFault l detail).Wf := by
  unfold State.writeFault
  split
  · exact h.inc.event.laneFinish.ite h
  · exact h

theorem State.Wf.actFlags {s : State} (h : s.Wf) {a} : (s.actFlags a).Wf := h.pairFlags.writeFault.ite h.pairFlags

theorem State.Wf.showTaps {s : State} (h : s.Wf) {l} {z} : (s.showTaps l z).Wf := h.foldl (fun _ h _ => h.setF)

theorem State.Wf.zoneTake {s : State} (h : s.Wf) {l} {idx} {z} : (s.zoneTake l idx z).Wf := h.updLane.setFs.showTaps

theorem State.Wf.zoneRefuse {s : State} (h : s.Wf) {l} : (s.zoneRefuse l).Wf := h.updLane.setB.event

theorem State.Wf.laneHeader {s : State} (h : s.Wf) {opc} {pma} : (s.laneHeader opc pma).2.Wf := by
  unfold State.laneHeader
  split
  · split
    next x d t e =>
      have ht := h.bandHeader.of_pair e
      exact ht.pair
  · exact h.pair

theorem State.Wf.laneBegin {s : State} (h : s.Wf) {l : Nat} {owner : LaneOwner} {w : List Nat} : (s.laneBegin l owner w).Wf := by
  unfold State.laneBegin
  extract_lets hd fail
  have hfail : ∀ {t : State} {c d : Nat}, t.Wf → (fail t c d).Wf := by
    intro t c d ht
    unfold fail
    split
    · exact ht.post
    · exact ht
    · exact ht.setDone.setDone
  split
  · exact hfail (h.zoneRefuse.ite h)
  · split
    · exact hfail h
    · exact h.armLane.zoneTake.laneHeader.updLane

theorem State.Wf.laneItem {s : State} (h : s.Wf) {l} {opc} :
    (s.laneItem l opc).Wf := h.ite (h.onItem (fun _ h _ _ => h.elim (fun _ => h.post.ite h.laneBegin)))

theorem execFormatterRead_wf {s : State} {l} (h : s.Wf) : Outcome.Wf (execFormatterRead l s) := State.Wf.next (h.inBlk (fun _ h => h.laneItem))

theorem execFormatterWrite_wf {s : State} {l} (h : s.Wf) : Outcome.Wf (execFormatterWrite l s) := State.Wf.next (h.inBlk (fun _ h => h.laneItem))

theorem execReadCheck_wf {s : State} {l} (h : s.Wf) : Outcome.Wf (execReadCheck l s) := State.Wf.next (h.inBlk (fun _ h => h.laneItem))

theorem State.Wf.laneStall {s : State} (h : s.Wf) {l} : (s.laneStall l).Wf := h.setB.inc.event

theorem execReadRaw_wf {s : State} {l} {samples} (h : s.Wf) : Outcome.Wf (execReadRaw l samples s) := by
  unfold execReadRaw
  refine State.Wf.next ?_
  refine State.Wf.inBlk h (fun t ht => ?_)
  extract_lets s1
  have hs1 : s1.Wf := ht.laneItem
  split
  · exact hs1.ite (hs1.laneFinish.ite (hs1.ite (hs1.laneStall.ite hs1.wr.laneFinish)))
  · exact hs1

theorem State.Wf.laneGap {s : State} (h : s.Wf) {l} : (s.laneGap l).Wf := by
  unfold State.laneGap
  extract_lets s1 s2
  have hs1 : s1.Wf := h.syncApply.ite h
  have hs2 : s2.Wf := hs1.updLane
  split
  · refine State.Wf.foldl hs2 (fun t ht a => ?_)
    split
    next x m t1 e =>
      have ht1 := ht.free.of_pair e
      exact ht1.setF
  · exact hs1

theorem State.Wf.updOp {s : State} (h : s.Wf) {l} {g} : (s.updOp l g).Wf := h.updLane

theorem State.Wf.updSector {s : State} (h : s.Wf) {l} {p} {g} : (s.updSector l p g).Wf := h.updOp

theorem State.Wf.startDecodes {s : State} (h : s.Wf) {l} : (s.startDecodes l).Wf := by
  unfold State.startDecodes
  refine State.Wf.foldl h (fun t ht a => ?_)
  split
  · exact ht.updLane.updSector.ite ht
  · exact ht

theorem State.Wf.toReplay {s : State} (h : s.Wf) {l} {p} : (s.toReplay l p).Wf := h.updSector

theorem State.Wf.storeSector {s : State} (h : s.Wf) {o} {p} {d} : (s.storeSector o p d).Wf := h.wr.ite h

theorem State.Wf.accept {s : State} (h : s.Wf) {l} {p} {f} {replayed} {shifted} : (s.accept l p f replayed shifted).Wf := by
  unfold State.accept
  split
  · exact h
  · extract_lets named s1 s2 s3 s4
    have hs1 : s1.Wf := h.updSector.setF
    have hs2 : s2.Wf := hs1.updLane.laneDone
    have hs3 : s3.Wf := hs2.storeSector.updOp
    have hs4 : s4.Wf := hs3.inc.ite hs3
    exact hs2.ite (hs4.inc.event.ite hs4)

theorem State.Wf.unrecovered {s : State} (h : s.Wf) {l} {p} : (s.unrecovered l p).Wf := by
  unfold State.unrecovered
  split
  · exact h
  · split
    · exact h
    · extract_lets i
      split
      next x m t e =>
        have ht := h.free.of_pair e
        exact (((ht.wrPoison.ite ht).inc).event).updOp

theorem State.Wf.sectorRebuilt {s : State} (h : s.Wf) {l} {p} {f} : (s.sectorRebuilt l p f).Wf := by
  unfold State.sectorRebuilt
  split
  · exact h
  · exact h.ite h.storeSector.inc.event.updOp

theorem State.Wf.resolveGroup {s : State} (h : s.Wf) {l} {g} : (s.resolveGroup l g).Wf := by
  unfold State.resolveGroup
  split
  · exact h
  · extract_lets spt xs whole bad s1
    have hs1 : s1.Wf := by
      unfold s1
      clear_value bad
      split
      · exact h.sectorRebuilt.ite h.unrecovered
      · exact h.foldl (fun _ h _ => h.unrecovered)
    exact h.ite hs1.updOp.setF

theorem State.Wf.readResult {s : State} (h : s.Wf) {l} : (s.readResult l).Wf := by
  unfold State.readResult
  split
  · exact h
  · split
    · exact h
    · split
      · exact h
      · split
        · exact h.laneFinish
        · exact h.ite (h.laneFinish.ite (h.laneFinish.ite h.laneFinish))

theorem State.Wf.settle {s : State} (h : s.Wf) {l} {g} : (s.settle l g).Wf := h.resolveGroup.startDecodes.readResult

theorem State.Wf.settleAll {s : State} (h : s.Wf) {l} : (s.settleAll l).Wf := by
  unfold State.settleAll
  split
  · exact h
  · exact (h.foldl (fun _ h _ => h.resolveGroup)).readResult

theorem execSectorStart_wf {s : State} {l} {primary} {recovery} (h : s.Wf) : Outcome.Wf (execSectorStart l primary recovery s) := by
  unfold execSectorStart
  refine State.Wf.next ?_
  refine State.Wf.inBlk h (fun t ht => ?_)
  split
  · exact ht
  · exact ht.ite (ht.settleAll.ite (ht.ite (ht.laneGap.laneStall.ite ht.laneGap.updOp.tableUse.setF.laneDone.laneDone.laneDone)))

theorem execSectorEnd_wf {s : State} {l} (h : s.Wf) : Outcome.Wf (execSectorEnd l s) := by
  unfold execSectorEnd
  refine State.Wf.next ?_
  refine State.Wf.inBlk h (fun t ht => ?_)
  split
  · exact ht
  · exact (((ht.updSector.ite ht.toReplay).laneDone).startDecodes).settle

theorem State.Wf.decoderIdle {s : State} (h : s.Wf) {l} {dec} : (s.decoderIdle l dec).Wf := h.updLane.ite h.updChn

theorem execDecodeEnd_wf {s : State} {l} {dec} {field} (h : s.Wf) : Outcome.Wf (execDecodeEnd l dec field s) := by
  unfold execDecodeEnd
  refine State.Wf.next ?_
  refine State.Wf.inBlk h (fun t ht => ?_)
  split
  · extract_lets s1 f data good
    have hs1 : s1.Wf := ht.decoderIdle
    split
    · exact hs1
    · exact (State.Wf.ite ((hs1.updLane.ite hs1).accept) hs1.toReplay.laneDone).settle
  · exact ht

theorem State.Wf.replay {s : State} (h : s.Wf) {l} {p} {off} {set} : (s.replay l p off set).Wf := by
  unfold State.replay
  split
  · exact h
  · split
    · exact h
    · split
      · exact h
      · split
        · exact h
        · split
          · exact h.updSector.toReplay.settle
          · split
            · exact h
            · extract_lets go
              split
              · exact h.updSector.updChn
              · split
                · exact h.updSector.updLane
                · exact h

theorem execReplayAttempt_wf {s : State} {l} {sector} {off} {set} (h : s.Wf) : Outcome.Wf (execReplayAttempt l sector off set s) := State.Wf.next (h.inBlk (fun _ h => h.replay))

theorem execDecoderFault_wf {s : State} {l} {dec} (h : s.Wf) : Outcome.Wf (execDecoderFault l dec s) := by
  unfold execDecoderFault
  refine State.Wf.next ?_
  refine State.Wf.inBlk h (fun t ht => ?_)
  extract_lets w s1 spare s2 s3
  have hs1 : s1.Wf := ht.decoderIdle
  have hs2 : s2.Wf := by
    unfold s2
    clear_value spare
    split
    · exact hs1.setB
    · exact hs1.setB
    · exact hs1.setB.ite hs1.setB
  have hs3 : s3.Wf := hs2.setB.event
  clear_value w
  split
  · exact hs3.updSector.startDecodes
  · exact hs3

theorem execSpareDecoderBind_wf {s : State} {k} {l} {dec} {bind} (h : s.Wf) :
    Outcome.Wf (execSpareDecoderBind k l dec bind s) := State.Wf.next (h.onBlk (fun _ h => (h.ite h.cfgErrAt).ite ((h.cfgErrAt.ite h.setFs.setB.event).ite (h.setFs.ite (h.cfgErrAt.ite h.setFs.setB.event)))))

theorem State.Wf.putSector {s : State} (h : s.Wf) {l} {o} {f} :
    (s.putSector l o f).Wf := ((((State.Wf.ite ((h.send.bandParity.ite h.send.bandParity.markSector).trackWritten) (h.send.bandParity.ite h.send.bandParity.markSector)).setB).pairFlags).laneDone).updOp

theorem State.Wf.writeEnd {s : State} (h : s.Wf) {l} : (s.writeEnd l).Wf := by
  unfold State.writeEnd
  split
  · exact h.laneFinish.ite h
  · exact h

theorem State.Wf.onWrite {s : State} (h : s.Wf) {l} {g} (hg : ∀ t : State, State.Wf t → ∀ a1, State.Wf (g t a1)) : (s.onWrite l g).Wf := by
  unfold State.onWrite
  split
  · exact h
  · split
    · exact h
    · split
      · exact h.laneFinish
      · exact h.writeFault.ite (h.ite (hg _ h.laneGap _))

theorem State.Wf.fetchSector {s : State} (h : s.Wf) {l} {o} : (s.fetchSector l o).Wf := by
  unfold State.fetchSector
  extract_lets a
  split
  next x d t e =>
    have ht := h.fetch.of_pair e
    exact ht.laneFinish.ite (ht.event.laneFinish.ite ht.putSector.writeEnd)

theorem execWriteSector_wf {s : State} {l} (h : s.Wf) : Outcome.Wf (execWriteSector l s) := by
  unfold execWriteSector
  refine State.Wf.next ?_
  refine State.Wf.inBlk h (fun t ht => ?_)
  refine State.Wf.onWrite ht (fun t1 ht1 a => ?_)
  split
  · exact ht1.putSector.writeEnd
  · split
    · exact ht1.putSector.writeEnd
    · exact ht1.fetchSector

theorem State.Wf.onFmt {s : State} (h : s.Wf) {n} {e} {v} {ok} {g} (hg : ∀ t : State, State.Wf t → ∀ a1, State.Wf (g t a1)) : (s.onFmt n e v ok g).Wf := by
  unfold State.onFmt
  refine State.Wf.onSeq h (fun t ht => ?_)
  split
  · exact ht.inBlk (fun _ h => hg _ h _)
  · exact ht

theorem State.Wf.armItem {s : State} (h : s.Wf) {n} {l} {wr} :
    (s.armItem n l wr).Wf := h.post.ite (h.post.ite (h.post.ite (h.armLane.ite (h.armLane.elim (fun _ => h.armLane.laneHeader.updLane)))))

theorem State.Wf.armCmd {s : State} (h : s.Wf) {n} {wr} : (s.armCmd n wr).Wf := h.onFmt (fun _ h _ => h.armItem)

theorem execArmRead_wf {s : State} {n} (h : s.Wf) : Outcome.Wf (execArmRead n s) := State.Wf.next (h.armCmd)

theorem execArmWrite_wf {s : State} {n} (h : s.Wf) : Outcome.Wf (execArmWrite n s) := State.Wf.next (h.armCmd)

theorem execSector_wf {s : State} {n} (h : s.Wf) :
    Outcome.Wf (execSector n s) := State.Wf.next (h.onFmt (fun _ h _ => h.setDone.setDone.onWrite (fun _ h _ => h.putSector.writeEnd.ite (h.putSector.writeEnd.ite (h.laneFinish.ite h.putSector.writeEnd)))))

theorem execReplay_wf {s : State} {n} {off} {set} (h : s.Wf) : Outcome.Wf (execReplay n off set s) := by
  unfold execReplay
  refine State.Wf.next ?_
  refine State.Wf.onFmt h (fun t ht a => ?_)
  split
  · exact ht.replay
  · exact ht

theorem execZone_wf {s : State} {n} {idx} (h : s.Wf) : Outcome.Wf (execZone n idx s) := by
  unfold execZone
  refine State.Wf.next ?_
  refine State.Wf.onFmt h (fun t ht a => ?_)
  extract_lets z s1
  have hs1 : s1.Wf := ht.zoneRefuse
  split
  · exact ht.zoneTake
  · split
    · exact hs1.laneFinish
    · exact hs1.post

theorem execAssist_wf {s : State} {n} {code} (h : s.Wf) : Outcome.Wf (execAssist n code s) := State.Wf.next (h.onFmt (fun _ h _ => h.updOp))

theorem execDisarm_wf {s : State} {n} (h : s.Wf) : Outcome.Wf (execDisarm n s) := State.Wf.next (h.onFmt (fun _ h _ => h.laneDrop.disarmLane))

theorem State.Wf.laneDma {s : State} (h : s.Wf) {n} {v} {g} (hg : ∀ t : State, State.Wf t → ∀ a1, ∀ a2, State.Wf (g t a1 a2)) : (s.laneDma n v g).Wf := h.onFmt (fun _ h _ => h.csFault.ite ((hg _ h _ _).setDone))

theorem execDmaFetch_wf {s : State} {n} (h : s.Wf) :
    Outcome.Wf (execDmaFetch n s) := State.Wf.next (h.laneDma (fun _ h _ _ => ((h.fetch.event.ite h.fetch).updLane).setDone))

theorem execFetchRaw_wf {s : State} {n} (h : s.Wf) :
    Outcome.Wf (execFetchRaw n s) := State.Wf.next (h.laneDma (fun _ h _ _ => h.fetch.updLane.setDone))

theorem execStore_wf {s : State} {n} (h : s.Wf) : Outcome.Wf (execStore n s) := State.Wf.next (h.laneDma (fun _ h _ _ => h.wr))

theorem State.Wf.onPost {s : State} (h : s.Wf) {n} {code} {g} (hg : ∀ t : State, State.Wf t → State.Wf (g t)) : (s.onPost n code g).Wf := h.ite (h.onSeq hg)

theorem State.Wf.onTake {s : State} (h : s.Wf) {n} {g} (hg : ∀ t : State, State.Wf t → State.Wf (g t)) : (s.onTake n g).Wf := h.ite (h.ite (h.onSeq hg))

theorem execPost_wf {s : State} {n} {code} (h : s.Wf) : Outcome.Wf (execPost n code s) := by
  unfold execPost
  refine State.Wf.next ?_
  refine State.Wf.onPost h (fun t ht => ?_)
  refine State.Wf.elim ht (fun a => ?_)
  split
  · split
    · exact ht.laneFinish
    · exact ht.post
  · exact ht.post

theorem State.Wf.takeNext {s : State} (h : s.Wf) {n} : (s.takeNext n).Wf := by
  unfold State.takeNext
  split
  · split
    · split
      · exact h.ite (h.stale.descDone.ite h.takeDesc)
      · exact h
    · exact h
  · exact h

theorem execTake_wf {s : State} {n} (h : s.Wf) : Outcome.Wf (execTake n s) := State.Wf.next (h.onTake (fun _ h => h.takeNext))

theorem State.Wf.laneEn {s : State} (h : s.Wf) {l} {v} :
    (s.laneEn l v).Wf := h.ite (h.setB.event.ite (((h.setB.event.foldl (fun _ h _ => h.updCs.ite h)).updOp).laneStop0))

theorem execLaneEn_wf {s : State} {l} {v} (h : s.Wf) : Outcome.Wf (execLaneEn l v s) := State.Wf.next (h.onBlk (fun _ h => h.laneEn))

theorem State.Wf.preampFault {s : State} (h : s.Wf) {a} : (s.preampFault a).Wf := h.setB.setB.writeFault

theorem execPreampFault_wf {s : State} {a} (h : s.Wf) : Outcome.Wf (execPreampFault a s) := State.Wf.next (h.inBlk (fun _ h => h.preampFault))

theorem execPreampControlFrame_wf {s : State} {a} {frame} {ack} (h : s.Wf) :
    Outcome.Wf (execPreampControlFrame a frame ack s) := State.Wf.next (h.inBlk (fun _ h => h.send.updLane.setB.setB.ite (h.send.inc.event.ite (h.send.inc.event.updLane.preampFault.ite h.send.inc.event.updLane))))

theorem execZoneTableCommit_wf {s : State} (h : s.Wf) : Outcome.Wf (execZoneTableCommit s) := State.Wf.next (h.inBlk (fun _ h => h.ztBoundary))

theorem execWclk_wf {s : State} {n} {err} (h : s.Wf) : Outcome.Wf (execWclk n err s) := by
  unfold execWclk
  refine State.Wf.next ?_
  refine State.Wf.onSeq h (fun t ht => ?_)
  split
  · exact ht.csFault.ite ((ht.foldl (fun _ h _ => h.updLane.setB)).pairFlags)
  · exact ht

theorem State.Wf.holdLane {s : State} (h : s.Wf) {h0} : (s.holdLane h0).Wf := by
  unfold State.holdLane
  extract_lets l s1 s2
  have hs1 : s1.Wf := by
    unfold s1
    refine State.Wf.foldl h (fun t ht a => ?_)
    split
    · exact ht.setTq.descDone.ite ht
    · exact ht
  have hs2 : s2.Wf := by
    unfold s2
    refine State.Wf.foldl hs1 (fun t ht a => ?_)
    split
    · exact ht.post.ite ht
    · exact ht
  split
  · exact hs2.ite (hs2.updOp.ite hs2.laneFinish)
  · exact hs2

/-! ### The operations of Sys2Proof/Machine/Copy.lean -/

theorem State.Wf.putTrack {s : State} (h : s.Wf) {l : Nat} {field : Nat → List Byte} {fuel : Nat} : (s.putTrack l field fuel).Wf := by
  induction fuel with
  | zero => exact h
  | succ k ih =>
    rw [State.putTrack]
    split
    · exact ih
    · exact ih.ite (ih.putSector.ite ih.putSector)

theorem State.Wf.copyTrack {s : State} (h : s.Wf) {n} {head} {c} {field} : (s.copyTrack n head c field).Wf := by
  unfold State.copyTrack
  split
  · extract_lets l
    split
    · exact h
    · exact h.armLane.zoneTake.updLane.putTrack.laneDrop.foldl (fun _ h _ => h.markSector.ite h)

theorem State.Wf.copyBlock {s : State} (h : s.Wf) {n} {addr} {src} {k} : State.Wf (State.copyBlock s n addr src k).2.2 := by
  unfold State.copyBlock
  split
  · extract_lets a
    split
    next x d t e =>
      have ht := h.fetch.of_pair e
      exact ht.pair2
  · split
    next x m t e =>
      have ht := h.free.of_pair e
      split
      next x1 m1 t1 e1 =>
        have ht1 := ht.free.of_pair e1
        exact ht1.pair2

theorem State.Wf.copyBlocks {s : State} (h : s.Wf) {n : Cs} {addr src : Nat} {lba : Option Nat} {k c : Nat} : (s.copyBlocks n addr src lba k c).2.Wf := by
  induction c generalizing s k with
  | zero => exact h
  | succ c ih =>
    rw [State.copyBlocks]
    split
    next f bad t e =>
      have ht := h.copyBlock.of_pair2 e
      exact (ih (ht.event.ite ht)).pair

theorem State.Wf.copyHeader {s : State} (h : s.Wf) {w} : (s.copyHeader w).2.Wf := by
  unfold State.copyHeader
  split
  · split
    next x d t e =>
      have ht := h.bandHeader.of_pair e
      exact ht.pair
  · exact h.pair

theorem State.Wf.copyWrite {s : State} (h : s.Wf) {n} {w} : (s.copyWrite n w).Wf := by
  unfold State.copyWrite
  extract_lets h1 t d l dspt p chunks k0
  split
  · exact h.inc.event.disarmLane.post
  · split
    · exact h
    · split
      next x l1 t1 e =>
        have ht1 := h.copyHeader.of_pair e
        split
        next x1 l2 t2 e1 =>
          have ht2 := ht1.copyBlocks.of_pair e1
          exact ((ht2.foldl (fun _ h _ => h.copyTrack)).disarmLane).post

theorem State.Wf.copyItem {s : State} (h : s.Wf) {n} {w} : (s.copyItem n w).Wf := by
  unfold State.copyItem
  extract_lets h1 l
  split
  · exact h.post
  · split
    · exact h.post
    · split
      · exact h.post
      · split
        · exact h.post
        · exact h.ite ((h.ite h.armLane).copyWrite)

theorem State.Wf.onCopy {s : State} (h : s.Wf) {n} {opc} {g} (hg : ∀ t : State, State.Wf t → ∀ a1, State.Wf (g t a1)) :
    (s.onCopy n opc g).Wf := h.ite (h.handOver.elim (fun _ => (hg _ h.handOver _).ite h.handOver))

theorem execCopy_wf {s : State} {n} (h : s.Wf) : Outcome.Wf (execCopy n s) := State.Wf.next (h.onCopy (fun _ h _ => h.copyItem))

theorem State.Wf.verifyTracks {s : State} (h : s.Wf) {p : Nat} {replayed : Bool} {k fuel : Nat} {bad : List (Nat × Nat)} : (s.verifyTracks p replayed k fuel bad).2.2.2.Wf := by
  induction fuel generalizing s replayed k bad with
  | zero => exact h
  | succ f ih =>
    exact h.verifyFailed.pair3.ite_snd3 (ih h.trackVerified)

theorem State.Wf.verifyItem {s : State} (h : s.Wf) {n} {w} {bad} : (s.verifyItem n w bad).Wf := by
  unfold State.verifyItem
  extract_lets p left
  split
  next x k rep failed t e =>
    have ht := h.verifyTracks.of_pair3 e
    exact ht.post

theorem execBandVerify_wf {s : State} {n} {bad} (h : s.Wf) :
    Outcome.Wf (execBandVerify n bad s) := State.Wf.next (h.onCopy (fun _ h _ => h.post.ite (h.post.ite (h.post.ite h.verifyItem))))

theorem State.Wf.xorInto {s : State} (h : s.Wf) {n} {src} {dst} {count} : (s.xorInto n src dst count).2.Wf := by
  unfold State.xorInto
  split
  next x d t e =>
    have ht := h.fetch.of_pair e
    split
    next x1 d1 t1 e1 =>
      have ht1 := ht.fetch.of_pair e1
      exact (ht1.wrPoison.ite ht1.wr).pair

theorem execXor_wf {s : State} {n} (h : s.Wf) :
    Outcome.Wf (execXor n s) := State.Wf.next (h.onCopy (fun _ h _ => h.post.ite (h.csFault.ite h.xorInto.post)))

theorem State.Wf.logDesc {s : State} (h : s.Wf) {r} {i} {w} : State.Wf (State.logDesc s r i w).2.2 := by
  unfold State.logDesc
  extract_lets args key
  split
  next x r1 b t e =>
    have ht := h.logAppend.of_pair2 e
    exact ht.wr.pair2

theorem State.Wf.logItem {s : State} (h : s.Wf) {n} {r} {i} {w} : (s.logItem n r i w).Wf := h.logDesc.post

theorem execLog_wf {s : State} {n} (h : s.Wf) :
    Outcome.Wf (execLog n s) := State.Wf.next (h.onCopy (fun _ h _ => h.elim (fun _ => h.logItem)))

theorem State.Wf.portLogItem {s : State} (h : s.Wf) {r} {i} {w} : (s.portLogItem r i w).Wf := by
  unfold State.portLogItem
  exact h.logDesc.descDone.resultBack

theorem execPortLog_wf {s : State} (h : s.Wf) : Outcome.Wf (execPortLog s) := by
  unfold execPortLog
  refine State.Wf.next ?_
  split
  · exact h
  · exact h.setTq.elim (fun _ => h.setTq.setDesc.portLogItem)

theorem State.Wf.subCmd {s : State} (h : s.Wf) {n} {v} {opc} :
    (s.subCmd n v opc).Wf := h.onSeq (fun _ h => h.inBlk (fun _ h => h.csFault.ite (h.ite h.setDone.setDone.laneBegin)))

theorem execSubRead_wf {s : State} {n} (h : s.Wf) : Outcome.Wf (execSubRead n s) := State.Wf.next (h.subCmd)

theorem execSubWrite_wf {s : State} {n} (h : s.Wf) : Outcome.Wf (execSubWrite n s) := State.Wf.next (h.subCmd)

theorem execSubVerify_wf {s : State} {n} (h : s.Wf) : Outcome.Wf (execSubVerify n s) := State.Wf.next (h.subCmd)

theorem execCopyXor_wf {s : State} {n} (h : s.Wf) :
    Outcome.Wf (execCopyXor n s) := State.Wf.next (h.onSeq (fun _ h => h.csFault.ite h.xorInto.setDone))

theorem State.Wf.copyLogItem {s : State} (h : s.Wf) {n} {r} {i} {w} : (s.copyLogItem n r i w).Wf := h.logDesc.updCs.setDone.setDone

theorem execCopyLog_wf {s : State} {n} (h : s.Wf) :
    Outcome.Wf (execCopyLog n s) := State.Wf.next (h.onSeq (fun _ h => h.elim (fun _ => h.copyLogItem)))

/-! ### The operations of Sys2Proof/Machine/Efl.lean -/

theorem State.Wf.updEfl {s : State} (h : s.Wf) {g : Efl → Efl} (hg : (g s.efl).mem = s.efl.mem := by rfl) : (s.updEfl g).Wf :=
  h.same rfl rfl rfl hg

theorem State.Wf.eflUnit {s : State} (h : s.Wf) {u : Nat} {d : List Byte} : (s.eflUnit u d).Wf :=
  ⟨h.regs, h.force, h.mem, Flash.wf_eflSetBytes _ _ _ h.flash⟩

theorem State.Wf.eflUnits {s : State} (h : s.Wf) {u fuel : Nat} {d : List Byte} : (s.eflUnits u fuel d).Wf := by
  induction fuel generalizing s u d with
  | zero => exact h
  | succ k ih => exact h.ite (ih h.eflUnit)

theorem State.Wf.eflWipe {s : State} (h : s.Wf) {o n : Nat} : (s.eflWipe o n).Wf :=
  ⟨h.regs, h.force, h.mem, Tbl.wf_filter _ _ _ h.flash⟩

theorem State.Wf.eflOpen {s : State} (h : s.Wf) {u fuel v : Nat} : (s.eflOpen u fuel v).Wf := by
  induction fuel generalizing s u v with
  | zero => exact h
  | succ k ih => exact ih (h.eflUnit.updEfl.ite h.eflWipe)

theorem State.Wf.journalShow {s : State} (h : s.Wf) : (s.journalShow).Wf := h.setFs

theorem State.Wf.journalSwitch {s : State} (h : s.Wf) : (s.journalSwitch).Wf := h.ite h.eflWipe.eflUnit.journalShow

theorem State.Wf.journalPut {s : State} (h : s.Wf) {mark} {kind} {result} {addr} : (s.journalPut mark kind result addr).Wf := h.ite h.eflUnit.journalShow

theorem State.Wf.eraseStart {s : State} (h : s.Wf) {code} {addr} : (s.eraseStart code addr).Wf := h.journalSwitch.journalPut

theorem State.Wf.eraseGood {s : State} (h : s.Wf) {code} {addr} : (s.eraseGood code addr).Wf := h.eflWipe.journalPut

theorem State.Wf.eraseFailed {s : State} (h : s.Wf) {code} {addr} : (s.eraseFailed code addr).Wf := by
  unfold State.eraseFailed
  split
  next x m t e =>
    have ht := h.free.of_pair e
    exact ht.eflOpen.journalPut

theorem State.Wf.eraseTry {s : State} (h : s.Wf) {code} {addr} : (s.eraseTry code addr).2.Wf := by
  unfold State.eraseTry
  split
  next x m t e =>
    have ht := h.free.of_pair e
    exact ht.eraseStart.eraseGood.pair.ite_snd ht.eraseStart.eraseFailed.pair

theorem State.Wf.eraseWhole {s : State} (h : s.Wf) {code} {addr} : (s.eraseWhole code addr).Wf := h.eraseStart.eraseGood

theorem State.Wf.levelShow {s : State} (h : s.Wf) : (s.levelShow).Wf := h.setF

theorem State.Wf.putOption {s : State} (h : s.Wf) {k} {seq} {level} : (s.putOption k seq level).Wf := (h.ite h.eraseWhole).eflUnit

theorem State.Wf.eflCheck {s : State} (h : s.Wf) {u} : (s.eflCheck u).Wf := by
  unfold State.eflCheck
  split
  · exact h
  · exact h.inc.event
  · exact h.inc.setF.event

theorem State.Wf.eflChecks {s : State} (h : s.Wf) {o} {n} : (s.eflChecks o n).Wf := h.foldl (fun _ h _ => h.eflCheck)

theorem State.Wf.windowRead {s : State} (h : s.Wf) {g} {o} :
    (s.windowRead g o).Wf := (h.send.ite h.send.updEfl.event).ite (h.loadFault.send.ite (h.eflCheck.loadFault.send.ite h.eflCheck.send))

theorem State.Wf.windowServe {s : State} (h : s.Wf) : (s.windowServe).Wf := h.updEfl.foldl (fun _ h _ => h.windowRead)

theorem execEflashWindowRead_wf {s : State} {g} {off} (h : s.Wf) : Outcome.Wf (execEflashWindowRead g off s) := State.Wf.next (h.updEfl.ite h.windowRead)

theorem State.Wf.eflEnd {s : State} (h : s.Wf) {r} {addr} : (s.eflEnd r addr).Wf := h.setFs.ite h.setFs.event

theorem State.Wf.eflGo {s : State} (h : s.Wf) {g} {code} {units} : (s.eflGo g code units).Wf := by
  unfold State.eflGo
  refine State.Wf.onBlk h (fun t ht => ?_)
  split
  · exact ht.cfgErrAt
  · extract_lets s1 locked s2 addr e s3
    have hs1 : s1.Wf := ht.setFs
    have hs2 : s2.Wf := hs1.updEfl
    have hs3 : s3.Wf := hs2.ite hs2.eraseStart
    split
    · exact hs2.eflEnd
    · split
      · exact hs2.eflEnd
      · exact hs3.updEfl.setB

theorem execProgram_wf {s : State} {g} {count} (h : s.Wf) : Outcome.Wf (execProgram g count s) := State.Wf.next (h.eflGo)

theorem execEraseRow_wf {s : State} {g} (h : s.Wf) : Outcome.Wf (execEraseRow g s) := State.Wf.next (h.eflGo)

theorem execEraseBlock_wf {s : State} {g} (h : s.Wf) : Outcome.Wf (execEraseBlock g s) := State.Wf.next (h.eflGo)

theorem execBlankCheck_wf {s : State} {g} {count} (h : s.Wf) : Outcome.Wf (execBlankCheck g count s) := State.Wf.next (h.eflGo)

theorem execMassErase_wf {s : State} {g} (h : s.Wf) : Outcome.Wf (execMassErase g s) := State.Wf.next (h.eflGo)

theorem State.Wf.programUnits {s : State} (h : s.Wf) {u i fuel : Nat} : (s.programUnits u i fuel).2.Wf := by
  induction fuel generalizing s u i with
  | zero => exact h
  | succ k ih => exact (ih h.eflUnit).ite_snd h.pair

theorem State.Wf.eflAbort {s : State} (h : s.Wf) {e} : (s.eflAbort e).Wf := by
  unfold State.eflAbort
  split
  · exact h
  · split
    next x m t e1 =>
      have ht := h.free.of_pair e1
      exact ht.eflOpen.ite ht.eflOpen

theorem State.Wf.eflCommandEnd {s : State} (h : s.Wf) {e} {good} : (s.eflCommandEnd e good).Wf := by
  unfold State.eflCommandEnd
  extract_lets s1 s2
  have hs1 : s1.Wf := h.updEfl
  have hs2 : s2.Wf := hs1.setB
  split
  · split
    next x m t e1 =>
      have ht := hs2.programUnits.of_pair e1
      split
      · split
        next x1 m1 t1 e2 =>
          have ht1 := ht.free.of_pair e2
          exact ht1.eflOpen.eflEnd
      · exact ht.eflEnd
  · exact hs2.eflEnd.ite (hs2.eraseGood.levelShow.eflEnd.ite hs2.eraseFailed.levelShow.eflEnd)

theorem execEflCommandEnd_wf {s : State} {good} (h : s.Wf) : Outcome.Wf (execEflCommandEnd good s) := by
  unfold execEflCommandEnd
  refine State.Wf.next ?_
  split
  · exact h.eflCommandEnd.windowServe
  · exact h

theorem execEflUnlock_wf {s : State} {key} (h : s.Wf) :
    Outcome.Wf (execEflUnlock key s) := State.Wf.next (h.onBlk (fun _ h => h.updEfl.ite (h.updEfl.ite h.updEfl.cfgErrAt)))

theorem execSuspend_wf {s : State} (h : s.Wf) : Outcome.Wf (execSuspend s) := State.Wf.next (h.onBlk (fun _ h => h.updEfl.ite h))

theorem execSuspendTakeEffect_wf {s : State} (h : s.Wf) : Outcome.Wf (execSuspendTakeEffect s) := State.Wf.next (h.updEfl.setB.windowServe.ite h)

theorem execEraseResume_wf {s : State} (h : s.Wf) : Outcome.Wf (execEraseResume s) := State.Wf.next (h.onBlk (fun _ h => h.updEfl.setB.ite h))

theorem State.Wf.rdpGo {s : State} (h : s.Wf) {target} {g} (hg : ∀ t : State, State.Wf t → State.Wf (g t)) :
    (s.rdpGo target g).Wf := h.onBlk (fun _ h => h.setF.cfgErrAt.ite (h.setF.cfgErrAt.ite (h.setF.updEfl.setB.eflEnd.ite (hg _ h.setF.updEfl.setB))))

theorem execRdpRaise_wf {s : State} {g} {target} (h : s.Wf) :
    Outcome.Wf (execRdpRaise g target s) := State.Wf.next (h.rdpGo (fun _ h => h.eflEnd.ite (h.eflEnd.ite ((((h.putOption.ite h.sec).levelShow).event).eflEnd))))

theorem execRdpLower_wf {s : State} {g} (h : s.Wf) :
    Outcome.Wf (execRdpLower g s) := State.Wf.next (h.rdpGo (fun _ h => h.eflEnd.ite (h.eflEnd.ite h.eraseStart.eflWipe.putOption.putOption.journalPut.levelShow.evr.setFs.event.eflEnd)))

/-! ### The operations of Sys2Proof/Machine/Evr.lean -/

theorem State.Wf.updEvr {s : State} (h : s.Wf) {g} : (s.updEvr g).Wf := h.evr

theorem execEventEntry_wf {s : State} {code} {a0} {a1} {a2} (h : s.Wf) : Outcome.Wf (execEventEntry code a0 a1 a2 s) := State.Wf.next (h.event.ite h)

theorem execEventSubmit_wf {s : State} {code} {keep} (h : s.Wf) :
    Outcome.Wf (execEventSubmit code keep s) := State.Wf.next (h.onBlk (fun _ h => h.setFs.cfgErrAt.ite (h.setFs.eventOnce.ite h.setFs.evrEnter)))

theorem execEvrEn_wf {s : State} (h : s.Wf) : Outcome.Wf (execEvrEn s) := State.Wf.next (h.onBlk (fun _ h => h.ite h.updEvr.setFs))

theorem execEvrScanEnd_wf {s : State} (h : s.Wf) :
    Outcome.Wf (execEvrScanEnd s) := State.Wf.next (h.ite ((h.updEvr.setFs.foldl (fun _ h _ => h.evrEnter)).ite ((h.updEvr.setFs.foldl (fun _ h _ => h.evrEnter)).event)))

theorem State.Wf.circFind {s : State} (h : s.Wf) {pos fuel : Nat} : (s.circFind pos fuel).2.Wf := by
  induction fuel generalizing s pos with
  | zero => exact h
  | succ k ih =>
    have hs : ∀ {c : Prop} [Decidable c] {o : Nat}, (if c then (s.eraseTry 3 o).2 else s).Wf := h.eraseTry.ite h
    exact hs.pair.ite_snd (ih hs)

theorem State.Wf.evrDrop {s : State} (h : s.Wf) : (s.evrDrop).Wf := h.updEvr.inc.setB

theorem State.Wf.circPut {s : State} (h : s.Wf) {r} {flags} : (s.circPut r flags).Wf := by
  unfold State.circPut
  split
  next x m t e =>
    have ht := h.circFind.of_pair e
    exact ht.evrDrop.ite ht.eflUnits.updEvr

theorem State.Wf.keepPut {s : State} (h : s.Wf) {r} : (s.keepPut r).Wf := by
  unfold State.keepPut
  split
  · exact h.evrDrop.ite h.eflUnits.updEvr
  · exact h.setB.circPut.event.ite h.setB.circPut

/-- Erases tried one after another. -/
theorem State.Wf.foldl_pair {α : Type} {l : List α} {g : Bool × State → α → Bool × State} {x : Bool × State} (h : x.2.Wf)
    (hg : ∀ y : Bool × State, y.2.Wf → ∀ a, (g y a).2.Wf) : (l.foldl g x).2.Wf := by
  induction l generalizing x with
  | nil => exact h
  | cons i r ih => exact ih (hg x h i)

theorem State.Wf.clearAreas {s : State} (h : s.Wf) {areas : Nat} : (s.clearAreas areas).Wf := by
  unfold State.clearAreas
  extract_lets k c all
  split
  next good t e =>
    have ht : t.Wf := by
      refine State.Wf.of_pair (.ite_snd ?_ h.pair) e
      split
      next b u e1 => exact (h.eraseTry.of_pair e1).updEvr.setB.pair
    split
    next good2 u e2 =>
      have hu : u.Wf := by
        refine State.Wf.of_pair (.ite_snd ?_ ht.pair) e2
        split
        next b v e1 =>
          refine (State.Wf.of_pair (State.Wf.foldl_pair ht.pair fun y hy i => ?_) e1).updEvr.pair
          split
          next b w e3 => exact (hy.eraseTry.of_pair e3).pair
      exact (hu.setF.keepPut.ite hu).setFs

theorem State.Wf.clearDue {s : State} (h : s.Wf) : (s.clearDue).Wf := by
  unfold State.clearDue
  split
  · exact h
  · exact h.ite h.updEvr.clearAreas

theorem State.Wf.dropReport {s : State} (h : s.Wf) : (s.dropReport).Wf := h.ite h.updEvr.event

theorem execRecordProgram_wf {s : State} (h : s.Wf) : Outcome.Wf (execRecordProgram s) := by
  unfold execRecordProgram
  refine State.Wf.next ?_
  split
  · exact h.clearDue
  · split
    · exact h
    · exact h.ite ((h.updEvr.setF.keepPut.ite h.updEvr.setF.circPut).dropReport)

theorem execOperatingMinuteEnd_wf {s : State} (h : s.Wf) :
    Outcome.Wf (execOperatingMinuteEnd s) := State.Wf.next (h.ite ((h.updEvr.setF.event.ite h.updEvr.setF).foldl (fun _ h _ => h.event)))

theorem execFreezeTimeout_wf {s : State} (h : s.Wf) : Outcome.Wf (execFreezeTimeout s) := State.Wf.next (h.setB.event.clearDue.ite h)

theorem execEventLogPage_wf {s : State} {t} {off} {len} (h : s.Wf) :
    Outcome.Wf (execEventLogPage t off len s) := State.Wf.next (h.onCmd (fun _ => h.finish.ite (.ite ((((h.setB.ite h).answer).setB).clearDue) ((h.setB.ite h).answer))))

theorem execEventClear_wf {s : State} {key} {areas} (h : s.Wf) :
    Outcome.Wf (execEventClear key areas s) := State.Wf.next (h.onBlk (fun _ h => h.setF.cfgErrAt.ite (h.setF.setF.cfgErrAt.ite (h.setF.cfgErrAt.ite h.setF.setB.updEvr.clearDue))))

/-! ### The operations of Sys2Proof/Machine/Qe.lean -/

theorem State.Wf.setQe {s : State} (h : s.Wf) {n} {q} : (s.setQe n q).Wf := h.updEng

theorem State.Wf.updSrv {s : State} (h : s.Wf) {g} : (s.updSrv g).Wf := h.srv

theorem State.Wf.setAct {s : State} (h : s.Wf) {a} {x} : (s.setAct a x).Wf := h.updSrv

theorem State.Wf.qeFault {s : State} (h : s.Wf) {n} {code} :
    (s.qeFault n code).Wf := h.setQe.setFs.setB.event.setAct.event.ite h.setQe.setFs.setB.event

theorem State.Wf.softStart {s : State} (h : s.Wf) {m} : (s.softStart m).Wf := h.setAct.ite h

theorem execQeStart_wf {s : State} {n} (h : s.Wf) :
    Outcome.Wf (execQeStart n s) := State.Wf.next (h.onBlk (fun _ h => h.cfgErrAt.ite (h.ite (h.setFs.setQe.softStart.setAct.ite h.setFs.setQe.softStart))))

theorem execQeStop_wf {s : State} {n} (h : s.Wf) :
    Outcome.Wf (execQeStop n s) := State.Wf.next (h.onBlk (fun _ h => h.setF.ite (h.setQe.ite h)))

theorem execSpareQeBind_wf {s : State} {m} {bind} (h : s.Wf) :
    Outcome.Wf (execSpareQeBind m bind s) := State.Wf.next (h.onBlk (fun _ h => h.setF.ite (h.cfgErrAt.ite ((h.setFs.setFs.softStart.ite h.setFs.setFs).event))))

theorem State.Wf.qeStep {s : State} (h : s.Wf) {n} {ok} {g} (hg : ∀ t : State, State.Wf t → ∀ a1, State.Wf (g t a1)) : (s.qeStep n ok g).Wf := h.ite (h.sramRead.qeFault.ite ((hg _ h.sramRead _).ite h))

theorem State.Wf.qeFetch {s : State} (h : s.Wf) {n} {w} {g} (hg : ∀ t : State, State.Wf t → ∀ a1, State.Wf (g t a1)) : (s.qeFetch n w g).Wf := h.qeStep hg

theorem State.Wf.qePut {s : State} (h : s.Wf) {n} {q} : (s.qePut n q).Wf := h.setQe.ite h.setQe.qeFault

theorem State.Wf.qeOp {s : State} (h : s.Wf) {n} {w} {g} : (s.qeOp n w g).Wf := h.qeFetch (fun _ h _ => h.qePut)

theorem State.Wf.qeWait {s : State} (h : s.Wf) {array} {g : State} (h2 : State.Wf g) : (s.qeWait array g).Wf := h.ite h2

theorem State.Wf.qeCoef {s : State} (h : s.Wf) {n} {k} {g} (hg : ∀ t : State, State.Wf t → ∀ a1, State.Wf (g t a1)) : (s.qeCoef n k g).Wf := by
  unfold State.qeCoef
  refine State.Wf.qeWait h ?_
  extract_lets i
  split
  next x m t e =>
    have ht := h.sramRead.of_pair e
    exact ht.qeFault.ite (hg _ ht _)

theorem State.Wf.qeWord {s : State} (h : s.Wf) {n} {k} {g} (hg : ∀ t : State, State.Wf t → ∀ a1, State.Wf (g t a1)) : (s.qeWord n k g).Wf := by
  unfold State.qeWord
  refine State.Wf.qeWait h ?_
  split
  next x m t e =>
    have ht := h.sramRead.of_pair e
    exact ht.qeFault.ite (hg _ ht _)

theorem execQNop_wf {s : State} {n} (h : s.Wf) : Outcome.Wf (execQNop n s) := State.Wf.next (h.qeOp)

theorem execQClr_wf {s : State} {n} {a} (h : s.Wf) : Outcome.Wf (execQClr n a s) := State.Wf.next (h.qeOp)

theorem execQLda_wf {s : State} {n} {a} {x} (h : s.Wf) : Outcome.Wf (execQLda n a x s) := State.Wf.next (h.qeOp)

theorem execQLdp_wf {s : State} {n} {a} {x} {t} (h : s.Wf) : Outcome.Wf (execQLdp n a x t s) := State.Wf.next (h.qeOp)

theorem execQLds_wf {s : State} {n} {a} {k} (h : s.Wf) :
    Outcome.Wf (execQLds n a k s) := State.Wf.next (h.qeFetch (fun _ h _ => h.qeWord (fun _ h _ => h.qePut)))

theorem execQSts_wf {s : State} {n} {a} {k} (h : s.Wf) :
    Outcome.Wf (execQSts n a k s) := State.Wf.next (h.qeFetch (fun _ h _ => h.qeWait h.sramWritten.qePut))

theorem execQAdds_wf {s : State} {n} {a} {k} (h : s.Wf) :
    Outcome.Wf (execQAdds n a k s) := State.Wf.next (h.qeFetch (fun _ h _ => h.qeWord (fun _ h _ => h.qePut)))

theorem execQMpy_wf {s : State} {n} {a} {x} {k} (h : s.Wf) :
    Outcome.Wf (execQMpy n a x k s) := State.Wf.next (h.qeFetch (fun _ h _ => h.qeCoef (fun _ h _ => h.qePut)))

theorem execQMac_wf {s : State} {n} {a} {x} {k} (h : s.Wf) :
    Outcome.Wf (execQMac n a x k s) := State.Wf.next (h.qeFetch (fun _ h _ => h.qeCoef (fun _ h _ => h.qePut)))

theorem execQMsu_wf {s : State} {n} {a} {x} {k} (h : s.Wf) :
    Outcome.Wf (execQMsu n a x k s) := State.Wf.next (h.qeFetch (fun _ h _ => h.qeCoef (fun _ h _ => h.qePut)))

theorem execQMpyx_wf {s : State} {n} {a} {x} {t} (h : s.Wf) : Outcome.Wf (execQMpyx n a x t s) := State.Wf.next (h.qeOp)

theorem execQMacx_wf {s : State} {n} {a} {x} {t} (h : s.Wf) : Outcome.Wf (execQMacx n a x t s) := State.Wf.next (h.qeOp)

theorem execQAdda_wf {s : State} {n} {a} (h : s.Wf) : Outcome.Wf (execQAdda n a s) := State.Wf.next (h.qeOp)

theorem execQSuba_wf {s : State} {n} {a} (h : s.Wf) : Outcome.Wf (execQSuba n a s) := State.Wf.next (h.qeOp)

theorem execQSha_wf {s : State} {n} {a} {sh} (h : s.Wf) : Outcome.Wf (execQSha n a sh s) := State.Wf.next (h.qeOp)

theorem execQClamp_wf {s : State} {n} {a} {k} (h : s.Wf) :
    Outcome.Wf (execQClamp n a k s) := State.Wf.next (h.qeFetch (fun _ h _ => h.qeFault.ite (h.qeCoef (fun _ h _ => h.qeCoef (fun _ h _ => h.qePut)))))

theorem execQMov_wf {s : State} {n} {d} {x} (h : s.Wf) : Outcome.Wf (execQMov n d x s) := State.Wf.next (h.qeOp)

theorem execQLdi_wf {s : State} {n} {d} {imm} (h : s.Wf) : Outcome.Wf (execQLdi n d imm s) := State.Wf.next (h.qeOp)

theorem execQLdc_wf {s : State} {n} {d} {k} (h : s.Wf) :
    Outcome.Wf (execQLdc n d k s) := State.Wf.next (h.qeFetch (fun _ h _ => h.qeCoef (fun _ h _ => h.qePut)))

theorem execQIn_wf {s : State} {n} {d} {p} (h : s.Wf) : Outcome.Wf (execQIn n d p s) := State.Wf.next (h.qeOp)

theorem execQOut_wf {s : State} {n} {x} {p} (h : s.Wf) : Outcome.Wf (execQOut n x p s) := State.Wf.next (h.qeOp)

theorem execQAdd_wf {s : State} {n} {d} {x} {t} (h : s.Wf) : Outcome.Wf (execQAdd n d x t s) := State.Wf.next (h.qeOp)

theorem execQSub_wf {s : State} {n} {d} {x} {t} (h : s.Wf) : Outcome.Wf (execQSub n d x t s) := State.Wf.next (h.qeOp)

theorem execQMul_wf {s : State} {n} {d} {x} {t} (h : s.Wf) : Outcome.Wf (execQMul n d x t s) := State.Wf.next (h.qeOp)

theorem execQSth_wf {s : State} {n} {d} {a} (h : s.Wf) : Outcome.Wf (execQSth n d a s) := State.Wf.next (h.qeOp)

theorem execQStl_wf {s : State} {n} {d} {a} (h : s.Wf) : Outcome.Wf (execQStl n d a s) := State.Wf.next (h.qeOp)

theorem execQLim_wf {s : State} {n} {d} {x} {k} (h : s.Wf) :
    Outcome.Wf (execQLim n d x k s) := State.Wf.next (h.qeFetch (fun _ h _ => h.qeFault.ite (h.qeCoef (fun _ h _ => h.qeCoef (fun _ h _ => h.qePut)))))

theorem execQAbs_wf {s : State} {n} {d} {x} (h : s.Wf) : Outcome.Wf (execQAbs n d x s) := State.Wf.next (h.qeOp)

theorem execQAnd_wf {s : State} {n} {d} {x} {t} (h : s.Wf) : Outcome.Wf (execQAnd n d x t s) := State.Wf.next (h.qeOp)

theorem execQOr_wf {s : State} {n} {d} {x} {t} (h : s.Wf) : Outcome.Wf (execQOr n d x t s) := State.Wf.next (h.qeOp)

theorem execQCmp_wf {s : State} {n} {x} {t} (h : s.Wf) : Outcome.Wf (execQCmp n x t s) := State.Wf.next (h.qeOp)

theorem execQCmpa_wf {s : State} {n} {a} (h : s.Wf) : Outcome.Wf (execQCmpa n a s) := State.Wf.next (h.qeOp)

theorem execQJmp_wf {s : State} {n} {target} (h : s.Wf) : Outcome.Wf (execQJmp n target s) := State.Wf.next (h.qeOp)

theorem execQBr_wf {s : State} {n} {cond} {target} (h : s.Wf) :
    Outcome.Wf (execQBr n cond target s) := State.Wf.next (h.qeFetch (fun _ h _ => h.qeFault.ite h.qePut))

theorem execQSig_wf {s : State} {n} {bits} (h : s.Wf) :
    Outcome.Wf (execQSig n bits s) := State.Wf.next (h.qeFetch (fun _ h _ => h.setF.setB.event.qePut))

theorem execIllegalInstruction_wf {s : State} {n} (h : s.Wf) : Outcome.Wf (execIllegalInstruction n s) := State.Wf.next (h.qeStep (fun _ h _ => h.setQe.qeFault))

theorem State.Wf.bankApply {s : State} (h : s.Wf) {m} : (s.bankApply m).Wf := h.apply.setB.ite h

theorem State.Wf.qeTrigger {s : State} (h : s.Wf) {m} {inputs} : (s.qeTrigger m inputs).Wf := h.ite (h.bankApply.qeFault.ite h.bankApply.setQe.setF)

theorem State.Wf.qeFinish {s : State} (h : s.Wf) {n} {q} :
    (s.qeFinish n q).Wf := .ite ((((h.setQe.setF.setFs.inc.inc.ite h.setQe.setF.setFs.inc).setB).setB).event) (h.setQe.setF.setFs.inc.inc.ite h.setQe.setF.setFs.inc)

/-! ### The operations of Sys2Proof/Machine/Srv.lean -/

theorem State.Wf.setMode {s : State} (h : s.Wf) {a} {m} : (s.setMode a m).Wf := h.setF

theorem State.Wf.updAct {s : State} (h : s.Wf) {a} {g} : (s.updAct a g).Wf := h.setAct

theorem State.Wf.updHd {s : State} (h : s.Wf) {a} {k} {g} : (s.updHd a k g).Wf := h.updAct

theorem State.Wf.setOnt {s : State} (h : s.Wf) {a} {k} {v} : (s.setOnt a k v).Wf := h.setF

theorem State.Wf.dropOnt {s : State} (h : s.Wf) {a} {k} : (s.dropOnt a k).Wf := h.setOnt.updHd

theorem State.Wf.dropAllOnt {s : State} (h : s.Wf) {a} : (s.dropAllOnt a).Wf := h.foldl (fun _ h _ => h.dropOnt)

theorem State.Wf.endRun {s : State} (h : s.Wf) {a} {k} : (s.endRun a k).Wf := .ite (((h.event.ite h).updHd).setF) ((h.event.ite h).updHd)

theorem State.Wf.faultAct {s : State} (h : s.Wf) {a} {cause} : (s.faultAct a cause).Wf := h.dropAllOnt.setMode.setB.event.actFlags

theorem State.Wf.setRet {s : State} (h : s.Wf) {a} {v} : (s.setRet a v).Wf := h.setF

theorem State.Wf.servoEnd {s : State} (h : s.Wf) {a} {n} {code} {units} : (s.servoEnd a n code units).Wf := h.updAct.post

theorem State.Wf.retract {s : State} (h : s.Wf) {a} {unload} : (s.retract a unload).Wf := by
  unfold State.retract
  split
  · exact h
  · extract_lets s1 s2 s3 s4
    have hs1 : s1.Wf := h.dropAllOnt.updAct
    have hs2 : s2.Wf := hs1.setMode.ite hs1
    have hs3 : s3.Wf := hs2.setRet
    have hs4 : s4.Wf := by
      unfold s4
      split
      · exact hs3.servoEnd
      · exact hs3
    exact hs4.actFlags

theorem State.Wf.onWedge {s : State} (h : s.Wf) {n} {v} {g} (hg : ∀ t : State, State.Wf t → ∀ a1, State.Wf (g t a1)) : (s.onWedge n v g).Wf := by
  unfold State.onWedge
  refine State.Wf.onSeq h (fun t ht => ?_)
  split
  · exact (hg _ ht _).ite ht.csFault
  · exact ht

theorem State.Wf.wedgeDone {s : State} (h : s.Wf) {a} {c} {v} : (s.wedgeDone a c v).Wf := h.foldl (fun _ h _ => h.setDone)

theorem execWindow_wf {s : State} {n} (h : s.Wf) :
    Outcome.Wf (execWindow n s) := State.Wf.next (h.onWedge (fun _ h _ => ((h.updAct.foldl (fun _ h _ => h.updHd)).wedgeDone).wedgeDone))

theorem execDemod_wf {s : State} {n} (h : s.Wf) : Outcome.Wf (execDemod n s) := State.Wf.next (h.onWedge (fun _ h _ => h.updAct))

theorem execSamFound_wf {s : State} {a} {mate} {time} (h : s.Wf) : Outcome.Wf (execSamFound a mate time s) := State.Wf.next (h.inBlk (fun _ h => h.ite h.updHd.wedgeDone))

theorem State.Wf.missLimits {s : State} (h : s.Wf) {a} :
    (s.missLimits a).Wf := h.faultAct.ite (h.endRun.dropOnt.setMode.setF.updAct.setB.event.actFlags.ite h)

theorem State.Wf.missed {s : State} (h : s.Wf) {a} {k} :
    (s.missed a k).Wf := ((((h.updHd.inc.setF.ite h.updHd.inc).dropOnt).wedgeDone).actFlags).missLimits

theorem execWindowEnd_wf {s : State} {a} {mate} (h : s.Wf) : Outcome.Wf (execWindowEnd a mate s) := State.Wf.next (h.inBlk (fun _ h => h.ite h.missed))

theorem State.Wf.samPredict {s : State} (h : s.Wf) {a} {k} : (s.samPredict a k).2.Wf := h.free.pair.ite_snd h.pair

theorem State.Wf.posPredict {s : State} (h : s.Wf) {a} {k} : State.Wf (State.posPredict s a k).2.2 := by
  unfold State.posPredict
  extract_lets h1
  split
  · exact h.pair2
  · split
    next x m t e =>
      have ht := h.free.of_pair e
      split
      next x1 m1 t1 e1 =>
        have ht1 := ht.free.of_pair e1
        exact ht1.pair2

theorem State.Wf.demodDone {s : State} (h : s.Wf) {a} {k} {mate} {m} : (s.demodDone a k mate m).Wf := by
  unfold State.demodDone
  split
  · extract_lets sum s1 miss ok sumR
    have hs1 : s1.Wf := h.missed.ite h
    split
    next x pt pp t e =>
      have ht := (hs1.pair2.ite_snd_snd hs1.posPredict).of_pair2 e
      split
      next x1 m1 t1 e1 =>
        have ht1 := (ht.free.ite_snd ht.pair).of_pair e1
        extract_lets p wn s2
        split
        next x2 m2 t2 e2 =>
          have ht2 := (ht1.samPredict.ite_snd ht1.pair).of_pair e2
          exact .ite ((ht2.ite (ht2.endRun.ite ht2.endRun.inc.event)).updHd) ((((ht2.ite (ht2.endRun.ite ht2.endRun.inc.event)).updHd).setF).foldl (fun _ h _ => h.setSreg.setSreg.setSreg.setSreg))

theorem execDemodDone_wf {s : State} {a} {mate} {m} (h : s.Wf) : Outcome.Wf (execDemodDone a mate m s) := State.Wf.next (h.inBlk (fun _ h => h.ite h.demodDone))

theorem State.Wf.actApply {s : State} (h : s.Wf) {a} : (s.actApply a).Wf := h.applyAll.setB

theorem State.Wf.newTarget {s : State} (h : s.Wf) {a} {t} : (s.newTarget a t).Wf := by
  unfold State.newTarget
  exact ((((State.Wf.ite ((h.endRun.ite h).endRun) (h.endRun.ite h)).setFs).dropAllOnt).setF).updAct

theorem State.Wf.evalOnt {s : State} (h : s.Wf) {a} {k} {e} : (s.evalOnt a k e).Wf := h.dropOnt.ite (h.updHd.setOnt.ite h.updHd)

theorem State.Wf.servoComplete {s : State} (h : s.Wf) {a} {fresh} {m0} {ont0} : (s.servoComplete a fresh m0 ont0).Wf := by
  unfold State.servoComplete
  split
  · exact h
  · exact h.ite (h.servoEnd.ite (h.servoEnd.ite (h.ite (h.servoEnd.ite ((h.servoEnd.ite h.setAct).ite h)))))

theorem State.Wf.servoAbort {s : State} (h : s.Wf) {a} : (s.servoAbort a).Wf := by
  unfold State.servoAbort
  split
  · exact h.servoEnd.ite h
  · exact h

theorem State.Wf.loadCount {s : State} (h : s.Wf) {a} {k} : (s.loadCount a k).Wf := h.ite (h.updAct.ite ((h.updAct.updAct.ite h.updAct).setMode))

theorem State.Wf.seekTime {s : State} (h : s.Wf) {a} {was} {fresh} : (s.seekTime a was fresh).Wf := h.updAct.faultAct.event.ite h.updAct

theorem State.Wf.pes {s : State} (h : s.Wf) {a} : (s.pes a).Wf := by
  unfold State.pes
  extract_lets s1 m0 k0 ont0 s2 p fresh s3 s4 t e i s5 s6 s7 s8 s9 s10 s11 s12
  have hs1 : s1.Wf := h.actApply.ite h
  have hs2 : s2.Wf := hs1.servoAbort
  have hs3 : s3.Wf := by
    unfold s3
    split
    · exact hs2.newTarget
    · exact hs2
  have hs4 : s4.Wf := hs3.loadCount
  have hs5 : s5.Wf := hs4.updHd
  have hs6 : s6.Wf := by
    unfold s6
    split
    · exact hs5.updHd
    · exact hs5
  have hs7 : s7.Wf := hs6.setMode
  have hs8 : s8.Wf := hs7.evalOnt
  have hs9 : s9.Wf := by
    unfold s9
    split
    · exact hs8.evalOnt
    · exact hs8
  have hs10 : s10.Wf := by
    unfold s10
    split
    · split
      · exact hs9.setMode
      · exact hs9.setMode.ite hs9
    · exact hs9
  have hs11 : s11.Wf := hs10.seekTime
  have hs12 : s12.Wf := hs11.setFs
  exact hs12.servoComplete.actFlags

theorem execPes_wf {s : State} {n} (h : s.Wf) : Outcome.Wf (execPes n s) := State.Wf.next (h.onWedge (fun _ h _ => h.pes))

theorem State.Wf.servoItem {s : State} (h : s.Wf) {a} {opc} {g} (hg : ∀ t : State, State.Wf t → ∀ a1, ∀ a2, State.Wf (g t a1 a2)) : (s.servoItem a opc g).Wf := by
  unfold State.servoItem
  refine State.Wf.onItem h (fun t ht a1 a1 => ?_)
  split
  · split
    · exact ht
    · split
      · exact ht.post
      · split
        · exact ht.post
        · exact hg _ ht.updAct _ _
  · exact ht

theorem State.Wf.aim {s : State} (h : s.Wf) {a} {w} : (s.aim a w).Wf := h.updAct

theorem execSeek_wf {s : State} {a} (h : s.Wf) :
    Outcome.Wf (execSeek a s) := State.Wf.next (h.inBlk (fun _ h => h.servoItem (fun _ h _ _ => h.aim)))

theorem execFollow_wf {s : State} {a} (h : s.Wf) :
    Outcome.Wf (execFollow a s) := State.Wf.next (h.inBlk (fun _ h => h.servoItem (fun _ h _ _ => h.aim)))

theorem execArmMate_wf {s : State} {a} (h : s.Wf) :
    Outcome.Wf (execArmMate a s) := State.Wf.next (h.inBlk (fun _ h => h.servoItem (fun _ h _ _ => h.aim)))

theorem execUnload_wf {s : State} {a} (h : s.Wf) :
    Outcome.Wf (execUnload a s) := State.Wf.next (h.inBlk (fun _ h => h.servoItem (fun _ h _ _ => h.servoEnd.ite h.retract)))

theorem State.Wf.loadHeads {s : State} (h : s.Wf) {a} : (s.loadHeads a).Wf := h.setMode.setF.updAct.setF.ite h.setMode.setF.updAct

theorem execLoad_wf {s : State} {a} (h : s.Wf) :
    Outcome.Wf (execLoad a s) := State.Wf.next (h.inBlk (fun _ h => h.servoItem (fun _ h _ _ => h.loadHeads)))

theorem execSrvEn_wf {s : State} {v} (h : s.Wf) :
    Outcome.Wf (execSrvEn v s) := State.Wf.next (h.onBlk (fun _ h => h.ite ((h.setB.ite h.cfgErrAt).ite (h.cfgErrAt.ite ((h.setB.foldl (fun _ h _ => h.actApply.ite h)).foldl (fun _ h _ => h.bankApply))))))

theorem execFaultHoldExpiry_wf {s : State} {a} (h : s.Wf) :
    Outcome.Wf (execFaultHoldExpiry a s) := State.Wf.next (h.ite ((h.updAct.faultAct.ite h.updAct).retract))

/-! ### The operations of Sys2Proof/Machine/Power.lean -/

theorem State.Wf.updSup {s : State} (h : s.Wf) {g} : (s.updSup g).Wf := h.sup

theorem State.Wf.updMpd {s : State} (h : s.Wf) {g} : (s.updMpd g).Wf := h.mpd

theorem State.Wf.sloeShow {s : State} (h : s.Wf) : (s.sloeShow).Wf := by
  unfold State.sloeShow
  split
  · exact h.setFs

theorem State.Wf.sloePush {s : State} (h : s.Wf) {dom} {on} : (s.sloePush dom on).Wf := h.cfgErrAt.ite h.updSup.sloeShow

theorem State.Wf.sloePop {s : State} (h : s.Wf) : (s.sloePop).Wf := h.updSup.sloeShow

theorem State.Wf.setDom {s : State} (h : s.Wf) {d} {on} : (s.setDom d on).Wf := h.setF

theorem State.Wf.addSum {s : State} (h : s.Wf) {v} : (s.addSum v).Wf := h.setF

theorem State.Wf.subSum {s : State} (h : s.Wf) {v} : (s.subSum v).Wf := h.setF

theorem State.Wf.spinOff {s : State} (h : s.Wf) : (s.spinOff).Wf := h.setDom.subSum.updSup.sloeShow.ite h

theorem State.Wf.forceShow {s : State} (h : s.Wf) : (s.forceShow).Wf := h.ite (h.setB.setB.ite h.setB.setB.event)

theorem State.Wf.speedFlags {s : State} (h : s.Wf) : (s.speedFlags).Wf := h.setB.setB.forceShow.ite h.setB

theorem State.Wf.setRpm {s : State} (h : s.Wf) {rpm} : (s.setRpm rpm).Wf := h.setF.speedFlags

/-! ### The operations of Sys2Proof/Machine/Mpd.lean -/

theorem State.Wf.setSpn {s : State} (h : s.Wf) {st} : (s.setSpn st).Wf := by
  unfold State.setSpn
  extract_lets _ s1 s2 s3 s4 s5 s6
  have hs1 : s1.Wf := h.setFs
  have hs2 : s2.Wf := hs1.updMpd
  have hs3 : s3.Wf := hs2.ite hs2.setB
  have hs4 : s4.Wf := hs3.spinOff.ite hs3
  have hs5 : s5.Wf := hs4.ite hs4.event
  have hs6 : s6.Wf := hs5.setB.ite hs5
  exact hs6.speedFlags

theorem State.Wf.spnBrake {s : State} (h : s.Wf) : (s.spnBrake).Wf := h.setSpn.ite h

theorem State.Wf.retractAll {s : State} (h : s.Wf) : (s.retractAll).Wf := h.foldl (fun _ h _ => h.retract)

theorem State.Wf.coastFrom {s : State} (h : s.Wf) {why} :
    (s.coastFrom why).Wf := h.setSpn.updMpd.ite (h.setSpn.updMpd.setB.retractAll.ite h.setSpn.updMpd.setB)

theorem State.Wf.motorEnd {s : State} (h : s.Wf) {opcs} {code} {detail} {units} : (s.motorEnd opcs code detail units).Wf := by
  unfold State.motorEnd
  split
  · exact h.post
  · exact h

theorem State.Wf.motorFault {s : State} (h : s.Wf) {detail} : (s.motorFault detail).Wf := h.ite h.updMpd.motorEnd

theorem State.Wf.spnFault {s : State} (h : s.Wf) {driver} {cause} : (s.spnFault driver cause).Wf := h.setSpn.setB.event

theorem State.Wf.restartFail {s : State} (h : s.Wf) : (s.restartFail).Wf := h.spnFault.motorFault.ite (h.spnFault.ite h.coastFrom)

theorem State.Wf.beginMeasure {s : State} (h : s.Wf) : (s.beginMeasure).Wf := h.setSpn.updMpd

theorem State.Wf.spinGranted {s : State} (h : s.Wf) : (s.spinGranted).Wf := by
  unfold State.spinGranted
  split
  · exact h.updMpd.beginMeasure.ite h.updMpd.speedFlags
  · exact h.updMpd.speedFlags
  · exact h.spinOff

theorem execMeasureEnd_wf {s : State} {rpm} {backward} (h : s.Wf) :
    Outcome.Wf (execMeasureEnd rpm backward s) := State.Wf.next (h.inBlk (fun _ h => h.setRpm.setB.updMpd.motorEnd.ite (h.ite (.ite (((h.setRpm.setB.event.ite h.setRpm.setB).setSpn).updMpd) (.ite ((h.setRpm.setB.event.ite h.setRpm.setB).coastFrom) (.ite ((h.setRpm.setB.event.ite h.setRpm.setB).setSpn) ((h.setRpm.setB.event.ite h.setRpm.setB).updMpd)))))))

theorem execAlignEnd_wf {s : State} (h : s.Wf) : Outcome.Wf (execAlignEnd s) := State.Wf.next (h.inBlk (fun _ h => h.setSpn.ite h))

theorem execBemfCrossing_wf {s : State} {valid} {angle} (h : s.Wf) :
    Outcome.Wf (execBemfCrossing valid angle s) := State.Wf.next (h.inBlk (fun _ h => h.updMpd.setSpn.updMpd.ite h.updMpd))

theorem execOpenLoopTimeout_wf {s : State} (h : s.Wf) :
    Outcome.Wf (execOpenLoopTimeout s) := State.Wf.next (h.inBlk (fun _ h => h.ite (h.setSpn.updMpd.ite h.restartFail)))

theorem execWedgeGapCheck_wf {s : State} {residual} (h : s.Wf) :
    Outcome.Wf (execWedgeGapCheck residual s) := State.Wf.next (h.inBlk (fun _ h => h.ite (h.updMpd.setSpn.ite (h.updMpd.setSpn.event.ite h.updMpd.setSpn.event.motorFault))))

theorem execHoldTimeout_wf {s : State} (h : s.Wf) :
    Outcome.Wf (execHoldTimeout s) := State.Wf.next (h.inBlk (fun _ h => h.ite (h.event.restartFail.ite h.coastFrom.event)))

theorem execReacquireTimeout_wf {s : State} (h : s.Wf) :
    Outcome.Wf (execReacquireTimeout s) := State.Wf.next (h.inBlk (fun _ h => h.ite h.updMpd.beginMeasure.event))

theorem execCoastTimeout_wf {s : State} (h : s.Wf) :
    Outcome.Wf (execCoastTimeout s) := State.Wf.next (h.inBlk (fun _ h => h.ite (h.updMpd.event.motorFault.ite (h.updMpd.event.restartFail.ite h.updMpd.event))))

theorem execSpeedThreshold_wf {s : State} {rpm} (h : s.Wf) :
    Outcome.Wf (execSpeedThreshold rpm s) := State.Wf.next (h.inBlk (fun _ h => h.setRpm.setSpn.updMpd.ite ((h.setRpm.setSpn.updMpd.beginMeasure.ite h.setRpm.setSpn.updMpd).ite (h.setRpm.retractAll.ite (h.setRpm.coastFrom.ite h.setRpm.spnBrake)))))

theorem execHarvestEnd_wf {s : State} {mj} (h : s.Wf) :
    Outcome.Wf (execHarvestEnd mj s) := State.Wf.next (h.inBlk (fun _ h => h.ite ((((h.coastFrom.ite h).updMpd).setF).event)))

theorem State.Wf.tripSpindle {s : State} (h : s.Wf) {cause} : (s.tripSpindle cause).Wf := h.updMpd.spnFault.motorFault.motorEnd.retractAll

theorem State.Wf.tripVcm {s : State} (h : s.Wf) {a} {cause} : (s.tripVcm a cause).Wf := by
  unfold State.tripVcm
  extract_lets s1 s2 s3 s4 s5
  have hs1 : s1.Wf := h.setF.setB.event
  have hs2 : s2.Wf := hs1.updAct
  have hs3 : s3.Wf := hs2.faultAct.ite hs2
  have hs4 : s4.Wf := hs3.elim (fun _ => hs3.updAct.post)
  have hs5 : s5.Wf := hs4.updMpd.motorEnd.ite hs4
  exact hs5.retract

theorem State.Wf.maOff {s : State} (h : s.Wf) : (s.maOff).Wf := h.foldl (fun _ h _ => h.updAct)

theorem State.Wf.driverTrip {s : State} (h : s.Wf) {d} {c} : (s.driverTrip d c).Wf := by
  unfold State.driverTrip
  split
  · exact ((h.tripSpindle.foldl (fun _ h _ => h.tripVcm)).setF).maOff
  · exact h.updMpd.setB.event.maOff
  · split
    · exact h.tripSpindle
    · exact h.tripVcm
    · exact h.setF.setB.event.updAct
    · exact h

theorem execDriverTrip_wf {s : State} {d} {c} (h : s.Wf) : Outcome.Wf (execDriverTrip d c s) := State.Wf.next (h.inBlk (fun _ h => h.driverTrip))

theorem State.Wf.clearTrips {s : State} (h : s.Wf) : (s.clearTrips).Wf := (h.updMpd.foldl (fun _ h _ => h.setF)).setF

theorem State.Wf.retractEnd {s : State} (h : s.Wf) {a} {parked} : (s.retractEnd a parked).Wf := by
  unfold State.retractEnd
  split
  · exact h
  · extract_lets s1 s2 s3 s4 s5 waits s6 s7
    have hs1 : s1.Wf := h.setRet.setB.event
    have hs2 : s2.Wf := hs1.updAct
    have hs3 : s3.Wf := hs2.foldl (fun _ h _ => h.endRun.ite h)
    have hs4 : s4.Wf := hs3.setMode.setF.ite (hs2.ite hs2.faultAct)
    have hs5 : s5.Wf := hs4.elim (fun _ => hs4.servoEnd)
    have hs6 : s6.Wf := hs5.updMpd
    have hs7 : s7.Wf := hs6.ite (hs6.updMpd.motorEnd.ite (hs6.motorEnd.ite hs6))
    exact hs7.actFlags.spnBrake

theorem execRetractParked_wf {s : State} {a} (h : s.Wf) : Outcome.Wf (execRetractParked a s) := State.Wf.next (h.retractEnd)

theorem execRetractTimeout_wf {s : State} {a} (h : s.Wf) : Outcome.Wf (execRetractTimeout a s) := State.Wf.next (h.retractEnd)

theorem State.Wf.motorItem {s : State} (h : s.Wf) {opc} {busy} {g} (hg : ∀ t : State, State.Wf t → ∀ a1, ∀ a2, State.Wf (g t a1 a2)) : (s.motorItem opc busy g).Wf := by
  unfold State.motorItem
  refine State.Wf.inBlk h (fun t ht => ?_)
  refine State.Wf.onItem ht (fun t1 ht1 a a => ?_)
  split
  · exact ht1
  · split
    · exact ht1.post
    · split
      · exact ht1.post
      · exact (hg _ ht1 _ _).ite ht1.post

theorem execStart_wf {s : State} (h : s.Wf) : Outcome.Wf (execStart s) := by
  unfold execStart
  refine State.Wf.next ?_
  split
  · split
    · exact .ite (((h.coastFrom.ite h).updMpd).post) h
    · exact h
  · exact h.motorItem (fun _ h _ _ => h.post.ite (h.post.ite (((h.foldl (fun _ h _ => h.setB)).updMpd).sloePush)))

theorem State.Wf.stopSpindle {s : State} (h : s.Wf) {n} {w} : (s.stopSpindle n w).Wf := ((h.updMpd.coastFrom.ite h.updMpd).post).spnBrake

theorem execStop_wf {s : State} (h : s.Wf) :
    Outcome.Wf (execStop s) := State.Wf.next (h.motorItem (fun _ h _ _ => h.ite h.stopSpindle))

theorem execTier_wf {s : State} (h : s.Wf) :
    Outcome.Wf (execTier s) := State.Wf.next (h.motorItem (fun _ h _ _ => h.updMpd.sloePush.ite h.updMpd.speedFlags))

theorem State.Wf.retractNamed {s : State} (h : s.Wf) {n} {w} :
    (s.retractNamed n w).Wf := .ite ((h.foldl (fun _ h _ => h.retract.ite h)).post) ((h.foldl (fun _ h _ => h.retract.ite h)).updMpd)

theorem execRetract_wf {s : State} (h : s.Wf) : Outcome.Wf (execRetract s) := State.Wf.next (h.motorItem (fun _ h _ _ => h.retractNamed))

theorem execMeasure_wf {s : State} (h : s.Wf) : Outcome.Wf (execMeasure s) := State.Wf.next (h.motorItem (fun _ h _ _ => h.updMpd))

theorem State.Wf.speedError {s : State} (h : s.Wf) {e} : (s.speedError e).Wf := by
  unfold State.speedError
  extract_lets near s1 s2 s3 m s4
  have hs1 : s1.Wf := h.updMpd
  have hs2 : s2.Wf := hs1.setB.ite hs1
  have hs3 : s3.Wf := hs2.setB
  have hs4 : s4.Wf := hs3.updMpd.setF
  exact hs2.ite (hs4.spinOff.event.motorEnd.ite (hs4.spinOff.event.motorEnd.ite hs4.spinOff))

theorem State.Wf.tblApply {s : State} (h : s.Wf) : (s.tblApply).Wf := h.apply.setB.setF

theorem execMpdEn_wf {s : State} {v} (h : s.Wf) :
    Outcome.Wf (execMpdEn v s) := State.Wf.next (h.onBlk (fun _ h => h.ite ((h.setB.ite h.cfgErrAt).ite (h.cfgErrAt.ite (h.setB.tblApply.ite h.setB)))))

theorem execDrv_wf {s : State} {n} {d} (h : s.Wf) : Outcome.Wf (execDrv n d s) := State.Wf.next (h.onSeq (fun _ h => h.send.setDone))

theorem execSample_wf {s : State} {n} {m} {v} (h : s.Wf) : Outcome.Wf (execSample n m v s) := State.Wf.next (h.onSeq (fun _ h => h.setSreg.setDone))

theorem execSloe_wf {s : State} {n} {dom} {on} (h : s.Wf) : Outcome.Wf (execSloe n dom on s) := State.Wf.next (h.onSeq (fun _ h => h.sloePush))

/-! ### The operations of Sys2Proof/Machine/Sup.lean -/

theorem State.Wf.arraysOff {s : State} (h : s.Wf) {l} : (s.arraysOff l).Wf := h.buf

theorem State.Wf.domLoss {s : State} (h : s.Wf) {d : Nat} : (s.domLoss d).Wf := by
  unfold State.domLoss
  split
  · have ht : ∀ l : List EflOp, ((l.foldl State.eflAbort s).setCore 0 {}).Wf := fun _ => (h.foldl fun _ h _ => h.eflAbort).setCore
    exact ⟨(ht _).regs, (ht _).force, Memory.wf_filter _ _ (ht _).mem, (ht _).flash⟩
  · exact ⟨h.regs, h.force, Memory.wf_filter _ _ h.mem, h.flash⟩
  · exact h.same
  · exact h.same
  · exact h.foldl fun _ h _ => h.setCore.setB
  · exact h.srv
  · exact h.plv
  · exact h.mir
  · exact h.mpd
  · exact h.setLane.setLane.ite h

theorem State.Wf.railShow {s : State} (h : s.Wf) : (s.railShow).Wf := h.setFs

theorem State.Wf.mirShow {s : State} (h : s.Wf) : (s.mirShow).Wf := h.ite h.setFs

theorem State.Wf.sensorsOff {s : State} (h : s.Wf) {d} : (s.sensorsOff d).Wf := h.foldl (fun _ h _ => h.setB)

theorem State.Wf.portReset {s : State} (h : s.Wf) : (s.portReset).Wf := by
  unfold State.portReset
  refine State.Wf.foldl h (fun t ht a => ?_)
  split
  · exact ht.setF.setG
  · exact ht

theorem State.Wf.domStop {s : State} (h : s.Wf) {d} : (s.domStop d).Wf := by
  unfold State.domStop
  split
  · exact h
  · split
    · exact h.spinOff
    · extract_lets s1 com s2 _ s3 s4 s5 s6
      have hs1 : s1.Wf := h.setDom.subSum.domLoss.arraysOff
      have hs2 : s2.Wf := hs1.resetFlds
      have hs3 : s3.Wf := hs2.dev
      have hs4 : s4.Wf := hs3.chn.arraysOff.ite hs3
      have hs5 : s5.Wf := hs4.setF.portReset.ite hs4
      have hs6 : s6.Wf := hs5.speedFlags.ite hs5
      exact hs6.sensorsOff.railShow.forceShow.sloeShow

theorem State.Wf.sampleStraps {s : State} (h : s.Wf) {v} : (s.sampleStraps v).Wf := h.setFs.setF.portReset.event.ite h.setFs.setF.portReset

theorem State.Wf.bootOn {s : State} (h : s.Wf) : (s.bootOn).Wf := h.resetFlds.setDom.updSup.setF

theorem State.Wf.burnCut {s : State} (h : s.Wf) : (s.burnCut).Wf := by
  unfold State.burnCut
  split
  · exact h
  · extract_lets c old
    split
    next x m t e =>
      have ht := h.free.of_pair e
      exact ht.setF

theorem State.Wf.wipe {s : State} (h : s.Wf) {cold por keepMotor : Bool} : (s.wipe cold por keepMotor).Wf := by
  unfold State.wipe
  extract_lets turning keep on
  split
  next nonce t e =>
    have ht := h.free.of_pair e
    extract_lets u v w x y
    have hv : v.Wf := (ht.foldl fun _ h _ => h.eflAbort).burnCut.resetFlds
    have hw : w.Wf := ⟨hv.regs, hv.force, rfl, hv.flash⟩
    exact (hw.setF.setFs.ite hw.setF).setF

theorem State.Wf.requestReset {s : State} (h : s.Wf) {cause} {core} : (s.requestReset cause core).Wf := by
  unfold State.requestReset
  extract_lets first s1 waits s2 s3 s4
  have hs1 : s1.Wf := h.updSup
  have hs2 : s2.Wf := hs1.setB
  have hs3 : s3.Wf := by
    unfold s3
    split
    · exact hs2.subSum.sloePop
    · exact hs2
  have hs4 : s4.Wf := hs3.coastFrom.ite hs3
  exact hs1.ite (hs4.updSup.ite hs4.retractAll)

theorem execResetPerform_wf {s : State} {straps} (h : s.Wf) : Outcome.Wf (execResetPerform straps s) := by
  unfold execResetPerform
  refine State.Wf.next ?_
  split
  · exact h
  · extract_lets c core cold keep off s1 _ s2 s3 s4 s5 s6
    have hs1 : s1.Wf := h.wipe
    have hs2 : s2.Wf := hs1.thm.ite hs1
    have hs3 : s3.Wf := hs2.updSup
    have hs4 : s4.Wf := hs3.setF.inc
    have hs5 : s5.Wf := hs4.setF.ite hs4
    have hs6 : s6.Wf := hs5.sampleStraps.ite hs5.portReset
    exact hs6.setF.updSup.ite (hs6.ite hs6.bootOn)

theorem execPor_wf {s : State} {straps} (h : s.Wf) : Outcome.Wf (execPor straps s) := State.Wf.next (h.wipe.bootOn.updSup.sampleStraps)

theorem execResetN_wf {s : State} {long} (h : s.Wf) : Outcome.Wf (execResetN long s) := State.Wf.next (h.updSup.requestReset.ite h)

theorem execResetNRelease_wf {s : State} {straps} (h : s.Wf) :
    Outcome.Wf (execResetNRelease straps s) := State.Wf.next (h.ite (h.updSup.sampleStraps.bootOn.ite h.updSup.sampleStraps))

theorem execSwrst_wf {s : State} {key} (h : s.Wf) :
    Outcome.Wf (execSwrst key s) := State.Wf.next (h.onBlk (fun _ h => h.requestReset.ite h.cfgErrAt))

theorem execDebugReset_wf {s : State} {token} (h : s.Wf) : Outcome.Wf (execDebugReset token s) := State.Wf.next (h.sec.updSup.requestReset)

theorem execRetractWaitEnd_wf {s : State} (h : s.Wf) : Outcome.Wf (execRetractWaitEnd s) := State.Wf.next (h.updSup.retractAll.ite h)

theorem execRailFault_wf {s : State} {rail} (h : s.Wf) :
    Outcome.Wf (execRailFault rail s) := State.Wf.next (h.requestReset.ite (.ite (((h.setF.setB.event.foldl (fun _ h _ => h.domStop)).tripSpindle).foldl (fun _ h _ => h.tripVcm)) (h.setF.setB.event.foldl (fun _ h _ => h.domStop))))

theorem State.Wf.setLowv {s : State} (h : s.Wf) {v} : (s.setLowv v).Wf := h.setB.setB.setB.event.sloeShow

theorem execLowvSet_wf {s : State} {mv} (h : s.Wf) : Outcome.Wf (execLowvSet mv s) := State.Wf.next (h.setF.setLowv.ite h.setF)

theorem execLowvClear_wf {s : State} {mv} (h : s.Wf) : Outcome.Wf (execLowvClear mv s) := State.Wf.next (h.setF.setLowv.ite h.setF)

theorem execGovernorTick_wf {s : State} {pin} {vin} (h : s.Wf) :
    Outcome.Wf (execGovernorTick pin vin s) := State.Wf.next (h.inBlk (fun _ h => .ite (.ite ((((h.setFs.ite h.setFs.setB.event).updSup).updSup).setB) (((h.setFs.ite h.setFs.setB.event).updSup).setF)) ((h.setFs.updSup.setB.updSup.ite h.setFs.updSup.setB.updSup.setF).ite h.setFs.updSup.setB.updSup)))

theorem execXtal32Detect_wf {s : State} {found} (h : s.Wf) : Outcome.Wf (execXtal32Detect found s) := State.Wf.next (h.setB)

theorem execXtal32Stop_wf {s : State} (h : s.Wf) : Outcome.Wf (execXtal32Stop s) := State.Wf.next (h.setB.event.ite h)

theorem execCrystalFailure_wf {s : State} (h : s.Wf) : Outcome.Wf (execCrystalFailure s) := State.Wf.next (h.updSup)

theorem execXtalBootRetry_wf {s : State} {good} (h : s.Wf) :
    Outcome.Wf (execXtalBootRetry good s) := State.Wf.next (h.ite ((h.updSup.ite h.updSup.bootOn).ite h.setF))

theorem State.Wf.sloeFlush {s : State} (h : s.Wf) : (s.sloeFlush).Wf := h.updSup.sloeShow

theorem execSloeFlush_wf {s : State} (h : s.Wf) : Outcome.Wf (execSloeFlush s) := State.Wf.next (h.onBlk (fun _ h => h.sloeFlush))

theorem execSloeRequest_wf {s : State} {dom} {on} {flush} (h : s.Wf) :
    Outcome.Wf (execSloeRequest dom on flush s) := State.Wf.next (h.onBlk (fun _ h => (h.sloeFlush.ite h).sloePush))

theorem execDomainStart_wf {s : State} (h : s.Wf) : Outcome.Wf (execDomainStart s) := by
  unfold execDomainStart
  refine State.Wf.next ?_
  split
  · exact h.ite (.ite ((h.spinGranted.ite h).sloePop) (h.sloeShow.ite h.addSum.updSup.sloeShow))
  · exact h

theorem execDomainOn_wf {s : State} (h : s.Wf) : Outcome.Wf (execDomainOn s) := by
  unfold execDomainOn
  refine State.Wf.next ?_
  split
  · exact h.setDom.sloePop.railShow.spinGranted.sloeShow.ite (h.setDom.sloePop.railShow.speedFlags.ite (h.setDom.sloePop.railShow.mirShow.ite h.setDom.sloePop.railShow))
  · exact h

theorem execDomainStartFail_wf {s : State} {pll} (h : s.Wf) : Outcome.Wf (execDomainStartFail pll s) := by
  unfold execDomainStartFail
  refine State.Wf.next ?_
  split
  · extract_lets s1 s2 s3
    have hs1 : s1.Wf := h.subSum
    have hs2 : s2.Wf := hs1.setF
    have hs3 : s3.Wf := hs2.setB.event
    refine State.Wf.sloePop ?_
    split
    · exact hs3.event.ite hs3
    · exact hs3
  · exact h

theorem execDomainStop_wf {s : State} (h : s.Wf) : Outcome.Wf (execDomainStop s) := by
  unfold execDomainStop
  refine State.Wf.next ?_
  split
  · exact h.ite (h.sloePop.cfgErrAt.ite h.sloePop.domStop)
  · exact h

theorem execSloeWaitTimeout_wf {s : State} (h : s.Wf) : Outcome.Wf (execSloeWaitTimeout s) := State.Wf.next (h.sloeShow.ite h.sloeShow.updSup.setB.event)

theorem State.Wf.standBy {s : State} (h : s.Wf) {r} :
    (s.standBy r).Wf := h.setF.railShow.updSup.ite (h.setF.railShow.setMtime.ite h.setF.railShow)

theorem execDeviceStateRequest_wf {s : State} {req} (h : s.Wf) :
    Outcome.Wf (execDeviceStateRequest req s) := State.Wf.next (h.onBlk (fun _ h => h.cfgErrAt.ite (h.setF.ite h.setF.standBy.event)))

theorem State.Wf.wake {s : State} (h : s.Wf) {src} : (s.wake src).Wf := h.ite h.standBy.setFs.event.wakeCores

theorem execWakeTimer_wf {s : State} (h : s.Wf) : Outcome.Wf (execWakeTimer s) := State.Wf.next (h.ite h.wake)

theorem execCoreWdtFirstExpiry_wf {s : State} {n} (h : s.Wf) : Outcome.Wf (execCoreWdtFirstExpiry n s) := State.Wf.next (h.updSup.event.wakeCores.ite h)

theorem execCoreWdtSecondExpiry_wf {s : State} {n} (h : s.Wf) : Outcome.Wf (execCoreWdtSecondExpiry n s) := State.Wf.next (h.requestReset.ite h)

theorem State.Wf.kick {s : State} (h : s.Wf) {n} {key} {x} : (s.kick n key x).Wf := h.updSup.ite (h.updSup.updSup.ite h.updSup.cfgErrAt)

theorem execWdtKick_wf {s : State} {n} {key} (h : s.Wf) : Outcome.Wf (execWdtKick n key s) := State.Wf.next (h.onBlk (fun _ h => h.kick))

theorem execSysWdtKick_wf {s : State} {key} (h : s.Wf) : Outcome.Wf (execSysWdtKick key s) := State.Wf.next (h.onBlk (fun _ h => h.kick))

theorem execSysWdtExpiry_wf {s : State} (h : s.Wf) : Outcome.Wf (execSysWdtExpiry s) := State.Wf.next (h.requestReset.ite h)

/-! ### The operations of Sys2Proof/Machine/Thm.lean -/

theorem State.Wf.updThm {s : State} (h : s.Wf) {g} : (s.updThm g).Wf := h.thm

theorem State.Wf.updCal {s : State} (h : s.Wf) {g} : (s.updCal g).Wf := h.cal

theorem State.Wf.setCalItem {s : State} (h : s.Wf) {n} {x} : (s.setCalItem n x).Wf := h.updCal

theorem State.Wf.requestConv {s : State} (h : s.Wf) {m} : (s.requestConv m).Wf := h.setF

theorem execConversionRequest_wf {s : State} {m} (h : s.Wf) : Outcome.Wf (execConversionRequest m s) := State.Wf.next (h.onBlk (fun _ h => h.requestConv))

theorem execSensorScan_wf {s : State} (h : s.Wf) : Outcome.Wf (execSensorScan s) := State.Wf.next (h.inBlk (fun _ h => h.requestConv))

theorem execAonSensorScan_wf {s : State} (h : s.Wf) : Outcome.Wf (execAonSensorScan s) := State.Wf.next (h.requestConv.ite h.requestConv.updThm)

theorem State.Wf.assistShow {s : State} (h : s.Wf) : (s.assistShow).Wf := h.ite (h.foldl (fun _ h _ => h.ite h.updLane.setF.pairFlags))

theorem State.Wf.holdShow {s : State} (h : s.Wf) : (s.holdShow).Wf := (h.setF.foldl (fun _ h _ => h.holdLane)).assistShow

theorem State.Wf.maxShow {s : State} (h : s.Wf) : (s.maxShow).Wf := by
  unfold State.maxShow
  extract_lets l
  clear_value l
  split
  · exact h.setB
  · exact h.setFs

theorem State.Wf.warnCheck {s : State} (h : s.Wf) : (s.warnCheck).Wf := (h.ite h.setB.setB.event.wake).ite (h.setB.ite h)

theorem State.Wf.levelCheck {s : State} (h : s.Wf) : (s.levelCheck).Wf := h.ite (h.setF.setB.event.ite h.setF.setB)

theorem State.Wf.levelHold {s : State} (h : s.Wf) : (s.levelHold).Wf := h.ite h.setB.setB.event

theorem State.Wf.tripCheck {s : State} (h : s.Wf) : (s.tripCheck).Wf := h.ite h.setFs.inc.updThm.requestReset

theorem State.Wf.coolCheck {s : State} (h : s.Wf) {n} {good} : (s.coolCheck n good).Wf := h.ite h.updThm

theorem execConversionEnd_wf {s : State} {temp} (h : s.Wf) : Outcome.Wf (execConversionEnd temp s) := by
  unfold execConversionEnd
  refine State.Wf.next ?_
  extract_lets p t good
  split
  · exact h
  · exact h.setF.setB.maxShow.ite (.ite (((h.setF.setFs.ite h.setF.setB.setB.event).coolCheck).maxShow) ((((((((h.setF.setFs.ite h.setF.setB.setB.event).coolCheck).maxShow).warnCheck).levelCheck).levelHold).holdShow).tripCheck))

theorem execThrottleWindow_wf {s : State} (h : s.Wf) : Outcome.Wf (execThrottleWindow s) := State.Wf.next (h.inBlk (fun _ h => h.updThm))

theorem execRestartWaitEnd_wf {s : State} (h : s.Wf) : Outcome.Wf (execRestartWaitEnd s) := State.Wf.next ((h.updThm.ite h.updThm.bootOn).ite h)

theorem State.Wf.calTo {s : State} (h : s.Wf) {n} {st} : (s.calTo n st).Wf := h.setFs

theorem State.Wf.makeDue {s : State} (h : s.Wf) {n} : (s.makeDue n).Wf := h.calTo.setCalItem

theorem execCalEn_wf {s : State} {v} (h : s.Wf) :
    Outcome.Wf (execCalEn v s) := State.Wf.next (h.onBlk (fun _ h => h.ite (h.setB.ringDisable.holdShow.ite (h.setB.ringEnable.holdShow.ite h.cfgErrAt))))

theorem execCalItemDue_wf {s : State} {n} (h : s.Wf) : Outcome.Wf (execCalItemDue n s) := State.Wf.next (h.inBlk (fun _ h => h.makeDue.ite h))

theorem execCalDue_wf {s : State} {n} (h : s.Wf) : Outcome.Wf (execCalDue n s) := State.Wf.next (h.onBlk (fun _ h => h.makeDue.ite h))

theorem State.Wf.postChain {s : State} (h : s.Wf) {n} : (s.postChain n).Wf := by
  unfold State.postChain
  extract_lets r k _ t s1
  have hs1 : s1.Wf := by
    unfold s1
    refine State.Wf.foldl h (fun t1 ht1 a => ?_)
    split
    next x d t2 e =>
      have ht2 := ht1.fetch.of_pair e
      exact ht2.wr
  exact hs1.updCal.doorbell.assistShow

theorem execCalMeasurementStart_wf {s : State} (h : s.Wf) : Outcome.Wf (execCalMeasurementStart s) := by
  unfold execCalMeasurementStart
  refine State.Wf.next ?_
  refine State.Wf.inBlk h (fun t ht => ?_)
  split
  · exact ht
  · exact ht.calTo.postChain.ite ht.calTo

theorem State.Wf.calDiscard {s : State} (h : s.Wf) {n} : (s.calDiscard n).Wf := h.calTo

theorem State.Wf.calAccept {s : State} (h : s.Wf) {n} {l} : (s.calAccept n l).Wf := h.calTo.setFs.inc.setCalItem.holdShow

theorem State.Wf.calReject {s : State} (h : s.Wf) {n} :
    (s.calReject n).Wf := h.inc.setB.event.setF.setCalItem.calTo.ite h.inc.setB.event.setF.setCalItem.calTo.event.holdShow

theorem State.Wf.calValue {s : State} (h : s.Wf) {n} {v} :
    (s.calValue n v).Wf := h.setCalItem.calTo.setF.ite (h.setCalItem.setCalItem.setF.calTo.ite (h.setCalItem.calAccept.ite h.setCalItem.calReject))

theorem execCalMeasurementEnd_wf {s : State} {n} {v} (h : s.Wf) : Outcome.Wf (execCalMeasurementEnd n v s) := by
  unfold execCalMeasurementEnd
  refine State.Wf.next ?_
  refine State.Wf.inBlk h (fun t ht => ?_)
  split
  · exact ht
  · split
    · exact ht.ite (ht.setFs.ite ht.updCal.calDiscard.assistShow)
    · split
      · exact ht.calDiscard
      · exact ht.calValue

theorem State.Wf.calSubmit {s : State} (h : s.Wf) {g} (hg : ∀ t : State, State.Wf t → ∀ a1, State.Wf (g t a1)) :
    (s.calSubmit g).Wf := h.onBlk (fun _ h => h.cfgErrAt.ite ((hg _ h.setB.updCal _).assistShow))

theorem execCalSubmit_wf {s : State} {v} (h : s.Wf) : Outcome.Wf (execCalSubmit v s) := State.Wf.next (h.calSubmit (fun _ h _ => h.calValue))

theorem execCalDiscard_wf {s : State} (h : s.Wf) : Outcome.Wf (execCalDiscard s) := State.Wf.next (h.calSubmit (fun _ h _ => h.calDiscard))

theorem execCalStarve_wf {s : State} {n} (h : s.Wf) :
    Outcome.Wf (execCalStarve n s) := State.Wf.next (h.inBlk (fun _ h => h.setCalItem.setB.event.ite h))

theorem State.Wf.calValid {s : State} (h : s.Wf) {n} {v} :
    (s.calValid n v).Wf := h.ite (h.cfgErrAt.ite ((((((h.updCal.setB.ite h).setB).calTo).setFs).setCalItem).holdShow))

/-! ### The operations of Sys2Proof/Machine/Loops.lean -/

theorem State.Wf.rampStep {s : State} (h : s.Wf) {a} {iMeas} {maPri} {maMate} : (s.rampStep a iMeas maPri maMate).Wf := h.setAct.setB.event.ite (h.ite (h.setAct.ite h.setAct.setB))

theorem State.Wf.sampleTrims {s : State} (h : s.Wf) : (s.sampleTrims).Wf := h.updCal

theorem State.Wf.fireThermal {s : State} (h : s.Wf) {k} : (s.fireThermal k).Wf := h.qeTrigger.sampleTrims.ite h.qeTrigger

theorem State.Wf.publishTrims {s : State} (h : s.Wf) : (s.publishTrims).Wf := h.updCal.holdShow

theorem State.Wf.fireSpindle {s : State} (h : s.Wf) {ports} {err} {current} :
    (s.fireSpindle ports err current).Wf := .ite ((((h.tblApply.ite h).updMpd).qeTrigger).speedError) (((h.tblApply.ite h).updMpd).qeTrigger)

theorem State.Wf.fireSpindleBlind {s : State} (h : s.Wf) : (s.fireSpindleBlind).Wf := by
  unfold State.fireSpindleBlind
  extract_lets err
  split
  next x m t e =>
    have ht := h.free.of_pair e
    exact ht.fireSpindle

theorem State.Wf.triggerEngine {s : State} (h : s.Wf) {a} {i} {vel} {p} {m} {k} :
    (s.triggerEngine a i vel p m k).Wf := h.ite (h.fireSpindleBlind.ite (h.fireThermal.ite h.qeTrigger))

theorem execTrigger_wf {s : State} {n} {iMeas} {vel} {maPri} {maMate} (h : s.Wf) :
    Outcome.Wf (execTrigger n iMeas vel maPri maMate s) := State.Wf.next (h.onWedge (fun _ h _ => (h.ite h.rampStep.setF.wedgeDone).foldl (fun _ h _ => h.triggerEngine)))

theorem execQeTrigger_wf {s : State} {n} {inputs} (h : s.Wf) :
    Outcome.Wf (execQeTrigger n inputs s) := State.Wf.next (h.inBlk (fun _ h => h.ite ((h.ite (h.rampStep.qeTrigger.ite h.rampStep.qeTrigger)).ite (h.fireSpindle.ite (h.fireThermal.ite h.qeTrigger)))))

theorem State.Wf.measureAofs {s : State} (h : s.Wf) {a} : (s.measureAofs a).Wf := by
  unfold State.measureAofs
  split
  next x m t e =>
    have ht := h.free.of_pair e
    exact ht.setFs

theorem State.Wf.countStamp {s : State} (h : s.Wf) {a} {w} {t} :
    (s.countStamp a w t).Wf := .ite ((h.updMpd.foldl (fun _ h _ => h.measureAofs.ite h)).setSpn) (h.updMpd.measureAofs.ite h.updMpd)

theorem State.Wf.stampFirst {s : State} (h : s.Wf) {a} {w} {t} {prevW} {prevT} : (s.stampFirst a w t prevW prevT).Wf := by
  unfold State.stampFirst
  extract_lets w0 t0 s1 p0 d span known s2 s3 err due
  have hs1 : s1.Wf := h.updSrv
  have hs2 : s2.Wf := hs1.updMpd
  have hs3 : s3.Wf := hs2.setRpm.ite hs2
  split
  · exact hs2
  · split
    next x m t1 e =>
      have ht1 := hs3.free.of_pair e
      exact ht1.fireSpindle.ite ht1

theorem State.Wf.stampEngine {s : State} (h : s.Wf) {k} : (s.stampEngine k).Wf := by
  unfold State.stampEngine
  split
  · exact h
  · split
    · exact h.fireThermal
    · split
      next x m t e =>
        have ht := h.free.of_pair e
        exact ht.qeTrigger

theorem State.Wf.stampAct {s : State} (h : s.Wf) {n} {a} :
    (s.stampAct n a).Wf := h.ite (h.countStamp.ite (h.countStamp.stampFirst.foldl (fun _ h _ => h.stampEngine)))

theorem execStamp_wf {s : State} {n} (h : s.Wf) : Outcome.Wf (execStamp n s) := State.Wf.next (h.onWedge (fun _ h _ => h.stampAct))

theorem execPseudoStamp_wf {s : State} (h : s.Wf) : Outcome.Wf (execPseudoStamp s) := State.Wf.next (h.inBlk (fun _ h => h.ite h.fireSpindleBlind))

theorem State.Wf.servoSend {s : State} (h : s.Wf) {k} : (s.servoSend k).Wf := by
  unfold State.servoSend
  split
  · exact h
  · split
    next x m t e =>
      have ht := h.free.of_pair e
      exact ht.send

theorem State.Wf.drive {s : State} (h : s.Wf) {m} : (s.drive m).Wf := by
  unfold State.drive
  split
  · exact .ite (.ite ((h.ite (h.updAct.ite h.updAct)).wedgeDone) (((h.ite (h.updAct.ite h.updAct)).wedgeDone).servoSend)) (h.ite (h.updAct.ite h.updAct))
  · split
    · extract_lets s1
      have hs1 : s1.Wf := by
        unfold s1
        split
        · split
          next x m1 t e =>
            have ht := h.free.of_pair e
            exact ht.updMpd.send
        · exact h
      exact hs1.servoSend
    · exact h.publishTrims.ite h

theorem execQEnd_wf {s : State} {n} (h : s.Wf) : Outcome.Wf (execQEnd n s) := State.Wf.next (h.qeFetch (fun _ h _ => h.qeFinish.drive))

/-! ### The operations of Sys2Proof/Machine/Plv.lean -/

theorem State.Wf.updPlv {s : State} (h : s.Wf) {g} : (s.updPlv g).Wf := h.plv

theorem State.Wf.showImg {s : State} (h : s.Wf) {newest} : (s.showImg newest).Wf := by
  unfold State.showImg
  extract_lets s1
  have hs1 : s1.Wf := h.setF
  split
  · exact hs1.setFs
  · exact hs1

theorem State.Wf.nandFail {s : State} (h : s.Wf) {d} {b} : (s.nandFail d b).Wf := h.setF.inc.setB.event.setF

theorem State.Wf.freezeStops {s : State} (h : s.Wf) :
    (s.freezeStops).Wf := (((h.foldl (fun _ h _ => h.updCs.setFs.ite h)).foldl (fun _ h _ => h.ite h.setF)).foldl (fun _ h _ => h.laneDrop.disarmLane.ite h)).setB

theorem State.Wf.beginImage {s : State} (h : s.Wf) {a} {save} {item} : (s.beginImage a save item).Wf := h.updPlv.setB

theorem State.Wf.beginSave {s : State} (h : s.Wf) {item} : (s.beginSave item).Wf := h.beginImage.freezeStops

theorem State.Wf.thaw {s : State} (h : s.Wf) : (s.thaw).Wf := h.setB.updPlv.out

theorem State.Wf.vaultArm {s : State} (h : s.Wf) {eraseGood} : State.Wf (State.vaultArm s eraseGood).2.2 := by
  unfold State.vaultArm
  extract_lets a0 s1 newest
  have hs1 : s1.Wf := by
    unfold s1
    split
    · exact h
    · split
      next x m t e =>
        have ht := h.free.of_pair e
        exact ht.nandFail
  split
  · exact hs1.pair2
  · exact hs1.updPlv.showImg.setB.forceShow.event.pair2

theorem State.Wf.vaultScan {s : State} (h : s.Wf) : (s.vaultScan).Wf := h.updPlv.showImg

theorem State.Wf.restorePage {s : State} (h : s.Wf) {x} {bad} {p} : (s.restorePage x bad p).Wf := by
  unfold State.restorePage
  split
  · exact h
  · extract_lets a
    split
    · exact .ite ((h.wr.ite (h.wr.foldl (fun _ h _ => h.setPoison.ite h))).event) (h.wr.ite (h.wr.foldl (fun _ h _ => h.setPoison.ite h)))

theorem State.Wf.ledgerRestore {s : State} (h : s.Wf) : (s.ledgerRestore).Wf := by
  unfold State.ledgerRestore
  extract_lets s1 newest
  have hs1 : s1.Wf := by
    unfold s1
    refine State.Wf.foldl h (fun t ht a => ?_)
    extract_lets e
    split
    · exact ht.ledgerPut
    · exact ht.ledgerPut
    · exact ht
  exact hs1.setNonfinal.foldl (fun _ h _ => h.setFs)

theorem State.Wf.restoreChecks {s : State} (h : s.Wf) : (s.restoreChecks).Wf := h.foldl (fun _ h _ => h.ite h.wrPoison.event)

theorem State.Wf.vaultRestore {s : State} (h : s.Wf) {ledger} : State.Wf (State.vaultRestore s ledger).2.2 := by
  unfold State.vaultRestore
  extract_lets newest s1 fail
  have hs1 : s1.Wf := h.vaultScan
  clear_value newest
  split
  · exact hs1.event
  · extract_lets x
    split
    · exact hs1.event
    · split
      · exact hs1.event
      · split
        · exact hs1.event
        · split
          next x1 m t e =>
            have ht := hs1.free.of_pair e
            extract_lets s2 n s3 s4 s5 s6
            have hs2 : s2.Wf := ht.foldl (fun _ h _ => h.restorePage)
            have hs3 : s3.Wf := hs2.updCiu.setF
            have hs4 : s4.Wf := hs3.restoreChecks.updBtl.setF
            have hs5 : s5.Wf := hs4.ledgerRestore.event.ite hs4
            have hs6 : s6.Wf := hs5.event
            exact hs6.pair2.ite_snd_snd hs6.pair2

theorem State.Wf.vaultOp {s : State} (h : s.Wf) {w} {eraseGood} : (s.vaultOp w eraseGood).2.Wf := by
  unfold State.vaultOp
  split
  · exact h.vaultArm.pair
  · exact h.beginSave.pair.ite_snd h.pair
  · exact h.vaultRestore.pair
  · exact h.vaultScan.pair

theorem State.Wf.vaultItem {s : State} (h : s.Wf) {opc : Nat} {eraseGood : Bool} : (s.vaultItem opc eraseGood).Wf := by
  refine State.Wf.inBlk h fun t ht => State.Wf.onItem ht fun u hu n w => ?_
  refine hu.ite (hu.post.ite ?_)
  split
  · exact hu.post
  · split
    next r v e => exact (hu.vaultOp.of_pair e).post
    next v e => exact hu.vaultOp.of_pair e

theorem execArm_wf {s : State} {eraseGood} (h : s.Wf) : Outcome.Wf (execArm eraseGood s) := State.Wf.next (h.vaultItem)

theorem execSave_wf {s : State} (h : s.Wf) : Outcome.Wf (execSave s) := State.Wf.next (h.vaultItem)

theorem execRestore_wf {s : State} (h : s.Wf) : Outcome.Wf (execRestore s) := State.Wf.next (h.vaultItem)

theorem execScan_wf {s : State} (h : s.Wf) : Outcome.Wf (execScan s) := State.Wf.next (h.vaultItem)

theorem execVault_wf {s : State} (h : s.Wf) {n : Cs} : (execVault n s).Wf := by
  refine State.Wf.next (State.Wf.onSeq h fun t ht => ?_)
  split
  next it _ =>
    refine ht.ite (ht.setDone.setDone.ite ?_)
    split
    next r u e => exact (ht.vaultOp.of_pair e).setDone.setDone
    next u e => exact (ht.vaultOp.of_pair e).setDone.setDone
  next => exact ht

theorem execPlvEn_wf {s : State} {v} {diesGood} {ppb} {blocks} (h : s.Wf) :
    Outcome.Wf (execPlvEn v diesGood ppb blocks s) := State.Wf.next (h.onBlk (fun _ h => h.ite ((h.setFs.cfgErrAt.ite (((h.setFs.setFs.foldl (fun _ h _ => h.ite h.event)).updPlv).speedFlags)).ite (h.cfgErrAt.ite h.setFs))))

theorem State.Wf.harvestStart {s : State} (h : s.Wf) : (s.harvestStart).Wf := h.setSpn.updMpd.ite h

theorem State.Wf.lossFreeze {s : State} (h : s.Wf) :
    (s.lossFreeze).Wf := (h.event.beginImage.foldl (fun _ h _ => h.setCore.setB)).freezeStops

theorem State.Wf.lossRetract {s : State} (h : s.Wf) : (s.lossRetract).Wf := h.setB.updSup.ite h.retractAll

theorem State.Wf.powerLoss {s : State} (h : s.Wf) : (s.powerLoss).Wf := by
  unfold State.powerLoss
  split
  · exact h
  · extract_lets s1 s2 frozen s3 s4
    have hs1 : s1.Wf := h.updPlv
    have hs2 : s2.Wf := hs1.repairEnd.ite hs1
    have hs3 : s3.Wf := (hs2.foldl (fun _ h _ => h.setCore.setB)).ite (hs2.lossFreeze.ite hs2)
    have hs4 : s4.Wf := hs3.lossRetract.harvestStart
    exact hs2.ite ((hs4.foldl (fun _ h _ => h.domStop)).ite hs4)

theorem execPowerLossDetect_wf {s : State} (h : s.Wf) : Outcome.Wf (execPowerLossDetect s) := State.Wf.next (h.powerLoss)

theorem execWake_wf {s : State} {src} (h : s.Wf) : Outcome.Wf (execWake src s) := State.Wf.next (h.wake.powerLoss.ite h.wake)

theorem execEnergyOkFall_wf {s : State} (h : s.Wf) : Outcome.Wf (execEnergyOkFall s) := State.Wf.next (h.inBlk (fun _ h => h.beginSave.ite h))

theorem State.Wf.imagePage {s : State} (h : s.Wf) {p : Nat} : (s.imagePage p).2.Wf := by
  have hr : ∀ (s : State) (g : Agent) (a n : Nat), s.Wf → (s.fetch g a n).2.Wf := fun _ _ _ _ h => h.fetch
  generalize hf : @State.imagePage = f
  delta State.imagePage at hf
  generalize @State.fetch = rd at hf hr
  revert rd
  refine id ?_
  intro rd hf hr
  subst hf
  exact hr s .link (s.protAddr (16384 * p)) 16384 h

theorem State.Wf.pageOut {s : State} (h : s.Wf) {x} {d} {pos} : (s.pageOut x d pos).Wf := by
  unfold State.pageOut
  exact h.imagePage.send.updPlv

theorem State.Wf.nextBlock {s : State} (h : s.Wf) {d b : Nat} : (s.nextBlock d b).1.Wf := by
  unfold State.nextBlock
  extract_lets ab a
  split
  · exact h
  · split
    next x _ => exact (h.updPlv : (s.updPlv fun p => { p with img := Tbl.set p.img {} x {} }).Wf)
    · exact h

theorem execVaultPageProgrammed_wf {s : State} (h : s.Wf) {good : Bool} : (execVaultPageProgrammed good s).Wf := by
  refine State.Wf.next ?_
  split
  · exact h
  next x _ =>
    refine h.ite ?_
    extract_lets d at' u r
    have hu : u.Wf := h.pageOut.ite h.nandFail
    have hr : r.1.Wf := by
      unfold r
      split
      · exact hu
      · exact hu.nextBlock
    exact hr.updPlv

theorem execDumpEnd_wf {s : State} (h : s.Wf) : Outcome.Wf (execDumpEnd s) := by
  unfold execDumpEnd
  refine State.Wf.next ?_
  split
  · exact h
  · split
    · exact h
    · extract_lets s1 s2 s3
      have hs1 : s1.Wf := h.updPlv
      have hs2 : s2.Wf := hs1.setB.thaw.showImg
      have hs3 : s3.Wf := hs2.forceShow.event
      split
      · exact hs1
      · split
        · split
          · exact hs3.post
          · exact hs3
        · exact hs3

theorem execRailsOff_wf {s : State} (h : s.Wf) :
    Outcome.Wf (execRailsOff s) := State.Wf.next (h.ite ((((h.coastFrom.ite h).wipe).setF).updSup))

/-! ### The operations of Sys2Proof/Machine/Sec.lean -/

theorem State.Wf.updSec {s : State} (h : s.Wf) {g} : (s.updSec g).Wf := h.sec

theorem State.Wf.vfyRead {s : State} (h : s.Wf) {a} {n} : State.Wf (State.vfyRead s a n).2.2 := by
  unfold State.vfyRead
  split
  · exact h.eflChecks.pair2
  · split
    · exact h.pair2
    · split
      next x d t e =>
        have ht := h.fetch.of_pair e
        exact ht.pair2

theorem execContainerVerify_wf {s : State} {cls} (h : s.Wf) :
    Outcome.Wf (execContainerVerify cls s) := State.Wf.next (h.onBlk (fun _ h => h.cfgErrAt.ite h.setFs.latch))

theorem execVerifyEnd_wf {s : State} (h : s.Wf) : Outcome.Wf (execVerifyEnd s) := State.Wf.next (h.ite h.vfyRead.vfyRead.setFs)

theorem execArbAdvance_wf {s : State} {cls} {svn} (h : s.Wf) :
    Outcome.Wf (execArbAdvance cls svn s) := State.Wf.next (h.onBlk (fun _ h => h.cfgErrAt.ite (h.setFs.setB.latch.ite h.setFs.setFs)))

theorem execArbAdvanceEnd_wf {s : State} (h : s.Wf) : Outcome.Wf (execArbAdvanceEnd s) := State.Wf.next (h.ite h.setF.setFs.event)

theorem execKeyRevoke_wf {s : State} {slot} (h : s.Wf) :
    Outcome.Wf (execKeyRevoke slot s) := State.Wf.next (h.onBlk (fun _ h => h.setF.ite (h.setF.cfgErrAt.ite h.setF.setF.event)))

theorem execSecLock_wf {s : State} (h : s.Wf) : Outcome.Wf (execSecLock s) := State.Wf.next (h.onBlk (fun _ h => h.setB))

theorem State.Wf.keyLoaded {s : State} (h : s.Wf) {i} {v} : (s.keyLoaded i v).Wf := h.setF.ite h.setF

theorem State.Wf.setKey {s : State} (h : s.Wf) {i} {k} : (s.setKey i k).Wf := h.updSec.keyLoaded

theorem State.Wf.setWrap {s : State} (h : s.Wf) {d} : (s.setWrap d).Wf := h.foldl (fun _ h _ => h.setF)

theorem State.Wf.keyGen {s : State} (h : s.Wf) {i} : (s.keyGen i).Wf := by
  unfold State.keyGen
  split
  next x m t e =>
    have ht := h.free.of_pair e
    exact ht.setKey.updSec.setWrap.event

theorem State.Wf.keyClear {s : State} (h : s.Wf) {i} : (s.keyClear i).Wf := h.setKey.event

theorem State.Wf.keyOp {s : State} (h : s.Wf) {i} {op} {g} (hg : ∀ t : State, State.Wf t → State.Wf (g t).2) : (s.keyOp i op g).Wf := by
  unfold State.keyOp
  refine State.Wf.onBlk h (fun t ht => ?_)
  split
  · exact ht.cfgErrAt
  · extract_lets s1
    have hs1 : s1.Wf := ht.setFs
    split
    next x m t1 e =>
      have ht1 := (hg _ hs1).of_pair e
      exact ht1.setF

theorem execGen_wf {s : State} {ns} (h : s.Wf) : Outcome.Wf (execGen ns s) := State.Wf.next (h.keyOp (fun _ h => h.keyGen))

theorem execKeyLoad_wf {s : State} {ns} (h : s.Wf) : Outcome.Wf (execKeyLoad ns s) := by
  unfold execKeyLoad
  refine State.Wf.next ?_
  refine State.Wf.keyOp h (fun t ht => ?_)
  split
  · exact ht.pair
  · split
    · exact ht.event.pair
    · exact ht.pair.ite_snd ht.setKey.updSec.pair

theorem execClear_wf {s : State} {ns} (h : s.Wf) : Outcome.Wf (execClear ns s) := State.Wf.next (h.keyOp (fun _ h => h.keyClear))

theorem execKeyOperationEnd_wf {s : State} (h : s.Wf) : Outcome.Wf (execKeyOperationEnd s) := State.Wf.next (h.ite h.setFs)

theorem State.Wf.rekey {s : State} (h : s.Wf) {i} : (s.rekey i).Wf := by
  unfold State.rekey
  extract_lets s1 d old
  have hs1 : s1.Wf := h.keyClear.keyGen
  split
  · exact hs1
  · exact hs1.eflUnits.updSec.ite hs1.eflUnits.updSec.eraseWhole

theorem State.Wf.dropNs {s : State} (h : s.Wf) {i} : (s.dropNs i).Wf := h.updCiu.foldl (fun _ h _ => h.updCiu.ite h.freeSlot)

theorem execNamespaceDelete_wf {s : State} {t} {ns} (h : s.Wf) :
    Outcome.Wf (execNamespaceDelete t ns s) := State.Wf.next (h.onCmd (fun _ => h.finish.ite h.rekey.dropNs.setNs.updCiu.commitBands.finish))

theorem execFormatNvm_wf {s : State} {t} {ns} {msize} {crypto} (h : s.Wf) :
    Outcome.Wf (execFormatNvm t ns msize crypto s) := State.Wf.next (h.onCmd (fun _ => h.finish.ite ((((h.rekey.ite h).dropNs).setNs).finish)))

theorem execSanitizeCryptoErase_wf {s : State} {t} (h : s.Wf) :
    Outcome.Wf (execSanitizeCryptoErase t s) := State.Wf.next (h.onCmd (fun _ => (h.foldl (fun _ h _ => h.rekey.dropNs)).finish))

theorem execSanitizeBlockErase_wf {s : State} {t} (h : s.Wf) :
    Outcome.Wf (execSanitizeBlockErase t s) := State.Wf.next (h.onCmd (fun _ => (h.foldl (fun _ h _ => h.dropNs)).finish))

theorem State.Wf.putBootControl {s : State} (h : s.Wf) {active} {trial} {tries} : (s.putBootControl active trial tries).Wf := by
  unfold State.putBootControl
  split
  · exact h.eraseWhole.eflUnits

theorem execFirmwareImageDownload_wf {s : State} {t} {cls} {off} {data} (h : s.Wf) : Outcome.Wf (execFirmwareImageDownload t cls off data s) := State.Wf.next (h.onCmd (fun _ => h.updSec.finish))

theorem State.Wf.writeSlot {s : State} (h : s.Wf) {slot} : (s.writeSlot slot).Wf := by
  unfold State.writeSlot
  exact ((h.foldl (fun _ h _ => h.eraseWhole)).foldl (fun _ h _ => h.eflUnits)).updSec

theorem State.Wf.commitWrite {s : State} (h : s.Wf) {t} {slot} {g} (hg : ∀ t : State, State.Wf t → ∀ a1, State.Wf (g t a1)) : (s.commitWrite t slot g).Wf := by
  unfold State.commitWrite
  refine State.Wf.onCmd h (fun a => ?_)
  split
  · exact h.finish.ite (h.finish.ite (hg _ h.writeSlot _))

theorem State.Wf.beginTrial {s : State} (h : s.Wf) {t} {slot} {active} {status} : (s.beginTrial t slot active status).Wf := h.finish.ite h.putBootControl.finish

theorem execFirmwareCommitWrite_wf {s : State} {t} {slotB} (h : s.Wf) : Outcome.Wf (execFirmwareCommitWrite t slotB s) := State.Wf.next (h.commitWrite (fun _ h _ => h.finish))

theorem execFirmwareCommitWriteTrial_wf {s : State} {t} {slotB} (h : s.Wf) : Outcome.Wf (execFirmwareCommitWriteTrial t slotB s) := State.Wf.next (h.commitWrite (fun _ h _ => h.beginTrial))

theorem execFirmwareCommitResetRequired_wf {s : State} {t} {slotB} (h : s.Wf) : Outcome.Wf (execFirmwareCommitResetRequired t slotB s) := State.Wf.next (h.commitWrite (fun _ h _ => h.beginTrial))

theorem execFirmwareCommitTrialInPlace_wf {s : State} {t} {slotB} (h : s.Wf) : Outcome.Wf (execFirmwareCommitTrialInPlace t slotB s) := by
  unfold execFirmwareCommitTrialInPlace
  refine State.Wf.next ?_
  refine State.Wf.onCmd h (fun a => ?_)
  split
  · exact h.finish.ite (h.finish.ite h.putBootControl.finish)

theorem State.Wf.imageWords {s : State} (h : s.Wf) {cls a k : Nat} {d : List Byte} : (s.imageWords cls a k d).2.2.Wf := by
  induction k generalizing s a d with
  | zero => exact h
  | succ k ih => exact (ih h.setWord).ite_snd_snd h.pair2

theorem State.Wf.loadImage {s : State} (h : s.Wf) {cls} {d} : (s.loadImage cls d).Wf := by
  unfold State.loadImage
  extract_lets s1
  have hs1 : s1.Wf := h.setF
  split
  next x r tag t e =>
    have ht := hs1.imageWords.of_pair2 e
    exact ht.setFs.setF.ite ht.setFs.event

theorem State.Wf.loadProg {s : State} (h : s.Wf) {n k fuel : Nat} {d : List Byte} : (s.loadProg n k fuel d).Wf := by
  induction fuel generalizing s k d with
  | zero => exact h
  | succ j ih => exact ih h.setQe.sramWritten

theorem State.Wf.loadClass {s : State} (h : s.Wf) {c} :
    (s.loadClass c).Wf := (h.wrRaw.ite h).ite (h.loadImage.ite ((h.foldl (fun _ h _ => h.loadProg)).ite h))

theorem State.Wf.setEntry {s : State} (h : s.Wf) {i} {e} : (s.setEntry i e).Wf := h.updSec

theorem State.Wf.firstEntries {s : State} (h : s.Wf) : (s.firstEntries).Wf := h.setEntry.setEntry

theorem State.Wf.classEntry {s : State} (h : s.Wf) {cls} {c} : (s.classEntry cls c).Wf := by
  unfold State.classEntry
  split
  · exact h.setEntry
  · exact h.setEntry.setFs

theorem State.Wf.nextRec {s : State} (h : s.Wf) : (s.nextRec).2.Wf := (h.eraseWhole.ite h).pair

theorem State.Wf.bootAppend {s : State} (h : s.Wf) : (s.bootAppend).Wf := by
  unfold State.bootAppend
  extract_lets good any torn fl s1
  have hs1 : s1.Wf := h.event.ite h
  split
  · extract_lets body chain
    split
    next x m t e =>
      have ht := hs1.nextRec.of_pair e
      extract_lets u
      split
      next x1 m1 t1 e1 =>
        have ht1 := ht.free.of_pair e1
        exact (ht1.eflUnits.ite ht1.eflOpen.event).foldl (fun _ h _ => h.setF)

theorem State.Wf.finishErases {s : State} (h : s.Wf) : (s.finishErases).Wf := by
  unfold State.finishErases
  refine State.Wf.foldl h (fun t ht a => ?_)
  extract_lets code
  split
  next x bad t1 e =>
    have ht1 := ht.eraseTry.of_pair e
    exact ((ht1.putOption.putOption.ite ht1).levelShow).event

theorem State.Wf.debugGrant {s : State} (h : s.Wf) :
    (s.debugGrant).Wf := h.ite (h.updSec.event.ite (h.updSec.ite h.updSec.setF.setEntry.event))

theorem State.Wf.handOff {s : State} (h : s.Wf) {img} {slot} {trial} : (s.handOff img slot trial).Wf := by
  unfold State.handOff
  extract_lets s1 key s2 s3 blocks s4 s5 s6 s7 s8 s9
  have hs1 : s1.Wf := by
    unfold s1
    refine State.Wf.foldl h (fun t ht a => ?_)
    split
    · exact ht.loadClass.classEntry
    · exact ht.classEntry
  have hs2 : s2.Wf := hs1.setFs
  have hs3 : s3.Wf := hs2.debugGrant.bootAppend
  have hs4 : s4.Wf := hs3.foldl (fun _ h _ => h.setF)
  have hs5 : s5.Wf := hs4.event.ite hs4
  have hs6 : s6.Wf := hs5.setB
  have hs7 : s7.Wf := hs6.event.ite hs6
  have hs8 : s8.Wf := hs7.updSup
  have hs9 : s9.Wf := hs8.updSec
  split
  next x m t e =>
    have ht := hs9.free.of_pair e
    exact ht.setX.setX.setCore

theorem State.Wf.recovery {s : State} (h : s.Wf) : (s.recovery).Wf := h.sloePush.updSec

theorem State.Wf.slotReads {s : State} (h : s.Wf) {slot} : (s.slotReads slot).Wf := by
  unfold State.slotReads
  refine State.Wf.foldl h (fun t ht a => ?_)
  split
  · exact ht.eflChecks
  · exact ht

theorem State.Wf.trySlot {s : State} (h : s.Wf) {slot} {trial} {other} (hother : ∀ t : State, State.Wf t → State.Wf (other t)) : (s.trySlot slot trial other).Wf := by
  unfold State.trySlot
  extract_lets s1
  have hs1 : s1.Wf := h.slotReads
  split
  · exact hs1.handOff
  · exact hother _ hs1.event

theorem State.Wf.bootActive {s : State} (h : s.Wf) {active} :
    (s.bootActive active).Wf := h.trySlot (fun _ h => h.trySlot (fun _ h => h.event.recovery))

theorem State.Wf.endTrial {s : State} (h : s.Wf) {active} : (s.endTrial active).Wf := h.putBootControl.event.bootActive

theorem State.Wf.chooseSlot {s : State} (h : s.Wf) : (s.chooseSlot).Wf := by
  unfold State.chooseSlot
  split
  · exact (h.putBootControl.event.trySlot (fun _ h => h.endTrial)).ite (h.endTrial.ite h.bootActive)

theorem execBootRomRun_wf {s : State} (h : s.Wf) :
    Outcome.Wf (execBootRomRun s) := State.Wf.next (h.ite ((h.ite h.sloePush).ite (.ite ((((h.ite h.event).firstEntries).finishErases).recovery) ((((h.ite h.event).firstEntries).finishErases).chooseSlot))))

theorem execRecoveryImageMessage_wf {s : State} {cls} {image} {last} (h : s.Wf) : Outcome.Wf (execRecoveryImageMessage cls image last s) := by
  unfold execRecoveryImageMessage
  refine State.Wf.next ?_
  split
  · exact h
  · extract_lets s1 img total bad
    have hs1 : s1.Wf := h.updSec
    split
    · exact hs1
    · clear_value bad
      split
      · exact hs1.event.updSec
      · exact hs1.updSec.ite hs1.handOff

theorem execSpdmGetCertificate_wf {s : State} {slot} (h : s.Wf) : Outcome.Wf (execSpdmGetCertificate slot s) := State.Wf.next (h.send)

theorem execSpdmChallenge_wf {s : State} {slot} {nonce} (h : s.Wf) : Outcome.Wf (execSpdmChallenge slot nonce s) := State.Wf.next (h.send)

theorem execSpdmGetMeasurements_wf {s : State} {idx} {nonce} (h : s.Wf) : Outcome.Wf (execSpdmGetMeasurements idx nonce s) := State.Wf.next (h.send)

theorem execSecuritySend_wf {s : State} {t} {proto} {req} (h : s.Wf) :
    Outcome.Wf (execSecuritySend t proto req s) := State.Wf.next (h.onCmd (fun _ => h.updCiu.finish.ite h.finish))

theorem execSecurityReceive_wf {s : State} {t} {proto} {len} (h : s.Wf) : Outcome.Wf (execSecurityReceive t proto len s) := State.Wf.next (h.onCmd (fun _ => h.answer.ite h.finish))

theorem execBootChainLogPage_wf {s : State} {t} {off} {len} (h : s.Wf) : Outcome.Wf (execBootChainLogPage t off len s) := State.Wf.next (h.onCmd (fun _ => h.answer.ite h.finish))

/-! ### The operations of Sys2Proof/Machine/Mir.lean -/

theorem State.Wf.updMir {s : State} (h : s.Wf) {g} : (s.updMir g).Wf := h.mir

theorem State.Wf.putWords {s : State} (h : s.Wf) {m} {l} : (s.putWords m l).Wf := h.ite h.setQe

theorem State.Wf.startLoop {s : State} (h : s.Wf) {m} : (s.startLoop m).Wf := h.ite h.setFs.setQe.softStart

theorem State.Wf.gainAct {s : State} (h : s.Wf) {a} : (s.gainAct a).Wf := by
  unfold State.gainAct
  split
  · exact h
  · extract_lets s1 s2
    have hs1 : s1.Wf := h.setMode.setFs
    have hs2 : s2.Wf := hs1.updAct.dropAllOnt
    split
    next x m t e =>
      have ht := hs2.free.of_pair e
      exact ht.send.updHd.startLoop.startLoop.actFlags

theorem State.Wf.loseAct {s : State} (h : s.Wf) {a} : (s.loseAct a).Wf := (h.dropAllOnt.updAct.foldl (fun _ h _ => h.setF)).actFlags

theorem State.Wf.gainSpn {s : State} (h : s.Wf) : (s.gainSpn).Wf := by
  unfold State.gainSpn
  split
  · exact h
  · exact h.setSpn.updMpd

theorem State.Wf.loseSpn {s : State} (h : s.Wf) : (s.loseSpn).Wf := h.coastFrom.ite h

theorem State.Wf.roleChange {s : State} (h : s.Wf) {was} : (s.roleChange was).Wf := h.ite (h.foldl (fun _ h _ => h.asyncEvent.ite h))

theorem State.Wf.lineTo {s : State} (h : s.Wf) {i} {v} :
    (s.lineTo i v).Wf := ((h.updMir.ite ((h.updMir.loseSpn.ite h.updMir.gainSpn).ite (h.updMir.loseAct.ite h.updMir.gainAct))).roleChange).mirShow

theorem State.Wf.linesTo {s : State} (h : s.Wf) {v} : (s.linesTo v).Wf := h.foldl (fun _ h _ => h.lineTo)

theorem execOwnLineChange_wf {s : State} {line} {high} (h : s.Wf) : Outcome.Wf (execOwnLineChange line high s) := State.Wf.next (h.lineTo.ite h)

theorem State.Wf.mayDrive {s : State} (h : s.Wf) {g} :
    (s.mayDrive g).Wf := h.updMir.foldl (fun _ h _ => h.ite ((h.gainSpn.ite h.loseSpn).ite (h.gainAct.ite h.loseAct)))

theorem State.Wf.unsync {s : State} (h : s.Wf) : (s.unsync).Wf := h.setB.updCiu

theorem State.Wf.linkDown {s : State} (h : s.Wf) {cause} : (s.linkDown cause).Wf := h.ite (h.setFs.event.updMir.ite h.setFs.event.updMir.unsync)

theorem State.Wf.mirrorResult {s : State} (h : s.Wf) {tag} : (s.mirrorResult tag).Wf := by
  unfold State.mirrorResult
  refine State.Wf.onTag h (fun t ht => ?_)
  extract_lets t1 c s1
  have hs1 : s1.Wf := ht.updCiu
  split
  · exact ht
  · split
    · exact hs1.ite hs1.ledgerFlags
    · exact hs1

theorem State.Wf.ackTo {s : State} (h : s.Wf) {ack} : (s.ackTo ack).Wf := by
  unfold State.ackTo
  split
  · exact h
  · extract_lets rest gone s1 s2 tags
    have hs1 : s1.Wf := h.updMir.frameFlush
    have hs2 : s2.Wf := by
      unfold s2
      split
      · exact hs1.updMir.setFs.ite hs1
      · exact hs1
    exact hs2.foldl (fun _ h _ => h.mirrorResult)

theorem State.Wf.resend {s : State} (h : s.Wf) :
    (s.resend).Wf := h.ite (h.linkDown.ite (h.updMir.inc.foldl (fun _ h _ => h.frameOut)))

theorem execAckTimeout_wf {s : State} (h : s.Wf) : Outcome.Wf (execAckTimeout s) := State.Wf.next (h.inBlk (fun _ h => h.resend.ite h))

theorem State.Wf.sendIdle {s : State} (h : s.Wf) {nak} : (s.sendIdle nak).Wf := h.send

theorem State.Wf.frameIn {s : State} (h : s.Wf) {h0} {g} (hg : ∀ t : State, State.Wf t → State.Wf (g t)) :
    (s.frameIn h0 g).Wf := h.inBlk (fun _ h => h.ite (h.sendIdle.ite ((h.inc.ite h.inc.updMir.event).ite (h.linkDown.ite (hg _ (h.updMir.ackTo.resend.ite h.updMir.ackTo))))))

theorem State.Wf.frameSeq {s : State} (h : s.Wf) {h0} {g} (hg : ∀ t : State, State.Wf t → State.Wf (g t)) : (s.frameSeq h0 g).Wf := h.frameIn (fun _ h => h.ite (((hg _ h).updMir).sendIdle))

theorem execIdleFrame_wf {s : State} {h0} (h : s.Wf) : Outcome.Wf (execIdleFrame h0 s) := State.Wf.next (h.frameIn (fun _ h => h))

theorem execMedlarLinkUp_wf {s : State} (h : s.Wf) : Outcome.Wf (execMedlarLinkUp s) := State.Wf.next (h.inBlk (fun _ h => h.ite h.send))

theorem execHello_wf {s : State} {pos} {term} {protMib} (h : s.Wf) :
    Outcome.Wf (execHello pos term protMib s) := State.Wf.next (h.inBlk (fun _ h => h.ite (h.updMir.mirShow.linkDown.event.ite (h.updMir.mirShow.updMir.setFs.event.mayDrive.linesTo.ite h.updMir.mirShow.updMir.setFs.event.mayDrive.mirShow))))

theorem execMirEn_wf {s : State} {v} (h : s.Wf) :
    Outcome.Wf (execMirEn v s) := State.Wf.next (h.onBlk (fun _ h => h.ite (h.linkDown.setB.ite (h.setB.mirShow.ite h.cfgErrAt))))

theorem execWriteFrame_wf {s : State} {h0} {data} (h : s.Wf) :
    Outcome.Wf (execWriteFrame h0 data s) := State.Wf.next (h.frameSeq (fun _ h => h.ite (h.wrRaw.foldl (fun _ h _ => h.setPoison))))

theorem execServoFrame_wf {s : State} {h0} {x} (h : s.Wf) : Outcome.Wf (execServoFrame h0 x s) := by
  unfold execServoFrame
  refine State.Wf.next ?_
  refine State.Wf.frameIn h (fun t ht => ?_)
  split
  · exact ht
  · split
    · exact ht.updMir.putWords.putWords
    · exact ht.updMir.putWords

theorem State.Wf.resyncSpan {s : State} (h : s.Wf) {i} : (s.resyncSpan i).Wf := h.fetch.sendFrame

theorem execResync_wf {s : State} (h : s.Wf) :
    Outcome.Wf (execResync s) := State.Wf.next (h.onBlk (fun _ h => h.cfgErrAt.ite (h.setB.foldl (fun _ h _ => h.resyncSpan))))

theorem execResyncEnd_wf {s : State} (h : s.Wf) : Outcome.Wf (execResyncEnd s) := State.Wf.next (h.inBlk (fun _ h => h.ite h.setFs.event))

theorem execKeyExchange_wf {s : State} {ns} (h : s.Wf) :
    Outcome.Wf (execKeyExchange ns s) := State.Wf.next (h.onBlk (fun _ h => h.cfgErrAt.ite h.setFs.updMir.sendFrame))

theorem execKeyFrame_wf {s : State} {h0} {wrapped} (h : s.Wf) : Outcome.Wf (execKeyFrame h0 wrapped s) := by
  unfold execKeyFrame
  refine State.Wf.next ?_
  refine State.Wf.frameSeq h (fun t ht => ?_)
  split
  · exact ht
  · exact ht.ite ht.setKey.updSec.setWrap.setB

theorem State.Wf.takeNow {s : State} (h : s.Wf) :
    (s.takeNow).Wf := ((h.setF.updMir.mayDrive.linesTo.ite h.setF.updMir.mayDrive.mirShow).setB).event

theorem State.Wf.fenceWrite {s : State} (h : s.Wf) {v} : (s.fenceWrite v).Wf := h.ite h.setB.updMir

theorem State.Wf.takeover {s : State} (h : s.Wf) : (s.takeover).Wf := h.takeNow.ite h.fenceWrite.updMir

theorem execAutoTakeover_wf {s : State} (h : s.Wf) :
    Outcome.Wf (execAutoTakeover s) := State.Wf.next (h.ite (h.updMir.mirShow.takeover.ite h.updMir.mirShow))

theorem State.Wf.takeWrite {s : State} (h : s.Wf) : (s.takeWrite).Wf := h.takeover.ite h.cfgErrAt

theorem execTakeoverLinesHigh_wf {s : State} (h : s.Wf) : Outcome.Wf (execTakeoverLinesHigh s) := State.Wf.next (h.linesTo.takeNow.ite h)

theorem execTakeoverAbandon_wf {s : State} (h : s.Wf) : Outcome.Wf (execTakeoverAbandon s) := State.Wf.next (h.updMir.event.ite h)

theorem execFenced_wf {s : State} {low} (h : s.Wf) :
    Outcome.Wf (execFenced low s) := State.Wf.next (h.ite ((h.updMir.event.linesTo.ite h.updMir.event.mirShow).ite h.updMir.mirShow))

theorem State.Wf.aliveWrite {s : State} (h : s.Wf) {v} :
    (s.aliveWrite v).Wf := h.setB.ite (h.setB.updMir.ite (h.setB.updMir.mirShow.ite h.setB))

/-! ### The operations of Sys2Proof/Machine/RegWrite.lean -/

theorem State.Wf.by {s : State} (h : s.Wf) {g : State → Outcome} (hg : ∀ t : State, t.Wf → (g t).Wf) : (s.by g).Wf := by
  unfold State.by
  split
  next t e => exact hg s h t e
  next => exact h

theorem State.Wf.groupApply {s : State} (h : s.Wf) {a} : (s.groupApply a).Wf := by
  unfold State.groupApply
  split
  · exact h.applyPw
  · exact h.syncApply
  · exact h.ztApply
  · exact h.actApply
  · exact h.apply.setB
  · exact h.tblApply
  · exact h.applyAll.setB

theorem State.Wf.commit {s : State} (h : s.Wf) {g} : (s.commit g).Wf := by
  unfold State.commit
  split
  · split
    · exact h
    · split
      · exact h.cfgErrAt
      · exact h.groupApply.ite h.setB

theorem execCommit_wf {s : State} {g} (h : s.Wf) : Outcome.Wf (execCommit g s) := State.Wf.next (h.onBlk (fun _ h => h.commit.ite h))

theorem execShadowApply_wf {s : State} {g} (h : s.Wf) : Outcome.Wf (execShadowApply g s) := State.Wf.next (h.inBlk (fun _ h => h.groupApply.ite h))

theorem State.Wf.writeS {s : State} (h : s.Wf) {x} {i} {v} :
    (s.writeS x i v).Wf := h.ite (h.cfgErrAt.ite (h.cfgErrAt.ite (h.setF.ringRewritten.ite h.setF)))

theorem State.Wf.writeB {s : State} (h : s.Wf) {x} {i} {v} : (s.writeB x i v).Wf := h.ite (h.cfgErrAt.ite h.setF)

theorem State.Wf.hepField {s : State} (h : s.Wf) {x} {i} {b} : OptWf (s.hepField x i b) := by
  unfold State.hepField
  refine .ite h.hepEn.some ?_
  refine .ite (h.commit.ite h).some ?_
  refine .ite ((h.by (fun _ h => execCntClr_wf h)).ite h).some ?_
  refine .ite (h.ite ((h.setF.foldl (fun _ h _ => h.setF)).updHep)).some ?_
  refine .ite (h.ite ((h.setF.foldl (fun _ h _ => h.setF)).updHep)).some ?_
  refine .ite (h.setF.foldl (fun _ h _ => h.setF)).some ?_
  exact .none

theorem State.Wf.ciuField {s : State} (h : s.Wf) {x} {b} {v} : OptWf (s.ciuField x b v) := by
  unfold State.ciuField
  refine .ite (h.by (fun _ h => execCiuEn_wf h)).some ?_
  refine .ite (h.by (fun _ h => execBufferSlotRelease_wf h)).some ?_
  refine .ite ((h.by (fun _ h => execAbortLookup_wf h)).ite h).some ?_
  refine .ite (h.by (fun _ h => execLdgEn_wf h)).some ?_
  exact .none

theorem State.Wf.bufField {s : State} (h : s.Wf) {x} {b} {v} : OptWf (s.bufField x b v) := by
  unfold State.bufField
  refine .ite (h.by (fun _ h => execBufDdrEn_wf h)).some ?_
  refine .ite ((h.by (fun _ h => execBrambleEnable_wf h)).ite (h.by (fun _ h => execBrambleDisable_wf h))).some ?_
  refine .ite ((h.by (fun _ h => execPostPackageRepair_wf h)).ite h).some ?_
  refine .ite (h.ite (h.cfgErrAt.ite h.maintain)).some ?_
  refine .ite ((h.by (fun _ h => execFlipArm_wf h)).ite h.setF).some ?_
  refine .ite ((h.by (fun _ h => execSramInit_wf h)).ite h).some ?_
  refine .ite ((h.by (fun _ h => execSpareRow_wf h)).ite h).some ?_
  exact .none

theorem State.Wf.btlField {s : State} (h : s.Wf) {x} {b} {v} : OptWf (s.btlField x b v) := by
  unfold State.btlField
  refine .ite (h.by (fun _ h => execBtlEn_wf h)).some ?_
  refine .ite h.setF.mlogShow.some ?_
  refine .ite h.setF.spareChanged.some ?_
  refine .ite (h.ite h.appendReg).some ?_
  refine .ite ((h.by (fun _ h => execHeadFailRecord_wf h)).ite h).some ?_
  exact .none

theorem State.Wf.engField {s : State} (h : s.Wf) {x} {i} {b} {v} : OptWf (s.engField x i b v) := by
  unfold State.engField
  extract_lets c q
  refine .ite ((h.by (fun _ h => execControlStoreLoad_wf h)).ite h).some ?_
  refine .ite (h.by (fun _ h => execSpareCsBind_wf h)).some ?_
  refine .ite (h.by (fun _ h => execSpareQeBind_wf h)).some ?_
  refine .ite (h.by (fun _ h => execIpiSet_wf h)).some ?_
  refine .ite (h.by (fun _ h => execIpiClear_wf h)).some ?_
  refine .ite h.setF.wakeCores.some ?_
  refine .ite (h.by (fun _ h => execInterruptComplete_wf h)).some ?_
  refine .ite (h.by (fun _ h => execCoreRun_wf h)).some ?_
  refine .ite ((h.by (fun _ h => execCsStart_wf h)).ite h).some ?_
  refine .ite ((h.by (fun _ h => execCsStop_wf h)).ite h).some ?_
  refine .ite ((h.by (fun _ h => execKill_wf h)).ite h).some ?_
  refine .ite ((h.by (fun _ h => execAbandon_wf h)).ite h).some ?_
  refine .ite ((h.by (fun _ h => execQeStart_wf h)).ite h).some ?_
  refine .ite ((h.by (fun _ h => execQeStop_wf h)).ite h).some ?_
  exact .none

theorem State.Wf.ringCtrl {s : State} (h : s.Wf) {r} {v} : (s.ringCtrl r v).Wf := by
  unfold State.ringCtrl
  extract_lets s1 s2 s3
  have hs1 : s1.Wf := h.ringAbort.ite h
  have hs2 : s2.Wf := hs1.ringResume.ite hs1
  have hs3 : s3.Wf := hs2.ringClrOvr.ite hs2
  exact hs3.ringEnable.ite hs3.ringDisable

theorem State.Wf.mwrField {s : State} (h : s.Wf) {x} {i} {b} {v} : OptWf (s.mwrField x i b v) := by
  unfold State.mwrField
  refine .ite (h.by (fun _ h => execMwrEn_wf h)).some ?_
  refine .ite h.some ?_
  refine .ite h.doorbell.some ?_
  refine .ite ((h.by (fun _ h => execWithdraw_wf h)).ite h).some ?_
  refine .ite h.ringCtrl.some ?_
  exact .none

theorem State.Wf.chnField {s : State} (h : s.Wf) {x} {i} {b} {v} : OptWf (s.chnField x i b v) := by
  unfold State.chnField
  refine .ite h.laneEn.some ?_
  refine .ite (h.setF.ite h.setF.updLane).some ?_
  refine .ite (h.commit.ite h).some ?_
  refine .ite h.setF.pairFlags.some ?_
  refine .ite (h.commit.ite h).some ?_
  refine .ite (h.by (fun _ h => execSpareDecoderBind_wf h)).some ?_
  exact .none

theorem State.Wf.srvField {s : State} (h : s.Wf) {x} {i} {b} : OptWf (s.srvField x i b) := by
  unfold State.srvField
  refine .ite (h.by (fun _ h => execSrvEn_wf h)).some ?_
  refine .ite (h.commit.ite h).some ?_
  refine .ite (h.commit.ite h).some ?_
  refine .ite (h.setF.ite h).some ?_
  refine .ite (h.by (fun _ h => execMpdEn_wf h)).some ?_
  refine .ite h.setF.spnBrake.some ?_
  refine .ite (h.setF.clearTrips.ite h).some ?_
  refine .ite (h.commit.ite h).some ?_
  refine .ite (h.cfgErrAt.ite h.setF).some ?_
  exact .none

theorem State.Wf.supField {s : State} (h : s.Wf) {x} {i} {b} {v} : OptWf (s.supField x i b v) := by
  unfold State.supField
  refine .ite h.setF.sloeShow.some ?_
  refine .ite (h.sloeFlush.ite h).some ?_
  refine .ite ((h.by (fun _ h => execSloeRequest_wf h)).ite h).some ?_
  refine .ite (h.by (fun _ h => execDeviceStateRequest_wf h)).some ?_
  refine .ite ((h.by (fun _ h => execSwrst_wf h)).ite h).some ?_
  refine .ite (h.setF.ite h).some ?_
  refine .ite (h.by (fun _ h => execWdtKick_wf h)).some ?_
  refine .ite (h.setF.event.ite h).some ?_
  refine .ite (h.by (fun _ h => execSysWdtKick_wf h)).some ?_
  exact .none

theorem State.Wf.secField {s : State} (h : s.Wf) {x : Fld} {b v : Nat} : OptWf (s.secField x b v) := by
  unfold State.secField
  refine .ite (h.cfgErrAt.ite h.setF).some ?_
  refine .ite ((h.by fun _ h => execSecLock_wf h).ite h).some ?_
  refine .ite ((h.by fun _ h => execArbAdvance_wf h).ite h).some ?_
  refine .ite ((h.by fun _ h => execKeyRevoke_wf h).ite h).some ?_
  refine .ite ((h.by fun _ h => execContainerVerify_wf h).ite h).some ?_
  refine .ite (h.ite ?_).some .none
  split
  · exact h.by fun _ h => execGen_wf h
  · exact h.by fun _ h => execKeyLoad_wf h
  · exact h.by fun _ h => execClear_wf h
  · exact h.cfgErrAt

theorem State.Wf.eflField {s : State} (h : s.Wf) {g} {x} {i} {b} {v} : OptWf (s.eflField g x i b v) := by
  unfold State.eflField
  refine .ite (h.commit.ite h).some ?_
  refine .ite (h.by (fun _ h => execEflUnlock_wf h)).some ?_
  refine .ite ((h.by (fun _ h => execSuspend_wf h)).ite h).some ?_
  refine .ite ((h.by (fun _ h => execEraseResume_wf h)).ite h).some ?_
  refine .ite (h.ite (h.cfgErrAt.ite h.eflGo)).some ?_
  refine .ite (h.ite ((h.by (fun _ h => execRdpLower_wf h)).ite (h.by (fun _ h => execRdpRaise_wf h)))).some ?_
  refine .ite (h.cfgErrAt.ite (h.ite h.setF)).some ?_
  exact .none

theorem State.Wf.thmField {s : State} (h : s.Wf) {x} {i} {b} {v} : OptWf (s.thmField x i b v) := by
  unfold State.thmField
  refine .ite h.requestConv.some ?_
  refine .ite h.setF.warnCheck.tripCheck.some ?_
  refine .ite h.setF.holdShow.some ?_
  refine .ite (h.by (fun _ h => execCalEn_wf h)).some ?_
  refine .ite (h.ite ((h.by (fun _ h => execCalDiscard_wf h)).ite (h.by (fun _ h => execCalSubmit_wf h)))).some ?_
  refine .ite h.calValid.some ?_
  refine .ite ((h.by (fun _ h => execCalDue_wf h)).ite h).some ?_
  refine .ite h.setF.holdShow.some ?_
  refine .ite ((h.by (fun _ h => execEvrEn_wf h)).ite (h.cfgErrAt.ite h)).some ?_
  refine .ite h.setF.clearDue.some ?_
  refine .ite ((h.by (fun _ h => execEventSubmit_wf h)).ite h).some ?_
  refine .ite ((h.by (fun _ h => execEventClear_wf h)).ite h).some ?_
  refine .ite ((h.cfgErrAt.ite h).ite h.setF).some ?_
  exact .none

theorem State.Wf.plvField {s : State} (h : s.Wf) {x : Fld} {b v : Nat} : OptWf (s.plvField x b v) := by
  unfold State.plvField
  refine .ite ?_ ?_
  · exact (h.free.free.free.by fun _ h => execPlvEn_wf h).some
  refine .ite h.setF.speedFlags.some ?_
  refine .ite (h.by fun _ h => execMirEn_wf h).some ?_
  refine .ite h.aliveWrite.some ?_
  refine .ite h.fenceWrite.some ?_
  refine .ite (h.takeWrite.ite h).some ?_
  refine .ite ((h.by fun _ h => execResync_wf h).ite h).some ?_
  exact .ite ((h.by fun _ h => execKeyExchange_wf h).ite h).some .none

theorem State.Wf.ownField {s : State} (h : s.Wf) {g} {x} {i} {b} {v} : OptWf (s.ownField g x i b v) := by
  unfold State.ownField
  split
  · exact h.hepField
  · exact h.hepField
  · exact h.ciuField
  · exact h.ciuField
  · exact h.bufField
  · exact h.btlField
  · exact h.engField
  · exact h.mwrField
  · exact h.chnField
  · exact h.srvField
  · exact h.srvField
  · exact h.supField
  · exact h.secField
  · exact h.eflField
  · exact h.thmField
  · exact h.thmField
  · exact h.thmField
  · exact h.plvField
  · exact h.plvField

theorem State.Wf.writeField {s : State} (h : s.Wf) {g : Agent} {x : Fld} {i v : Nat} : (s.writeField g x i v).Wf := by
  unfold State.writeField
  extract_lets b
  split
  next k _ => exact h.ite (h.setArray.ite h.setF)
  next =>
    split
    next t e => exact h.ownField t e
    next =>
      split
      · exact h.writeB.ite h.setF
      · exact h.setF
      · exact h.setF
      · exact h
      · exact h

theorem State.Wf.writeReg {s : State} (h : s.Wf) {g} {l} {v} :
    (s.writeReg g l v).Wf := (h.foldl (fun _ h _ => h.writeS)).foldl (fun _ h _ => h.writeField)

theorem State.Wf.qeMemWrite {s : State} (h : s.Wf) {n} {o} {v} :
    (s.qeMemWrite n o v).Wf := (h.cfgErr.ite h.sramStore.setQe).ite ((h.cfgErr.ite h.sramStore.setQe).ite (h.cfgErr.ite h.sramStore.setQe))

theorem State.Wf.zoneWrite {s : State} (h : s.Wf) {a} {v} : (s.zoneWrite a v).Wf := h.cfgErr.ite h.updChn

theorem State.Wf.windowWrite {s : State} (h : s.Wf) {a} {v} : (s.windowWrite a v).Wf := h.qeMemWrite.ite h.zoneWrite

theorem State.Wf.regSpaceWrite {s : State} (h : s.Wf) {g} {a} {v} :
    (s.regSpaceWrite g a v).Wf := h.onBlk (fun _ h => h.accFault.ite (h.windowWrite.ite h.writeReg))

theorem State.Wf.workWrite {s : State} (h : s.Wf) {g} {a} {size} {v} : (s.workWrite g a size v).Wf := h.misaligned.ite h.access

theorem State.Wf.coreWrite {s : State} (h : s.Wf) {g} {a} {size} {v} :
    (s.coreWrite g a size v).Wf := h.accFault.ite ((h.ite (h.accFault.ite h.regSpaceWrite)).ite ((h.workWrite.ite h).ite ((h.by (fun _ h => execBrambleAccess_wf h)).ite (h.ite h.accFault))))

theorem State.Wf.msixWrite {s : State} (h : s.Wf) {p} {o} {v} : (s.msixWrite p o v).Wf := by
  unfold State.msixWrite
  extract_lets n m
  split
  · exact h
  · split
    · exact h.setVec
    · exact h.setVec
    · exact h.setVec
    · exact h.setVec.ite (h.by (fun _ h => execMsixVectorUnmask_wf h))

theorem State.Wf.nvmeWrite {s : State} (h : s.Wf) {p} {o} {v} : (s.nvmeWrite p o v).Wf := by
  unfold State.nvmeWrite
  extract_lets c s1
  have hs1 : s1.Wf := h.setCtrl
  split
  · exact (hs1.by (fun _ h => execControllerEnable_wf h)).ite (hs1.by (fun _ h => execControllerReset_wf h))
  · split
    · exact h
    · split
      · exact h.setCtrl
      · exact h.setCtrl
      · exact h.setCtrl
      · exact h.setCtrl
      · exact h.setCtrl
      · exact h

theorem State.Wf.hostWrite {s : State} (h : s.Wf) {p} {a} {size} {v} {poisoned} :
    (s.hostWrite p a size v poisoned).Wf := h.inBlk (fun _ h => h.onPort (fun _ h => h.poisonedTlp.ite (h.ite (h.nvmeWrite.ite (.ite ((h.by (fun _ h => execSqDoorbell_wf h)).ite (h.by (fun _ h => execCqHeadDoorbell_wf h))) (h.msixWrite.ite h.writeReg))))))

theorem State.Wf.hostRead {s : State} (h : s.Wf) {p} {a} {size} : (s.hostRead p a size).Wf := h.inBlk (fun _ h => h.onPort (fun _ h => h.send))

theorem State.Wf.regWrite {s : State} (h : s.Wf) {g} {a} {size} {v} {poisoned} : (s.regWrite g a size v poisoned).Wf := by
  unfold State.regWrite
  split
  · exact h.coreWrite
  · exact h.coreWrite
  · exact h.hostWrite
  · exact h

theorem execRegisterWrite_wf {s : State} {g} {a} {size} {v} (h : s.Wf) : Outcome.Wf (execRegisterWrite g a size v s) := State.Wf.next (h.wakeCores.regWrite.wakeCores)

theorem execSplitLowRead_wf {s : State} {p} (h : s.Wf) : Outcome.Wf (execSplitLowRead p s) := State.Wf.next (h.unstarted.send.ite h.updDev.send)

theorem execUnmappedAccess_wf {s : State} {g} {a} {k} (h : s.Wf) : Outcome.Wf (execUnmappedAccess g a k s) := by
  unfold execUnmappedAccess
  refine State.Wf.next ?_
  split
  · exact h.ite h.hostRead
  · exact h.ite (h.accFault.ite h.loadFault.send)

theorem execUnstartedBlockAccess_wf {s : State} {a} {write} (h : s.Wf) : Outcome.Wf (execUnstartedBlockAccess a write s) := State.Wf.next (h.ite (h.unstarted.ite h.unstarted.send))

/-! ### The operations of Sys2Proof/Machine/Tick.lean -/

theorem State.Wf.dropResv {s : State} (h : s.Wf) : (s.dropResv).Wf := h.updEng

theorem State.Wf.coreRuns {s : State} (h : s.Wf) {n} : (s.coreRuns n).Wf := by
  unfold State.coreRuns
  split
  · exact h
  · split
    next x m t e =>
      have ht := h.free.of_pair e
      split
      next x1 m1 t1 e1 =>
        have ht1 := ht.free.of_pair e1
        split
        next x2 m2 t2 e2 =>
          have ht2 := ht1.free.of_pair e2
          exact ht2.setCore

theorem State.Wf.mainTick {s : State} (h : s.Wf) : (s.mainTick).Wf := h.setMtime.cyclesPass.foldl (fun _ h _ => h.coreRuns)

theorem State.Wf.fenceTick {s : State} (h : s.Wf) : (s.fenceTick).Wf := h.mir

theorem State.Wf.wqTick {s : State} (h : s.Wf) : (s.wqTick).Wf := h.updBuf

theorem State.Wf.tick {s : State} (h : s.Wf) :
    (s.tick).Wf := (((((h.setAont.ite h.setAont.mainTick).wqTick).fenceTick).walkSet).dropResv).wakeCores

/-! ### The operations of Sys2Proof/Machine/Step.lean -/

theorem State.Wf.withFetchWord {s : State} (h : s.Wf) {nbits} {w} : (s.withFetchWord nbits w).Wf := by
  unfold State.withFetchWord
  split
  · exact h.pending
  · exact h

/-! ### Every command, and every step -/

theorem exec_wf {s : State} (h : s.Wf) (c : Instr) : Outcome.Wf (exec c s) := by
  cases c with
  | registerWrite _ _ _ _ => exact execRegisterWrite_wf h
  | commit _ => exact execCommit_wf h
  | shadowApply _ => exact execShadowApply_wf h
  | splitLowRead _ => exact execSplitLowRead_wf h
  | unmappedAccess _ _ _ => exact execUnmappedAccess_wf h
  | unstartedBlockAccess _ _ => exact execUnstartedBlockAccess_wf h
  | hepEn _ _ => exact execHepEn_wf h
  | configurationRequest _ _ => exact execConfigurationRequest_wf h
  | completionTlp _ _ _ _ _ _ => exact execCompletionTlp_wf h
  | completionTimeout _ _ => exact execCompletionTimeout_wf h
  | quarantineHoldExpiry _ _ => exact execQuarantineHoldExpiry_wf h
  | cmbWrite _ _ _ _ => exact execCmbWrite_wf h
  | cmbRead _ _ _ => exact execCmbRead_wf h
  | peerWindowWrite _ _ _ _ _ => exact execPeerWindowWrite_wf h
  | peerWindowRead _ off _ => exact execPeerWindowRead_wf (x := off) h
  | assemblyTimeout _ _ => exact execAssemblyTimeout_wf h
  | windowIdleBoundary _ => exact execWindowIdleBoundary_wf h
  | forcedBoundary _ => exact execForcedBoundary_wf h
  | cntClr _ => exact execCntClr_wf h
  | flr _ => exact execFlr_wf h
  | linkDown _ => exact execLinkDown_wf h
  | perst _ => exact execPerst_wf h
  | translationCompletion _ _ _ _ _ _ => exact execTranslationCompletion_wf h
  | invalidateRequest _ _ _ _ => exact execInvalidateRequest_wf h
  | invalidateCompletion _ => exact execInvalidateCompletion_wf h
  | atsEnableClear _ => exact execAtsEnableClear_wf h
  | msixVectorUnmask _ _ => exact execMsixVectorUnmask_wf h
  | cqHeadDoorbell _ _ _ _ => exact execCqHeadDoorbell_wf h
  | attentionButtonPress => exact execAttentionButtonPress_wf h
  | logPageC8 _ _ => exact execLogPageC8_wf h
  | sqDoorbell _ _ _ _ => exact execSqDoorbell_wf h
  | arbitrationGrant => exact execArbitrationGrant_wf h
  | commandIntake _ _ _ => exact execCommandIntake_wf h
  | overlapWaitEnd _ => exact execOverlapWaitEnd_wf h
  | bufferSlotWaitEnd _ => exact execBufferSlotWaitEnd_wf h
  | writeDataBuffered _ => exact execWriteDataBuffered_wf h
  | writeCompletionRelease _ => exact execWriteCompletionRelease_wf h
  | controllerEnable _ => exact execControllerEnable_wf h
  | controllerReset _ => exact execControllerReset_wf h
  | createIoSubmissionQueue _ _ _ _ _ _ => exact execCreateIoSubmissionQueue_wf h
  | createIoCompletionQueue _ _ _ _ _ _ => exact execCreateIoCompletionQueue_wf h
  | deleteIoSubmissionQueue _ _ => exact execDeleteIoSubmissionQueue_wf h
  | deleteIoCompletionQueue _ _ => exact execDeleteIoCompletionQueue_wf h
  | getLogPage _ _ v _ => exact execGetLogPage_wf (x := v) h
  | ledgerLogPage _ _ _ => exact execLedgerLogPage_wf h
  | bootChainLogPage _ _ _ => exact execBootChainLogPage_wf h
  | eventLogPage _ _ _ => exact execEventLogPage_wf h
  | identify _ _ => exact execIdentify_wf h
  | abort _ _ _ => exact execAbort_wf h
  | setFeatures _ _ _ => exact execSetFeatures_wf h
  | getFeatures _ _ => exact execGetFeatures_wf h
  | asynchronousEventRequest _ => exact execAsynchronousEventRequest_wf h
  | namespaceCreate _ _ _ _ _ => exact execNamespaceCreate_wf h
  | namespaceDelete _ _ => exact execNamespaceDelete_wf h
  | namespaceAttachment _ _ _ _ => exact execNamespaceAttachment_wf h
  | firmwareImageDownload _ _ _ _ => exact execFirmwareImageDownload_wf h
  | firmwareCommitWrite _ _ => exact execFirmwareCommitWrite_wf h
  | firmwareCommitWriteTrial _ _ => exact execFirmwareCommitWriteTrial_wf h
  | firmwareCommitTrialInPlace _ _ => exact execFirmwareCommitTrialInPlace_wf h
  | firmwareCommitResetRequired _ _ => exact execFirmwareCommitResetRequired_wf h
  | formatNvm _ _ _ _ => exact execFormatNvm_wf h
  | securitySend _ _ _ => exact execSecuritySend_wf h
  | securityReceive _ _ _ => exact execSecurityReceive_wf h
  | sanitizeCryptoErase _ => exact execSanitizeCryptoErase_wf h
  | sanitizeBlockErase _ => exact execSanitizeBlockErase_wf h
  | deviceSelfTest _ _ => exact execDeviceSelfTest_wf h
  | flush _ => exact execFlush_wf h
  | write _ _ _ => exact execWrite_wf h
  | read _ _ _ => exact execRead_wf h
  | writeZeroes _ => exact execWriteZeroes_wf h
  | compare _ _ _ _ => exact execCompare_wf h
  | datasetManagement _ => exact execDatasetManagement_wf h
  | verify _ _ _ => exact execVerify_wf h
  | reservationRegister _ _ _ _ => exact execReservationRegister_wf h
  | reservationReport _ => exact execReservationReport_wf h
  | reservationAcquire _ _ _ _ _ => exact execReservationAcquire_wf h
  | reservationRelease _ _ _ => exact execReservationRelease_wf h
  | zoneClose _ => exact execZoneClose_wf h
  | zoneFinish _ => exact execZoneFinish_wf h
  | zoneOpen _ => exact execZoneOpen_wf h
  | zoneReset _ => exact execZoneReset_wf h
  | zoneOffline _ => exact execZoneOffline_wf h
  | zoneManagementReceive _ => exact execZoneManagementReceive_wf h
  | zoneAppend _ _ _ => exact execZoneAppend_wf h
  | ciuEn _ => exact execCiuEn_wf h
  | bufferSlotRelease _ => exact execBufferSlotRelease_wf h
  | abortLookup _ _ => exact execAbortLookup_wf h
  | ldgEn _ _ => exact execLdgEn_wf h
  | bufDdrEn _ => exact execBufDdrEn_wf h
  | ddrTrainingEnd _ => exact execDdrTrainingEnd_wf h
  | dramFill _ => exact execDramFill_wf h
  | patrolScrub => exact execPatrolScrub_wf h
  | postPackageRepair _ _ _ => exact execPostPackageRepair_wf h
  | repairEnd _ => exact execRepairEnd_wf h
  | brambleAccess _ _ _ _ => exact execBrambleAccess_wf h
  | pipPrefetch _ => exact execPipPrefetch_wf h
  | evictionAccept => exact execEvictionAccept_wf h
  | evictionDone => exact execEvictionDone_wf h
  | clean _ _ => exact execClean_wf h
  | invalidate _ _ => exact execInvalidate_wf h
  | cleanAndInvalidate _ _ => exact execCleanAndInvalidate_wf h
  | maintenanceEnd => exact execMaintenanceEnd_wf h
  | brambleDisable => exact execBrambleDisable_wf h
  | disableWalkEnd => exact execDisableWalkEnd_wf h
  | brambleEnable => exact execBrambleEnable_wf h
  | sramInit _ => exact execSramInit_wf h
  | sramInitEnd => exact execSramInitEnd_wf h
  | spareRow _ _ _ => exact execSpareRow_wf h
  | spareRowEnd => exact execSpareRowEnd_wf h
  | flipArm _ _ => exact execFlipArm_wf h
  | btlEn _ => exact execBtlEn_wf h
  | openRecord _ _ _ _ _ _ => exact execOpenRecord_wf h
  | commitRecord _ _ _ _ _ _ _ => exact execCommitRecord_wf h
  | resetRecord _ _ _ => exact execResetRecord_wf h
  | retireRecord _ _ _ => exact execRetireRecord_wf h
  | mcPutRecord _ _ _ _ _ => exact execMcPutRecord_wf h
  | zoneWpRecord _ _ _ _ => exact execZoneWpRecord_wf h
  | sealRecord _ _ _ => exact execSealRecord_wf h
  | checkpointRecord _ _ _ => exact execCheckpointRecord_wf h
  | modeRecord _ _ => exact execModeRecord_wf h
  | headFailRecord _ => exact execHeadFailRecord_wf h
  | refreshQueueRead => exact execRefreshQueueRead_wf h
  | coreRun _ _ => exact execCoreRun_wf h
  | mtimeCompare _ => exact execMtimeCompare_wf h
  | ipiSet _ => exact execIpiSet_wf h
  | ipiClear _ => exact execIpiClear_wf h
  | interruptClaim _ => exact execInterruptClaim_wf h
  | interruptComplete _ _ => exact execInterruptComplete_wf h
  | wfi _ _ => exact execWfi_wf h
  | fenceI _ => exact execFenceI_wf h
  | lrScAmo _ _ _ _ _ _ => exact execLrScAmo_wf h
  | controlStoreLoad _ _ _ => exact execControlStoreLoad_wf h
  | controlStoreLoadEnd => exact execControlStoreLoadEnd_wf h
  | csStart _ _ => exact execCsStart_wf h
  | csStop _ => exact execCsStop_wf h
  | kill _ => exact execKill_wf h
  | abandon _ => exact execAbandon_wf h
  | spareCsBind _ _ _ _ => exact execSpareCsBind_wf h
  | spareQeBind _ _ => exact execSpareQeBind_wf h
  | qeStart _ => exact execQeStart_wf h
  | qeStop _ => exact execQeStop_wf h
  | qeTrigger _ _ => exact execQeTrigger_wf h
  | waitEnd _ _ => exact execWaitEnd_wf h
  | jump _ _ => exact execJump_wf h
  | cond1 _ _ _ => exact execCond1_wf h
  | cond2 _ _ _ _ => exact execCond2_wf h
  | cond3 _ _ _ _ _ => exact execCond3_wf h
  | cond4 _ _ _ _ _ _ => exact execCond4_wf h
  | call _ _ _ => exact execCall_wf h
  | ret _ => exact execRet_wf h
  | dispatch _ _ => exact execDispatch_wf h
  | loop _ _ => exact execLoop_wf h
  | halt _ => exact execHalt_wf h
  | aMov _ _ _ => exact execAMov_wf h
  | aLdi _ _ _ => exact execALdi_wf h
  | aLdh _ _ _ => exact execALdh_wf h
  | aAdd _ _ _ => exact execAAdd_wf h
  | aAddi _ _ _ => exact execAAddi_wf h
  | aSub _ _ _ => exact execASub_wf h
  | aAnd _ _ _ => exact execAAnd_wf h
  | aOr _ _ _ => exact execAOr_wf h
  | aXor _ _ _ => exact execAXor_wf h
  | aShr _ _ _ => exact execAShr_wf h
  | aShl _ _ _ => exact execAShl_wf h
  | aLdd _ _ _ => exact execALdd_wf h
  | aStd _ _ _ => exact execAStd_wf h
  | aLdlc _ _ => exact execALdlc_wf h
  | aCmp _ _ _ => exact execACmp_wf h
  | armRead _ => exact execArmRead_wf h
  | armWrite _ => exact execArmWrite_wf h
  | sector _ => exact execSector_wf h
  | replay _ _ _ => exact execReplay_wf h
  | zone _ _ => exact execZone_wf h
  | assist _ _ => exact execAssist_wf h
  | disarm _ => exact execDisarm_wf h
  | dmaFetch _ => exact execDmaFetch_wf h
  | fetchRaw _ => exact execFetchRaw_wf h
  | store _ => exact execStore_wf h
  | post _ _ => exact execPost_wf h
  | take _ => exact execTake_wf h
  | select _ => exact execSelect_wf h
  | ringFetch _ _ => exact execRingFetch_wf h
  | forward _ _ _ => exact execForward_wf h
  | complete _ _ _ _ => exact execComplete_wf h
  | ringError _ _ => exact execRingError_wf h
  | fetchSqe _ _ _ => exact execFetchSqe_wf h
  | tx _ _ => exact execTx_wf h
  | rx _ _ _ _ _ => exact execRx_wf h
  | postCqe _ => exact execPostCqe_wf h
  | msix _ => exact execMsix_wf h
  | prefetch _ _ => exact execPrefetch_wf h
  | alloc _ => exact execAlloc_wf h
  | release _ => exact execRelease_wf h
  | insert _ => exact execInsert_wf h
  | search _ => exact execSearch_wf h
  | remove _ => exact execRemove_wf h
  | appendAccepted _ => exact execAppendAccepted_wf h
  | ldgState _ _ => exact execLdgState_wf h
  | ldgFlags _ _ => exact execLdgFlags_wf h
  | lookup _ => exact execLookup_wf h
  | publish _ => exact execPublish_wf h
  | window _ => exact execWindow_wf h
  | demod _ => exact execDemod_wf h
  | pes _ => exact execPes_wf h
  | trigger _ _ _ _ _ => exact execTrigger_wf h
  | stamp _ => exact execStamp_wf h
  | wclk _ _ => exact execWclk_wf h
  | subRead _ => exact execSubRead_wf h
  | subWrite _ => exact execSubWrite_wf h
  | copyXor _ => exact execCopyXor_wf h
  | copyLog _ => exact execCopyLog_wf h
  | subVerify _ => exact execSubVerify_wf h
  | drv _ _ => exact execDrv_wf h
  | sample _ _ _ => exact execSample_wf h
  | vault _ => exact execVault_wf h
  | sloe _ _ _ => exact execSloe_wf h
  | qNop _ => exact execQNop_wf h
  | qClr _ _ => exact execQClr_wf h
  | qLda _ _ _ => exact execQLda_wf h
  | qLdp _ _ _ _ => exact execQLdp_wf h
  | qLds _ _ _ => exact execQLds_wf h
  | qSts _ _ _ => exact execQSts_wf h
  | qAdds _ _ _ => exact execQAdds_wf h
  | qMpy _ _ _ _ => exact execQMpy_wf h
  | qMac _ _ _ _ => exact execQMac_wf h
  | qMsu _ _ _ _ => exact execQMsu_wf h
  | qMpyx _ _ _ _ => exact execQMpyx_wf h
  | qMacx _ _ _ _ => exact execQMacx_wf h
  | qAdda _ _ => exact execQAdda_wf h
  | qSuba _ _ => exact execQSuba_wf h
  | qSha _ _ _ => exact execQSha_wf h
  | qClamp _ _ _ => exact execQClamp_wf h
  | qMov _ _ _ => exact execQMov_wf h
  | qLdi _ _ _ => exact execQLdi_wf h
  | qLdc _ _ _ => exact execQLdc_wf h
  | qIn _ _ _ => exact execQIn_wf h
  | qOut _ _ _ => exact execQOut_wf h
  | qAdd _ _ _ _ => exact execQAdd_wf h
  | qSub _ _ _ _ => exact execQSub_wf h
  | qMul _ _ _ _ => exact execQMul_wf h
  | qSth _ _ _ => exact execQSth_wf h
  | qStl _ _ _ => exact execQStl_wf h
  | qLim _ _ _ _ => exact execQLim_wf h
  | qAbs _ _ _ => exact execQAbs_wf h
  | qAnd _ _ _ _ => exact execQAnd_wf h
  | qOr _ _ _ _ => exact execQOr_wf h
  | qCmp _ _ _ => exact execQCmp_wf h
  | qCmpa _ _ => exact execQCmpa_wf h
  | qJmp _ _ => exact execQJmp_wf h
  | qBr _ _ _ => exact execQBr_wf h
  | qSig _ _ => exact execQSig_wf h
  | qEnd _ => exact execQEnd_wf h
  | illegalInstruction _ => exact execIllegalInstruction_wf h
  | mwrEn _ => exact execMwrEn_wf h
  | doorbell _ _ => exact execDoorbell_wf h
  | errorEntry _ => exact execErrorEntry_wf h
  | ringEnable _ => exact execRingEnable_wf h
  | ringDisable _ => exact execRingDisable_wf h
  | drainEnd _ => exact execDrainEnd_wf h
  | abortComplete _ => exact execAbortComplete_wf h
  | abortCompleteEnd _ => exact execAbortCompleteEnd_wf h
  | resume _ => exact execResume_wf h
  | clrOvr _ => exact execClrOvr_wf h
  | withdraw _ _ => exact execWithdraw_wf h
  | withdrawScanEnd => exact execWithdrawScanEnd_wf h
  | formatterRead _ => exact execFormatterRead_wf h
  | formatterWrite _ => exact execFormatterWrite_wf h
  | readCheck _ => exact execReadCheck_wf h
  | readRaw _ _ => exact execReadRaw_wf h
  | seek _ => exact execSeek_wf h
  | follow _ => exact execFollow_wf h
  | armMate _ => exact execArmMate_wf h
  | unload _ => exact execUnload_wf h
  | load _ => exact execLoad_wf h
  | copy _ => exact execCopy_wf h
  | bandVerify _ _ => exact execBandVerify_wf h
  | xor _ => exact execXor_wf h
  | log _ => exact execLog_wf h
  | portLog => exact execPortLog_wf h
  | start => exact execStart_wf h
  | stop => exact execStop_wf h
  | tier => exact execTier_wf h
  | retract => exact execRetract_wf h
  | measure => exact execMeasure_wf h
  | arm _ => exact execArm_wf h
  | save => exact execSave_wf h
  | restore => exact execRestore_wf h
  | scan => exact execScan_wf h
  | laneEn _ _ => exact execLaneEn_wf h
  | sectorStart _ _ _ => exact execSectorStart_wf h
  | sectorEnd _ => exact execSectorEnd_wf h
  | decodeEnd _ _ _ => exact execDecodeEnd_wf h
  | replayAttempt _ _ _ _ => exact execReplayAttempt_wf h
  | writeSector _ => exact execWriteSector_wf h
  | preampFault _ => exact execPreampFault_wf h
  | decoderFault _ _ => exact execDecoderFault_wf h
  | spareDecoderBind _ _ _ _ => exact execSpareDecoderBind_wf h
  | zoneTableCommit => exact execZoneTableCommit_wf h
  | preampControlFrame _ _ _ => exact execPreampControlFrame_wf h
  | srvEn _ => exact execSrvEn_wf h
  | samFound _ _ _ => exact execSamFound_wf h
  | windowEnd _ _ => exact execWindowEnd_wf h
  | demodDone _ _ _ => exact execDemodDone_wf h
  | faultHoldExpiry _ => exact execFaultHoldExpiry_wf h
  | mpdEn _ => exact execMpdEn_wf h
  | bemfCrossing _ _ => exact execBemfCrossing_wf h
  | pseudoStamp => exact execPseudoStamp_wf h
  | wedgeGapCheck _ => exact execWedgeGapCheck_wf h
  | measureEnd _ _ => exact execMeasureEnd_wf h
  | alignEnd => exact execAlignEnd_wf h
  | openLoopTimeout => exact execOpenLoopTimeout_wf h
  | holdTimeout => exact execHoldTimeout_wf h
  | reacquireTimeout => exact execReacquireTimeout_wf h
  | coastTimeout => exact execCoastTimeout_wf h
  | speedThreshold _ => exact execSpeedThreshold_wf h
  | driverTrip _ _ => exact execDriverTrip_wf h
  | retractParked _ => exact execRetractParked_wf h
  | retractTimeout _ => exact execRetractTimeout_wf h
  | harvestEnd _ => exact execHarvestEnd_wf h
  | railFault _ => exact execRailFault_wf h
  | lowvSet _ => exact execLowvSet_wf h
  | lowvClear _ => exact execLowvClear_wf h
  | governorTick _ _ => exact execGovernorTick_wf h
  | xtal32Detect _ => exact execXtal32Detect_wf h
  | xtal32Stop => exact execXtal32Stop_wf h
  | xtalBootRetry _ => exact execXtalBootRetry_wf h
  | sloeRequest _ _ _ => exact execSloeRequest_wf h
  | sloeFlush => exact execSloeFlush_wf h
  | domainStart => exact execDomainStart_wf h
  | domainOn => exact execDomainOn_wf h
  | domainStartFail _ => exact execDomainStartFail_wf h
  | domainStop => exact execDomainStop_wf h
  | sloeWaitTimeout => exact execSloeWaitTimeout_wf h
  | deviceStateRequest _ => exact execDeviceStateRequest_wf h
  | wake _ => exact execWake_wf h
  | wakeTimer => exact execWakeTimer_wf h
  | coreWdtFirstExpiry _ => exact execCoreWdtFirstExpiry_wf h
  | coreWdtSecondExpiry _ => exact execCoreWdtSecondExpiry_wf h
  | wdtKick _ _ => exact execWdtKick_wf h
  | sysWdtKick _ => exact execSysWdtKick_wf h
  | sysWdtExpiry => exact execSysWdtExpiry_wf h
  | por _ => exact execPor_wf h
  | resetN _ => exact execResetN_wf h
  | swrst _ => exact execSwrst_wf h
  | debugReset _ => exact execDebugReset_wf h
  | resetPerform _ => exact execResetPerform_wf h
  | bootRomRun => exact execBootRomRun_wf h
  | recoveryImageMessage _ _ _ => exact execRecoveryImageMessage_wf h
  | spdmGetCertificate _ => exact execSpdmGetCertificate_wf h
  | spdmChallenge _ _ => exact execSpdmChallenge_wf h
  | spdmGetMeasurements _ _ => exact execSpdmGetMeasurements_wf h
  | containerVerify _ => exact execContainerVerify_wf h
  | verifyEnd => exact execVerifyEnd_wf h
  | arbAdvance _ _ => exact execArbAdvance_wf h
  | arbAdvanceEnd => exact execArbAdvanceEnd_wf h
  | keyRevoke _ => exact execKeyRevoke_wf h
  | secLock => exact execSecLock_wf h
  | gen _ => exact execGen_wf h
  | keyLoad _ => exact execKeyLoad_wf h
  | clear _ => exact execClear_wf h
  | keyOperationEnd => exact execKeyOperationEnd_wf h
  | eflUnlock _ => exact execEflUnlock_wf h
  | program _ _ => exact execProgram_wf h
  | eraseRow _ => exact execEraseRow_wf h
  | eraseBlock _ => exact execEraseBlock_wf h
  | blankCheck _ _ => exact execBlankCheck_wf h
  | massErase _ => exact execMassErase_wf h
  | eflCommandEnd _ => exact execEflCommandEnd_wf h
  | suspend => exact execSuspend_wf h
  | suspendTakeEffect => exact execSuspendTakeEffect_wf h
  | eraseResume => exact execEraseResume_wf h
  | eflashWindowRead _ _ => exact execEflashWindowRead_wf h
  | rdpRaise _ _ => exact execRdpRaise_wf h
  | rdpLower _ => exact execRdpLower_wf h
  | conversionRequest _ => exact execConversionRequest_wf h
  | sensorScan => exact execSensorScan_wf h
  | aonSensorScan => exact execAonSensorScan_wf h
  | conversionEnd _ => exact execConversionEnd_wf h
  | throttleWindow => exact execThrottleWindow_wf h
  | restartWaitEnd => exact execRestartWaitEnd_wf h
  | calEn _ => exact execCalEn_wf h
  | calItemDue _ => exact execCalItemDue_wf h
  | calDue _ => exact execCalDue_wf h
  | calMeasurementStart => exact execCalMeasurementStart_wf h
  | calMeasurementEnd _ _ => exact execCalMeasurementEnd_wf h
  | calSubmit _ => exact execCalSubmit_wf h
  | calDiscard => exact execCalDiscard_wf h
  | calStarve _ => exact execCalStarve_wf h
  | evrEn => exact execEvrEn_wf h
  | evrScanEnd => exact execEvrScanEnd_wf h
  | eventEntry _ _ _ _ => exact execEventEntry_wf h
  | eventSubmit _ _ => exact execEventSubmit_wf h
  | recordProgram => exact execRecordProgram_wf h
  | operatingMinuteEnd => exact execOperatingMinuteEnd_wf h
  | freezeTimeout => exact execFreezeTimeout_wf h
  | eventClear _ _ => exact execEventClear_wf h
  | plvEn _ _ _ _ => exact execPlvEn_wf h
  | powerLossDetect => exact execPowerLossDetect_wf h
  | energyOkFall => exact execEnergyOkFall_wf h
  | vaultPageProgrammed _ => exact execVaultPageProgrammed_wf h
  | dumpEnd => exact execDumpEnd_wf h
  | railsOff => exact execRailsOff_wf h
  | mirEn _ => exact execMirEn_wf h
  | hello _ _ _ => exact execHello_wf h
  | writeFrame _ _ => exact execWriteFrame_wf h
  | servoFrame _ _ => exact execServoFrame_wf h
  | keyFrame _ _ => exact execKeyFrame_wf h
  | idleFrame _ => exact execIdleFrame_wf h
  | ackTimeout => exact execAckTimeout_wf h
  | resync => exact execResync_wf h
  | resyncEnd => exact execResyncEnd_wf h
  | keyExchange _ => exact execKeyExchange_wf h
  | autoTakeover => exact execAutoTakeover_wf h
  | takeoverLinesHigh => exact execTakeoverLinesHigh_wf h
  | takeoverAbandon => exact execTakeoverAbandon_wf h
  | fenced _ => exact execFenced_wf h
  | ownLineChange _ _ => exact execOwnLineChange_wf h
  | pcieLinkUp _ _ _ => exact execPcieLinkUp_wf h
  | medlarLinkUp => exact execMedlarLinkUp_wf h
  | resetNRelease _ => exact execResetNRelease_wf h
  | perstRelease _ => exact execPerstRelease_wf h
  | attentionButtonRelease => exact execAttentionButtonRelease_wf h
  | coalescingTimeExpiry _ _ => exact execCoalescingTimeExpiry_wf h
  | crystalFailure => exact execCrystalFailure_wf h
  | retractWaitEnd => exact execRetractWaitEnd_wf h

theorem step_wf {s : State} (h : s.Wf) : Outcome.Wf (step s) := by
  unfold step
  split
  · exact h.tick.next
  · exact exec_wf h.pending _

/-- Settles O5: every operation of the model keeps the state well formed, because it changes registers, values in force, memory and the eFlash
array through `setF`, `setG`, `setBytes` and `eflSetBytes` only. -/
theorem stepKeepsWf : Obligations.StepKeepsWf := by
  unfold Obligations.StepKeepsWf
  intro s t hs e
  exact step_wf hs t e
end Sys2Proof.Machine

/-!
COMMIT and the boundaries of groups: what a group that takes force leaves, and the proof of O9.
-/
namespace Sys2Proof.Machine
set_option Elab.async false

@[simp] theorem State.g_setB (s : State) (x y : Fld) (i j : Nat) (v : Bool) : (s.setB x i v).g y j = s.g y j := s.g_setF _ _ _ _ _

@[simp] theorem State.g_setFs (s : State) (i : Nat) (l : List (Fld × Nat)) (y : Fld) (j : Nat) : (s.setFs i l).g y j = s.g y j := by
  unfold State.g
  rw [State.setFs_force]

@[simp] theorem State.f_apply (s : State) (x : Fld) (i : Nat) (y : Fld) (j : Nat) : (s.apply x i).f y j = s.f y j := s.f_setG _ _ _ _ _

@[simp] theorem State.apply_mem (s : State) (x : Fld) (i : Nat) : (s.apply x i).mem = s.mem := s.setG_mem _ _ _

/-- A group of shadows that takes force changes no register field. -/
@[simp] theorem State.f_applyAll (s : State) (l : List Fld) (i : Nat) (y : Fld) (j : Nat) : (s.applyAll l i).f y j = s.f y j :=
  List.foldlRecOn (motive := fun t : State => t.f y j = s.f y j) l _ rfl fun t ht x _ => (t.f_apply x i y j).trans ht

@[simp] theorem State.applyAll_mem (s : State) (l : List Fld) (i : Nat) : (s.applyAll l i).mem = s.mem :=
  List.foldlRecOn (motive := fun t : State => t.mem = s.mem) l _ rfl fun t ht x _ => (t.apply_mem x i).trans ht

theorem State.g_applyAll_not_mem (s : State) {l : List Fld} (i : Nat) {y : Fld} (hy : y ∉ l) (j : Nat) : (s.applyAll l i).g y j = s.g y j :=
  List.foldlRecOn (motive := fun t : State => t.g y j = s.g y j) l _ rfl fun t ht x hx =>
    (t.g_setG_other x y i j _ (.inl fun e => hy (e ▸ hx))).trans ht

/-- Each shadow of a group that takes force is the value in force. -/
theorem State.g_applyAll (s : State) {l : List Fld} {i : Nat} (hi : i < 2048) {y : Fld} (hy : y ∈ l) :
    (s.applyAll l i).g y i = s.f y i % 2 ^ y.width := by
  induction l generalizing s with
  | nil => exact absurd hy List.not_mem_nil
  | cons x r ih =>
    by_cases h : y ∈ r
    · exact (ih (s.apply x i) h).trans (by rw [State.f_apply])
    · obtain rfl : y = x := (List.mem_cons.1 hy).resolve_right h
      exact (State.g_applyAll_not_mem (s.apply y i) i h i).trans (s.g_setG_same y i _ hi)

/-- A group that has taken force by `t`: its shadows in force, COMMIT_PEND 0, and no shadow and no byte of memory changed since `s`. -/
structure State.TookForce (s t : State) (l : List Fld) (i : Nat) : Prop where
  force : ∀ x ∈ l, t.g x i = s.f x i % 2 ^ x.width
  shadow : ∀ x ∈ l, t.f x i = s.f x i
  mem : t.mem = s.mem

theorem State.applyAll_tookForce (s : State) (l : List Fld) {i : Nat} (hi : i < 2048) : s.TookForce (s.applyAll l i) l i where
  force _ hx := s.g_applyAll hi hx
  shadow x _ := s.f_applyAll l i x i
  mem := s.applyAll_mem l i

/-- Fields set afterwards that are no shadows of the group change none of it. -/
theorem State.TookForce.setFs {s t : State} {l : List Fld} {i : Nat} (h : s.TookForce t l i) {j : Nat} {v : List (Fld × Nat)}
    (hv : ∀ e ∈ v, e.1 ∉ l) : s.TookForce (t.setFs j v) l i where
  force x hx := (State.g_setFs _ _ _ _ _).trans (h.force x hx)
  shadow x hx := (t.f_setFs_ne j i v x fun e he hc => hv e he (hc ▸ hx)).trans (h.shadow x hx)
  mem := (State.setFs_mem _ _ _).trans h.mem

theorem State.TookForce.setB {s t : State} {l : List Fld} {i : Nat} (h : s.TookForce t l i) {x : Fld} {j : Nat} {v : Bool} (hx : x ∉ l) :
    s.TookForce (t.setB x j v) l i :=
  h.setFs (v := [(x, v.toNat)]) (by simpa using hx)

theorem State.b_setB_false (s : State) (x : Fld) {i : Nat} (hi : i < 2048) : (s.setB x i false).b x i = false := by
  unfold State.b State.setB
  rw [State.f_setF_same _ _ _ _ hi]
  simp

theorem State.b_setFs_ne {s : State} {i j : Nat} {l : List (Fld × Nat)} {y : Fld} (h : ∀ e ∈ l, e.1 ≠ y) : (s.setFs i l).b y j = s.b y j :=
  congrArg (· != 0) (s.f_setFs_ne i j l y h)

theorem State.setFs_cons (s : State) (i : Nat) (e : Fld × Nat) (l : List (Fld × Nat)) : s.setFs i (e :: l) = (s.setF e.1 i e.2).setFs i l := rfl

theorem State.applyPw_tookForce (s : State) (p : Port) :
    s.TookForce (s.applyPw p) pwGroup p ∧ (s.applyPw p).b .HEP_PW_CTRL_COMMIT_PEND p = false := by
  have hp : p.val < 2048 := Nat.lt_trans p.isLt (by decide)
  have h := s.applyAll_tookForce pwGroup hp
  have hm : ∀ (c : Prop) [Decidable c], s.TookForce (if c then (s.applyAll pwGroup p).setFs p [(.HEP_PW_PROD_PROD, 0), (.HEP_PW_CONS_CONS, 0)]
      else s.applyAll pwGroup p) pwGroup p := fun c _ => by
    split
    · exact h.setFs (by simp [pwGroup])
    · exact h
  unfold State.applyPw
  refine ⟨(hm _).setFs (by simp [pwGroup]), ?_⟩
  rw [State.setFs_cons]
  exact (State.b_setFs_ne (by simp)).trans (State.b_setB_false _ _ hp)

theorem State.ztApply_tookForce (s : State) :
    s.TookForce s.ztApply [.CHN_ZT_BANK_SEL, .CHN_ZT_TIER] 0 ∧ s.ztApply.b .CHN_ZT_COMMIT_PEND 0 = false := by
  have h := (s.applyAll_tookForce [.CHN_ZT_BANK_SEL, .CHN_ZT_TIER] (i := 0) (by decide)).setB (x := .CHN_ZT_COMMIT_PEND) (j := 0)
    (v := false) (by decide)
  have hb := State.b_setB_false (s.applyAll [.CHN_ZT_BANK_SEL, .CHN_ZT_TIER] 0) .CHN_ZT_COMMIT_PEND (i := 0) (by decide)
  refine List.foldlRecOn (motive := fun t : State => s.TookForce t _ 0 ∧ t.b .CHN_ZT_COMMIT_PEND 0 = false) _ _
    ⟨h.setFs (by simp), (State.b_setFs_ne (by simp)).trans hb⟩ fun t ht k _ => ?_
  have hu : ∀ g, s.TookForce (t.updLane k g) [.CHN_ZT_BANK_SEL, .CHN_ZT_TIER] 0 := fun g => ⟨ht.1.force, ht.1.shadow, ht.1.mem⟩
  exact ⟨(hu _).setB (by decide), (State.b_setB_ne _ _ _ _ _ _ (by decide)).trans ht.2⟩

theorem State.groupApply_tookForce (s : State) (g : Group) :
    s.TookForce (s.groupApply g) (groupShadows g) (groupPend g).2 ∧ (s.groupApply g).b (groupPend g).1 (groupPend g).2 = false := by
  have one : ∀ (l : List Fld) (x : Fld) {i : Nat}, i < 2048 → x ∉ l →
      s.TookForce ((s.applyAll l i).setB x i false) l i ∧ ((s.applyAll l i).setB x i false).b x i = false :=
    fun l x i hi hx => ⟨(s.applyAll_tookForce l hi).setB hx, State.b_setB_false _ _ hi⟩
  cases g with
  | pw p => exact s.applyPw_tookForce p
  | sync l => exact one _ _ (Nat.lt_trans l.isLt (by decide)) (by decide)
  | zt => exact s.ztApply_tookForce
  | act a => exact one _ _ (Nat.lt_trans a.isLt (by decide)) (by decide)
  | qeBank n => exact one [.SRV_QE_CFG_BANK] _ (Nat.lt_trans n.isLt (by decide)) (by decide)
  | paBank =>
    obtain ⟨h, hb⟩ := one [.MPD_SPN_TBL_BANK] .MPD_SPN_TBL_COMMIT_PEND (i := 0) (by decide) (by decide)
    exact ⟨h.setFs (v := [(.MPD_SPN_TBL_ACTIVE, _)]) (by simp), (State.b_setFs_ne (l := [(.MPD_SPN_TBL_ACTIVE, _)]) (by simp [groupPend])).trans hb⟩
  | rdcfg => exact one _ _ (by decide) (by decide)

/-- Settles O9: COMMIT and the boundary by their definitions, the group that takes force by the rules of `applyAll`. -/
theorem commitAndBoundary : Obligations.CommitAndBoundary := by
  unfold Obligations.CommitAndBoundary
  refine ⟨fun g s => ?_, fun g s => ?_, fun g s x hx => ?_⟩
  · rw [exec_commit, execCommit, State.onBlk, State.commit]
    obtain ⟨x, i⟩ := groupPend g
    dsimp only
    cases s.blkOn (groupBlk g).1 (groupBlk g).2 with
    | false => rfl
    | true =>
      cases s.copyOk (groupBlk g).1 (groupBlk g).2 with
      | false => rfl
      | true =>
        cases s.b x i with
        | true => rfl
        | false =>
          cases s.commitBad g with
          | none => rfl
          | some y => rfl
  · rw [exec_shadowApply, execShadowApply, State.inBlk]
    cases s.blkOn (groupBlk g).1 (groupBlk g).2 <;> simp
  · obtain ⟨h, hb⟩ := s.groupApply_tookForce g
    exact ⟨h.force x hx, hb, h.shadow x hx, h.mem⟩
end Sys2Proof.Machine

/-!
Events: the four ways one can go on its way to the recorder, and the proof of O11.
-/
namespace Sys2Proof.Machine
set_option Elab.async false

theorem State.event_muted {s : State} {code a0 a1 a2 : Nat} (h : s.evrMuted code = true) : s.event code a0 a1 a2 = s := by
  unfold State.event State.evrEnter
  rw [if_pos h]

/-- A record that meets a full queue is dropped. -/
theorem State.evrPush_full {s : State} {r : EvRec} (h : s.evr.queue.length = 64) : s.evrPush r = s.evrDrop := by
  unfold State.evrPush
  rw [if_neg (by omega)]
  rfl

/-- An event at its limit is suppressed. -/
theorem State.event_suppressed {s : State} {code a0 a1 a2 : Nat} (hm : s.evrMuted code = false) (hr : s.b .EVR_STATUS_READY 0 = true)
    (hl : s.evrLimit code ≠ 0) (he : s.evrLimit code ≤ Tbl.get s.evr.entered 0 code) : s.event code a0 a1 a2 = s.evrSuppress code := by
  unfold State.event State.evrEnter
  rw [if_neg (Bool.eq_false_iff.1 hm)]
  dsimp only
  rw [if_pos hr, if_pos ⟨hl, he⟩]

theorem State.event_dropped {s : State} {code a0 a1 a2 : Nat} (hm : s.evrMuted code = false) (hl : s.evrLimit code = 0)
    (hq : s.evr.queue.length = 64) : s.event code a0 a1 a2 = s.evrDrop := by
  unfold State.event State.evrEnter
  rw [if_neg (Bool.eq_false_iff.1 hm)]
  dsimp only
  split
  · rw [if_neg (by omega), if_neg (by omega)]
    exact State.evrPush_full hq
  · exact State.evrPush_full hq

/-- An event below its limit enters a queue with room. -/
theorem State.event_entered {s : State} {code a0 a1 a2 : Nat} (hm : s.evrMuted code = false) (hr : s.b .EVR_STATUS_READY 0 = true)
    (hl : s.evrLimit code = 0 ∨ Tbl.get s.evr.entered 0 code < s.evrLimit code) (hq : s.evr.queue.length < 64) :
    s.event code a0 a1 a2 = (({ s with evr := { s.evr with entered := Tbl.upd s.evr.entered 0 code (· + 1) } } : State).evrPush
      (s.evrRecord code a0 a1 a2 false false)).setF .EVR_SEQ_NEXT 0 (s.f .EVR_SEQ_NEXT 0 + 1) := by
  unfold State.event State.evrEnter
  rw [if_neg (Bool.eq_false_iff.1 hm)]
  dsimp only
  rw [if_pos hr, if_neg (by omega), if_pos hq]
  rfl

theorem State.evrPush_queue {s : State} {r : EvRec} (h : s.evr.queue.length < 64) : (s.evrPush r).evr.queue = s.evr.queue ++ [r] := by
  unfold State.evrPush
  rw [if_pos h, State.setF_evr]

/-- The fields that an event may write are the event recorder's. -/
theorem not_mem_evrFlds {x : Fld} (h : x.info.blk ≠ .evr) : x ∉ evrFlds := by
  intro hx
  simp only [evrFlds, List.mem_cons, List.not_mem_nil, or_false] at hx
  obtain rfl | rfl | rfl | rfl | rfl := hx <;> exact h rfl

theorem State.event_out (s : State) (c a0 a1 a2 : Nat) : (s.event c a0 a1 a2).out = s.out := by
  obtain ⟨r, e, h⟩ := s.event_only c a0 a1 a2
  rw [h]

/-- Settles O11, by the four ways that an event can go: muted, suppressed, dropped, entered. -/
theorem eventsEnterTheRecorder : Obligations.EventsEnterTheRecorder := by
  unfold Obligations.EventsEnterTheRecorder
  refine ⟨fun s code a0 a1 a2 hm hr hl hq => ?_, fun s code a0 a1 a2 hm hr hl he => State.event_suppressed hm hr hl he,
    fun s code a0 a1 a2 hm => State.event_muted hm, fun s code a0 a1 a2 hm hl hq => State.event_dropped hm hl hq,
    fun s code a0 a1 a2 i x hx => ⟨s.event_f _ _ _ _ x i (not_mem_evrFlds hx), s.event_mem _ _ _ _, s.event_out _ _ _ _⟩⟩
  rw [State.event_entered hm hr hl hq]
  refine ⟨?_, State.f_setF_same _ _ _ _ (by decide), rfl, rfl⟩
  rw [State.setF_evr]
  exact State.evrPush_queue hq
end Sys2Proof.Machine

/-!
Register writes: the path of each agent and the branches of a field's write, and the proof of O8.
-/
namespace Sys2Proof.Machine
set_option Elab.async false

/-- What of the internal map a core that PMP lets, or the debug port with its grant, writes. -/
theorem State.coreWrite_regs {s : State} {g : Agent} {a size v : Nat} (hp : s.pmpOk g a size 1 = true)
    (hd : g ≠ .debug ∨ s.dbg 2 = true) (hr : inRegs a = true) :
    s.coreWrite g a size v = if size ≠ 4 ∨ a % 4 ≠ 0 then s.accFault g else s.regSpaceWrite g a v := by
  have hb : (!(decide (g ≠ .debug) || s.dbg 2)) = false := by
    obtain h | h := hd <;> simp [h]
  unfold State.coreWrite
  extract_lets dbg
  rw [if_neg (by simp [hp]), if_pos hr, if_neg (by simp only [dbg, hb]; decide)]

/-- An agent that may write reaches the internal map. -/
theorem State.regWrite_regs {s : State} {g : Agent} {a v : Nat} {po : Bool} (hm : s.mayWrite g a 4 = true) (hr : inRegs a = true)
    (ha : a % 4 = 0) : s.regWrite g a 4 v po = s.regSpaceWrite g a v := by
  have hs : ¬ (4 ≠ 4 ∨ a % 4 ≠ 0) := by omega
  cases g with
  | core n =>
    refine (State.coreWrite_regs (g := .core n) hm (.inl (by simp)) hr).trans (if_neg hs)
  | debug => exact (State.coreWrite_regs (g := .debug) rfl (.inr hm) hr).trans (if_neg hs)
  | host p => exact absurd hm Bool.false_ne_true
  | seq n => exact absurd hm Bool.false_ne_true
  | hepDma p => exact absurd hm Bool.false_ne_true
  | link => exact absurd hm Bool.false_ne_true

/-- A wrong size, or an offset that nothing occupies in a started block: the write is discarded, as a fault of a core. -/
theorem State.coreWrite_discarded {s : State} {g : Agent} {a size v : Nat} (hp : s.pmpOk g a size 1 = true)
    (hd : g ≠ .debug ∨ s.dbg 2 = true) (hr : inRegs a = true)
    (h : size ≠ 4 ∨ a % 4 ≠ 0 ∨ (s.blkOn (blkAt a).1 (blkAt a).2 = true ∧ emptyReg a = true)) :
    s.coreWrite g a size v = s.accFault g := by
  rw [State.coreWrite_regs hp hd hr]
  split
  next => rfl
  next hs =>
    obtain ⟨hon, he⟩ : s.blkOn (blkAt a).1 (blkAt a).2 = true ∧ emptyReg a = true :=
      (h.resolve_left fun e => hs (.inl e)).resolve_left fun e => hs (.inr e)
    rw [State.regSpaceWrite, onBlk_on hon, if_pos he]

theorem State.coreWrite_forbidden {s : State} {n : Core} {a size v : Nat} (h : s.pmpAllows n a size 1 = false) :
    s.coreWrite (.core n) a size v = s.accFault (.core n) := by
  unfold State.coreWrite
  extract_lets dbg
  rw [State.pmpOk, h, if_pos Bool.not_false]

theorem State.coreWrite_debug_ungranted {s : State} {a size v : Nat} (hd : s.dbg 2 = false) (hr : inRegs a = true) :
    s.coreWrite .debug a size v = s := by
  unfold State.coreWrite
  extract_lets dbg
  rw [if_neg (by simp [State.pmpOk]), if_pos hr, if_pos (by simp [dbg, hd])]

/-- A host's aligned write above the doorbells, outside the MSI-X table, goes to the fields of the vendor area. -/
theorem State.hostWrite_vendor {s : State} {p : Port} {a v : Nat} (hd : s.dom 3 = true) (hp : s.portOk p = true) (ha : a % 4 = 0)
    (h0 : 0x3008 ≤ a) (h1 : a < 0x8000) : s.regWrite (.host p) a 4 v false = s.writeReg (.host p) (vendorFields p a) v := by
  rw [State.regWrite, State.hostWrite, inBlk_on (b := .hep) (i := p) hd, State.onPort, if_pos hp, if_neg (by decide), if_neg (by omega), if_neg (by omega),
    if_neg (by omega), if_neg (by omega), Fin.ofNat_val_eq_self]

/-- CFG_ERR's copy of a block. -/
theorem cfgBlk_idx_lt (x : Fld) {i : Nat} (hi : i < 2048) : (x.cfgBlk i).idx < 2048 := by
  unfold Fld.cfgBlk
  split <;> try exact hi
  all_goals try exact Nat.zero_lt_succ _
  unfold Fld.laneOf
  split
  next h =>
    split at h
    · obtain rfl := Option.some.inj h
      exact Nat.lt_of_le_of_lt (Nat.div_le_self _ _) hi
    · simp at h
  next => exact Nat.zero_lt_succ _

/-- The blocks' CFG_ERR fields. -/
def cfgFlds : List Fld := [.HEP_STATUS_CFG_ERR, .CIU_STATUS_CFG_ERR, .LDG_STATUS_CFG_ERR, .BUF_STATUS_CFG_ERR, .BTL_STATUS_CFG_ERR,
  .ENG_STATUS_CFG_ERR, .MWR_STATUS_CFG_ERR, .CHN_STATUS_CFG_ERR, .CHN_COM_STATUS_CFG_ERR, .SRV_STATUS_CFG_ERR, .MPD_STATUS_CFG_ERR,
  .SUP_STATUS_CFG_ERR, .SEC_STATUS_CFG_ERR, .EFL_STATUS_CFG_ERR, .THM_STATUS_CFG_ERR, .CAL_STATUS_CFG_ERR, .EVR_STATUS_CFG_ERR,
  .PLV_STATUS_CFG_ERR, .MIR_STATUS_CFG_ERR]

theorem CfgBlk.fld_mem (b : CfgBlk) : b.fld ∈ cfgFlds := by cases b <;> simp [CfgBlk.fld, cfgFlds]

/-- CFG_ERR is one bit, of no change class that a write may be refused for, and no event writes it. -/
theorem cfgFlds_spec : ∀ x ∈ cfgFlds, x.info.cls ≠ .s ∧ x.info.cls ≠ .b ∧ x ∉ evrFlds ∧ x.width = 1 := by decide

theorem State.cfgErr_f {s : State} {b : CfgBlk} {a : Nat} {y : Fld} (j : Nat) (hy : b.fld ≠ y) (he : y ∉ evrFlds) :
    (s.cfgErr b a).f y j = s.f y j := by
  have h := s.f_setB_ne b.fld y b.idx j true hy
  unfold State.cfgErr
  dsimp only
  split
  · exact h
  · exact (State.event_f _ _ _ _ _ y j he).trans h

theorem State.b_setB_true (s : State) (x : Fld) {i : Nat} (hi : i < 2048) (hw : x.width = 1) : (s.setB x i true).b x i = true := by
  unfold State.b State.setB
  rw [State.f_setF_same _ _ _ _ hi, hw]
  rfl

theorem State.cfgErr_b {s : State} {b : CfgBlk} {a : Nat} (hi : b.idx < 2048) : (s.cfgErr b a).b b.fld b.idx = true := by
  have h := s.b_setB_true b.fld hi (cfgFlds_spec _ b.fld_mem).2.2.2
  unfold State.cfgErr
  dsimp only
  split
  · exact h
  · exact (State.event_b _ _ _ _ _ _ _ (cfgFlds_spec _ b.fld_mem).2.2.1).trans h

theorem evrFlds_cls {x : Fld} (h : x ∈ evrFlds) : x.info.cls ≠ .s ∧ x.info.cls ≠ .b := by
  simp only [evrFlds, List.mem_cons, List.not_mem_nil, or_false] at h
  obtain rfl | rfl | rfl | rfl | rfl := h <;> exact ⟨by decide, by decide⟩

/-- A refused write leaves every field of a class that a write may be refused for, and sets CFG_ERR. -/
theorem State.cfgErr_class {s : State} {b : CfgBlk} {a : Nat} {y : Fld} (hi : b.idx < 2048) (j : Nat) (hy : y.info.cls = .s ∨ y.info.cls = .b) :
    (s.cfgErr b a).f y j = s.f y j ∧ (s.cfgErr b a).b b.fld b.idx = true := by
  have hb := cfgFlds_spec _ b.fld_mem
  refine ⟨State.cfgErr_f j ?_ ?_, State.cfgErr_b hi⟩
  · rintro rfl
    exact hy.elim hb.1 hb.2.1
  · intro he
    have := evrFlds_cls he
    exact hy.elim this.1 this.2

/-- Settles O8: the path of each agent by the branches of `regWrite`, then the branches of `writeS`, `writeB` and `writeField`. -/
theorem registerWriteClasses : Obligations.RegisterWriteClasses := by
  unfold Obligations.RegisterWriteClasses
  refine ⟨fun g a size v po s => rfl, fun g a v po s hm hr ha hon hf => ?_, fun g a v po s hm hr ha hoff => ?_,
    fun n a size v po s hp hr h => ?_, fun n a size v po s hp => State.coreWrite_forbidden hp,
    fun a size v po s hd hr => State.coreWrite_debug_ungranted hd hr, fun p a size v s hd hp => ?_,
    fun g n p a size v po s hg => ?_, fun s x y i j v hx hi hv hh hy => ?_, fun s x i => ⟨if_pos rfl, if_pos rfl⟩,
    fun s x i v hh hm hv => ?_, fun s x y i j v hx hi hv hh hy => ?_, fun s x y i j v hv hh => ?_, fun s g x i v ho hw => ?_⟩
  · have he : (fieldsAt (blkAt a).1 a).isEmpty = false := by simpa using hf
    rw [State.regWrite_regs hm hr ha, State.regSpaceWrite, onBlk_on hon, if_neg (by simp [emptyReg, he]), if_neg (by simp [he])]
  · rw [State.regWrite_regs hm hr ha, State.regSpaceWrite, onBlk_off hoff]
  · exact ⟨State.coreWrite_discarded (g := .core n) hp (.inl (by simp)) hr h,
      fun hd => State.coreWrite_discarded (g := .debug) rfl (.inr hd) hr h⟩
  · refine ⟨?_, fun ha h0 h1 => State.hostWrite_vendor hd hp ha (by omega) h1, fun ha h0 h1 hf => ?_⟩
    · rw [State.regWrite, State.hostWrite, inBlk_on (b := .hep) (i := p) hd, State.onPort, if_pos hp, if_pos rfl]
    · rw [State.hostWrite_vendor hd hp ha h0 (by omega), hf]
      rfl
  · obtain rfl | rfl | rfl := hg <;> rfl
  · rw [State.writeS, if_neg hv, if_pos hh]
    exact State.cfgErr_class (cfgBlk_idx_lt x hi) j (.inl hy)
  · rw [State.writeS, if_neg hv, if_neg (by simp [hh]), if_neg (by tauto)]
  · rw [State.writeB, if_neg hv, if_pos hh]
    exact State.cfgErr_class (cfgBlk_idx_lt x hi) j (.inr hy)
  · have h : s.writeB x i v = s.setF x i v := by rw [State.writeB, if_neg hv, if_neg (by simp [hh])]
    exact ⟨h, by rw [h, State.g_setF]⟩
  · have h : s.writeField g x i v = match x.info.acc with
        | .rw => if x.info.cls = .b then s.writeB x i (bits v x.info.hi x.info.lo) else s.setF x i (bits v x.info.hi x.info.lo)
        | .w1c => s.setF x i (s.f x i - (s.f x i &&& bits v x.info.hi x.info.lo))
        | .w1s => s.setF x i (s.f x i ||| bits v x.info.hi x.info.lo)
        | .ro => s
        | .wo => s := by
      rw [State.writeField, ho, hw] <;> rfl
    refine ⟨fun ha => ?_, fun ha => ?_, fun ha => ?_, fun ha => ?_, fun ha hc => ?_⟩
    · rw [h, ha]
    · rw [h, ha]
    · rw [h, ha]
    · rw [h, ha]
    · rw [h, ha]
      exact if_neg hc
end Sys2Proof.Machine

/-!
Accesses with no effect of their own, and the proof of O10.
-/
namespace Sys2Proof.Machine
set_option Elab.async false

/-- The first access to a block that is not started, in a power-up, is shown and recorded; no core's fault changes. -/
theorem State.unstarted_first {s : State} {b : Blk} (h : Tbl.get s.dev.unstartSeen false b.num = false) :
    s.unstarted b = (({ s with dev := { s.dev with unstartSeen := Tbl.set s.dev.unstartSeen false b.num true } } : State).setF
      .SUP_UNSTART_BLK 0 (setBit (s.f .SUP_UNSTART_BLK 0) b.num true)).event 0xA00C 0 0 0 := by
  unfold State.unstarted
  rw [if_neg (Bool.eq_false_iff.1 h)]
  rfl

theorem State.event_dev (s : State) (c a0 a1 a2 : Nat) : (s.event c a0 a1 a2).dev = s.dev := by
  obtain ⟨r, e, h⟩ := s.event_only c a0 a1 a2
  rw [h]

/-- Settles O10: a pair's read by its two branches, an access by its agent, an access to a block that is not started by what the power-up has
recorded. -/
theorem accessesWithNoEffectOfTheirOwn : Obligations.AccessesWithNoEffectOfTheirOwn := by
  unfold Obligations.AccessesWithNoEffectOfTheirOwn
  refine ⟨fun p s h => ?_, fun p s h => ?_, fun g a k s hg => ?_, fun n s => ⟨rfl, rfl, rfl, rfl, rfl, rfl⟩,
    fun p a size write s => ⟨?_, fun o h0 h1 => ?_⟩, fun a s h0 h1 h => ?_, fun b s h => ⟨State.unstarted_first h, ?_⟩,
    fun b s h => if_pos h⟩
  · rw [exec_splitLowRead, execSplitLowRead, h, if_neg (by decide)]
    refine ⟨_, rfl, ?_, rfl⟩
    rw [State.pairHigh]
    show (Tbl.get (Tbl.set s.dev.latch none (pairKey p) (some (s.pairHalves p).2)) none (pairKey p)).getD _ = _
    rw [Tbl.get_set_same]
    rfl
  · rw [exec_splitLowRead, execSplitLowRead, h]
    rfl
  · rw [exec_unmappedAccess]
    unfold execUnmappedAccess
    cases g with
    | host p => exact absurd rfl (hg p)
    | _ => cases s.noTarget a.toNat k.size <;> rfl
  · rw [exec_unmappedAccess, execUnmappedAccess, State.hostRead, State.inBlk, State.onPort]
    cases write <;> cases hd : s.dom 3 <;> cases s.portOk p <;> simp [State.blkOn, hd]
  · rw [State.bar0, if_neg (by omega), if_neg (by omega), if_pos h1]
  · grind [exec_unstartedBlockAccess, execUnstartedBlockAccess]
  · rw [State.unstarted_first h, State.event_dev, State.setF_dev]
end Sys2Proof.Machine

/-!
Port control, and the proof of O12.
-/
namespace Sys2Proof.Machine
set_option Elab.async false

@[simp] theorem State.cfgErrAt_eq (s : State) (b : CfgBlk) (x : Fld) (i : Nat) : s.cfgErrAt b x i = s.cfgErr b (x.addr i) := rfl

@[simp] theorem State.hp_setF (s : State) (x : Fld) (i v p : Nat) : (s.setF x i v).hp p = s.hp p := by rw [State.hp, State.setF_hep]; rfl

@[simp] theorem State.hp_setQuar (s : State) (p : Nat) (q : List Quar) : (s.setQuar p q).hp p = { s.hp p with quar := q } := by
  rw [State.setQuar, State.hp_setF, State.hp_setHp_same]

@[simp] theorem State.ctrl_setCtrl_same (s : State) (p : Nat) (c : Ctrl) : (s.setCtrl p c).ctrl p = c := Tbl.get_set_same _ _ _ _

/-- CNT_CLR's four counters read 0, and every other field reads as before. -/
theorem State.f_cntClr (s : State) (p : Nat) (hp : p < 2048) (x : Fld) (i : Nat) :
    (s.setFs p [(.HEP_PW_DROP_A_STRADDLE, 0), (.HEP_PW_DROP_A_FULL, 0), (.HEP_PW_DROP_B_CHECK, 0), (.HEP_PW_DROP_B_TIMEOUT, 0)]).f x i =
      if i = p ∧ x ∈ [Fld.HEP_PW_DROP_A_STRADDLE, .HEP_PW_DROP_A_FULL, .HEP_PW_DROP_B_CHECK, .HEP_PW_DROP_B_TIMEOUT] then 0 else s.f x i := by
  simp only [State.setFs, List.foldl_cons, List.foldl_nil, State.f_setF _ _ _ _ _ _ hp, Nat.zero_mod]
  grind

/-- Settles O12: the enable's refusals by its branches, the counters by the rules of a field's set, what a reset of the function leaves by the rule of
the port's record. -/
theorem hostPortControl : Obligations.HostPortControl := by
  unfold Obligations.HostPortControl
  refine ⟨?_, ?_, ?_, ?_, ?_, ?_, ?_, ?_, ?_, ?_, ?_⟩
  · intro p v s
    grind [exec_hepEn, execHepEn, State.onBlk, State.onPort, State.blkOn]
  · intro p s h
    unfold State.hepEn
    rw [if_pos rfl, h, if_neg Bool.false_ne_true]
    exact ⟨fun hd => if_pos hd, fun hd => if_neg (Bool.eq_false_iff.1 hd)⟩
  · intro p s
    have hb : (s.setB .HEP_CTRL_EN p false).b .HEP_PW_CTRL_COMMIT_PEND p = s.b .HEP_PW_CTRL_COMMIT_PEND p :=
      State.b_setB_ne _ _ _ _ _ _ (by decide)
    unfold State.hepEn
    rw [if_pos rfl, if_neg Bool.false_ne_true]
    refine ⟨fun h => if_pos h, fun h => if_pos h, fun h => (if_neg (Bool.eq_false_iff.1 h)).trans ?_⟩
    dsimp only
    rw [hb]
  · intro p w x s
    constructor
    · grind [exec_configurationRequest, execConfigurationRequest, State.inBlk, State.onPort, State.blkOn]
    · grind [exec_configurationRequest, execConfigurationRequest, State.inBlk, State.onPort, State.blkOn]
  · intro p s b
    exact ⟨rfl, rfl, rfl, rfl, rfl, rfl, rfl, rfl, rfl⟩
  · intro p s x hd hp hx
    have hlt : p.val < 2048 := Nat.lt_trans p.isLt (by decide)
    have he : exec (.cntClr p) s = .next (s.setFs p [(.HEP_PW_DROP_A_STRADDLE, 0), (.HEP_PW_DROP_A_FULL, 0), (.HEP_PW_DROP_B_CHECK, 0),
        (.HEP_PW_DROP_B_TIMEOUT, 0)]) := by
      grind [exec_cntClr, execCntClr, State.onBlk, State.onPort, State.blkOn]
    refine ⟨_, he, ?_, ?_, ?_, ?_, fun i => ?_, State.setFs_mem _ _ _, State.setFs_hep _ _ _⟩ <;> rw [State.f_cntClr _ _ hlt] <;> simp [hx]
  · intro p s h
    constructor
    · grind [exec_flr, execFlr, State.onPort]
    · grind [exec_perst, execPerst, State.onPort]
  · intro p s
    exact ⟨rfl, rfl⟩
  · intro p s
    simp only [State.resetFunction, State.endRequests, State.hp_setHp_same, State.hp_setQuar, true_and]
    exact ⟨State.ctrl_setCtrl_same s p {}, rfl⟩
  · intro p s
    rfl
  · intro p s speed width h h1 h2 h3 h4
    grind [exec_pcieLinkUp, execPcieLinkUp]
end Sys2Proof.Machine

/-!
The Controller Memory Buffer and the peer window, and the proof of O14.
-/
namespace Sys2Proof.Machine
set_option Elab.async false

@[simp] theorem State.f_setHp (s : State) (p : Nat) (h : HepPort) (x : Fld) (i : Nat) : (s.setHp p h).f x i = s.f x i := rfl

/-- A peer write of one whole block goes to the checks of R67. -/
theorem State.peerBlocks_one (s : State) (p block : Nat) {d : List Byte} (h : d.length = 64) : s.peerBlocks p block 1 d = s.peerDeliver p block d := by
  rw [State.peerBlocks, State.peerBlocks, List.take_of_length_le (by omega)]

/-- A message that passes the checks, and finds room. -/
theorem State.peerDeliver_passed {s : State} {p block : Nat} {m : List Byte} (h : s.peerOk p (block * 64 / 4096) m = true)
    (hr : (s.f .HEP_PW_PROD_PROD p + 1) % 2 ^ s.g .HEP_PW_RING_SIZE_LOG2 p ≠ s.f .HEP_PW_CONS_CONS p) :
    ∃ x, s.peerDeliver p block m = ((s.wr (s.pwRing p + 64 * s.f .HEP_PW_PROD_PROD p) m).setF .HEP_PW_PROD_PROD p
      ((s.f .HEP_PW_PROD_PROD p + 1) % 2 ^ s.g .HEP_PW_RING_SIZE_LOG2 p)).setHp p x := by
  unfold State.peerDeliver
  dsimp only
  rw [h, if_neg (by decide), if_neg hr]
  split
  · exact ⟨_, rfl⟩
  · exact ⟨_, rfl⟩

/-- Where the ring moved or changed its size, the group that takes force empties it. -/
theorem State.applyPw_moved {s : State} {p : Nat} (hp : p < 2)
    (h : s.f .HEP_PW_RING_LO_BASE_LO p ≠ s.g .HEP_PW_RING_LO_BASE_LO p ∨ s.f .HEP_PW_RING_SIZE_LOG2 p ≠ s.g .HEP_PW_RING_SIZE_LOG2 p) :
    (s.applyPw p).f .HEP_PW_PROD_PROD p = 0 ∧ (s.applyPw p).f .HEP_PW_CONS_CONS p = 0 ∧ (s.applyPw p).b .HEP_PW_CTRL_COMMIT_PEND p = false := by
  have hi : p < 2048 := by omega
  have hm : [Fld.HEP_PW_RING_LO_BASE_LO, .HEP_PW_RING_HI_BASE_HI, .HEP_PW_RING_SIZE_LOG2].any (fun x => s.f x p != s.g x p) = true := by
    obtain h | h := h <;> simp [h]
  unfold State.applyPw
  simp only [State.b, State.setFs, List.foldl_cons, List.foldl_nil, hm, if_true]
  generalize s.applyAll pwGroup p = t
  simp [hi]

/-- Settles O14: each command by its branches; the checks, the ring and the applied group by the lemmas above. -/
theorem cmbAndPeerWindow : Obligations.CmbAndPeerWindow := by
  unfold Obligations.CmbAndPeerWindow
  refine ⟨?_, ?_, ?_, ?_, ?_, ?_, ?_, ?_, ?_, ?_, ?_, ?_⟩
  · intro p off data s h h1
    constructor
    · grind [exec_cmbWrite, execCmbWrite, State.onPort]
    · grind [exec_cmbWrite, execCmbWrite, State.onPort]
  · intro p off data s h h1
    grind [exec_cmbWrite, execCmbWrite, State.onPort]
  · intro p off len s h h1 h2 h3
    rw [exec_cmbRead, execCmbRead, State.onPort, if_pos h, if_pos h1, State.sendRead_one _ _ _ _ _ h3 h2, Fin.ofNat_val_eq_self]
  · intro p off len s h h1
    grind [exec_cmbRead, execCmbRead, State.onPort]
  · intro p off len s h
    grind [exec_peerWindowRead, execPeerWindowRead, State.onPort]
  · intro p off data s h hw ho hd
    rw [exec_peerWindowWrite, execPeerWindowWrite, State.onPort, if_pos h, State.peerWrite]
    dsimp only
    rw [hd, if_neg Bool.false_ne_true, if_neg (by omega), if_neg Bool.false_ne_true, if_neg (by decide), if_pos ⟨ho, by decide⟩,
      State.peerBlocks_one _ _ _ hd]
  · intro p off data c s h
    refine ⟨?_, ?_, ?_, ?_⟩
    · grind [exec_peerWindowWrite, execPeerWindowWrite, State.onPort, State.peerWrite]
    · grind [exec_peerWindowWrite, execPeerWindowWrite, State.onPort, State.peerWrite]
    · grind [exec_peerWindowWrite, execPeerWindowWrite, State.onPort, State.peerWrite]
    · grind [exec_peerWindowWrite, execPeerWindowWrite, State.onPort, State.peerWrite]
  · intro p block m s h hr hp
    obtain ⟨x, hx⟩ := State.peerDeliver_passed h hr
    rw [hx]
    exact ⟨State.f_setF_same _ _ _ _ (by omega), State.setF_mem _ _ _ _⟩
  · intro p block m s
    constructor
    · grind [State.peerDeliver]
    · grind [State.peerDeliver]
  · intro p slot s
    rfl
  · intro p s
    constructor
    · grind [exec_windowIdleBoundary, execWindowIdleBoundary]
    · grind [exec_forcedBoundary, execForcedBoundary]
  · intro p s hp h
    exact State.applyPw_moved hp h
end Sys2Proof.Machine

/-!
Vectors, completion heads and the attention button, and the proof of O15.
-/
namespace Sys2Proof.Machine
set_option Elab.async false

theorem mem_ports {s : State} {p : Port} (h : s.portOk p = true) : p.val ∈ s.ports := by
  unfold State.portOk at h
  unfold State.ports
  have := p.isLt
  cases hs : s.b .SUP_STRAP_PORT 0
  · simp_all
  · simp
    omega

theorem lt_of_mem_ports {s : State} {p : Nat} (h : p ∈ s.ports) : p < 2048 := by
  unfold State.ports at h
  split at h <;> simp at h <;> omega

theorem State.ports_of_f {s t : State} (h : t.f .SUP_STRAP_PORT 0 = s.f .SUP_STRAP_PORT 0) : t.ports = s.ports := by
  unfold State.ports State.b
  rw [h]

/-- Two one-bit fields set on each of some ports. -/
def State.setPorts (s : State) (l : List Nat) (x y : Fld) (v : Bool) : State := l.foldl (fun u p => (u.setB x p v).setB y p v) s

theorem State.setButton_eq (s : State) (v : Bool) : s.setButton v = s.setPorts s.ports .SLOT_STS_BTN .HEP_SLOT_BTN v := rfl

/-- On a port that is named the two fields read the value set; everything else reads as before. -/
theorem State.f_setPorts (s : State) {l : List Nat} {x y : Fld} {v : Bool} (hx : x.width = 1) (hy : y.width = 1) (hl : ∀ p ∈ l, p < 2048)
    (z : Fld) (i : Nat) : (s.setPorts l x y v).f z i = if i ∈ l ∧ (z = x ∨ z = y) then v.toNat else s.f z i := by
  induction l generalizing s with
  | nil => simp [State.setPorts]
  | cons e r ih =>
    have he : e < 2048 := hl e List.mem_cons_self
    have hv : v.toNat % 2 ^ 1 = v.toNat := by cases v <;> rfl
    show (((s.setB x e v).setB y e v).setPorts r x y v).f z i = _
    rw [ih _ fun p hp => hl p (List.mem_cons_of_mem _ hp), State.setB, State.f_setF _ _ _ _ _ _ he, State.setB, State.f_setF _ _ _ _ _ _ he,
      hx, hy, hv]
    grind

theorem State.b_setPorts {s : State} {l : List Nat} {x y : Fld} {v : Bool} (hx : x.width = 1) (hy : y.width = 1) (hl : ∀ p ∈ l, p < 2048)
    {p : Nat} (hp : p ∈ l) : (s.setPorts l x y v).b x p = v ∧ (s.setPorts l x y v).b y p = v := by
  have hv : (v.toNat != 0) = v := by cases v <;> rfl
  unfold State.b
  rw [State.f_setPorts s hx hy hl, State.f_setPorts s hx hy hl, if_pos ⟨hp, .inl rfl⟩, if_pos ⟨hp, .inr rfl⟩]
  exact ⟨hv, hv⟩

/-- The registers are all that changes. -/
theorem State.setPorts_only (s : State) (l : List Nat) (x y : Fld) (v : Bool) : ∃ r, s.setPorts l x y v = { s with regs := r } := by
  refine List.foldlRecOn (motive := fun t : State => ∃ r, t = { s with regs := r }) l _ ⟨s.regs, rfl⟩ fun t ht p _ => ?_
  obtain ⟨r, rfl⟩ := ht
  unfold State.setB State.setF
  split <;> exact ⟨_, rfl⟩

/-- What a press leaves: the latches and the button's state on every port, a press more; no strap, byte or message changes. -/
theorem State.press_spec (s : State) : ∃ u : State, s.press = u.event 0x100B 0 0 0 ∧
    (∀ p ∈ s.ports, u.b .SLOT_STS_ABP p = true ∧ u.b .HEP_SLOT_BTN_EV p = true ∧ u.b .SLOT_STS_BTN p = true) ∧
    u.f .SUP_STRAP_PORT 0 = s.f .SUP_STRAP_PORT 0 ∧ u.hep = { s.hep with presses := s.hep.presses + 1 } ∧ u.mem = s.mem ∧ u.out = s.out := by
  have hl : ∀ p ∈ s.ports, p < 2048 := fun _ => lt_of_mem_ports
  generalize ht : s.setPorts s.ports .SLOT_STS_BTN .HEP_SLOT_BTN true = t
  have htf := fun z i => State.f_setPorts s (x := .SLOT_STS_BTN) (y := .HEP_SLOT_BTN) (v := true) rfl rfl hl z i
  have htb : ∀ p ∈ s.ports, t.b .SLOT_STS_BTN p = true := fun p hp => ht ▸ (State.b_setPorts rfl rfl hl hp).1
  rw [ht] at htf
  have hp : t.ports = s.ports := State.ports_of_f ((htf _ _).trans (if_neg (by simp)))
  obtain ⟨r, hr⟩ := s.setPorts_only s.ports .SLOT_STS_BTN .HEP_SLOT_BTN true
  generalize hu : t.updHep (fun h => { h with presses := h.presses + 1 }) = u
  have huf : ∀ z i, u.f z i = t.f z i := fun z i => hu ▸ rfl
  have hv := fun z i => State.f_setPorts u (x := .SLOT_STS_ABP) (y := .HEP_SLOT_BTN_EV) (v := true) (l := s.ports) rfl rfl hl z i
  obtain ⟨r', hr'⟩ := u.setPorts_only s.ports .SLOT_STS_ABP .HEP_SLOT_BTN_EV true
  refine ⟨u.setPorts s.ports .SLOT_STS_ABP .HEP_SLOT_BTN_EV true, ?_, fun p hp => ?_, ?_, ?_, ?_, ?_⟩
  · unfold State.press
    rw [State.setButton_eq, ht]
    dsimp only
    rw [hu, show u.ports = s.ports from (hu ▸ rfl : u.ports = t.ports).trans hp]
    rfl
  · obtain ⟨h1, h2⟩ := State.b_setPorts (s := u) (x := .SLOT_STS_ABP) (y := .HEP_SLOT_BTN_EV) (v := true) rfl rfl hl hp
    refine ⟨h1, h2, ?_⟩
    unfold State.b
    rw [hv, if_neg (by simp), huf]
    exact htb p hp
  · rw [hv, if_neg (by simp), huf, htf, if_neg (by simp)]
  · rw [hr', ← hu, ← ht, hr]
    rfl
  · rw [hr', ← hu, ← ht, hr]
    rfl
  · rw [hr', ← hu, ← ht, hr]
    rfl

theorem State.event_hep (s : State) (c a0 a1 a2 : Nat) : (s.event c a0 a1 a2).hep = s.hep := by
  obtain ⟨r, e, h⟩ := s.event_only c a0 a1 a2
  rw [h]

/-- Settles O15: each command by its branches; the press and the release by what setting two fields on every port leaves. -/
theorem vectorsButtonsAndHeads : Obligations.VectorsButtonsAndHeads := by
  unfold Obligations.VectorsButtonsAndHeads
  refine ⟨?_, ?_, ?_, ?_, ?_, ?_, ?_, ?_⟩
  · intro p vec s
    grind [exec_msixVectorUnmask, execMsixVectorUnmask]
  · intro p q head s h
    constructor
    · grind [exec_cqHeadDoorbell, execCqHeadDoorbell, State.onPort]
    · grind [exec_cqHeadDoorbell, execCqHeadDoorbell, State.onPort]
  · intro p v s
    constructor
    · grind [State.settleVec]
    · rfl
  · intro p vec s
    rfl
  · intro s
    grind [exec_attentionButtonPress, execAttentionButtonPress]
  · intro p s h
    obtain ⟨u, hu, hb, hs, hh, hm, ho⟩ := s.press_spec
    obtain ⟨h1, h2, h3⟩ := hb p (mem_ports h)
    rw [hu, State.event_b _ _ _ _ _ _ _ (by simp [evrFlds]), State.event_b _ _ _ _ _ _ _ (by simp [evrFlds]),
      State.event_b _ _ _ _ _ _ _ (by simp [evrFlds]), State.event_hep, State.event_mem, State.event_out, hh]
    refine ⟨h1, h2, h3, rfl, ?_, hm, ho⟩
    exact State.ports_of_f ((State.event_f _ _ _ _ _ _ _ (by simp [evrFlds])).trans hs)
  · intro p s h
    obtain ⟨h1, h2⟩ := State.b_setPorts (s := s) (x := .SLOT_STS_BTN) (y := .HEP_SLOT_BTN) (v := false) rfl rfl
      (fun _ => lt_of_mem_ports) (mem_ports h)
    obtain ⟨r, hr⟩ := s.setPorts_only s.ports .SLOT_STS_BTN .HEP_SLOT_BTN false
    refine ⟨s.setPorts s.ports .SLOT_STS_BTN .HEP_SLOT_BTN false, rfl, h1, h2, ?_, ?_, ?_⟩ <;> rw [hr]
  · intro t s h
    constructor
    · rw [exec_logPageC8, execLogPageC8, State.onCmd_serving h]
      rfl
    · rw [exec_logPageC8, execLogPageC8, State.onCmd_serving h]
      rfl
end Sys2Proof.Machine

/-!
How requests to host memory end, and the proof of O13.
-/
namespace Sys2Proof.Machine
set_option Elab.async false

/-- A completion in good time for an outstanding request. -/
theorem State.completion_outstanding {s : State} {p tag : Nat} {d : List Byte} {good : Bool} {r : HostReq}
    (h : (s.hp p).reqs.find? (fun r => r.tag == tag) = some r) : s.completion p tag d good false false = s.cplOutstanding p r d good false := by
  unfold State.completion
  simp only [Bool.false_and, Bool.false_eq_true, if_false, h]

/-- A poisoned completion for a tag that is not in quarantine is logged first. -/
theorem State.completion_poisoned {s : State} {p tag : Nat} {d : List Byte} {good : Bool} {r : HostReq}
    (hq : (s.hp p).quar.any (fun q => q.tag == tag) = false)
    (h : ((s.poisonedTlp p).hp p).reqs.find? (fun r => r.tag == tag) = some r) :
    s.completion p tag d good true false = (s.poisonedTlp p).cplOutstanding p r d good true := by
  have hn : (s.hp p).quar.any (fun q => q.tag == tag && q.quiet) = false := by
    rw [List.any_eq_false] at hq ⊢
    intro q hm
    have := hq q hm
    simp_all
  unfold State.completion
  simp only [hn, Bool.not_false, Bool.and_self, if_true, Bool.false_eq_true, if_false, h]

theorem State.completion_late {s : State} {p tag : Nat} {d : List Byte} {good : Bool} {q : Quar}
    (hr : (s.hp p).reqs.find? (fun r => r.tag == tag) = none) (h : (s.hp p).quar.find? (fun q => q.tag == tag) = some q) :
    s.completion p tag d good false false = s.cplLate p q d.length good := by
  unfold State.completion
  simp only [Bool.false_and, Bool.false_eq_true, if_false, hr, h]

/-- The last data of a quarantined tag frees it. -/
theorem State.cplLate_last {s : State} {p n : Nat} {q : Quar} (h : q.remaining ≤ n) :
    s.cplLate p q n true = ((if q.quiet then s else ((s.aer p 1).inc .HEP_TAG_STAT_LATE p 1).event 0x1003 0 0 0).setQuar p
      (((if q.quiet then s else ((s.aer p 1).inc .HEP_TAG_STAT_LATE p 1).event 0x1003 0 0 0).hp p).quar.filter (fun x => x.tag != q.tag))).pump p := by
  unfold State.cplLate
  dsimp only
  rw [if_pos (by simp [h])]

/-- With no read waiting for a tag, the freed tag goes to none. -/
theorem State.pump_idle {s : State} {p : Nat} (h : (s.hp p).xwait = []) : s.pump p = s.setHp p { s.hp p with xwait := [] } := by
  unfold State.pump
  rw [h]
  rfl

theorem State.onTag_live {s : State} {tag : Nat} (h : s.tagLive tag = true) (hc : (s.cmd (tag / 8)).live = true) (g : State → State) :
    s.onTag tag g = g s := by
  rw [State.onTag, h, if_neg (by decide), if_pos hc]

theorem State.requestDone_data {s : State} {p tag dst cs : Nat} {d : List Byte} {r : HostReq} (h : r.kind = .data tag dst cs)
    (hx : (s.hp p).xwait = []) (ht : s.tagLive tag = true) (hc : (s.cmd (tag / 8)).live = true) :
    s.requestDone p r d = (let u := (s.dropReq p r.tag).pump p;
      ((u.wrTag dst d (some tag)).setCmd (tag / 8) { u.cmd (tag / 8) with moved := true }).raiseDone cs 0x45) := by
  have hw : ((s.dropReq p r.tag).hp p).xwait = [] := by rw [State.dropReq, State.hp_setHp_same]; exact hx
  have hu : ((s.dropReq p r.tag).pump p).ciu = s.ciu := by rw [State.pump_idle hw]; rfl
  unfold State.requestDone
  rw [h]
  dsimp only
  generalize (s.dropReq p r.tag).pump p = u at hu ⊢
  rw [State.onTag_live (by rw [State.tagLive, hu]; exact ht) (by rw [State.cmd, hu]; exact hc)]

theorem State.invalidate_atc {s : State} {p : Port} {itag : Fin 32} {start : BitVec 64} {size : Nat} (h : s.portOk p = true) :
    ∃ r, exec (.invalidateRequest p itag start size) s = .next ((s.setHp p { s.hp p with reqs := r, inval := (s.hp p).inval ++ [itag.val] }).updHep
      (fun y => { y with atc := y.atc.filter (fun e => !(e.port == p && rangesMeet (e.start, e.size) (start.toNat, size))) })) := by
  rw [exec_invalidateRequest, execInvalidateRequest, State.onPort, if_pos h]
  exact ⟨_, rfl⟩

/-- Settles O13: a completion by where its tag stands, an expiry, a translation and an invalidation by their branches. -/
theorem hostRequestsEnd : Obligations.HostRequestsEnd := by
  unfold Obligations.HostRequestsEnd
  refine ⟨?_, ?_, ?_, ?_, ?_, ?_, ?_, ?_, ?_, ?_, ?_, ?_, ?_, ?_, ?_⟩
  · intro p tag s
    constructor
    · intro r h
      grind [exec_completionTimeout, execCompletionTimeout, State.timeout]
    · intro h
      grind [exec_completionTimeout, execCompletionTimeout, State.timeout]
  · intro s p tag dst cs q o again
    refine ⟨rfl, fun ht hc => ?_⟩
    unfold State.failDma State.dmaErr
    dsimp only
    rw [State.onTag_live (s := s.raiseDone cs 0x46) ht hc]
  · intro p tag data good poisoned expiring s h
    grind [exec_completionTlp, execCompletionTlp, State.onPort]
  · intro p tag data good s h h1
    grind [State.completion]
  · intro p tag data s r h h1
    refine ⟨fun h2 => ?_, ?_, rfl⟩
    · rw [State.completion_outstanding h, State.cplOutstanding, if_neg (by decide), if_neg (by decide), if_pos h2]
    · rw [State.completion_outstanding h, State.cplOutstanding, if_neg (by decide), if_pos Bool.not_false]
  · intro p tag dst cs data s r h hx ht hc
    exact State.requestDone_data h hx ht hc
  · intro p tag data s r h h1 h2 h3
    rw [State.completion_outstanding h, State.cplOutstanding, if_neg (by decide), if_neg (by decide), if_neg (by omega)]
    cases hk : r.kind with
    | sqe q cs o again => rfl
    | _ => simp [hk, ReqKind.fetches] at h3
  · intro p tag t dst cs qn o data good s r h h1
    refine ⟨s.poisonedTlp p, rfl, fun hr hq => ⟨fun hk => ?_, fun hk => ?_⟩⟩
    · rw [State.completion_poisoned h1 hr, State.cplOutstanding, if_pos rfl, hk]
    · rw [State.completion_poisoned h1 hr, State.cplOutstanding, if_pos rfl, hk]
  · intro p tag data s q hr hq hd
    rw [State.completion_late hr hq, State.cplLate_last hd]
    refine ⟨fun h => ⟨_, rfl, ?_⟩, fun h => ?_⟩
    · rw [h, if_neg Bool.false_ne_true]
    · rw [h, if_pos rfl]
  · intro p tag s
    rfl
  · intro p tag size page host rd wr s r inv h h1 h2
    rw [exec_translationCompletion, execTranslationCompletion, State.onPort, if_pos h]
    rw [h1]
    dsimp only
    rw [h2]
  · intro p page size host inv wr s h
    constructor
    · intro h1 rd
      unfold State.translated
      dsimp only
      rw [if_pos h1]
    · rintro rfl h1 h2
      unfold State.translated
      dsimp only
      rw [if_neg (by simp), if_pos (by simp [h]), if_pos rfl, Nat.max_eq_right h1, Nat.min_eq_left h2, Nat.sub_self, Nat.add_zero]
  · intro p itag start size s e h he
    obtain ⟨r, hr⟩ := State.invalidate_atc (s := s) (itag := itag) (start := start) (size := size) h
    refine ⟨_, hr, ?_, ?_, rfl, rfl, rfl⟩
    · show e ∈ s.hep.atc.filter _ ↔ _
      simp [he, imp_iff_not_or]
    · exact congrArg HepPort.inval (State.hp_setHp_same s p _)
  · intro p s i r h h1
    rw [exec_invalidateCompletion, execInvalidateCompletion, State.onPort, if_pos h]
    dsimp only
    rw [h1]
  · intro p s h
    rw [exec_atsEnableClear, execAtsEnableClear, State.onPort, if_pos h]
    rfl
end Sys2Proof.Machine

/-!
Log pages, Identify, features and asynchronous events: the proof of O18.
-/
namespace Sys2Proof.Machine
set_option Elab.async false

/-- Settles O18: a served command does what its row says of it, by the cases of the row; one that is not served does nothing. -/
theorem logPagesIdentifyAndFeatures : Obligations.LogPagesIdentifyAndFeatures := by
  unfold Obligations.LogPagesIdentifyAndFeatures
  refine ⟨?_, ?_, ?_, ?_, ?_, ?_, ?_, ?_, ?_⟩
  · intro t off len s h
    refine ⟨?_, ?_, ?_⟩
    · rw [exec_ledgerLogPage, execLedgerLogPage, State.onCmd_serving h]
    · rw [exec_bootChainLogPage, execBootChainLogPage, State.onCmd_serving h]
    · rw [exec_eventLogPage, execEventLogPage, State.onCmd_serving h]
      grind
  · intro t a n s u d bad h
    refine ⟨?_, ?_, ?_⟩
    · intro h1
      grind [State.answerFrom]
    · intro h1
      grind [State.answerFrom]
    · rfl
  · intro t lid off len s h
    rw [exec_getLogPage, execGetLogPage, State.onCmd_serving h]
    grind
  · intro t cns s h
    rw [exec_identify, execIdentify, State.onCmd_serving h]
    grind
  · intro t fid v s k h h1
    refine ⟨?_, ?_, ?_, ?_, ?_⟩
    · intro h2
      rw [exec_setFeatures, execSetFeatures, State.onCmd_serving h]
      grind
    · intro h2 n h3
      rw [exec_setFeatures, execSetFeatures, State.onCmd_serving h]
      grind
    · intro h2 h3
      rw [exec_setFeatures, execSetFeatures, State.onCmd_serving h]
      grind
    · intro h2
      rw [exec_setFeatures, execSetFeatures, State.onCmd_serving h]
      grind
    · intro h2 h3 h4
      rw [exec_setFeatures, execSetFeatures, State.onCmd_serving h]
      grind
  · intro t fid s h
    rw [exec_getFeatures, execGetFeatures, State.onCmd_serving h]
    grind
  · intro t s h
    refine ⟨?_, ?_, ?_⟩
    · intro h1
      rw [exec_asynchronousEventRequest, execAsynchronousEventRequest, State.onCmd_serving h]
      grind
    · intro h1 h2
      rw [exec_asynchronousEventRequest, execAsynchronousEventRequest, State.onCmd_serving h]
      grind
    · intro h1 d r h2
      rw [exec_asynchronousEventRequest, execAsynchronousEventRequest, State.onCmd_serving h]
      grind
  · intro t code s h
    rw [exec_deviceSelfTest, execDeviceSelfTest, State.onCmd_serving h]
  · intro t off len lid cns fid v code s
    refine ⟨?_, ?_, ?_, ?_, ?_, ?_⟩
    · intro h
      refine ⟨?_, ?_, ?_, ?_⟩
      · rw [exec_ledgerLogPage, execLedgerLogPage, State.onCmd_idle h]
      · rw [exec_bootChainLogPage, execBootChainLogPage, State.onCmd_idle h]
      · rw [exec_eventLogPage, execEventLogPage, State.onCmd_idle h]
      · rw [exec_getLogPage, execGetLogPage, State.onCmd_idle h]
    · intro h
      rw [exec_identify, execIdentify, State.onCmd_idle h]
    · intro h
      rw [exec_setFeatures, execSetFeatures, State.onCmd_idle h]
    · intro h
      rw [exec_getFeatures, execGetFeatures, State.onCmd_idle h]
    · intro h
      rw [exec_asynchronousEventRequest, execAsynchronousEventRequest, State.onCmd_idle h]
    · intro h
      rw [exec_deviceSelfTest, execDeviceSelfTest, State.onCmd_idle h]

end Sys2Proof.Machine

/-!
The controller, its queues and the enables of intake and Ledger: the proof of O17.
-/
namespace Sys2Proof.Machine
set_option Elab.async false

theorem State.en_endController (s : State) (p : Nat) : ((s.endController p).ctrl p).en = false := by
  unfold State.endController
  extract_lets
  rw [State.ctrl_setCtrl_same]

theorem State.rdy_endController (s : State) (p : Nat) : ((s.endController p).ctrl p).rdy = false := by
  unfold State.endController
  extract_lets
  rw [State.ctrl_setCtrl_same]

/-- Settles O17: each row by the cases of its own definition; the controller's end leaves its record with CC.EN and CSTS.RDY clear. -/
theorem controllerQueuesAndEnables : Obligations.ControllerQueuesAndEnables := by
  unfold Obligations.ControllerQueuesAndEnables
  refine ⟨?_, ?_, ?_, ?_, ?_, ?_, ?_, ?_, ?_, ?_, ?_, ?_, ?_⟩
  · intro p s
    refine ⟨?_, ?_⟩
    · intro h h1 h2
      grind [exec_controllerEnable, execControllerEnable, State.inBlk, State.blkOn]
    · intro h
      grind [exec_controllerEnable, execControllerEnable, State.inBlk, State.blkOn]
  · intro p s
    refine ⟨?_, ?_, ?_⟩
    · grind [exec_controllerReset, execControllerReset, State.inBlk, State.blkOn]
    · exact s.en_endController p
    · exact s.rdy_endController p
  · intro t q cq size base prio s
    refine ⟨?_, ?_⟩
    · intro h
      rw [exec_createIoSubmissionQueue, execCreateIoSubmissionQueue, State.onCmd_serving h]
      grind
    · intro h
      rw [exec_createIoSubmissionQueue, execCreateIoSubmissionQueue, State.onCmd_idle h]
  · intro t q size base vec inCmb s
    refine ⟨?_, ?_⟩
    · intro h
      rw [exec_createIoCompletionQueue, execCreateIoCompletionQueue, State.onCmd_serving h]
      grind
    · intro h
      rw [exec_createIoCompletionQueue, execCreateIoCompletionQueue, State.onCmd_idle h]
  · intro t q s
    refine ⟨?_, ?_⟩
    · intro h
      rw [exec_deleteIoSubmissionQueue, execDeleteIoSubmissionQueue, State.onCmd_serving h]
      grind
    · intro h
      rw [exec_deleteIoSubmissionQueue, execDeleteIoSubmissionQueue, State.onCmd_idle h]
  · intro t q s
    refine ⟨?_, ?_⟩
    · intro h
      rw [exec_deleteIoCompletionQueue, execDeleteIoCompletionQueue, State.onCmd_serving h]
      grind
    · intro h
      rw [exec_deleteIoCompletionQueue, execDeleteIoCompletionQueue, State.onCmd_idle h]
  · intro s h
    have hb : s.blkOn .ciu 0 = true := h
    rw [exec_ciuEn, execCiuEn, exec_ciuEn, execCiuEn, onBlk_on hb, onBlk_on hb]
    refine ⟨?_, rfl⟩
    simp only [if_true, State.cfgErrAt_eq]
  · intro s mirror h
    have hb : s.blkOn .ldg 0 = true := h
    rw [exec_ldgEn, execLdgEn, exec_ldgEn, execLdgEn, onBlk_on hb, onBlk_on hb]
    refine ⟨?_, rfl⟩
    simp only [if_true, Bool.and_eq_true, bne_iff_ne, Bool.or_eq_true, Bool.not_eq_true', and_assoc, State.cfgErrAt_eq]
  · intro n s h
    have hb : s.blkOn .ciu 0 = true := h
    rw [exec_bufferSlotRelease, execBufferSlotRelease, onBlk_on hb]
    grind [State.cfgErrAt_eq]
  · intro n v mirror q cid s h
    exact ⟨congrArg Host.Outcome.next (onBlk_off h), congrArg Host.Outcome.next (onBlk_off h), congrArg Host.Outcome.next (onBlk_off h),
      congrArg Host.Outcome.next (onBlk_off h)⟩
  · intro q cid s u h h1
    have hb : s.blkOn .ciu 0 = true := h
    rw [exec_abortLookup, execAbortLookup, onBlk_on hb, ← h1]
  · intro p q cid t s
    refine ⟨?_, ?_, ?_⟩
    · intro h
      grind [State.abortFind]
    · intro h h1
      grind [State.abortFind]
    · intro h h1 h2
      grind [State.abortFind]
  · intro t q cid s
    refine ⟨?_, ?_⟩
    · intro h
      rw [exec_abort, execAbort, State.onCmd_serving h]
    · intro h
      rw [exec_abort, execAbort, State.onCmd_idle h]

end Sys2Proof.Machine

/-!
Starting, stopping, binding and triggering a Quince engine: the proof of O30.
-/
namespace Sys2Proof.Machine
set_option Elab.async false

/-- Settles O30, row by row: each clause is its row's cases, on the started block and off it. -/
theorem quinceControl : Obligations.QuinceControl := by
  unfold Obligations.QuinceControl
  refine ⟨?_, ?_, ?_, ?_, ?_, ?_, ?_, ?_, ?_⟩
  · intro n m s u h h1 h2
    grind [exec_qeStart, execQeStart, State.onBlk, State.blkOn, State.cfgErrAt]
  · intro m s
    rfl
  · intro n s h
    grind [exec_qeStop, execQeStop, State.onBlk, State.blkOn]
  · intro m bind on r s u h h1 h2 h3
    grind [exec_spareQeBind, execSpareQeBind, State.onBlk, State.blkOn, State.cfgErrAt]
  · intro n m bind s h
    refine ⟨?_, ?_, ?_⟩
    · grind [exec_qeStart, execQeStart, State.onBlk, State.blkOn]
    · grind [exec_qeStop, execQeStop, State.onBlk, State.blkOn]
    · grind [exec_spareQeBind, execSpareQeBind, State.onBlk, State.blkOn]
  · intro n inputs m v s h h1
    grind [exec_qeTrigger, execQeTrigger, State.inBlk, State.blkOn]
  · intro k s t h
    grind [State.fireThermal]
  · intro m n inp s t h h1
    grind [State.qeTrigger]
  · intro m s
    rfl

end Sys2Proof.Machine

/-!
Writing sectors and the lane's control: the proof of O44.
-/
namespace Sys2Proof.Machine
set_option Elab.async false

/-- Settles O44, row by row: the cases of a write's next sector, of the lane's enable and of a preamp frame. -/
theorem laneWritingAndControl : Obligations.LaneWritingAndControl := by
  unfold Obligations.LaneWritingAndControl
  refine ⟨?_, ?_, ?_, ?_, ?_, ?_, ?_, ?_⟩
  · intro l s
    grind [exec_writeSector, execWriteSector, State.inBlk]
  · intro l a o s u f h h1 h2
    grind [State.fetchSector]
  · intro l g s
    refine ⟨?_, ?_⟩
    · grind [State.onWrite]
    · intro o
      grind [State.writeStop]
  · intro l s
    grind [State.writeEnd]
  · intro l v s t u w h h1 h2
    grind [exec_laneEn, execLaneEn, State.onBlk, State.laneEn]
  · intro a s
    refine ⟨?_, ?_⟩
    · rfl
    · grind [exec_zoneTableCommit, execZoneTableCommit, State.inBlk, State.ztBoundary]
  · intro l detail s
    grind [State.writeFault]
  · intro a frame ack l s u v h h1 h2
    grind [exec_preampControlFrame, execPreampControlFrame, State.inBlk]

end Sys2Proof.Machine

/-!
The spindle's events: the proof of O47.
-/
namespace Sys2Proof.Machine
set_option Elab.async false

/-- Settles O47, event by event: each moves the spindle on only in the state that waits for it. -/
theorem spindleEvents : Obligations.SpindleEvents := by
  unfold Obligations.SpindleEvents
  refine ⟨?_, ?_, ?_, ?_, ?_, ?_, ?_, ?_⟩
  · intro rpm backward n s u v h h1 h2
    grind [exec_measureEnd, execMeasureEnd, State.inBlk]
  · intro valid angle k s u h h1
    refine ⟨?_, ?_, ?_⟩
    · grind [exec_bemfCrossing, execBemfCrossing, State.inBlk]
    · grind [exec_alignEnd, execAlignEnd, State.inBlk]
    · grind [exec_openLoopTimeout, execOpenLoopTimeout, State.inBlk]
  · intro s
    rfl
  · intro residual s u h
    refine ⟨?_, ?_, ?_⟩
    · grind [exec_wedgeGapCheck, execWedgeGapCheck, State.inBlk]
    · grind [exec_holdTimeout, execHoldTimeout, State.inBlk]
    · grind [exec_reacquireTimeout, execReacquireTimeout, State.inBlk]
  · intro s u h
    grind [exec_coastTimeout, execCoastTimeout, State.inBlk]
  · intro v s u h
    grind [exec_pseudoStamp, execPseudoStamp, State.inBlk, State.fireSpindleBlind, State.speedErrorNow, noPort]
  · intro rpm n s u v h h1 h2
    grind [exec_speedThreshold, execSpeedThreshold, State.inBlk]
  · intro mj s u h
    grind [exec_harvestEnd, execHarvestEnd, State.inBlk]

end Sys2Proof.Machine

/-!
Rails, the input voltage, the governor and the crystals: the proof of O51.
-/
namespace Sys2Proof.Machine
set_option Elab.async false

/-- Settles O51, event by event, each by the cases of its own row. -/
theorem supplyEvents : Obligations.SupplyEvents := by
  unfold Obligations.SupplyEvents
  refine ⟨?_, ?_, ?_, ?_, ?_, ?_, ?_⟩
  · intro rail ds s u v h h1 h2
    grind [exec_railFault, execRailFault]
  · rfl
  · intro mv s u h
    refine ⟨?_, ?_⟩
    · grind [exec_lowvSet, execLowvSet]
    · grind [exec_lowvClear, execLowvClear]
  · intro v s
    rfl
  · intro pin vin s u v w h h1 h2
    grind [exec_governorTick, execGovernorTick, State.inBlk]
  · intro s
    rfl
  · intro found good s u h
    refine ⟨?_, ?_, ?_, ?_⟩
    · rfl
    · rfl
    · rfl
    · grind [exec_xtalBootRetry, execXtalBootRetry]

end Sys2Proof.Machine

/-!
The Sloe queue and the device states: the proof of O52.
-/
namespace Sys2Proof.Machine
set_option Elab.async false

/-- Settles O52, row by row: the queue's head, a step's end, the device state and its wakes. -/
theorem sloeAndDeviceStates : Obligations.SloeAndDeviceStates := by
  unfold Obligations.SloeAndDeviceStates
  refine ⟨?_, ?_, ?_, ?_, ?_, ?_, ?_, ?_, ?_⟩
  · intro d on flush s
    refine ⟨?_, ?_, ?_⟩
    · rfl
    · rfl
    · rfl
  · intro d on s
    rfl
  · intro r l s u v h h1 h2
    refine ⟨?_, ?_, ?_⟩
    · grind [exec_domainStart, execDomainStart]
    · grind [exec_domainOn, execDomainOn]
    · grind [exec_domainStop, execDomainStop, State.cfgErrAt]
  · intro r l pll s u v h h1 h2
    grind [exec_domainStartFail, execDomainStartFail]
  · intro pll s h
    refine ⟨?_, ?_, ?_, ?_⟩
    · grind [exec_domainStart, execDomainStart]
    · grind [exec_domainOn, execDomainOn]
    · grind [exec_domainStop, execDomainStop]
    · grind [exec_domainStartFail, execDomainStartFail]
  · intro s u h
    refine ⟨?_, ?_⟩
    · grind [exec_sloeWaitTimeout, execSloeWaitTimeout]
    · rfl
  · intro req s u h
    grind [exec_deviceStateRequest, execDeviceStateRequest, State.onBlk, State.cfgErrAt]
  · intro r s u h
    grind [State.standBy]
  · intro src k s u h
    refine ⟨?_, ?_⟩
    · grind [exec_wake, execWake]
    · grind [State.wake]

end Sys2Proof.Machine

/-!
Servo items and the servo's enable: the proof of O40.
-/
namespace Sys2Proof.Machine
set_option Elab.async false

/-- Settles O40, row by row: an item of an actuator, once it is held, ends or is taken by the cases of State.servoItem. -/
theorem servoItems : Obligations.ServoItems := by
  unfold Obligations.ServoItems
  refine ⟨?_, ?_, ?_, ?_, ?_, ?_⟩
  · intro a s
    refine ⟨?_, ?_, ?_, ?_, ?_⟩
    · rfl
    · rfl
    · rfl
    · rfl
    · rfl
  · intro a opc n r i w w' g s u h h1
    rw [State.servoItem, onItem_some h, h1]
    cases u.servoRefusal a w <;> rfl
  · intro a opc g s h
    exact onItem_none h
  · intro a w s v x h h1
    refine ⟨?_, ?_⟩
    · grind [State.loadHeads]
    · rfl
  · intro v s
    grind [exec_srvEn, execSrvEn, State.onBlk, State.cfgErrAt]
  · intro a s u v h h1
    grind [exec_faultHoldExpiry, execFaultHoldExpiry]

end Sys2Proof.Machine

/-!
Motor items: the proof of O46.
-/
namespace Sys2Proof.Machine
set_option Elab.async false

/-- Settles O46, row by row: an item that CS40 holds ends or begins by the cases of State.motorItem. -/
theorem motorItems : Obligations.MotorItems := by
  unfold Obligations.MotorItems
  refine ⟨?_, ?_, ?_, ?_, ?_, ?_⟩
  · intro s
    refine ⟨?_, ?_⟩
    · intro h
      grind [exec_start, execStart]
    · intro h
      grind [exec_start, execStart]
  · intro s
    refine ⟨?_, ?_, ?_, ?_⟩
    · rfl
    · rfl
    · rfl
    · rfl
  · intro opc n w busy g s u h
    cases hb : s.blkOn .mpd 0 with
    | false => exact (inBlk_off hb).trans (if_pos rfl).symm
    | true =>
      rw [State.motorItem, inBlk_on hb, onItem_some h, if_neg (c := true = false) nofun]
      cases u.motorRefusal w <;> rfl
  · intro opc busy g s h
    cases hb : s.blkOn .mpd 0 with
    | false => exact (inBlk_off hb).trans (if_neg (by decide)).symm
    | true => rw [State.motorItem, inBlk_on hb, onItem_none h, if_pos rfl]
  · intro n w s u v k h h1 h2
    refine ⟨?_, ?_⟩
    · grind [State.stopSpindle]
    · grind [State.retractNamed]
  · intro v s
    grind [exec_mpdEn, execMpdEn, State.onBlk, State.cfgErrAt]

end Sys2Proof.Machine

/-!
Driver trips and the ends of retracts: the proof of O48.
-/
namespace Sys2Proof.Machine
set_option Elab.async false

/-- Settles O48, each trip by its driver and cause; a retract's end through the states that it passes. -/
theorem driverTripsAndRetracts : Obligations.DriverTripsAndRetracts := by
  unfold Obligations.DriverTripsAndRetracts
  refine ⟨?_, ?_, ?_, ?_, ?_⟩
  · intro d c a s
    refine ⟨?_, ?_, ?_⟩
    · rfl
    · rfl
    · rfl
  · intro d h a s u hu
    refine ⟨?_, ?_, ?_, ?_, ?_, ?_, ?_, ?_, ?_⟩
    · rfl
    · rfl
    · rfl
    · rfl
    · rfl
    · rfl
    · subst hu; rfl
    · rfl
    · rfl
  · intro cause s
    refine ⟨?_, ?_⟩
    · rfl
    · rfl
  · intro a cause s t u v w h h1 h2 h3
    grind [State.tripVcm]
  · intro a parked s t u v w h h1 h2 h3
    unfold State.retractEnd
    extract_lets _ s₁ s₂ s₃ s₄ waits s₅ s₆
    obtain rfl : t = s₁ := h
    obtain rfl : u = s₃ := by simp only [h1, s₃, s₂, Bool.not_eq_true']
    obtain rfl : v = s₄ := h2
    obtain rfl : w = s₅ := h3
    have hw : s₆ = if bit s₄.mpd.retWait a = false then s₅
        else if parked = false then (s₅.updMpd (fun x => { x with retWait := 0 })).motorEnd [0x33] 0x0D 4 0
        else if s₅.mpd.retWait = 0 then s₅.motorEnd [0x33] 0 0 0 else s₅ := by
      simp only [s₆, waits, Bool.not_eq_true']
    rw [hw]

end Sys2Proof.Machine

/-!
Watchdogs and resets: the proof of O53.
-/
namespace Sys2Proof.Machine
set_option Elab.async false

theorem State.eflOpen_pending (s : State) (u fuel v : Nat) : (s.eflOpen u fuel v).pending = s.pending := by
  induction fuel generalizing s u v with
  | zero => rfl
  | succ k ih =>
    rw [State.eflOpen, ih]
    split <;> rfl

theorem State.eflAbort_pending (s : State) (e : EflOp) : (s.eflAbort e).pending = s.pending := by
  unfold State.eflAbort
  split
  · rfl
  · dsimp only [State.free]
    split <;> rw [State.eflOpen_pending]

theorem State.foldl_eflAbort_pending (l : List EflOp) (s : State) : (l.foldl State.eflAbort s).pending = s.pending := by
  induction l generalizing s with
  | nil => rfl
  | cons e l ih => rw [List.foldl_cons, ih, State.eflAbort_pending]

theorem State.burnCut_pending (s : State) : s.burnCut.pending = s.pending := by
  unfold State.burnCut
  split
  · rfl
  · exact State.setF_pending _ _ _ _

theorem State.wipe_mem (s : State) (cold por keep : Bool) : (s.wipe cold por keep).mem = [] := by
  unfold State.wipe
  rw [State.free]
  dsimp only
  rw [State.setF_mem]
  split <;> simp only [State.setFs_mem, State.setF_mem]

theorem State.wipe_causes (s : State) (cold por keep : Bool) : (s.wipe cold por keep).sup.causes = 0 := by
  unfold State.wipe
  rw [State.free]
  dsimp only
  rw [State.setF_sup]
  split <;> simp only [State.setFs_sup, State.setF_sup]

theorem State.wipe_pending (s : State) (cold por keep : Bool) : (s.wipe cold por keep).pending = s.pending := by
  have h (l : List EflOp) (t : State) (p : Nat → Bool) : (((l.foldl State.eflAbort t).burnCut).resetFlds p).pending = t.pending :=
    (State.burnCut_pending _).trans (State.foldl_eflAbort_pending l t)
  unfold State.wipe
  rw [State.free]
  dsimp only
  rw [State.setF_pending]
  split <;> simp only [State.setFs_pending, State.setF_pending, h]

/-- Settles O53, row by row; what a reset leaves is read off State.wipe, whose cut operations keep the queue of commands. -/
theorem watchdogsAndResets : Obligations.WatchdogsAndResets := by
  unfold Obligations.WatchdogsAndResets
  refine ⟨?_, ?_, ?_, ?_, ?_, ?_, ?_, ?_⟩
  · intro n s
    refine ⟨?_, ?_, ?_⟩
    · rfl
    · rfl
    · rfl
  · intro n key k fld s u v h h1
    refine ⟨?_, ?_, ?_⟩
    · rfl
    · rfl
    · grind [State.kick, State.cfgErrAt]
  · intro key token long s
    refine ⟨?_, ?_, ?_, ?_⟩
    · grind [exec_swrst, execSwrst, State.onBlk, State.cfgErrAt]
    · rfl
    · rfl
    · rfl
  · intro cause core waits s t u v w h h1 h2 h3 h4
    unfold State.requestReset
    extract_lets first t' waits' u' v' w'
    obtain rfl : t = t' := h
    obtain rfl : waits = waits' := h1
    obtain rfl : u = u' := h2
    obtain rfl : v = v' := h3.trans (by
      simp only [v']
      rcases u'.sup.sloe with _ | ⟨r, l⟩ <;> rcases u'.sup.step <;> rfl)
    obtain rfl : w = w' := h4
    simp only [first, Bool.not_eq_true', beq_eq_false_iff_ne]
  · intro straps s u h
    refine ⟨?_, ?_⟩
    · grind [exec_resetNRelease, execResetNRelease]
    · rfl
  · intro straps c cold keep s u v w x h h1 h2 h3 h4 h5 h6
    grind [exec_resetPerform, execResetPerform]
  · intro s
    rfl
  · intro cold por keep s
    exact ⟨s.wipe_mem cold por keep, s.wipe_causes cold por keep, s.wipe_pending cold por keep⟩

end Sys2Proof.Machine

/-!
Images, counters, key slots and media keys: the proof of O54.
-/
namespace Sys2Proof.Machine
set_option Elab.async false

theorem State.onBlk_eq (s : State) (b : Blk) (i : Nat) (g : State → State) :
    s.onBlk b i g = if s.blkOn b i = false then s.unstarted b else g s := by
  rw [State.onBlk]
  cases s.blkOn b i <;> rfl

/-- Settles O54, row by row: on the started block the row's own cases, off it the record of the write. -/
theorem imagesCountersAndKeys : Obligations.ImagesCountersAndKeys := by
  unfold Obligations.ImagesCountersAndKeys
  refine ⟨?_, ?_, ?_, ?_, ?_, ?_, ?_⟩
  · intro cls s
    refine ⟨?_, ?_⟩
    · grind [exec_containerVerify, execContainerVerify, State.onBlk, State.cfgErrAt]
    · rfl
  · intro a x y s v h h1 h2 h3
    grind [exec_verifyEnd, execVerifyEnd]
  · intro c cls allot hb pb d s h
    grind [State.verify]
  · intro cls svn s u h
    refine ⟨?_, ?_⟩
    · grind [exec_arbAdvance, execArbAdvance, State.onBlk, State.cfgErrAt]
    · grind [exec_arbAdvanceEnd, execArbAdvanceEnd]
  · intro slot s u h
    grind [exec_keyRevoke, execKeyRevoke, State.onBlk, State.cfgErrAt]
  · intro ns s
    refine ⟨rfl, rfl, ?_, ?_⟩
    · have hl (u : State) : (if u.f .SEC_BOOT_DBG_LV 0 ≠ 0 then (3, u) else (match Config.unwrapKey u.wrapBytes with
          | none => (1, u.event 0xB00C 0 0 0)
          | some (k, i, g) => if i ≠ ns.val then (2, u)
            else (0, (u.setKey ns (k % 2 ^ 512 + 1)).updSec (fun x => { x with gen := Tbl.set x.gen 0 ns.val (g % 2 ^ 32) })))) =
          if u.f .SEC_BOOT_DBG_LV 0 ≠ 0 then (3, u) else (Config.unwrapKey u.wrapBytes).elim (1, u.event 0xB00C 0 0 0) (fun k =>
            if k.2.1 ≠ ns.val then (2, u)
            else (0, (u.setKey ns (k.1 % 2 ^ 512 + 1)).updSec (fun x => { x with gen := Tbl.set x.gen 0 ns.val (k.2.2 % 2 ^ 32) }))) := by
        cases Config.unwrapKey u.wrapBytes <;> rfl
      exact congrArg (fun q => Host.Outcome.next (s.keyOp ns 2 q)) (funext hl)
    · rw [exec_keyOperationEnd, execKeyOperationEnd]
      simp only [Bool.not_eq_true']
  · intro i op k g v h s t u w h1 h2 h3 h4 h5
    refine ⟨?_, ?_, ?_⟩
    · rw [State.keyOp, State.onBlk_eq, h1]
      rfl
    · rw [State.keyGen, ← h2]
      subst h5 h4 h3
      rfl
    · rfl

end Sys2Proof.Machine

/-!
Boot, recovery and attestation: the proof of O55.
-/
namespace Sys2Proof.Machine
set_option Elab.async false

/-- Settles O55, row by row; a set of recovery images is searched for the first class that fails, as the row's own search does. -/
theorem bootRecoveryAndAttestation : Obligations.BootRecoveryAndAttestation := by
  unfold Obligations.BootRecoveryAndAttestation
  refine ⟨?_, ?_, ?_, ?_, ?_⟩
  · intro s u h
    refine ⟨?_, ?_⟩
    · grind [exec_bootRomRun, execBootRomRun]
    · rfl
  · intro k active trial tries seq s h
    refine ⟨?_, ?_, ?_⟩
    · grind [State.chooseSlot]
    · rfl
    · rfl
  · intro slot trial f s u h
    refine ⟨?_, ?_, ?_⟩
    · grind [State.trySlot]
    · rfl
    · intro c
      grind [State.slotResult]
  · intro cls image last img s u h h1
    rw [exec_recoveryImageMessage, execRecoveryImageMessage]
    refine congrArg _ ?_
    extract_lets u' img' total bad
    obtain rfl : u = u' := h
    obtain rfl : img = img' := h1.trans (funext fun k => by
      simp only [img']
      cases Tbl.get u'.sec.recov [] k <;> simp)
    have hb : bad = (List.range 9).findSome? (fun k =>
        (img' k).elim (if k = 0 then some (k, 1) else none) fun c => if u'.verifyBytes c k = 0 then none else some (k, u'.verifyBytes c k)) := by
      refine congrArg (fun f => List.findSome? f (List.range 9)) (funext fun k => ?_)
      cases img' k <;> rfl
    simp only [Bool.not_eq_true']
    rw [← hb]
    cases bad <;> rfl
  · intro slot idx nonce m s h
    refine ⟨?_, ?_, ?_⟩
    · rfl
    · rfl
    · grind [exec_spdmGetMeasurements, execSpdmGetMeasurements, State.spdmAnswer]

end Sys2Proof.Machine

/-!
The embedded flash's commands: the proof of O56.
-/
namespace Sys2Proof.Machine
set_option Elab.async false

/-- Settles O56, row by row: a GO, its refusals and a command's end by the cases of the command's code. -/
theorem embeddedFlashCommands : Obligations.EmbeddedFlashCommands := by
  unfold Obligations.EmbeddedFlashCommands
  refine ⟨?_, ?_, ?_, ?_, ?_, ?_, ?_, ?_, ?_, ?_, ?_, ?_, ?_⟩
  · intro key s
    grind [exec_eflUnlock, execEflUnlock, State.onBlk, State.cfgErrAt]
  · intro g count s
    refine ⟨?_, ?_, ?_, ?_, ?_⟩
    · rfl
    · rfl
    · rfl
    · rfl
    · rfl
  · intro g code units e s u h h1
    rw [State.eflGo, State.onBlk_eq]
    refine if_congr Iff.rfl rfl (if_congr Iff.rfl rfl ?_)
    subst h1 h
    simp only [State.setFs_efl, bne_iff_ne]
    refine if_congr Iff.rfl rfl ?_
    cases State.eflRefusal _ g _ <;> rfl
  · intro r addr s u h
    grind [State.eflEnd]
  · intro good s
    refine ⟨?_, ?_⟩
    · grind [exec_eflCommandEnd, execEflCommandEnd]
    · rfl
  · intro e good v p s u w h h1 h2
    grind [State.eflCommandEnd]
  · intro code addr v s u h
    refine ⟨?_, ?_, ?_⟩
    · rfl
    · grind [State.eraseFailed]
    · rfl
  · intro s
    refine ⟨?_, ?_, ?_⟩
    · rw [exec_suspend, execSuspend, State.onBlk_eq]
      simp only [Bool.and_eq_true, Option.isNone_iff_eq_none]
    · grind [exec_suspendTakeEffect, execSuspendTakeEffect]
    · rw [exec_eraseResume, execEraseResume, State.onBlk_eq]
      simp only [Bool.and_eq_true, Option.isNone_iff_eq_none]
  · intro g off o s t u h h1
    refine ⟨?_, ?_⟩
    · rfl
    · grind [State.windowRead]
  · intro k s
    refine ⟨?_, ?_, ?_⟩
    · intro h
      grind [State.eflCheck]
    · intro h
      grind [State.eflCheck]
    · intro h
      grind [State.eflCheck]
  · intro t h s u h1
    rw [State.rdpGo, State.onBlk_eq]
    subst h1
    simp only [State.setF_efl, bne_iff_ne]
    grind [State.cfgErrAt_eq]
  · intro g target s
    grind [exec_rdpRaise, execRdpRaise]
  · intro g v w s h h1
    grind [exec_rdpLower, execRdpLower]

end Sys2Proof.Machine

/-!
The SRAM arrays: the proof of O24.
-/
namespace Sys2Proof.Machine
set_option Elab.async false

/-- Settles O24, row by row: each operation's GO and end, and the read of a word by its bad bits. -/
theorem sramArrays : Obligations.SramArrays := by
  unfold Obligations.SramArrays
  refine ⟨?_, ?_, ?_, ?_, ?_, ?_, ?_⟩
  · intro array s h
    grind [exec_sramInit, execSramInit, State.onBlk, State.blkOn, State.cfgErrAt]
  · intro a s u h h1
    grind [exec_sramInitEnd, execSramInitEnd]
  · intro array row perm s h
    grind [exec_spareRow, execSpareRow, State.onBlk, State.blkOn, State.cfgErrAt]
  · intro a row k r s u v w h h1 h2 h3 h4 h5 h6
    grind [exec_spareRowEnd, execSpareRowEnd]
  · intro array check s h
    grind [exec_flipArm, execFlipArm, State.onBlk, State.blkOn, State.cfgErrAt]
  · intro array check row perm s h
    refine ⟨?_, ?_, ?_⟩
    · grind [exec_sramInit, execSramInit, State.onBlk, State.blkOn]
    · grind [exec_spareRow, execSpareRow, State.onBlk, State.blkOn]
    · grind [exec_flipArm, execFlipArm, State.onBlk, State.blkOn]
  · intro array word m s t h h1
    grind [State.sramRead]

end Sys2Proof.Machine

/-!
Cores, interrupts and atomics: the proof of O27.
-/
namespace Sys2Proof.Machine
set_option Elab.async false

/-- Settles O27, row by row: what a core's row does where the core runs, and the access of an atomic by its operation. -/
theorem coresAndInterrupts : Obligations.CoresAndInterrupts := by
  unfold Obligations.CoresAndInterrupts
  refine ⟨?_, ?_, ?_, ?_, ?_, ?_, ?_⟩
  · intro n s h
    refine ⟨?_, ?_, ?_⟩
    · intro h1 v
      grind [exec_coreRun, execCoreRun, State.onBlk, State.blkOn, State.cfgErrAt]
    · intro h1
      grind [exec_coreRun, execCoreRun, State.onBlk, State.blkOn]
    · intro h1
      grind [exec_coreRun, execCoreRun, State.onBlk, State.blkOn]
  · intro n s
    rfl
  · intro n m src s h
    refine ⟨?_, ?_, ?_, ?_⟩
    · grind [exec_ipiSet, execIpiSet, State.onBlk, State.blkOn]
    · grind [exec_ipiClear, execIpiClear, State.onBlk, State.blkOn]
    · grind [exec_interruptClaim, execInterruptClaim, State.onBlk, State.blkOn]
    · grind [exec_interruptComplete, execInterruptComplete, State.onBlk, State.blkOn]
  · intro n v m src s h
    refine ⟨?_, ?_, ?_, ?_, ?_⟩
    · grind [exec_coreRun, execCoreRun, State.onBlk, State.blkOn]
    · grind [exec_ipiSet, execIpiSet, State.onBlk, State.blkOn]
    · grind [exec_ipiClear, execIpiClear, State.onBlk, State.blkOn]
    · grind [exec_interruptClaim, execInterruptClaim, State.onBlk, State.blkOn]
    · grind [exec_interruptComplete, execInterruptComplete, State.onBlk, State.blkOn]
  · intro n mie s u v h h1
    refine ⟨?_, ?_⟩
    · grind [exec_wfi, execWfi, State.runsCore, State.counted, State.onCore]
    · grind [exec_fenceI, execFenceI, State.runsCore, State.counted, State.onCore]
  · intro n op dword a rd x s u v k h h1 h2
    grind [exec_lrScAmo, execLrScAmo, State.runsCore, State.counted, State.onCore]
  · intro n a rd x k val g op dword d s u v w h h1 h2 h3 h4
    unfold State.amoAccess
    subst h4 h3
    extract_lets k' val' put hold
    obtain rfl : k = k' := h
    obtain rfl : val = val' := h1
    rw [← h2]
    dsimp only [put, hold]
    cases op <;> simp +zetaDelta only [reduceCtorEq, if_true, if_false]

end Sys2Proof.Machine

/-!
Ring control: the proof of O42.
-/
namespace Sys2Proof.Machine
set_option Elab.async false

/-- Settles O42, row by row: a ring's enable by the state that it is in, its doorbell, stop, abort and resume by their own cases. -/
theorem ringControl : Obligations.RingControl := by
  unfold Obligations.RingControl
  refine ⟨?_, ?_, ?_, ?_, ?_, ?_, ?_, ?_, ?_⟩
  · intro v s
    rw [exec_mwrEn, execMwrEn, State.onBlk_eq]
    cases v <;> rfl
  · intro r tail s
    refine ⟨?_, ?_, ?_, ?_, ?_, ?_⟩
    · rfl
    · rfl
    · rfl
    · rfl
    · rfl
    · rfl
  · intro r tail n s h
    grind [State.doorbell, accepted, State.discardBell]
  · intro r s u v h h1
    subst h1 h
    rw [State.ringEnable]
    by_cases h123 : s.ringState r = 1 ∨ s.ringState r = 2 ∨ s.ringState r = 3
    · rw [if_pos h123, if_pos h123]
    rw [if_neg h123, if_neg h123]
    by_cases hs : s.ringState r = 0
    · rw [if_neg (not_not.2 hs)]
      exact if_congr ⟨fun h => ⟨hs, h⟩, And.right⟩ rfl rfl
    · rw [if_pos hs]
      exact (if_neg (fun h => hs h.1)).symm
  · intro r s u v h h1
    refine ⟨?_, ?_, ?_⟩
    · grind [State.ringAbort]
    · rfl
    · rfl
  · intro r s u h
    rw [h]
    rfl
  · intro r s
    refine ⟨?_, ?_, ?_⟩
    · grind [exec_errorEntry, execErrorEntry]
    · grind [exec_drainEnd, execDrainEnd]
    · rfl
  · intro r tag l s u v w x h h1 h2 h3 h4
    grind [exec_withdraw, execWithdraw, State.onBlk, State.cfgErrAt]
  · intro s
    grind [exec_withdrawScanEnd, execWithdrawScanEnd]

end Sys2Proof.Machine

/-!
Wedges of a head: the proof of O41.
-/
namespace Sys2Proof.Machine
set_option Elab.async false

/-- Settles O41, row by row; a demodulation of a good wedge meets none of the branches of a missed one. -/
theorem wedgesOfAHead : Obligations.WedgesOfAHead := by
  unfold Obligations.WedgesOfAHead
  refine ⟨?_, ?_, ?_, ?_, ?_⟩
  · intro a mate time k s h
    refine ⟨?_, ?_⟩
    · grind [exec_samFound, execSamFound, State.inBlk]
    · grind [exec_windowEnd, execWindowEnd, State.inBlk]
  · intro a k s u v h h1
    grind [State.missed]
  · intro a mx s h
    refine ⟨?_, ?_⟩
    · intro h1 h2
      grind [State.missLimits]
    · intro h1 h2
      grind [State.missLimits]
  · intro a mate m k s h
    grind [exec_demodDone, execDemodDone, State.inBlk]
  · intro a k m wn s u v h h1 h2 h3 h4 h5
    have h0 : ¬(m.ba.toNat + m.bb.toNat + m.bc.toNat + m.bd.toNat = 0) := by omega
    subst h5 h4 h3
    constructor <;>
      simp only [State.demodDone, h, h1, h0, false_and, if_false, Bool.not_false, Bool.true_and, if_true, Bool.false_eq_true, Bool.toNat_true,
        Int.cast_natCast]

end Sys2Proof.Machine

/-!
Lane items and reading: the proof of O43.
-/
namespace Sys2Proof.Machine
set_option Elab.async false

/-- Settles O43, row by row: an item's start, a read's sectors, their decodes and the steps of replay. -/
theorem laneItemsAndReading : Obligations.LaneItemsAndReading := by
  unfold Obligations.LaneItemsAndReading
  refine ⟨?_, ?_, ?_, ?_, ?_, ?_, ?_, ?_, ?_, ?_, ?_, ?_, ?_, ?_⟩
  · intro l samples s u h
    refine ⟨?_, ?_, ?_, ?_⟩
    · rfl
    · rfl
    · rfl
    · grind [exec_readRaw, execReadRaw, State.inBlk]
  · intro l opc n r i w w' s u h h1
    rw [State.laneItem, onItem_some h, State.ringItem, h1]
    rfl
  · intro l opc s h
    grind [State.laneItem, State.itemOf, State.onItem, State.ringItem, State.heldBy]
  · intro l n r i w s u h h1
    refine ⟨?_, ?_⟩
    · intro e h2
      grind [State.laneBegin]
    · intro h2
      grind [State.laneBegin]
  · intro l primary recovery prim recov o s u v h h1 h2 h3 h4
    rw [exec_sectorStart, execSectorStart, State.inBlk]
    subst h4 h3 h2 h1
    rw [h]
    cases s.blkOn .chn l
    · rfl
    · by_cases ho : o.opc ≠ 1 ∧ o.opc ≠ 3
      · simp [ho]
      · rw [if_pos rfl, if_neg (c := true = false ∨ _) (fun h => h.elim nofun ho)]
        dsimp only
        rw [if_neg ho]
        refine congrArg Host.Outcome.next (if_congr Iff.rfl rfl (if_congr ?_ rfl rfl))
        rw [Bool.not_eq_true']
  · intro l primary recovery dec f s h
    refine ⟨?_, ?_⟩
    · grind [exec_sectorStart, execSectorStart, State.inBlk]
    · grind [exec_decodeEnd, execDecodeEnd, State.inBlk]
  · intro l s
    grind [exec_sectorEnd, execSectorEnd, State.inBlk]
  · intro l dec field p o x f data good s u v h h1 h2 h3 h4 h5 h6 h7
    grind [exec_decodeEnd, execDecodeEnd, State.inBlk]
  · intro l dec field o s h
    refine ⟨?_, ?_⟩
    · intro h1
      grind [exec_decodeEnd, execDecodeEnd, State.inBlk]
    · intro p h1 h2
      grind [exec_decodeEnd, execDecodeEnd, State.inBlk]
  · intro l sector off set s
    rfl
  · intro l p set off x s u v h h1 h2
    refine ⟨?_, ?_⟩
    · intro h3
      grind [State.replay]
    · intro o k h3 h4
      have h99 : o = 99 → ((99, set) : Int × Nat) = (o, set) := fun e => by rw [e]
      unfold State.replay
      simp only [h, h3, h4, ne_eq, not_true_eq_false, if_false]
      by_cases hk : k = set
      · subst hk h1 h2
        by_cases ho : o = 99
        · subst ho
          simp
        · by_cases hf : o = off
          · subst hf
            simp only [not_true_eq_false, if_false, ho]
            cases (List.range 2).find? s.spareFree <;> cases (List.range 2).find? (s.decoderFree l) <;> cases s.firstIn l 1 <;> rfl
          · rw [if_pos hf, if_pos hf]
            simp [ho]
      · rw [if_pos hk, if_pos hk]
  · intro l p set off s h
    grind [State.replay]
  · intro l dec spare s u v w h h1 h2 h3
    grind [exec_decoderFault, execDecoderFault, State.inBlk]
  · intro k l dec bind on clash s u h h1 h2
    grind [exec_spareDecoderBind, execSpareDecoderBind, State.onBlk, State.cfgErrAt]

end Sys2Proof.Machine

/-!
Copies and logs: the proof of O45.
-/
namespace Sys2Proof.Machine
set_option Elab.async false

/-- Settles O45, row by row: COPY arms the lane and writes, VERIFY, XOR and LOG end with what they did. -/
theorem copiesAndLogs : Obligations.CopiesAndLogs := by
  unfold Obligations.CopiesAndLogs
  refine ⟨?_, ?_, ?_, ?_, ?_, ?_, ?_⟩
  · intro n bad s
    refine ⟨?_, ?_, ?_, ?_⟩
    · rfl
    · rfl
    · grind [exec_xor, execXor]
    · rfl
  · intro n opc g s u h
    grind [State.onCopy]
  · intro n w bad s x h
    grind [State.verifyItem]
  · intro n w h l t s h1 h2 h3
    grind [State.copyItem]
  · intro n w h l t d dspt k0 hf x s u h1 h2 h3 h4 h5 h6 h7 h8
    subst h6 h5 h4 h3 h2 h1
    unfold State.copyWrite
    extract_lets h' t' d' l'
    refine if_congr Iff.rfl rfl ?_
    refine if_congr (by rw [Bool.not_eq_true']) rfl ?_
    rw [← h7]
    dsimp only
    subst h8
    rfl
  · intro n r i w f s h
    refine ⟨?_, ?_⟩
    · grind [State.logItem]
    · grind [State.portLogItem]
  · intro s
    refine ⟨?_, ?_⟩
    · intro h
      grind [exec_portLog, execPortLog]
    · intro r i q h
      grind [exec_portLog, execPortLog]

end Sys2Proof.Machine

/-!
Scratch operations: the proof of O29.
-/
namespace Sys2Proof.Machine
set_option Elab.async false

theorem State.cs_setCs (s : State) (n m : Nat) (q : Seq) : (s.setCs n q).cs m = if m = n then q else s.cs m := by
  by_cases h : m = n
  · rw [if_pos h, h]
    exact Tbl.get_set_same _ _ _ _
  · rw [if_neg h]
    exact Tbl.get_set_other _ _ _ _ _ _ h

theorem State.sreg_setSreg (s : State) (n m d k v : Nat) :
    (s.setSreg n d v).sreg m k = if m = n ∧ k = d then v % 2 ^ 32 else s.sreg m k := by
  rw [State.sreg, State.setSreg, State.updCs, State.cs_setCs]
  by_cases hm : m = n
  · subst hm
    by_cases hk : k = d
    · rw [if_pos rfl, if_pos ⟨rfl, hk⟩, hk]
      exact Tbl.get_set_same _ _ _ _
    · rw [if_pos rfl, if_neg (fun h => hk h.2)]
      exact Tbl.get_set_other _ _ _ _ _ _ hk
  · rw [if_neg hm, if_neg (fun h => hm h.1), State.sreg]

/-- Settles O29, each row by the one rule of a scratch operation; a register's write by the rules of the tables. -/
theorem scratchOperations : Obligations.ScratchOperations := by
  unfold Obligations.ScratchOperations
  refine ⟨?_, ?_, ?_, ?_⟩
  · intro n d r imm s
    refine ⟨?_, ?_, ?_, ?_, ?_, ?_, ?_, ?_, ?_, ?_, ?_⟩
    · exact congrArg Host.Outcome.next (onScratch_eq _ _ _ _ _)
    · exact congrArg Host.Outcome.next (onScratch_eq _ _ _ _ _)
    · exact congrArg Host.Outcome.next (onScratch_eq _ _ _ _ _)
    · exact congrArg Host.Outcome.next (onScratch_eq _ _ _ _ _)
    · exact congrArg Host.Outcome.next (onScratch_eq _ _ _ _ _)
    · exact congrArg Host.Outcome.next (onScratch_eq _ _ _ _ _)
    · exact congrArg Host.Outcome.next (onScratch_eq _ _ _ _ _)
    · exact congrArg Host.Outcome.next (onScratch_eq _ _ _ _ _)
    · exact congrArg Host.Outcome.next (onScratch_eq _ _ _ _ _)
    · exact congrArg Host.Outcome.next (onScratch_eq _ _ _ _ _)
    · exact congrArg Host.Outcome.next (onScratch_eq _ _ _ _ _)
  · intro n d r imm s x h
    refine ⟨?_, ?_, ?_⟩
    · exact congrArg Host.Outcome.next (onScratch_eq _ _ _ _ _)
    · rw [h]
      exact congrArg Host.Outcome.next (onScratch_eq _ _ _ _ _)
    · rw [exec_aLdd, execALdd, onScratch_eq]
      grind
  · intro n r imm s
    rw [exec_aStd, execAStd, onScratch_eq, State.updCs, State.updCs]
    cases (s.cs n).item <;> rfl
  · intro n m d k v s
    refine ⟨?_, ?_, ?_, ?_⟩
    · exact s.sreg_setSreg n m d k v
    · rfl
    · rfl
    · rfl

end Sys2Proof.Machine

/-!
DRAM service and repair: the proof of O22.
-/
namespace Sys2Proof.Machine
set_option Elab.async false

/-- Settles O22, row by row: DRAM's enable, training, scrub, fill and repair by their own cases. -/
theorem dramServiceAndRepair : Obligations.DramServiceAndRepair := by
  unfold Obligations.DramServiceAndRepair
  refine ⟨?_, ?_, ?_, ?_, ?_, ?_⟩
  · intro s h
    refine ⟨?_, ?_⟩
    · grind [exec_bufDdrEn, execBufDdrEn, State.onBlk, State.blkOn]
    · have hb : s.blkOn .buf 0 = true := h
      rw [exec_bufDdrEn, execBufDdrEn, onBlk_on hb, if_neg Bool.false_ne_true]
      refine congrArg Host.Outcome.next (if_congr ?_ rfl rfl)
      simp only [List.any_cons, List.any_nil, Bool.or_eq_true, Bool.or_false]
      grind
  · intro bank row ch v s
    refine ⟨?_, ?_⟩
    · intro h
      grind [exec_postPackageRepair, execPostPackageRepair, State.onBlk, State.blkOn, State.cfgErrAt]
    · intro h
      refine ⟨?_, ?_⟩
      · grind [exec_bufDdrEn, execBufDdrEn, State.onBlk, State.blkOn]
      · grind [exec_postPackageRepair, execPostPackageRepair, State.onBlk, State.blkOn]
  · intro s good
    refine ⟨?_, ?_⟩
    · intro h
      grind [exec_ddrTrainingEnd, execDdrTrainingEnd]
    · intro h
      refine ⟨?_, ?_⟩
      · grind [exec_ddrTrainingEnd, execDdrTrainingEnd]
      · grind [exec_ddrTrainingEnd, execDdrTrainingEnd, State.cfgErrAt]
  · intro s u h
    refine ⟨?_, ?_⟩
    · rw [exec_patrolScrub, execPatrolScrub, h]
      simp only [Bool.not_eq_true']
    · intro h1
      grind [State.scrubGranule]
  · intro s a
    refine ⟨?_, ?_, ?_, ?_⟩
    · intro h
      grind [exec_dramFill, execDramFill]
    · intro h h1
      grind [exec_dramFill, execDramFill, State.access, State.perform]
    · intro h h1
      grind [State.fillLine]
    · intro h h1
      grind [State.fillLine]
  · intro s good
    rfl

end Sys2Proof.Machine

/-!
Temperatures and calibration: the proof of O57.
-/
namespace Sys2Proof.Machine
set_option Elab.async false

theorem State.calSubmit_eq (s : State) (g : State → Nat → State) : s.calSubmit g =
    if s.blkOn .cal 0 = false then s.unstarted .cal
    else if s.b .CAL_FW_WAIT 0 = false then s.cfgErr .cal (Fld.CAL_SUBMIT_GO.addr 0)
    else (g ((s.setB .CAL_FW_WAIT 0 false).updCal (fun c => { c with chain := 0 })) (s.f .CAL_FW_ITEM 0)).assistShow := by
  rw [State.calSubmit, State.onBlk_eq]
  cases s.b .CAL_FW_WAIT 0 <;> rfl

/-- Settles O57, row by row: conversions, the throttle's level, the restart wait and the calibration's items. -/
theorem temperaturesAndCalibration : Obligations.TemperaturesAndCalibration := by
  unfold Obligations.TemperaturesAndCalibration
  refine ⟨?_, ?_, ?_, ?_, ?_, ?_, ?_, ?_, ?_, ?_, ?_, ?_, ?_⟩
  · intro m s u v h h1
    refine ⟨?_, ?_, ?_, ?_⟩
    · rfl
    · rfl
    · have ht : (s.requestConv 0xF000).thm = s.thm := s.setF_thm _ _ _
      rw [exec_aonSensorScan, execAonSensorScan]
      dsimp only
      rw [ht, h, State.requestConv]
    · grind [exec_throttleWindow, execThrottleWindow, State.inBlk, State.updThm]
  · intro temp n s u v h h1 h2
    obtain ⟨-, -, hn⟩ := firstFrom_some h
    have hc : (!(n == 12 || n == 13 || n == 14 || n == 15 || u.dom (sensorDom n))) = true ↔ n < 12 ∧ u.dom (sensorDom n) = false := by
      cases u.dom (sensorDom n) <;> simp <;> omega
    rw [exec_conversionEnd, execConversionEnd]
    dsimp only
    rw [h]
    subst h1
    refine congrArg Host.Outcome.next (if_congr hc rfl ?_)
    subst h2
    simp only [Bool.and_eq_true, decide_eq_true_eq, Bool.not_eq_true']
  · intro temp s u h h1
    refine ⟨?_, ?_⟩
    · grind [exec_conversionEnd, execConversionEnd]
    · grind [exec_restartWaitEnd, execRestartWaitEnd]
  · intro good n s
    refine ⟨?_, ?_, ?_⟩
    · grind [State.coolCheck]
    · rfl
    · rfl
  · intro c l n on step s u h h1 h2 h3 h4 h5
    subst h5 h4 h3 h2 h1 h
    rfl
  · intro b s h
    refine ⟨?_, ?_, ?_⟩
    · grind [State.levelHold]
    · intro h1
      rfl
    · intro n
      rfl
  · intro v n s
    refine ⟨?_, ?_, ?_, ?_, ?_⟩
    · grind [exec_calEn, execCalEn, State.onBlk, State.cfgErrAt]
    · grind [exec_calDue, execCalDue, State.onBlk]
    · grind [exec_calItemDue, execCalItemDue, State.inBlk]
    · rfl
    · rfl
  · intro n s u h h1
    grind [exec_calMeasurementStart, execCalMeasurementStart, State.inBlk]
  · intro s h
    grind [exec_calMeasurementStart, execCalMeasurementStart, State.inBlk]
  · intro n v s
    refine ⟨?_, ?_⟩
    · grind [exec_calMeasurementEnd, execCalMeasurementEnd, State.inBlk, State.calDiscard]
    · grind [exec_calStarve, execCalStarve, State.inBlk]
  · intro v s u h
    refine ⟨?_, ?_⟩
    · rw [exec_calSubmit, execCalSubmit, s.calSubmit_eq, ← h]
    · rw [exec_calDiscard, execCalDiscard, s.calSubmit_eq, ← h]
      rfl
  · intro n v start l s u h h1 h2
    grind [State.calValue]
  · intro n l s u v w h h1 h2
    refine ⟨?_, ?_⟩
    · grind [State.calAccept]
    · grind [State.calReject]

end Sys2Proof.Machine

/-!
The event recorder's commands: the proof of O58.
-/
namespace Sys2Proof.Machine
set_option Elab.async false

theorem State.evrMay_iff (s : State) : s.evrMay = true ↔
    s.b .EVR_STATUS_READY 0 = true ∧ s.b .EVR_CTRL_FREEZE 0 = false ∧ s.efl.run = none ∧ s.efl.susp = none := by
  simp only [State.evrMay, Bool.and_eq_true, Bool.not_eq_true', Option.isNone_iff_eq_none, and_assoc]

/-- What the recorder does only while it may use the flash. -/
theorem State.evrMay_ite (s t : State) : (if (!s.evrMay) = true then s else t) =
    if s.b .EVR_STATUS_READY 0 = true ∧ s.b .EVR_CTRL_FREEZE 0 = false ∧ s.efl.run = none ∧ s.efl.susp = none then t else s := by
  rw [← if_congr s.evrMay_iff rfl rfl]
  cases s.evrMay <;> rfl

/-- Settles O58, row by row; what touches the flash waits while State.evrMay is false. -/
theorem eventRecorderCommands : Obligations.EventRecorderCommands := by
  unfold Obligations.EventRecorderCommands
  refine ⟨?_, ?_, ?_, ?_, ?_, ?_, ?_⟩
  · intro code a0 a1 a2 keep s u h
    refine ⟨?_, ?_, ?_⟩
    · grind [exec_eventEntry, execEventEntry, hwCode]
    · grind [exec_eventSubmit, execEventSubmit, State.onBlk, State.cfgErrAt]
    · grind [exec_evrEn, execEvrEn, State.onBlk]
  · intro k c bad s u v h h1 h2 h3 h4
    grind [exec_evrScanEnd, execEvrScanEnd]
  · intro r q s u h h1
    rw [exec_recordProgram, execRecordProgram, h]
    subst h1
    exact congrArg Host.Outcome.next (if_congr Iff.rfl rfl (s.evrMay_ite _))
  · intro n s u h h1
    refine ⟨?_, ?_, ?_⟩
    · grind [exec_operatingMinuteEnd, execOperatingMinuteEnd]
    · rfl
    · intro h2
      grind [exec_recordProgram, execRecordProgram]
  · intro key areas s u h
    grind [exec_eventClear, execEventClear, State.onBlk, State.cfgErrAt]
  · intro v s
    refine ⟨?_, ?_⟩
    · intro h
      grind [State.clearDue]
    · intro h
      rw [State.clearDue, h]
      exact s.evrMay_ite _
  · intro areas all r x y s u v h h1 h2 h3 h4 h5
    grind [State.clearAreas]

end Sys2Proof.Machine

/-!
The vault and a loss of power: the proof of O59.
-/
namespace Sys2Proof.Machine
set_option Elab.async false

/-- Settles O59, row by row: the vault's operations, the pages of an image and a loss of power. -/
theorem vaultAndPowerLoss : Obligations.VaultAndPowerLoss := by
  unfold Obligations.VaultAndPowerLoss
  refine ⟨?_, ?_, ?_, ?_, ?_, ?_, ?_, ?_, ?_, ?_, ?_, ?_, ?_⟩
  · intro good s
    refine ⟨?_, ?_, ?_, ?_⟩
    · rfl
    · rfl
    · rfl
    · rfl
  · intro opc n w good s u h
    cases hb : s.blkOn .plv 0 with
    | false => exact (inBlk_off hb).trans (if_pos rfl).symm
    | true =>
      rw [State.vaultItem, inBlk_on hb, onItem_some h, if_neg (c := true = false) nofun]
      refine if_congr Iff.rfl rfl (if_congr Iff.rfl rfl ?_)
      cases u.vaultRefusal w with
      | some d => rfl
      | none =>
        generalize u.vaultOp w good = r
        obtain ⟨_ | r, v⟩ := r <;> rfl
  · intro opc good s h
    cases hb : s.blkOn .plv 0 with
    | false => exact (inBlk_off hb).trans (if_neg nofun).symm
    | true => rw [State.vaultItem, inBlk_on hb, onItem_none h, if_pos rfl]
  · intro w good s
    refine ⟨?_, ?_, ?_, ?_, ?_⟩
    · grind [State.vaultRefusal]
    · intro h
      grind [State.vaultOp]
    · intro h
      grind [State.vaultOp]
    · intro h
      grind [State.vaultOp]
    · intro h
      grind [State.vaultOp, State.vaultScan]
  · intro good v s u w h h1
    refine ⟨?_, ?_⟩
    · intro h2
      grind [State.vaultArm]
    · intro a x h2 h3
      grind [State.vaultArm]
  · intro ledger a bad n m s t u v w h h1 h2 h3 h4 h5 h6
    unfold State.vaultRestore
    extract_lets newest t' fail
    obtain rfl : t = t' := h1
    have hn : newest = some a := h
    rw [hn]
    dsimp only
    rw [← h2]
    refine if_congr Iff.rfl rfl (if_congr Iff.rfl rfl (if_congr (by rw [Bool.not_eq_true']) rfl ?_))
    rw [← h3]
    dsimp only
    rw [← h4, ← h5, ← h6]
    by_cases hz : n = 0
    · rw [if_pos hz, if_pos hz, if_pos hz]
    · rw [if_neg hz, if_neg hz, if_neg hz]
  · intro ledger s h
    grind [State.vaultRestore]
  · intro v diesGood ppb blocks s u w h h1
    grind [exec_plvEn, execPlvEn, State.onBlk, State.cfgErrAt]
  · intro s t u v w h h1 h2 h3
    rw [exec_powerLossDetect, execPowerLossDetect]
    unfold State.powerLoss
    refine congrArg Host.Outcome.next (if_congr Iff.rfl rfl ?_)
    extract_lets t' u' frozen v' w'
    obtain rfl : t = t' := h
    obtain rfl : u = u' := h1
    obtain rfl : v = v' := h2
    obtain rfl : w = w' := h3
    refine if_congr (by rw [Bool.and_eq_true, Bool.not_eq_true']) rfl (if_congr ?_ rfl rfl)
    exact Bool.or_eq_true_iff
  · intro s u h
    refine ⟨?_, ?_, ?_, ?_⟩
    · grind [State.lossFreeze]
    · grind [State.lossRetract]
    · rfl
    · rw [exec_energyOkFall, execEnergyOkFall]
      cases hb : s.blkOn .plv 0 with
      | false => rw [inBlk_off hb, if_neg (fun h => Bool.false_ne_true h.1)]
      | true =>
        rw [inBlk_on hb]
        refine congrArg Host.Outcome.next (if_congr ?_ rfl rfl)
        simp only [true_and, Bool.not_eq_true', Option.isNone_iff_eq_none]
  · intro x d pos good s u r h h1 h2 h3 h4
    grind [exec_vaultPageProgrammed, execVaultPageProgrammed]
  · intro x s u v h h1 h2
    grind [exec_dumpEnd, execDumpEnd, State.updPlv]
  · intro good s u h
    refine ⟨?_, ?_⟩
    · intro h1
      refine ⟨?_, ?_⟩
      · grind [exec_vaultPageProgrammed, execVaultPageProgrammed]
      · grind [exec_dumpEnd, execDumpEnd]
    · grind [exec_railsOff, execRailsOff]

end Sys2Proof.Machine

/-!
Paired operation: the proof of O60.
-/
namespace Sys2Proof.Machine
set_option Elab.async false

/-- Settles O60, row by row: the link's frames, the mirror, keys, takeover and fencing. -/
theorem pairedOperation : Obligations.PairedOperation := by
  unfold Obligations.PairedOperation
  refine ⟨?_, ?_, ?_, ?_, ?_, ?_, ?_, ?_, ?_, ?_, ?_, ?_, ?_⟩
  · intro v r s h
    refine ⟨?_, ?_⟩
    · grind [exec_mirEn, execMirEn, State.onBlk, State.cfgErrAt]
    · grind [exec_medlarLinkUp, execMedlarLinkUp, State.inBlk]
  · intro p term m r s u v w h h1 h2 h3
    grind [exec_hello, execHello, State.inBlk]
  · intro own other i
    cases own <;> cases other <;> rfl
  · intro h g s u v h1 h2
    refine ⟨?_, ?_⟩
    · grind [State.frameIn, State.inBlk, State.sendIdle]
    · refine congrArg (s.frameIn h) (funext fun x => if_congr ?_ rfl rfl)
      rw [Bool.not_eq_true']
  · intro h d s
    refine ⟨?_, ?_, ?_⟩
    · rfl
    · rfl
    · grind [exec_keyFrame, execKeyFrame]
  · intro h a wedge mode prim mate ont track coarse fine0 fine1 si since cw fw c s h1
    grind [exec_servoFrame, execServoFrame]
  · intro h th per tq l m s
    refine ⟨?_, ?_⟩
    · rfl
    · rfl
  · intro s
    refine ⟨?_, ?_, ?_⟩
    · grind [exec_ackTimeout, execAckTimeout, State.inBlk]
    · unfold State.resend
      refine if_congr List.isEmpty_iff rfl (if_congr Iff.rfl rfl ?_)
      dsimp only
      rw [State.inc_mir]
      rfl
    · grind [exec_resyncEnd, execResyncEnd, State.inBlk]
  · intro ns s u v h h1
    refine ⟨?_, ?_⟩
    · grind [exec_resync, execResync, State.onBlk, State.cfgErrAt]
    · grind [exec_keyExchange, execKeyExchange, State.onBlk, State.cfgErrAt]
  · intro i a y s h h1
    subst h1 h
    rfl
  · intro line high s u v h h1
    refine ⟨?_, ?_, ?_, ?_, ?_⟩
    · rfl
    · grind [exec_autoTakeover, execAutoTakeover]
    · rfl
    · rfl
    · grind [exec_fenced, execFenced]
  · intro t s u v h h1 h2
    refine ⟨?_, ?_, ?_, ?_⟩
    · grind [State.takeNow]
    · rfl
    · rfl
    · intro c
      grind [State.linkDown, State.unsync]
  · intro line high s u v h h1
    grind [State.lineTo]

end Sys2Proof.Machine

/-!
Appends and band states: the proof of O26.
-/
namespace Sys2Proof.Machine
set_option Elab.async false

/-- Settles O26, an append by the order of its checks, the effect of a record by the record's type. -/
theorem appendsAndBandStates : Obligations.AppendsAndBandStates := by
  unfold Obligations.AppendsAndBandStates
  refine ⟨?_, ?_⟩
  · intro typ flags tail gen mseq body b r s u v w x htail hgen hmseq hb hr hu hv hw hx
    unfold State.append0
    extract_lets b' tail' gen' mseq' b₁ r' u' v' w₁ w' x' y'
    obtain rfl : tail = tail' := htail
    obtain rfl : gen = gen' := hgen
    obtain rfl : mseq = mseq' := hmseq
    obtain rfl : b = b' := hb
    obtain rfl : r = r' := hr
    obtain rfl : u = u' := hu
    obtain rfl : v = v' := hv
    obtain rfl : w = w' := hw
    obtain rfl : x = x' := hx
    refine if_congr (by rw [Bool.not_eq_true']) rfl (if_congr Iff.rfl rfl (if_congr Iff.rfl rfl (if_congr (by rw [Bool.not_eq_true']) rfl ?_)))
    rfl
  · intro s p r h
    refine ⟨?_, ?_, ?_, ?_, ?_, ?_, ?_, ?_⟩
    · intro h1
      grind [State.recApply]
    · intro h1
      grind [State.recApply]
    · intro h1 h2
      grind [State.recApply]
    · intro h1 h2 h3
      grind [State.recApply]
    · intro h1 h2 h3
      grind [State.recApply]
    · intro h1 h2
      grind [State.recApply]
    · intro h1 h2 h3
      grind [State.recApply]
    · intro h1
      grind [State.recApply]

end Sys2Proof.Machine

/-!
From doorbell to completion: arbitration, intake and release, and the proof of O16.
-/
namespace Sys2Proof.Machine
set_option Elab.async false

theorem nextQueue_mem {last : Nat} {l : List (Nat × SubQ)} (hl : l ≠ []) : ∃ e ∈ l, nextQueue last l = some e := by
  unfold nextQueue
  cases hf : l.find? (fun e => decide (last < e.1)) with
  | some e => exact ⟨e, List.mem_of_find?_eq_some hf, rfl⟩
  | none =>
    cases l with
    | nil => exact absurd rfl hl
    | cons e l => exact ⟨e, List.mem_cons_self, rfl⟩

/-- A new round only sets the credits and the burst. -/
theorem State.newRound_eq (s : State) (w : List (Nat × SubQ)) :
    ∃ (c : Tbl Nat) (ab : Nat), s.newRound w = s.updCiu (fun x => { x with credits := c, ab := ab }) := by
  unfold State.newRound
  split
  · exact ⟨s.ciu.credits, s.ciu.ab, rfl⟩
  · exact ⟨_, _, rfl⟩

/-- Once a new round is there, a class with a queue of its own has a credit. -/
theorem State.newRound_credit (s : State) {w : List (Nat × SubQ)} (hw : ∃ e ∈ w, e.2.cls ∈ [2, 3, 4]) :
    ∃ k, [2, 3, 4].find? ((s.newRound w).hasCredit w) = some k := by
  have hsome (u : State) (h : [2, 3, 4].any (u.hasCredit w) = true) : ∃ k, [2, 3, 4].find? (u.hasCredit w) = some k :=
    Option.isSome_iff_exists.1 (by rw [List.find?_isSome]; exact List.any_eq_true.1 h)
  by_cases h : [2, 3, 4].any (s.hasCredit w) = true
  · have hs : s.newRound w = s := if_pos h
    rw [hs]
    exact hsome s h
  · have hs : s.newRound w = s.updCiu (fun x => { x with credits := [2, 3, 4].map (fun c => (c, s.weight c)), ab := s.f .CIU_ARB_AB 0 }) := if_neg h
    rw [hs]
    obtain ⟨e, he, hc⟩ := hw
    refine hsome _ ?_
    refine List.any_eq_true.2 ⟨e.2.cls, hc, ?_⟩
    rw [State.hasCredit, Bool.and_eq_true, decide_eq_true_eq]
    refine ⟨?_, List.any_eq_true.2 ⟨e, he, beq_self_eq_true _⟩⟩
    have hpos (c : Nat) : 0 < s.weight c := Nat.succ_pos _
    simp only [List.mem_cons, List.not_mem_nil, or_false] at hc
    rcases hc with h2 | h3 | h4
    · rw [h2]; exact hpos 2
    · rw [h3]; exact hpos 3
    · rw [h4]; exact hpos 4

/-- Arbitration's grant of a queue of the strictest rank among those that may be granted. -/
theorem execArbitrationGrant_least (s : State) (hen : s.b .CIU_CTRL_EN 0 = true) (hhold : s.b .CIU_CTRL_FETCH_HOLD 0 = false)
    (hne : s.candidates ≠ []) (hcls : ∀ e ∈ s.candidates, e.2.cls ≤ 4) :
    ∃ e ∈ s.candidates, (∀ d ∈ s.candidates, s.rank e.1 e.2 ≤ s.rank d.1 d.2) ∧
      ∃ c ab, execArbitrationGrant s = .next ((s.updCiu (fun x => { x with credits := c, ab := ab })).grant e.1 e.2) := by
  have hrank (d : Nat × SubQ) : s.rank d.1 d.2 < 3 := by
    unfold State.rank
    split <;> omega
  obtain ⟨r, hr⟩ : ∃ r, (List.range 3).find? (fun r => s.candidates.any (fun e => s.rank e.1 e.2 == r)) = some r := by
    refine Option.isSome_iff_exists.1 ?_
    obtain ⟨e, he⟩ := List.exists_mem_of_ne_nil _ hne
    rw [List.find?_isSome]
    exact ⟨s.rank e.1 e.2, List.mem_range.2 (hrank e), List.any_eq_true.2 ⟨e, he, beq_self_eq_true _⟩⟩
  obtain ⟨hr₁, -, hr₂⟩ := List.find?_range_eq_some.1 hr
  obtain ⟨e₀, he₀, hre₀⟩ := List.any_eq_true.1 hr₁
  have hleast (d : Nat × SubQ) (hd : d ∈ s.candidates) : r ≤ s.rank d.1 d.2 := by
    by_contra hlt
    have := hr₂ _ (Nat.lt_of_not_le hlt)
    rw [Bool.not_eq_true', List.any_eq_false] at this
    exact this d hd (beq_self_eq_true _)
  obtain ⟨l, hld⟩ : ∃ l, s.candidates.filter (fun e => s.rank e.1 e.2 == r) = l := ⟨_, rfl⟩
  have hl {e : Nat × SubQ} (he : e ∈ l) : e ∈ s.candidates ∧ ∀ d ∈ s.candidates, s.rank e.1 e.2 ≤ s.rank d.1 d.2 := by
    obtain ⟨hc, hre⟩ := List.mem_filter.1 (hld ▸ he)
    exact ⟨hc, fun d hd => (beq_iff_eq.1 hre).symm ▸ hleast d hd⟩
  have hlne : l ≠ [] := List.ne_nil_of_mem (hld ▸ List.mem_filter.2 ⟨he₀, hre₀⟩)
  obtain ⟨w, hwd⟩ : ∃ w, s.candidates.filter (fun e => s.rank e.1 e.2 == 2 && (s.ctrl (e.1 / 2048)).wrr) = w := ⟨_, rfl⟩
  obtain ⟨c, ab, hu⟩ := s.newRound_eq w
  have hur (e : Nat × SubQ) : (s.newRound w).rank e.1 e.2 = s.rank e.1 e.2 := by rw [hu]; rfl
  have huc (p : Nat) : (s.newRound w).ctrl p = s.ctrl p := by rw [hu]; rfl
  have hgrant (c : Tbl Nat) (ab : Nat) (e : Nat × SubQ) (he : e ∈ l) :
      ∃ e' ∈ s.candidates, (∀ d ∈ s.candidates, s.rank e'.1 e'.2 ≤ s.rank d.1 d.2) ∧
        ∃ c' ab', (Host.Outcome.next ((s.updCiu (fun x => { x with credits := c, ab := ab })).grant e.1 e.2) : Outcome) =
          .next ((s.updCiu (fun x => { x with credits := c', ab := ab' })).grant e'.1 e'.2) :=
    ⟨e, (hl he).1, (hl he).2, c, ab, rfl⟩
  unfold execArbitrationGrant
  rw [if_neg (by rw [hen, hhold]; decide)]
  dsimp only
  rw [hr]
  dsimp only
  rw [hwd]
  simp only [hur, huc]
  rw [hld]
  by_cases hw : r = 2 ∧ (!(l.filter (fun e => (s.ctrl (e.1 / 2048)).wrr)).isEmpty) = true
  · obtain ⟨hr2, hwe⟩ := hw
    have hlw : l.filter (fun e => (s.ctrl (e.1 / 2048)).wrr) = w := by
      rw [← hld, ← hwd, hr2]
      exact (List.filter_filter ..).trans (List.filter_congr fun e _ => Bool.and_comm _ _)
    have hex : ∃ e ∈ w, e.2.cls ∈ [2, 3, 4] := by
      obtain ⟨e, he⟩ := List.exists_mem_of_ne_nil w (by rw [← hlw]; simpa using hwe)
      refine ⟨e, he, ?_⟩
      obtain ⟨hec, hef⟩ := List.mem_filter.1 (hwd ▸ he)
      rw [Bool.and_eq_true, beq_iff_eq] at hef
      obtain ⟨he2, hewrr⟩ := hef
      rw [State.rank, if_pos hewrr] at he2
      have := hcls e hec
      have hc : e.2.cls = 2 ∨ e.2.cls = 3 ∨ e.2.cls = 4 := by omega
      simpa using hc
    obtain ⟨k, hk⟩ := s.newRound_credit hex
    rw [if_pos ⟨hr2, hwe⟩, hlw, hk]
    dsimp only
    have hcr : (s.newRound w).hasCredit w k = true := List.find?_some hk
    obtain ⟨-, hany⟩ := Bool.and_eq_true_iff.1 hcr
    obtain ⟨e₁, he₁, hk₁⟩ := List.any_eq_true.1 hany
    obtain ⟨e, he, hq⟩ := nextQueue_mem (last := Tbl.get ((s.newRound w).updCiu
      (fun x => { x with credits := Tbl.upd x.credits 0 k (· - 1) })).ciu.lastQ 0 k)
      (List.ne_nil_of_mem (a := e₁) (l := w.filter (fun e => e.2.cls == k)) (List.mem_filter.2 ⟨he₁, hk₁⟩))
    rw [hq]
    dsimp only
    rw [hu]
    exact hgrant _ _ e (List.mem_of_mem_filter (hlw.symm ▸ (List.mem_filter.1 he).1))
  · rw [if_neg hw]
    obtain ⟨e, he, hq⟩ := nextQueue_mem (last := Tbl.get (s.newRound w).ciu.lastQ 0
      (if (l.filter (fun e => (s.ctrl (e.1 / 2048)).wrr)).isEmpty = true then 5 else r)) hlne
    rw [hq]
    dsimp only
    rw [hu]
    exact hgrant _ _ e he

/-- What a grant appends, moves and leaves. -/
theorem State.grant_facts (s : State) (k n : Nat) (x : SubQ)
    (hn : n = min (min x.waiting (s.grantRoom (k % 2048))) (if s.ciu.ab = 7 then x.waiting else 2 ^ s.ciu.ab)) :
    (s.grant k x).ciu.grants = s.ciu.grants ++ (List.range n).map (fun i =>
       { p := k / 2048, q := k % 2048, i := (x.head + i) % x.size, order := s.ciu.nextOrder + i }) ∧
      ((s.grant k x).sq (k / 2048) (k % 2048)).head = (x.head + n) % x.size ∧ (s.grant k x).ciu.nextOrder = s.ciu.nextOrder + n ∧
      (s.grant k x).b .CIU_STATUS_IDLE 0 = false ∧ (s.grant k x).mem = s.mem ∧ (s.grant k x).out = s.out := by
  subst hn
  unfold State.grant
  extract_lets turn ab n o g y
  refine ⟨?_, ?_, ?_, ?_, ?_, ?_⟩
  · rw [State.setB_ciu]
    rfl
  · rw [State.sq, State.setB_ciu]
    exact congrArg SubQ.head (Tbl.get_set_same _ _ _ _)
  · rw [State.setB_ciu]
    rfl
  · exact State.b_setB_false _ _ (by decide)
  · rw [State.setB_mem]
    rfl
  · rw [State.setB_out]
    rfl

theorem State.cmd_setCmd (s : State) (t : Nat) (c : Cmd) : (s.setCmd t c).cmd t = c := Tbl.get_set_same _ _ _ _

theorem State.startCmd_admin {s : State} {t : Nat} (h : (s.cmd t).admin = true) :
    s.startCmd t = s.setCmd t { s.cmd t with phase := .firmware } := by
  simp only [State.startCmd, h, Bool.not_true, Bool.false_and, Bool.false_eq_true, if_false]

theorem State.startCmd_write {s : State} {t : Nat} (h : (s.cmd t).admin = false) (ho : (s.cmd t).opc = 1 ∨ (s.cmd t).opc = 8 ∨ (s.cmd t).opc = 0x7D) :
    s.startCmd t = s.setCmd t { s.cmd t with phase := .active } := by
  unfold State.startCmd
  rcases ho with ho | ho | ho <;> simp [h, ho]

theorem State.startCmd_hit {s : State} {t : Nat} (h : (s.cmd t).admin = false) (ho : (s.cmd t).opc = 2) (hen : s.b .CIU_CTRL_HIT_EN 0 = true)
    (hb : (s.cmd t).blocks ≤ 32) (hi : ∀ i < (s.cmd t).blocks, (s.bufIdx ((s.cmd t).nsid - 1) ((s.cmd t).slba + i)).isSome = true) :
    ((s.startCmd t).cmd t).phase = .hit := by
  have hall : ((List.range (s.cmd t).blocks).map (fun i => s.bufIdx ((s.cmd t).nsid - 1) ((s.cmd t).slba + i))).all Option.isSome = true := by
    rw [List.all_map, List.all_eq_true]
    exact fun i hi' => hi i (List.mem_range.1 hi')
  simp only [State.startCmd, h, ho, hen, hb, hall, Bool.not_false, beq_self_eq_true, decide_true, Bool.and_self, if_true, State.cmd_setCmd]

theorem State.event_ciu (s : State) (c a0 a1 a2 : Nat) : (s.event c a0 a1 a2).ciu = s.ciu := by
  obtain ⟨r, e, h⟩ := s.event_only c a0 a1 a2
  rw [h]

theorem State.becomeBuffered_phase (s : State) (t : Nat) : ((s.becomeBuffered t).cmd t).phase = .buffered := by
  have hb (u : State) (x : Cmd) (l : Nat) (v : Bool) : (((u.setCmd t { x with phase := .buffered, slba := l }).updCiu
      (fun y => { y with awaitMirror := Tbl.set y.awaitMirror false t v })).cmd t).phase = .buffered := by
    rw [State.cmd, State.updCiu]
    exact congrArg Cmd.phase (u.cmd_setCmd t { x with phase := .buffered, slba := l })
  unfold State.becomeBuffered
  extract_lets c lba s₁ s₂ s₃ wait s₄
  have h₄ : (s₄.cmd t).phase = .buffered := hb s₃ c lba wait
  generalize s₄ = u at h₄
  split
  · exact h₄
  · rw [State.cmd, State.event_ciu]
    exact h₄

theorem State.setInflight_only (s : State) (n : Nat) : ∃ r, s.setInflight n = { s with regs := r } := ⟨_, rfl⟩

/-- What leaves with a command that reads no slot. -/
theorem State.leave_facts (s : State) (t : Nat) (h : (s.cmd t).reading = []) :
    (s.leave t).cmd t = {} ∧ Tbl.get (s.leave t).ciu.epoch 0 t = (Tbl.get s.ciu.epoch 0 t + 1) % 8 ∧
      (s.leave t).ciu.released = s.ciu.released ++ [t] ∧ (s.leave t).mem = s.mem ∧ (s.leave t).out = s.out := by
  have hu (u : State) (a b : Bool) : ∃ r, (if a = true then u else u.setInflight (u.f .CIU_OVL_STAT_INFLIGHT 0 - 1)) = { u with regs := r } := by
    cases a
    · exact u.setInflight_only _
    · exact ⟨u.regs, rfl⟩
  unfold State.leave
  extract_lets r ended s₁ s₂
  have hr : r = [] := h
  rw [hr, List.foldl_nil]
  obtain ⟨q, hq⟩ := hu s₁ ended false
  have h₂ : s₂ = { s₁ with regs := q } := hq
  rw [h₂]
  exact ⟨s.cmd_setCmd t {}, Tbl.get_set_same s.ciu.epoch 0 ((Tbl.get s.ciu.epoch 0 t + 1) % 8) t, rfl, rfl, rfl⟩

/-- Settles O16: the doorbell, arbitration, the checks of a fetched entry, its start and its waits, and what a completion leaves, each by the lemma
that says it of the operation. -/
theorem commandIntakeAndRelease : Obligations.CommandIntakeAndRelease := by
  unfold Obligations.CommandIntakeAndRelease
  refine ⟨?_, ?_, ?_, ?_, ?_, ?_, ?_, ?_, ?_, ?_, ?_, ?_, ?_⟩
  · intro p q tail s
    refine ⟨?_, ?_, ?_⟩
    · intro h b
      grind [exec_sqDoorbell, execSqDoorbell]
    · intro h
      grind [exec_sqDoorbell, execSqDoorbell]
    · intro h
      grind [exec_sqDoorbell, execSqDoorbell]
  · intro s
    refine ⟨?_, ?_⟩
    · intro h
      grind [exec_arbitrationGrant, execArbitrationGrant]
    · intro h h1 h2 h3
      exact execArbitrationGrant_least s h h1 h2 h3
  · intro s k n x h
    exact s.grant_facts k n x h
  · intro p q e s
    refine ⟨?_, ?_⟩
    · intro h
      grind [exec_commandIntake, execCommandIntake]
    · intro g h
      grind [exec_commandIntake, execCommandIntake]
  · intro p q o e s
    refine ⟨?_, ?_, ?_⟩
    · intro h
      grind [State.takeIn, sqeCmd, State.cidConflict]
    · intro h sct sc h1
      grind [State.takeIn, sqeCmd]
    · intro h h1 t h2
      grind [State.takeIn, sqeCmd]
  · intro t c s u v w h h1 h2
    grind [State.enterFlight]
  · intro t s
    exact ⟨State.startCmd_admin, State.startCmd_write, State.startCmd_hit⟩
  · intro t s
    rw [exec_overlapWaitEnd, execOverlapWaitEnd]
    simp only [Bool.and_eq_true, beq_iff_eq, Bool.not_eq_true', and_assoc]
  · intro t s u h
    rw [exec_bufferSlotWaitEnd, execBufferSlotWaitEnd, h]
    simp only [Bool.and_eq_true, beq_iff_eq, decide_eq_true_eq, and_assoc]
  · intro t s
    refine ⟨?_, ?_, s.becomeBuffered_phase t⟩
    · rintro (h | h | h) <;> exact congrArg Host.Outcome.next (State.onIo_serving h _ rfl _)
    · intro h1 h2 h3
      refine congrArg Host.Outcome.next (State.onIo_idle (fun o ho => ?_) _)
      simp only [List.contains_cons, List.contains_nil, Bool.or_false, Bool.or_eq_true, beq_iff_eq] at ho
      rcases ho with rfl | rfl | rfl <;> assumption
  · intro t s
    rw [exec_writeCompletionRelease, execWriteCompletionRelease]
    simp only [Bool.and_eq_true, beq_iff_eq, Bool.not_eq_true', and_assoc]
  · intro t sct sc dw0 i s u v
    refine ⟨?_, ?_, ?_⟩
    · intro h h1
      simp only [State.finish, h]
      refine if_neg fun h2 => ?_
      simp only [Bool.and_eq_true, beq_iff_eq] at h2
      rcases h1 with h1 | h1
      · exact Bool.false_ne_true (h1.symm.trans h2.1)
      · exact h1 h2.2
    · intro h h1 h2
      simp only [State.finish, h, h1, h2, beq_self_eq_true, Bool.and_self, if_true]
    · intro h h1 h2 h3 h4
      simp only [State.finish, h]
      rw [← h2, h3, ← h4]
      rfl
  · intro t s h
    exact s.leave_facts t h

end Sys2Proof.Machine

/-!
Sequencer control: the proof of O28.
-/
namespace Sys2Proof.Machine
set_option Elab.async false

theorem State.csFault_facts (s : State) {n code : Nat} (hn : n < 44) (hc : code < 16) :
    (s.csFault n code).f .ENG_CS_STAT_STATE n = 3 ∧ (s.csFault n code).f .ENG_CS_STAT_FAULT n = code ∧
      (s.csFault n code).b .ENG_STATUS_FAULT_EV 0 = true ∧ (s.csFault n code).mem = s.mem := by
  have hn' : n < 2048 := by omega
  unfold State.csFault
  refine ⟨?_, ?_, ?_, ?_⟩
  · rw [State.event_f _ _ _ _ _ _ _ (by decide), State.f_setB_ne _ _ _ _ _ _ (by decide)]
    exact (State.f_setF_ne _ .ENG_CS_STAT_FAULT .ENG_CS_STAT_STATE n n code nofun).trans (State.f_setF_same _ _ _ 3 hn')
  · rw [State.event_f _ _ _ _ _ _ _ (by decide), State.f_setB_ne _ _ _ _ _ _ (by decide)]
    exact (State.f_setF_same _ _ _ code hn').trans (Nat.mod_eq_of_lt hc)
  · rw [State.event_b _ _ _ _ _ _ _ (by decide)]
    exact State.b_setB_true _ _ (by decide) rfl
  · rw [State.event_mem, State.setB_mem, State.setFs_mem]
    rfl

/-- Settles O28, row by row: a sequencer's control, its branches by the one rule of a branch, a fault by the rules of the fields. -/
theorem sequencerControl : Obligations.SequencerControl := by
  unfold Obligations.SequencerControl
  refine ⟨?_, ?_, ?_, ?_, ?_, ?_, ?_, ?_, ?_, ?_, ?_, ?_⟩
  · intro cls first count s h
    grind [exec_controlStoreLoad, execControlStoreLoad, State.onBlk, State.blkOn, State.cfgErrAt]
  · intro r s u h h1
    grind [exec_controlStoreLoadEnd, execControlStoreLoadEnd]
  · intro n entry s u h
    grind [exec_csStart, execCsStart, State.onBlk, State.csClass, State.csAs, State.cfgErrAt]
  · intro n s h
    refine ⟨?_, ?_⟩
    · grind [exec_csStop, execCsStop, State.onBlk, State.blkOn]
    · grind [exec_kill, execKill, State.onBlk, State.blkOn]
  · intro n s h
    refine ⟨?_, ?_⟩
    · intro h1
      grind [exec_abandon, execAbandon, State.onBlk, State.blkOn, State.cfgErrAt]
    · intro h1 h2
      refine ⟨?_, ?_, ?_, ?_⟩
      · intro w r i h3
        grind [exec_abandon, execAbandon, State.onBlk, State.blkOn]
      · intro w t h3
        grind [exec_abandon, execAbandon, State.onBlk, State.blkOn]
      · intro w p q o h3
        grind [exec_abandon, execAbandon, State.onBlk, State.blkOn]
      · intro h3
        grind [exec_abandon, execAbandon, State.onBlk, State.blkOn]
  · intro k cls repl s h
    refine ⟨?_, ?_, ?_, ?_, ?_, ?_⟩
    · intro h1
      grind [exec_spareCsBind, execSpareCsBind, State.onBlk, State.blkOn]
    · intro h1 h2
      grind [exec_spareCsBind, execSpareCsBind, State.onBlk, State.blkOn]
    · intro h1 h2
      grind [exec_spareCsBind, execSpareCsBind, State.onBlk, State.blkOn, State.cfgErrAt]
    · intro h1
      grind [exec_spareCsBind, execSpareCsBind, State.onBlk, State.blkOn, State.cfgErrAt]
    · intro h1 h2
      grind [exec_spareCsBind, execSpareCsBind, State.onBlk, State.blkOn, State.cfgErrAt]
    · intro h1 h2
      grind [exec_spareCsBind, execSpareCsBind, State.onBlk, State.blkOn]
  · intro n k cls repl first entry count v s h
    refine ⟨?_, ?_, ?_, ?_, ?_, ?_⟩
    · grind [exec_controlStoreLoad, execControlStoreLoad, State.onBlk, State.blkOn]
    · grind [exec_csStart, execCsStart, State.onBlk, State.blkOn]
    · grind [exec_csStop, execCsStop, State.onBlk, State.blkOn]
    · grind [exec_kill, execKill, State.onBlk, State.blkOn]
    · grind [exec_abandon, execAbandon, State.onBlk, State.blkOn]
    · grind [exec_spareCsBind, execSpareCsBind, State.onBlk, State.blkOn]
  · intro n s
    refine ⟨?_, ?_⟩
    · intro h x
      exact congrArg Host.Outcome.next (if_pos h)
    · intro h
      refine ⟨?_, ?_, ?_⟩
      · grind [exec_waitEnd, execWaitEnd]
      · grind [exec_waitEnd, execWaitEnd]
      · grind [exec_waitEnd, execWaitEnd]
  · intro n next ret c0 c1 c2 c3 s
    have hb (mode : Nat) (ok : Nat → Bool) (g : State → State) : (Host.Outcome.next (s.onBranch n mode ok g) : Outcome) =
        .next (if s.branches n mode ok = true then g s else s) := congrArg Host.Outcome.next (onBranch_eq s n mode ok g)
    refine ⟨hb _ _ _, ?_, ?_, ?_, ?_, hb _ _ _, hb _ _ _, hb _ _ _, hb _ _ _⟩
    all_goals refine (hb _ _ _).trans (congrArg Host.Outcome.next ?_)
    all_goals simp [List.range_succ]
  · intro n s
    refine ⟨?_, ?_, ?_⟩
    · intro h
      grind [exec_ret, execRet, State.branches, State.onBranch]
    · intro h h1
      grind [exec_ret, execRet, State.branches, State.onBranch]
    · intro h a r h1
      grind [exec_ret, execRet, State.branches, State.onBranch]
  · intro n a s
    rfl
  · intro n code s h h1
    exact s.csFault_facts h h1

end Sys2Proof.Machine

/-!
The map log's record commands: the proof of O25.
-/
namespace Sys2Proof.Machine
set_option Elab.async false

/-- Settles O25, each record command by what it hands the port, the port by the append that it makes. -/
theorem mapLogRecords : Obligations.MapLogRecords := by
  unfold Obligations.MapLogRecords
  refine ⟨?_, ?_, ?_, ?_, ?_, ?_, ?_, ?_, ?_⟩
  · intro flags band owner purpose nsidx acc s
    rfl
  · intro flags new old owner upto nsidx hgen8 s
    rfl
  · intro flags band hgen cause s
    refine ⟨?_, ?_, ?_⟩
    · rfl
    · rfl
    · rfl
  · intro flags nsidx len lba pma zone wp covers degraded s
    refine ⟨?_, ?_, ?_, ?_⟩
    · rfl
    · rfl
    · rfl
    · rfl
  · intro head s
    refine ⟨?_, ?_, ?_⟩
    · intro h h1
      grind [exec_headFailRecord, execHeadFailRecord, State.onBlk, State.blkOn]
    · intro h h1
      grind [exec_headFailRecord, execHeadFailRecord, State.onBlk, State.blkOn, State.cfgErrAt]
    · intro h
      grind [exec_headFailRecord, execHeadFailRecord, State.onBlk, State.blkOn]
  · intro typ flags body v s h
    refine ⟨?_, ?_, ?_⟩
    · exact onBlk_off h
    · grind [exec_refreshQueueRead, execRefreshQueueRead, State.onBlk, State.blkOn]
    · exact congrArg Host.Outcome.next (onBlk_off h)
  · intro typ flags body s v r b h h1
    have hb : s.blkOn .btl 0 = true := h
    rw [State.appendReg, onBlk_on hb]
    unfold State.appPort at h1
    dsimp only
    rw [h1]
    dsimp only
    refine ⟨fun h2 => if_pos h2, ?_, ?_⟩
    · intro h2 h3
      rw [if_neg (not_not.2 h2), if_neg h3, h2]
    · intro h2 h3
      rw [if_neg (not_not.2 h2), if_pos h3, h2]
  · intro s h
    refine ⟨?_, ?_⟩
    · grind [exec_refreshQueueRead, execRefreshQueueRead, State.onBlk, State.blkOn]
    · rfl
  · intro s h
    refine ⟨?_, ?_⟩
    · have hb : s.blkOn .btl 0 = true := h
      rw [exec_btlEn, execBtlEn, onBlk_on hb, if_pos rfl, State.cfgErrAt_eq]
    · grind [exec_btlEn, execBtlEn, State.onBlk, State.blkOn, State.cfgErrAt]

end Sys2Proof.Machine

/-!
Bramble: the proof of O23.
-/
namespace Sys2Proof.Machine
set_option Elab.async false

/-- The oldest eviction that is not yet accepted is, and evictions accepted before stay as they are. -/
theorem acceptFirst_issued {e : Evict} {l r : List Evict} (hl : ∀ x ∈ l, x.issued = true) (he : e.issued = false) :
    acceptFirst (l ++ e :: r) = l ++ { e with issued := true } :: r ∧ acceptFirst l = l := by
  induction l with
  | nil =>
    refine ⟨?_, rfl⟩
    rw [List.nil_append, acceptFirst, if_neg (by rw [he]; decide)]
    rfl
  | cons x l ih =>
    obtain ⟨ih₁, ih₂⟩ := ih (fun y hy => hl y (List.mem_cons_of_mem _ hy))
    have hx := hl x List.mem_cons_self
    rw [List.cons_append, acceptFirst, acceptFirst, if_pos hx, if_pos hx, ih₁, ih₂]
    exact ⟨rfl, rfl⟩

/-- Settles O23, row by row: an access by the order of its refusals, evictions and maintenance by their own cases. -/
theorem brambleAccessAndMaintenance : Obligations.BrambleAccessAndMaintenance := by
  unfold Obligations.BrambleAccessAndMaintenance
  refine ⟨?_, ?_, ?_, ?_, ?_, ?_, ?_, ?_, ?_, ?_, ?_, ?_, ?_⟩
  · intro g a w whole s h
    refine ⟨?_, ?_, ?_⟩
    · intro p h1
      grind [exec_brambleAccess, execBrambleAccess, State.accFault, State.loadFault]
    · intro n h1
      grind [exec_brambleAccess, execBrambleAccess, State.accFault]
    · intro n h1
      grind [exec_brambleAccess, execBrambleAccess]
  · intro a w whole s h
    grind [exec_brambleAccess, execBrambleAccess, State.dbg]
  · intro g a w whole s h h1 h2
    have hd : ¬(g = .debug ∧ (!bit (s.f .SEC_BOOT_DBG_LV 0) 3) = true) := fun hg => h2.elim (fun hn => hn hg.1) (fun hb => by
      have hf : s.dbg 3 = false := by simpa [State.dbg] using hg.2
      exact Bool.false_ne_true (hf.symm.trans hb))
    have hm : ¬((!s.b .BUF_STATUS_READY 0) = true ∨ (!s.inDram a.toNat 1) = true) := by rw [h, h1]; decide
    rw [exec_brambleAccess]
    unfold execBrambleAccess
    dsimp only
    rw [if_neg hd, if_neg hm]
    refine congrArg Host.Outcome.next (if_congr (by rw [Bool.not_eq_true']) rfl (if_congr ?_ rfl rfl))
    rw [Bool.not_eq_true', List.contains_iff_mem]
  · intro x s
    refine ⟨?_, ?_, ?_, ?_⟩
    · intro h
      grind [State.access]
    · intro h
      grind [State.access]
    · intro p a h
      rw [h, State.perform]
      exact if_neg Bool.false_ne_true
    · intro p a d h
      grind [State.perform, State.writeAccess]
  · intro a s
    refine ⟨?_, ?_, ?_, ?_⟩
    · rfl
    · rfl
    · rfl
    · rfl
  · intro e l r h h1
    exact acceptFirst_issued h h1
  · intro s e r h
    refine ⟨?_, ?_⟩
    · grind [State.evictionDone]
    · rw [State.evictionDone, h]
      dsimp only
      exact congrArg Buf.evq (State.setF_buf _ _ _ _)
  · intro count setWay s
    refine ⟨?_, ?_, ?_⟩
    · rfl
    · rfl
    · rfl
  · intro op count setWay s u line la h h1 h2
    rw [State.maintain, State.onBlk_eq]
    subst h2 h1 h
    refine if_congr Iff.rfl rfl (if_congr Iff.rfl rfl (if_congr ?_ rfl rfl))
    rw [Bool.not_eq_true']
  · intro op n s h
    refine ⟨?_, ?_, ?_⟩
    · grind [State.cmoWay]
    · intro h1
      grind [State.cleanWay]
    · intro h1
      grind [State.dropWay]
  · intro s h
    refine ⟨?_, ?_⟩
    · grind [exec_brambleDisable, execBrambleDisable, State.onBlk, State.blkOn]
    · grind [exec_brambleEnable, execBrambleEnable, State.onBlk, State.blkOn, State.cfgErrAt]
  · intro s h
    refine ⟨?_, ?_⟩
    · grind [exec_brambleDisable, execBrambleDisable, State.onBlk, State.blkOn]
    · grind [exec_brambleEnable, execBrambleEnable, State.onBlk, State.blkOn]
  · intro s u v h h1
    grind [exec_disableWalkEnd, execDisableWalkEnd]

end Sys2Proof.Machine

/-!
Zones and reservations: the proof of O21.
-/
namespace Sys2Proof.Machine
set_option Elab.async false

theorem State.onZones_one {s : State} {t i n : Nat} {z : Zone} (h : s.serving t false 0x79 = true) (hsel : (s.cmd t).selectAll = false)
    (hi : i = (s.cmd t).nsid - 1) (hn : n = (s.cmd t).slba / zoneSize) (hz : z = s.zone i n) (g : State → Zone → (Nat × Nat) ⊕ Zone) :
    s.onZones t g = (g s z).elim (fun e => s.finish t e.1 e.2 0) (fun y => (s.setZone i n y).finish t 0 0 0) := by
  rw [State.onZones, State.onIo_serving h _ rfl]
  dsimp only
  rw [hsel, if_neg Bool.false_ne_true, ← hi, ← hn, ← hz]
  cases g s z <;> rfl

theorem State.onZones_all {s : State} {t : Nat} (h : s.serving t false 0x79 = true) (hsel : (s.cmd t).selectAll = true)
    (g : State → Zone → (Nat × Nat) ⊕ Zone) :
    s.onZones t g = ((List.range (((s.nsp ((s.cmd t).nsid - 1)).blocks + zoneSize - 1) / zoneSize)).foldl (fun u n =>
      match g u (u.zone ((s.cmd t).nsid - 1) n) with
      | .inr z => u.setZone ((s.cmd t).nsid - 1) n z
      | .inl _ => u) s).finish t 0 0 0 := by
  rw [State.onZones, State.onIo_serving h _ rfl]
  exact if_pos hsel

/-- Settles O21, row by row: a zone's action by the state of its zone, a reservation's by the registrant's key. -/
theorem zonesAndReservations : Obligations.ZonesAndReservations := by
  unfold Obligations.ZonesAndReservations
  refine ⟨?_, ?_, ?_, ?_, ?_, ?_, ?_, ?_, ?_⟩
  · intro t i n z s h hsel hi hn hz
    have ho (g : State → Zone → (Nat × Nat) ⊕ Zone) := State.onZones_one h hsel hi hn hz g
    obtain ⟨st, wp⟩ := z
    refine ⟨?_, ?_, ?_, ?_, ?_⟩
    · rw [exec_zoneClose, execZoneClose, ho]
      cases st <;> rfl
    · rw [exec_zoneFinish, execZoneFinish, ho]
      cases st <;> simp
      split <;> rfl
    · rw [exec_zoneOpen, execZoneOpen, ho]
      cases st <;> simp
      cases s.activate <;> rfl
    · rw [exec_zoneReset, execZoneReset, ho]
      cases st <;> rfl
    · rw [exec_zoneOffline, execZoneOffline, ho]
      cases st <;> rfl
  · intro t s g h hsel
    exact State.onZones_all h hsel g
  · intro t s h h1
    rw [exec_zoneReset, execZoneReset, State.onZones_all h h1]
    refine congrArg (fun f => Host.Outcome.next (State.finish (List.foldl f s _) t 0 0 0)) (funext fun u => funext fun n => ?_)
    by_cases hz : (u.zone ((s.cmd t).nsid - 1) n).st = .offline
    · rw [if_pos hz, if_pos hz]
    · rw [if_neg hz, if_neg hz]
  · intro t i n first s h h1 h2 h3
    rw [exec_zoneManagementReceive, execZoneManagementReceive, State.onIo_serving h _ rfl]
    subst h3 h2 h1
    rfl
  · intro t action cur new s r k h h1 h2
    grind [exec_reservationRegister, execReservationRegister, State.serving, State.onIo]
  · intro t action rtype cur preempt s u r x y p i hit h h1 h2 h3 h4 h5 h6 h7
    rw [exec_reservationAcquire, execReservationAcquire, State.onIo_serving h _ rfl]
    have hhit : (r.key (1 - p) ≠ 0 ∧ r.key (1 - p) = preempt.toNat) ↔ hit = true := by
      rw [h4, Bool.and_eq_true, decide_eq_true_eq, decide_eq_true_eq]
    dsimp only
    rw [← h1, ← h3, ← h2]
    refine congrArg Host.Outcome.next (if_congr Iff.rfl rfl (if_congr Iff.rfl rfl (if_congr Iff.rfl rfl ?_)))
    simp only [hhit, ← h5]
    rw [h6, h7]
  · intro t clear cur s r h h1
    grind [exec_reservationRelease, execReservationRelease, State.serving, State.onIo]
  · intro t r who s h h1 h2
    grind [exec_reservationReport, execReservationReport, State.serving, State.onIo]
  · intro t action rtype cur new clear s
    refine ⟨?_, ?_, ?_, ?_, ?_, ?_⟩
    · intro h
      refine ⟨?_, ?_, ?_, ?_, ?_⟩
      · grind [exec_zoneClose, execZoneClose, State.serving, State.onZones, State.onIo]
      · grind [exec_zoneFinish, execZoneFinish, State.serving, State.onZones, State.onIo]
      · grind [exec_zoneOpen, execZoneOpen, State.serving, State.onZones, State.onIo]
      · grind [exec_zoneReset, execZoneReset, State.serving, State.onZones, State.onIo]
      · grind [exec_zoneOffline, execZoneOffline, State.serving, State.onZones, State.onIo]
    · intro h
      grind [exec_zoneManagementReceive, execZoneManagementReceive, State.serving, State.onIo]
    · intro h
      grind [exec_reservationRegister, execReservationRegister, State.serving, State.onIo]
    · intro h
      grind [exec_reservationAcquire, execReservationAcquire, State.serving, State.onIo]
    · intro h
      grind [exec_reservationRelease, execReservationRelease, State.serving, State.onIo]
    · intro h
      grind [exec_reservationReport, execReservationReport, State.serving, State.onIo]

end Sys2Proof.Machine

/-!
Block commands: the proof of O20.
-/
namespace Sys2Proof.Machine
set_option Elab.async false

/-- What Compare and Verify do when firmware's work has failed. -/
theorem State.useBlocks_failed {s : State} {t : Nat} {c : Cmd} {media : List (List Byte)} {pi : PiResult} {fin : MediaEnd} {sct sc : Nat}
    (h : mediaStatus fin = some (sct, sc)) (g : State → List Byte → State) : s.useBlocks t c media pi fin g = s.finish t sct sc 0 := by
  rw [State.useBlocks, h]

/-- What Compare and Verify do with data that is bad or unreadable. -/
theorem State.useBlocks_bad {s u : State} {t : Nat} {c : Cmd} {media : List (List Byte)} {sct sc : Nat} {l : List (List Byte × List Bool)}
    (h : s.fetchBlocks c media = (some (sct, sc), l, u)) (pi : PiResult) (g : State → List Byte → State) :
    s.useBlocks t c media pi .ok g = u.finish t sct sc 0 := by
  unfold State.useBlocks
  rw [mediaStatus, h]

/-- What Compare and Verify do with good data. -/
theorem State.useBlocks_good {s u : State} {t : Nat} {c : Cmd} {media : List (List Byte)} {l : List (List Byte × List Bool)}
    (h : s.fetchBlocks c media = (none, l, u)) (pi : PiResult) (g : State → List Byte → State) :
    s.useBlocks t c media pi .ok g =
      if c.piBad (u.nsp (c.nsid - 1)).fmt pi = true then u.finish t 2 (piCode pi) 0 else g u (l.map Prod.fst).flatten := by
  unfold State.useBlocks
  rw [mediaStatus, h]

/-- Settles O20, row by row: a served command by how its data came, one that is not served by the rule of idle. -/
theorem blockCommands : Obligations.BlockCommands := by
  unfold Obligations.BlockCommands
  refine ⟨?_, ?_, ?_, ?_, ?_, ?_, ?_, ?_, ?_, ?_, ?_, ?_, ?_, ?_⟩
  · intro t s h
    grind [exec_flush, execFlush, State.serving, State.onIo]
  · intro t blocks src pi fin s
    refine ⟨?_, ?_, ?_⟩
    · intro h
      grind [exec_write, execWrite, State.serving, State.onIo]
    · intro h
      grind [exec_zoneAppend, execZoneAppend, State.serving, State.onIo]
    · intro h
      grind [exec_writeZeroes, execWriteZeroes, State.serving, State.onIo]
  · intro t blocks src pi fin s
    refine ⟨?_, ?_⟩
    · intro sct sc h
      unfold State.writeFrom
      rw [h]
    · rfl
  · intro t blocks off pi s u r h
    have hw : s.writeFrom t blocks (some off) pi .ok = takeBlocks t pi (r, u) := by rw [← h]; rfl
    rw [hw]
    exact ⟨fun l hr => by rw [hr]; rfl, fun hr => by rw [hr]; rfl⟩
  · intro t i was blocks d pi s u v h h1 h2 h3 h4 h5
    grind [State.writeData]
  · intro t blocks pi s h h1 a b h2
    grind [State.writeData]
  · intro t blocks pi s sct sc h h1 h2
    grind [State.writeData]
  · intro t ns fmt lba n d s u h h1
    grind [State.storeBlocks]
  · intro t media pi fin s u st l h h1
    refine ⟨?_, ?_, ?_, ?_⟩
    · intro sct sc h2
      grind [exec_read, execRead, State.serving, State.onIo]
    · intro h2
      grind [exec_read, execRead, State.serving, State.onIo, mediaStatus]
    · intro h2
      grind [exec_read, execRead, State.serving, State.onIo, mediaStatus]
    · intro h2
      grind [exec_read, execRead, State.serving, State.onIo, mediaStatus]
  · intro t host media pi fin s u st l h h1
    have he (e : ReadEnd) := (State.onIo_serving (s := s) h [5] rfl (fun c => s.useBlocks t c media e.pi e.fin
      (fun s d => if d = host.flatten then s.finish t 0 0 0 else s.finish t 2 0x85 0)))
    refine ⟨fun sct sc h2 => ?_, fun sct sc h2 => ?_, fun h2 => ?_⟩
    · exact congrArg Host.Outcome.next ((he ⟨pi, fin⟩).trans (State.useBlocks_failed h2 _))
    · exact congrArg Host.Outcome.next ((he ⟨pi, .ok⟩).trans (State.useBlocks_bad (h2 ▸ h1) _ _))
    · exact congrArg Host.Outcome.next ((he ⟨pi, .ok⟩).trans (State.useBlocks_good (h2 ▸ h1) _ _))
  · intro t media pi fin s u st l h h1
    have he (e : ReadEnd) := (State.onIo_serving (s := s) h [12] rfl (fun c => s.useBlocks t c media e.pi e.fin (fun s _ => s.finish t 0 0 0)))
    refine ⟨fun sct sc h2 => ?_, fun sct sc h2 => ?_, fun h2 => ?_⟩
    · exact congrArg Host.Outcome.next ((he ⟨pi, fin⟩).trans (State.useBlocks_failed h2 _))
    · exact congrArg Host.Outcome.next ((he ⟨pi, .ok⟩).trans (State.useBlocks_bad (h2 ▸ h1) _ _))
    · exact congrArg Host.Outcome.next ((he ⟨pi, .ok⟩).trans (State.useBlocks_good (h2 ▸ h1) _ _))
  · intro c media s l bad gone u h
    grind [State.fetchBlocks]
  · intro t s h
    grind [exec_datasetManagement, execDatasetManagement, State.serving, State.onIo]
  · intro t blocks media src pi fin s
    refine ⟨?_, ?_, ?_, ?_, ?_, ?_, ?_, ?_⟩
    · intro h
      grind [exec_flush, execFlush, State.serving, State.onIo]
    · intro h
      grind [exec_write, execWrite, State.serving, State.onIo]
    · intro h
      grind [exec_read, execRead, State.serving, State.onIo]
    · intro h
      grind [exec_compare, execCompare, State.serving, State.onIo]
    · intro h
      grind [exec_writeZeroes, execWriteZeroes, State.serving, State.onIo]
    · intro h
      grind [exec_datasetManagement, execDatasetManagement, State.serving, State.onIo]
    · intro h
      grind [exec_verify, execVerify, State.serving, State.onIo]
    · intro h
      grind [exec_zoneAppend, execZoneAppend, State.serving, State.onIo]

end Sys2Proof.Machine

/-!
Namespaces, firmware and security: the proof of O19.
-/
namespace Sys2Proof.Machine
set_option Elab.async false

section
variable {s : State} {t slot active : Nat} (h : s.serving t true 0x10 = true) (hb : s.bootControl.2.2.1 = active)
include h hb

/-- A commit to the active slot or to one that is write-protected is refused. -/
theorem State.commitWrite_locked (hl : active = slot ∨ s.eflWp (slotBase slot / 65536) = true) (g : State → Nat → State) :
    s.commitWrite t slot g = s.finish t 1 6 0 := by
  rw [State.commitWrite, State.onCmd_serving h]
  generalize s.bootControl = b at hb
  obtain ⟨_, _, a, _, _⟩ := b
  exact if_pos (hl.imp_left hb.trans)

variable (hn : active ≠ slot) (hwp : s.eflWp (slotBase slot / 65536) = false)
include hn hwp

/-- A commit without a staged set that verifies is refused. -/
theorem State.commitWrite_unverified (hs : s.sec.stage = [] ∨ ∃ e ∈ s.sec.stage, s.verify e.2 e.1 (classAllot e.1) false false ≠ 0)
    (g : State → Nat → State) : s.commitWrite t slot g = s.finish t 1 7 0 := by
  rw [State.commitWrite, State.onCmd_serving h]
  generalize s.bootControl = b at hb
  obtain ⟨_, _, a, _, _⟩ := b
  have hl : ¬(a = slot ∨ s.eflWp (slotBase slot / 65536) = true) := by
    rw [hwp]
    exact fun ho => ho.elim (fun ha => hn (hb.symm.trans ha)) Bool.false_ne_true
  refine (if_neg hl).trans (if_pos ?_)
  rw [List.isEmpty_iff, List.any_eq_true]
  exact hs.imp id (fun ⟨e, he, hv⟩ => ⟨e, he, bne_iff_ne.2 hv⟩)

/-- A commit of a staged set that verifies writes the slot. -/
theorem State.commitWrite_writes (hs : s.sec.stage ≠ []) (hv : ∀ e ∈ s.sec.stage, s.verify e.2 e.1 (classAllot e.1) false false = 0)
    (g : State → Nat → State) : s.commitWrite t slot g = g (s.writeSlot slot) active := by
  rw [State.commitWrite, State.onCmd_serving h]
  generalize s.bootControl = b at hb
  obtain ⟨_, _, a, _, _⟩ := b
  have hl : ¬(a = slot ∨ s.eflWp (slotBase slot / 65536) = true) := by
    rw [hwp]
    exact fun ho => ho.elim (fun ha => hn (hb.symm.trans ha)) Bool.false_ne_true
  refine (if_neg hl).trans ((if_neg ?_).trans (congrArg (g _) hb))
  rw [List.isEmpty_iff, List.any_eq_true]
  exact fun ho => ho.elim hs (fun ⟨e, he, hne⟩ => bne_iff_ne.1 hne (hv e he))

end

/-- Settles O19, row by row; a firmware commit by what State.commitWrite does with a locked slot, an unverified set and a good one. -/
theorem namespacesFirmwareAndSecurity : Obligations.NamespacesFirmwareAndSecurity := by
  unfold Obligations.NamespacesFirmwareAndSecurity
  refine ⟨?_, ?_, ?_, ?_, ?_, ?_, ?_, ?_, ?_, ?_, ?_⟩
  · intro t blocks msize zoned prot s h
    refine ⟨?_, ?_, ?_⟩
    · intro h1 h2
      rw [exec_namespaceCreate, execNamespaceCreate, State.onCmd_serving h]
      grind
    · intro h1 h2
      rw [exec_namespaceCreate, execNamespaceCreate, State.onCmd_serving h]
      grind
    · intro h1 h2
      refine ⟨?_, ?_⟩
      · intro h3
        rw [exec_namespaceCreate, execNamespaceCreate, State.onCmd_serving h]
        grind
      · intro i h3
        refine ⟨_, rfl, ?_⟩
        rw [exec_namespaceCreate, execNamespaceCreate, State.onCmd_serving h]
        have hp : ¬(prot = true ∧ (zoned = true ∨ s.actuators ≤ 1)) := by grind
        dsimp only
        rw [if_neg hp, if_neg (Nat.not_lt.2 h2), h3]
  · intro t ns s h
    refine ⟨?_, ?_⟩
    · intro h1
      rw [exec_namespaceDelete, execNamespaceDelete, State.onCmd_serving h]
      grind
    · intro h1
      rw [exec_namespaceDelete, execNamespaceDelete, State.onCmd_serving h]
      grind
  · intro t ns p attach s h
    have hz : p = 0 ↔ p.val = 0 := Fin.ext_iff
    rw [exec_namespaceAttachment, execNamespaceAttachment, State.onCmd_serving h]
    simp only [hz, Bool.not_eq_true', Bool.and_eq_true]
  · intro t ns msize crypto s h
    rw [exec_formatNvm, execFormatNvm, State.onCmd_serving h]
    grind
  · intro t s h
    refine ⟨?_, ?_⟩
    · rw [exec_sanitizeCryptoErase, execSanitizeCryptoErase, State.onCmd_serving h]
    · rw [exec_sanitizeBlockErase, execSanitizeBlockErase, State.onCmd_serving h]
  · intro t cls off data s h
    rw [exec_firmwareImageDownload, execFirmwareImageDownload, State.onCmd_serving h]
  · intro t slotB s active h hb
    refine ⟨fun hl => ?_, fun hn hwp => ⟨fun hs => ?_, fun hs hv => ⟨_, rfl, ?_, ?_, ?_⟩⟩⟩
    · have hc := State.commitWrite_locked h hb hl
      exact ⟨congrArg Host.Outcome.next (hc _), congrArg Host.Outcome.next (hc _), congrArg Host.Outcome.next (hc _)⟩
    · have hc := State.commitWrite_unverified h hb hn hwp hs
      exact ⟨congrArg Host.Outcome.next (hc _), congrArg Host.Outcome.next (hc _), congrArg Host.Outcome.next (hc _)⟩
    all_goals exact congrArg Host.Outcome.next (State.commitWrite_writes h hb hn hwp hs hv _)
  · intro t slotB s h
    rw [exec_firmwareCommitTrialInPlace, execFirmwareCommitTrialInPlace, State.onCmd_serving h]
  · intro t proto req s h
    rw [exec_securitySend, execSecuritySend, State.onCmd_serving h]
  · intro t proto len s h
    rw [exec_securityReceive, execSecurityReceive, State.onCmd_serving h]
  · intro t blocks msize zoned prot slotB crypto ns p cls data proto req s
    have hi (opc : Nat) (h : s.serving t true opc = false) (g : Cmd → State) : (Host.Outcome.next (s.onCmd t true opc g) : Outcome) = .next s :=
      congrArg Host.Outcome.next (State.onCmd_idle h g)
    exact ⟨fun h => ⟨hi _ h _, hi _ h _⟩, fun h => hi _ h _, fun h => hi _ h _, fun h => ⟨hi _ h _, hi _ h _⟩, fun h => hi _ h _,
      fun h => ⟨hi _ h _, hi _ h _, hi _ h _, hi _ h _⟩, fun h => hi _ h _, fun h => hi _ h _⟩

end Sys2Proof.Machine

/-!
The Quince instructions over registers: the proof of O31.
-/
namespace Sys2Proof.Machine
set_option Elab.async false

theorem State.qeOp_ready {s : State} {n w : Nat} (h : s.qeReady n w = true) (g : Quince → Quince) :
    s.qeOp n w g = (s.qeFetched n).qePut n (g (s.qe n).next) := qeFetch_ready h

/-- Reading a value cut to `w` bits as a signed number wraps it modulo `2 ^ w`. -/
theorem signed_unsigned {w : Nat} (hw : 0 < w) (v : Int) : signed w (unsigned w v) = (BitVec.ofInt w v).toInt := by
  obtain ⟨k, rfl⟩ := Nat.exists_eq_succ_of_ne_zero hw.ne'
  rw [BitVec.toInt_ofInt, Int.bmod_def]
  unfold signed unsigned
  rw [Nat.succ_sub_one, Nat.succ_eq_add_one, Nat.pow_succ]
  generalize hp : 2 ^ k = p
  have hp0 : 0 < p := hp ▸ Nat.two_pow_pos k
  have h0 := Int.emod_nonneg v (b := ((p * 2 : Nat) : Int)) (by omega)
  have h1 := Int.emod_lt_of_pos v (b := ((p * 2 : Nat) : Int)) (by omega)
  rw [Nat.mod_eq_of_lt (by omega), Int.toNat_of_nonneg h0]
  split <;> split <;> omega

theorem Quince.acc_setAcc (q : Quince) (a : Bool) (v : Int) : (q.setAcc a v).acc a = (BitVec.ofInt 40 v).toInt := by
  rw [← signed_unsigned (by decide)]
  cases a <;> rfl

theorem Quince.reg_setReg (q : Quince) (d : Nat) (v : Int) : (q.setReg d v).reg d = (BitVec.ofInt 16 v).toInt := by
  rw [Quince.reg, Quince.setReg, Tbl.get_set_same]
  exact signed_unsigned (by decide) v

theorem Quince.reg_setReg_ne (q : Quince) {d e : Nat} (h : e ≠ d) (v : Int) : (q.setReg d v).reg e = q.reg e := by
  rw [Quince.reg, Quince.setReg, Tbl.get_set_other _ _ _ _ _ _ h, Quince.reg]

theorem Quince.reg_satReg_ne (q : Quince) {d e : Nat} (h : e ≠ d) (v : Int) : (q.satReg d v).reg e = q.reg e := q.reg_setReg_ne h _

theorem Quince.reg_satReg (q : Quince) (d : Nat) (v : Int) : (q.satReg d v).reg d = max (-32768) (min 32767 v) := by
  have h : (q.satReg d v).reg d = (BitVec.ofInt 16 (sat16 v)).toInt := q.reg_setReg d (sat16 v)
  have hl : -32768 ≤ sat16 v ∧ sat16 v < 32768 := by
    rw [sat16]
    omega
  rw [h, BitVec.toInt_ofInt]
  exact Int.bmod_eq_of_le hl.1 hl.2

theorem Quince.sf_satReg (q : Quince) (d : Nat) (v : Int) : (q.satReg d v).sf = true ↔ q.sf = true ∨ v < -32768 ∨ 32767 < v := by
  rw [Quince.satReg, Bool.or_eq_true, decide_eq_true_eq]
  refine or_congr Iff.rfl ?_
  rw [sat16]
  omega

theorem Quince.flags_sub (q : Quince) (v w : Int) : q.flags (v - w) = { q with z := v == w, n := decide (v < w) } := by
  have hz : (v - w == 0) = (v == w) := Bool.eq_iff_iff.2 (by rw [beq_iff_eq, beq_iff_eq]; omega)
  have hn : decide (v - w < 0) = decide (v < w) := decide_eq_decide.2 (by omega)
  rw [Quince.flags, hz, hn]

theorem abs_eq_ite_neg (v : Int) : |v| = if v < 0 then -v else v := by
  split
  · next h => exact abs_of_neg h
  · next h => exact abs_of_nonneg (by omega)

/-- Settles O31, each row by the one rule of a fetched word; accumulators and registers by the wrap of a signed number. -/
theorem quinceRegisterInstructions : Obligations.QuinceRegisterInstructions := by
  unfold Obligations.QuinceRegisterInstructions
  refine ⟨?_, ?_, ?_, ?_, ?_, ?_, ?_, ?_, ?_, ?_, ?_, ?_, ?_, ?_, ?_, ?_, ?_, ?_, ?_, ?_, ?_, ?_, ?_, ?_, ?_, ?_⟩
  · intro n s h
    rw [exec_qNop, execQNop, State.qeOp_ready h]
    rfl
  · intro n a s h
    rw [exec_qClr, execQClr, State.qeOp_ready h]
  · intro n a x s h
    rw [exec_qLda, execQLda, State.qeOp_ready h]
  · intro n a x t s h
    rw [exec_qLdp, execQLdp, State.qeOp_ready h]
  · intro n a x t s h
    rw [exec_qMpyx, execQMpyx, State.qeOp_ready h]
  · intro n a x t s h
    rw [exec_qMacx, execQMacx, State.qeOp_ready h]
  · intro n a s h
    rw [exec_qAdda, execQAdda, State.qeOp_ready h]
  · intro n a s h
    rw [exec_qSuba, execQSuba, State.qeOp_ready h]
  · intro n a sh s h
    rw [exec_qSha, execQSha, State.qeOp_ready h]
  · intro n d x s h
    rw [exec_qMov, execQMov, State.qeOp_ready h]
  · intro n d imm s h
    rw [exec_qLdi, execQLdi, State.qeOp_ready h]
  · intro n d p s h
    rw [exec_qIn, execQIn, State.qeOp_ready h]
    rfl
  · intro n x p s h
    rw [exec_qOut, execQOut, State.qeOp_ready h]
    rfl
  · intro n d x t s h
    rw [exec_qAdd, execQAdd, State.qeOp_ready h]
  · intro n d x t s h
    rw [exec_qSub, execQSub, State.qeOp_ready h]
  · intro n d x t s h
    rw [exec_qMul, execQMul, State.qeOp_ready h]
    rfl
  · intro n d a s h
    rw [exec_qSth, execQSth, State.qeOp_ready h]
    rfl
  · intro n d a s h
    rw [exec_qStl, execQStl, State.qeOp_ready h]
  · intro n d x s h
    rw [exec_qAbs, execQAbs, State.qeOp_ready h]
    rw [abs_eq_ite_neg]
  · intro n d x t s h
    rw [exec_qAnd, execQAnd, State.qeOp_ready h]
    rfl
  · intro n d x t s h
    rw [exec_qOr, execQOr, State.qeOp_ready h]
    rfl
  · intro n x t s h
    rw [exec_qCmp, execQCmp, State.qeOp_ready h]
    rw [Quince.flags_sub]
  · intro n a s h
    rw [exec_qCmpa, execQCmpa, State.qeOp_ready h]
    rfl
  · intro s n q
    rfl
  · intro q a d v
    refine ⟨q.acc_setAcc a v, ?_, q.reg_setReg d v, q.reg_satReg d v, q.sf_satReg d v, fun e he => ⟨q.reg_satReg_ne he v, q.reg_setReg_ne he v⟩⟩
    cases a <;> rfl
  · intro q v a d
    refine ⟨?_, ⟨_, rfl⟩, ⟨_, _, rfl⟩⟩
    cases a <;> exact ⟨wrap40 v, rfl⟩

end Sys2Proof.Machine

/-!
The Quince instructions over memories: the proof of O32.
-/
namespace Sys2Proof.Machine
set_option Elab.async false

/-- Settles O32, each row by the rule of a fetched word and the rule of the coefficient or the state word that it reads. -/
theorem quinceMemoryInstructions : Obligations.QuinceMemoryInstructions := by
  unfold Obligations.QuinceMemoryInstructions
  refine ⟨?_, ?_, ?_, ?_, ?_, ?_, ?_, ?_, ?_, ?_⟩
  · intro n a x k s h
    rw [exec_qMpy, execQMpy, qeFetch_ready h, qeCoef_eq]
  · intro n a x k s h
    rw [exec_qMac, execQMac, qeFetch_ready h, qeCoef_eq]
  · intro n a x k s h
    rw [exec_qMsu, execQMsu, qeFetch_ready h, qeCoef_eq]
  · intro n d k s h
    rw [exec_qLdc, execQLdc, qeFetch_ready h, qeCoef_eq]
  · intro n a k s h
    rw [exec_qLds, execQLds, qeFetch_ready h, qeWord_eq]
  · intro n a k s h
    rw [exec_qAdds, execQAdds, qeFetch_ready h, qeWord_eq]
  · intro n a k s h
    rw [exec_qSts, execQSts, qeFetch_ready h]
    rfl
  · intro n a k s u v q lo hi m h hu hv hq hlo hhi hm
    rw [exec_qClamp, execQClamp, qeFetch_ready h, ← hu, ← hq, qeCoef_eq, ← hv, ← hlo, qeCoef_eq, ← hhi, hm]
  · intro n d x k s u v q lo hi m h hu hv hq hlo hhi hm
    rw [exec_qLim, execQLim, qeFetch_ready h, ← hu, ← hq, qeCoef_eq, ← hv, ← hlo, qeCoef_eq, ← hhi, hm]
  · intro n k s
    exact ⟨rfl, rfl, rfl, rfl, sramRead_qe .., sramRead_qe .., sramRead_qe ..⟩

end Sys2Proof.Machine

/-!
Quince flow and the end of a run: the proof of O33.
-/
namespace Sys2Proof.Machine
set_option Elab.async false

/-- Settles O33, each row by the rule of a fetched word; of every row, what a still engine, a bad word and another word leave. -/
theorem quinceFlowAndEnd : Obligations.QuinceFlowAndEnd := by
  unfold Obligations.QuinceFlowAndEnd
  refine ⟨?_, ?_, ?_, ?_, ?_, ?_, ?_, ?_, ?_⟩
  · intro n target s h
    rw [exec_qJmp, execQJmp, State.qeOp_ready h]
  · intro n cond target s h
    rw [exec_qBr, execQBr, qeFetch_ready h]
  · intro n b s h
    rw [exec_qSig, execQSig, qeFetch_ready h]
  · intro n s h
    rw [exec_qEnd, execQEnd, qeFetch_ready h]
  · intro c q h
    interval_cases c <;> rfl
  · intro n w s h
    grind [exec_illegalInstruction, execIllegalInstruction, State.qeFetched, Quince.next, State.qeStep]
  · intro c n w s h
    obtain ⟨g, hg⟩ := qeRow_exec h
    exact ⟨fun h1 => (hg s).trans (congrArg _ (qeFetch_still h1)), fun h1 h2 => (hg s).trans (congrArg _ (qeFetch_bad h1 h2)),
      fun h1 h2 h3 => (hg s).trans (congrArg _ (qeFetch_other h1 h2 h3))⟩
  · intro n q s t u v m len h h1 h2 h3 h4
    grind [State.qeFinish]
  · intro n c m s t h h1
    grind [State.qeFault]

end Sys2Proof.Machine

/-!
Tags and the Ledger from a microword: the proof of O37.
-/
namespace Sys2Proof.Machine
set_option Elab.async false

/-- A command that a sequencer of a class issues, by what its work does to the state with the command issued. -/
theorem onSeq_next {s u x : State} {n cls v : Nat} {e : Nat × Nat} {ok : Nat → Bool} {g : State → State}
    (h : u = s.issuing n e) (hg : g u = x) :
    (.next (s.onSeq n cls e v ok g) : Outcome) = .next (if s.issues n cls e v ok = true then x.advance n else s) := by
  subst h hg
  rw [onSeq_eq]

/-- A command on the command in hand, by what its work does with the slot and its command. -/
theorem onHand_next {s u : State} {n v : Nat} {e : Nat × Nat} {ok : Nat → Bool} {g : State → Nat → Cmd → State}
    {g' : Nat → Cmd → State} (h : u = s.issuing n e) (hg : ∀ t c, g u t c = g' t c) :
    (.next (s.onHand n e v ok g) : Outcome) = .next (if s.issues n 2 e v ok = true then (u.inHand n g').advance n else s) := by
  subst h
  rw [onHand_eq, show g (s.issuing n e) = g' from funext fun t => funext (hg t)]

/-- The opcodes that write a slot's blocks. -/
theorem writeOpc_iff (o : Nat) : [0x01, 0x08, 0x7D].contains o = true ↔ o = 0x01 ∨ o = 0x08 ∨ o = 0x7D := by
  simp

/-- LOOKUP's answer on a command: a hit keeps it and its slots, and either way the condition is shown. -/
theorem lookup_answer {u a : State} {n : Nat} {hit : Bool} {P : Prop} [Decidable P] (h : hit = true ↔ P) :
    (if hit = true then a else u).setDone n 0x44 hit = if P then a.setDone n 0x44 true else u.setDone n 0x44 false := by
  cases hit with
  | true => rw [if_pos rfl, if_pos (h.mp rfl)]
  | false => rw [if_neg Bool.false_ne_true, if_neg (fun hp => Bool.false_ne_true (h.mpr hp))]

/-- Settles O37, command by command: each is the issued word's work on the command in hand, matched with the statement's case by case. -/
theorem tagAndLedgerCommands : Obligations.TagAndLedgerCommands := by
  unfold Obligations.TagAndLedgerCommands
  refine ⟨?_, ?_, ?_, ?_, ?_, ?_⟩
  · intro n w p q o cid s u h hi hc
    rw [exec_alloc]
    refine onSeq_next h ?_
    dsimp only
    rw [hi]
    dsimp only
    rw [← hc]
    refine if_congr Iff.rfl rfl (if_congr Iff.rfl rfl ?_)
    cases u.nextSlot <;> rfl
  · intro n t p q o w s u h
    rw [State.giveTag, ← h]
  · intro n tag s u h ht
    refine ⟨fun hn => ?_, ?_⟩
    · rw [exec_alloc]
      refine onSeq_next h ?_
      dsimp only
      split
      next w p q o he => exact absurd he (hn w p q o)
      next => rfl
    · rw [exec_release]
      refine onSeq_next h ?_
      dsimp only
      rw [← ht]
      exact if_congr (by rw [Bool.not_eq_true']) rfl rfl
  · intro n ranges s u h
    refine ⟨?_, ?_, ?_⟩
    · rw [exec_insert]
      refine onHand_next h fun t c => congrArg (u.setCmd t) (congrArg (fun r => ({ c with cls := _, seen := true, ranges := r } : Cmd)) ?_)
      exact if_congr (by rw [Bool.not_eq_true']) rfl rfl
    · rw [exec_remove]
      exact onHand_next h fun t c => rfl
    · rw [exec_search]
      refine onHand_next h fun t c => if_congr Iff.rfl rfl ?_
      refine congrArg ((u.setDone n 0x43 false).setCmd t) (congrArg (fun r => ({ c with phase := r } : Cmd)) ?_)
      exact if_congr (and_congr (by rw [Bool.not_eq_true']) (writeOpc_iff c.opc)) rfl rfl
  · intro n st f s u h
    refine ⟨?_, ?_, ?_⟩
    · rw [exec_appendAccepted]
      exact onHand_next h fun t c => if_congr (by rw [Bool.and_eq_true, Option.isNone_iff_eq_none]) rfl rfl
    · rw [exec_ldgState]
      refine onHand_next h fun t c => ?_
      cases c.ledger with
      | none => rfl
      | some i =>
        dsimp only
    · rw [exec_ldgFlags]
      refine onHand_next h fun t c => ?_
      cases c.ledger <;> rfl
  · intro n s u idx h hidx
    refine ⟨?_, ?_⟩
    · rw [exec_lookup]
      refine onHand_next h fun t c => ?_
      subst hidx
      dsimp only
      refine lookup_answer ?_
      simp only [Bool.and_eq_true, Bool.not_eq_true', beq_iff_eq, decide_eq_true_eq, and_assoc]
    · rw [exec_publish]
      refine onHand_next h fun t c => if_congr ?_ rfl rfl
      rw [Bool.not_eq_true', Bool.not_eq_true', writeOpc_iff]

end Sys2Proof.Machine

/-!
The commands of a formatter: the proof of O34.
-/
namespace Sys2Proof.Machine
set_option Elab.async false

/-- A formatter's command, by what its work does with the lane. -/
theorem onFmt_next {s u : State} {n v : Nat} {e : Nat × Nat} {ok : Nat → Bool} {g : State → Nat → State} {g' : Nat → State}
    (h : u = s.issuing n e) (hg : ∀ l, g u l = g' l) :
    (.next (s.onFmt n e v ok g) : Outcome) = .next (if s.issues n 0 e v ok = true then (u.atLane n g').advance n else s) := by
  subst h
  rw [onFmt_eq, show g (s.issuing n e) = g' from funext hg]

/-- A formatter's DMA command, by what its work does with the lane and the field's address. -/
theorem laneDma_next {s u : State} {n v a : Nat} {g : State → Nat → Nat → State} {g' : Nat → State}
    (h : u = s.issuing n dmaCmd) (ha : a = u.spair n 2) (hg : ∀ l, (g u l a).setDone n 0x44 true = g' l) :
    (.next (s.laneDma n v g) : Outcome) = .next (if s.issues n 0 dmaCmd v anyWord = true then
      (u.atLane n (fun l => if u.refused a 4160 = true then u.csFault n 5 else g' l)).advance n else s) := by
  refine onFmt_next h fun l => ?_
  dsimp only
  rw [← ha, hg]

/-- Arming a lane and giving it the ring item in hand. -/
theorem laneBegin_ringItem {t : State} {n l pma : Nat} :
    (if (t.lane l).op.isSome then t else
      (t.ringItem n).elim t (fun e =>
        let x := t.laneHeader (dOpc e.1) pma
        x.2.updLane l (fun y => { y with op := some { laneOpOf (.ring e.2.1 e.2.2) e.1 pma with header := x.1 } }))) =
    if (t.lane l).op = none then (t.ringItem n).elim t (fun e => (t.laneHeader (dOpc e.1) pma).2.updLane l (fun x => { x with
       op := some { laneOpOf (.ring e.2.1 e.2.2) e.1 pma with header := (t.laneHeader (dOpc e.1) pma).1 } })) else t := by
  cases h : (t.lane l).op with
  | none => rfl
  | some o => rfl

/-- A field fetched with its block check: a good one is as bad as its memory, a wrong one is bad with event 0x3009. -/
theorem checkedField {v : State} {n l a lba : Nat} {f : List Byte} :
    (let bad := v.bad a 4160 || !fieldCheck lba f
     let s := if (!fieldCheck lba f) = true then v.event 0x3009 0 0 0 else v
     ((s.updLane l (fun x => { x with buf := f, bufBad := bad })).setDone n 0x45 bad).setDone n 0x44 true) =
    (if fieldCheck lba f = true
      then (v.updLane l (fun x => { x with buf := f, bufBad := v.bad a 4160 })).setDone n 0x45 (v.bad a 4160)
      else ((v.event 0x3009 0 0 0).updLane l (fun x => { x with buf := f, bufBad := true })).setDone n 0x45 true).setDone n 0x44 true := by
  dsimp only
  cases fieldCheck lba f with
  | true => rw [Bool.not_true, Bool.or_false, if_pos rfl, if_neg Bool.false_ne_true]
  | false => rw [Bool.not_false, Bool.or_true, if_pos rfl, if_neg Bool.false_ne_true]

/-- Settles O34, command by command: each is the issued word's work on the lane, matched with the statement's case by case. -/
theorem formatterCommands : Obligations.FormatterCommands := by
  unfold Obligations.FormatterCommands
  refine ⟨?_, ?_, ?_, ?_, ?_, ?_⟩
  · intro n s u h
    refine ⟨?_, ?_, ?_⟩
    · rw [exec_armRead]
      exact onFmt_next h fun l => rfl
    · rw [exec_armWrite]
      exact onFmt_next h fun l => rfl
    · rw [exec_disarm]
      exact onFmt_next h fun l => rfl
  · intro n l pma wr s t hp ht
    rw [State.armItem, ← hp]
    dsimp only
    rw [← ht]
    exact if_congr Iff.rfl rfl (if_congr Iff.rfl rfl (if_congr Iff.rfl rfl laneBegin_ringItem))
  · intro n s u v h hv
    rw [exec_sector]
    refine onFmt_next h fun l => ?_
    dsimp only
    rw [← hv]
  · intro l g s
    rw [State.onWrite]
    cases (s.lane l).op with
    | none => rfl
    | some o =>
      dsimp only [Option.elim]
      refine if_congr Iff.rfl rfl ?_
      cases s.writeStop l o with
      | some c => rfl
      | none =>
        refine if_congr Iff.rfl rfl ?_
        cases s.b .CHN_STATUS_LANE_READY l <;> cases (s.lane l).armWrite <;> rfl
  · intro n off set idx code s u h
    refine ⟨?_, ?_, ?_⟩
    · rw [exec_replay]
      refine onFmt_next h fun l => ?_
      cases u.firstIn l 3 <;> rfl
    · rw [exec_assist]
      exact onFmt_next h fun l => rfl
    · rw [exec_zone]
      refine onFmt_next h fun l => if_congr (by rw [Bool.and_eq_true]) rfl ?_
      dsimp only
      cases ((u.zoneRefuse l).lane l).op <;> rfl
  · intro n a s u v h ha hv
    refine ⟨?_, ?_, ?_⟩
    · rw [exec_dmaFetch]
      refine laneDma_next h ha fun l => ?_
      dsimp only
      rw [← hv]
      cases (v.lane l).op <;> exact checkedField
    · rw [exec_fetchRaw]
      refine laneDma_next h ha fun l => ?_
      dsimp only
      rw [← hv]
    · rw [exec_store]
      exact laneDma_next h ha fun l => rfl

end Sys2Proof.Machine

/-!
POST, TAKE and the commands of a ring: the proof of O35.
-/
namespace Sys2Proof.Machine
set_option Elab.async false

/-- A command that is kept back by a condition and else issued, as one condition. -/
theorem keptBack_or {s x : State} {P : Prop} [Decidable P] {b : Bool} :
    (if P then s else if b = true then x else s) = if P ∨ b = false then s else x := by
  by_cases hp : P
  · rw [if_pos hp, if_pos (Or.inl hp)]
  · cases b <;> simp [hp]

/-- The two ways to name the ring descriptor that a sequencer holds. -/
theorem ringItem_drop (v : State) (r i m : Nat) :
    (match (v.cs m).item with
      | some { src := .ring r' i', .. } => if r' = r ∧ i' = i then v.dropItem m else v
      | _ => v) = if (v.ringItem m).map Prod.snd = some (r, i) then v.dropItem m else v := by
  unfold State.ringItem
  rcases (v.cs m).item with _ | ⟨w, _ | _ | _⟩
  all_goals simp

/-- What depends on a formatter's having a lane. -/
theorem formatterLane_match {α : Type} (a b : Option Nat) (f : Nat → α) (d : α) :
    (match a, b with
      | some 0, some l => f l
      | _, _ => d) = if a = some 0 ∧ b.isSome = true then f (b.getD 0) else d := by
  rcases a with _ | _ | k
  · exact (if_neg (fun h => absurd h.1 (by simp))).symm
  · cases b with
    | none => exact (if_neg (fun h => absurd h.2 (by simp))).symm
    | some l => exact (if_pos ⟨rfl, rfl⟩).symm
  · exact (if_neg (fun h => absurd h.1 (by simp))).symm

/-- A ring command, by what its work does where the ring is of this sequencer. -/
theorem onRing_next {s u x : State} {n r v : Nat} {ok : Nat → Bool} {g : State → State}
    (h : u = s.issuing n unitCmd) (hg : (if u.csAs n = some (16 + r % 8) then g u else u) = x) :
    (.next (s.onRing n r v ok g) : Outcome) = .next (if s.issues n 1 unitCmd v ok = true then x.advance n else s) :=
  onSeq_next h hg

/-- Settles O35, command by command: the work of the issued word, then what TAKE, FORWARD and the grant of a chain do case by case. -/
theorem postAndRingCommands : Obligations.PostAndRingCommands := by
  unfold Obligations.PostAndRingCommands
  refine ⟨?_, ?_, ?_, ?_, ?_, ?_, ?_, ?_, ?_⟩
  · intro n code cls s u hc h
    rw [exec_post, execPost, State.onPost]
    rw [← hc, onSeq_eq, ← h, keptBack_or]
    refine congrArg Host.Outcome.next (if_congr or_assoc rfl (congrArg (fun x => State.advance x n) ?_))
    cases u.ringItem n with
    | none => rfl
    | some e =>
      refine (formatterLane_match _ _ _ _).trans (if_congr Iff.rfl ?_ rfl)
      cases (u.lane ((u.csTarget n).getD 0)).op <;> rfl
  · intro n cls s u hc h
    rw [exec_take, execTake, State.onTake]
    rw [← hc, onSeq_eq, ← h, keptBack_or, ← ite_or]
    exact congrArg Host.Outcome.next (if_congr (or_congr Iff.rfl (by rw [Bool.not_eq_true'])) rfl rfl)
  · intro n r i t c d s h1 h2 h3 h4 h5
    unfold State.takeNext
    rw [h1, h2, h3]
    dsimp only
    rw [h4]
    dsimp only
    rw [h5]
    exact if_congr Iff.rfl rfl (if_congr (by rw [Bool.not_eq_true']) rfl rfl)
  · intro n s h
    unfold State.takeNext
    split
    next r i t h1 h2 h3 => simp [h1, h2, h3] at h
    next => rfl
  · intro n m s u h hm
    rw [exec_select]
    refine onSeq_next h ?_
    rw [hm]
    dsimp only
    cases hr : u.selectRing (m - 16) with
    | mk a b => cases a <;> rfl
  · intro n r i code s u h
    refine ⟨?_, ?_, ?_, ?_⟩
    · rw [exec_ringFetch]
      refine onRing_next h ?_
      by_cases hm : u.csAs n = some (16 + r.val % 8)
      · rw [if_pos hm]
        refine (if_congr (by
          rw [Bool.not_eq_true', ← Bool.not_eq_true]
          tauto) rfl rfl).trans (ite_not _ _ _)
      · rw [if_neg hm, if_neg (fun hq => hm hq.1)]
    · rw [exec_forward]
      exact onRing_next h rfl
    · rw [exec_complete]
      refine onRing_next h (if_congr Iff.rfl ?_ rfl)
      dsimp only
      cases u.descOf r i.toNat with
      | none => rfl
      | some d =>
        exact congrArg (fun t : State => (((t.unqueue r i.toNat).descDone r i.toNat code.toNat 0 0).ringStale d.words).setDone n 0x43 false)
          (congrArg (fun g => List.foldl g u (List.range 44)) (funext fun v => funext fun m => ringItem_drop v r i.toNat m))
    · rw [exec_ringError]
      refine onRing_next h ?_
      by_cases hm : u.csAs n = some (16 + r.val % 8)
      · rw [if_pos hm]
        refine if_congr ?_ rfl rfl
        simp only [Bool.and_eq_true, Bool.or_eq_true, beq_iff_eq, Option.isNone_iff_eq_none, hm, true_and]
      · rw [if_neg hm, if_neg (fun hq => hm hq.1)]
  · intro n r s t u v ht hu hv
    rw [State.grantChain, ← ht, ← hu, ← hv]
  · intro n r i t c d s h1 h2
    unfold State.forward
    rw [h1]
    dsimp only
    rw [h2]
    dsimp only
    refine if_congr Iff.rfl rfl (if_congr (by rw [Bool.not_eq_true']) rfl (if_congr ?_ rfl rfl))
    rw [Bool.not_eq_true']
  · intro n r i t s h
    unfold State.forward
    rw [h]

end Sys2Proof.Machine

/-!
The host commands of an intake sequencer: the proof of O36.
-/
namespace Sys2Proof.Machine
set_option Elab.async false

/-- A command on the command in hand, without one. -/
theorem onHand_empty {s u : State} {n v : Nat} {e : Nat × Nat} {ok : Nat → Bool} {g : State → Nat → Cmd → State}
    (h : u = s.issuing n e) (hn : u.itemSlot n = none) :
    (.next (s.onHand n e v ok g) : Outcome) = .next (if s.issues n 2 e v ok = true then u.advance n else s) := by
  rw [onHand_next h fun _ _ => rfl, State.inHand, hn]
  rfl

/-- A command on the command in hand, with the command of slot `t`. -/
theorem onHand_slot {s u x : State} {n v t : Nat} {e : Nat × Nat} {ok : Nat → Bool} {g : State → Nat → Cmd → State}
    (h : u = s.issuing n e) (ht : u.itemSlot n = some t) (hg : g u t (u.cmd t) = x) :
    (.next (s.onHand n e v ok g) : Outcome) = .next (if s.issues n 2 e v ok = true then x.advance n else s) := by
  rw [onHand_next h fun _ _ => rfl, State.inHand, ht, ← hg]
  rfl

/-- Issuing a command leaves the grants. -/
theorem issuing_grants (s : State) (n : Nat) (e : Nat × Nat) : (s.issuing n e).ciu.grants = s.ciu.grants := rfl

/-- Settles O36, command by command: each is the issued word's work on the command in hand or on the item, with the statement's intermediate states put in. -/
theorem hostCommands : Obligations.HostCommands := by
  unfold Obligations.HostCommands
  refine ⟨?_, ?_, ?_, ?_, ?_, ?_, ?_, ?_, ?_, ?_, ?_, ?_, ?_⟩
  · intro n p q s u h hq
    rw [exec_fetchSqe, execFetchSqe]
    cases hg : s.grantIs p q with
    | false => simp
    | true =>
      rw [Bool.not_true, if_neg Bool.false_ne_true]
      refine (onSeq_next (x := u) h ?_).trans (congrArg Host.Outcome.next (if_congr (by simp) rfl rfl))
      dsimp only
      split
      next => rfl
      next g rest he =>
        have hi : (u.cs n).idle = false := hq.resolve_left (by rw [he]; exact List.cons_ne_nil _ _)
        rw [hi, Bool.not_false, if_pos rfl]
  · intro n p q s
    refine ⟨rfl, fun h => ?_⟩
    rw [exec_fetchSqe, execFetchSqe, h]
    rfl
  · intro n q g rest p s u v w h hg hi hp hq hv hw
    have hs : s.grantIs p q = true := by
      rw [State.grantIs, ← issuing_grants s n unitCmd, ← h, hg]
      simp [hp, hq]
    have ep : Fin.ofNat 2 g.p = p := by
      rw [hp]
      exact Fin.ofNat_val_eq_self p
    rw [exec_fetchSqe, execFetchSqe, hs, Bool.not_true, if_neg Bool.false_ne_true]
    refine onSeq_next h ?_
    dsimp only
    rw [hg]
    dsimp only
    rw [ep, hi, Bool.not_true, if_neg Bool.false_ne_true, ← hv, ← hw]
    exact if_congr (by rw [Bool.and_eq_true]) rfl rfl
  · intro n src dst len pi lba data s u h hn
    refine ⟨?_, ?_⟩
    · rw [exec_tx]
      exact onHand_empty h hn
    · rw [exec_rx]
      exact onHand_empty h hn
  · intro n t c src len pi f s u v w h ht hc hp hh hf hv hw
    rw [exec_tx]
    refine onHand_slot h ht ?_
    dsimp only
    rw [← hc, hp, if_neg Bool.false_ne_true, if_pos hh, ← hf, ← hv]
    subst hw
    cases f.1.isSome <;> rfl
  · intro n t c src len pi f s u v w h ht hc hh hf hv hw
    rw [exec_tx]
    refine onHand_slot h ht ?_
    dsimp only
    rw [← hc, if_neg hh, ← hf, ← hv, ← hw]
    refine if_congr Iff.rfl rfl (if_congr Iff.rfl rfl (if_congr Iff.rfl rfl (if_congr ?_ rfl rfl)))
    rw [Bool.not_eq_true']
  · intro n t c src len pi s u h ht hc hp
    rw [exec_tx]
    refine onHand_slot h ht ?_
    dsimp only
    rw [← hc, hp, if_pos rfl]
  · intro n t c lba dst off data pi s u h ht hc
    refine ⟨?_, ?_⟩
    · rw [exec_rx]
      refine onHand_slot h ht ?_
      dsimp only
      rw [← hc]
    · rw [exec_rx]
      refine onHand_slot h ht ?_
      dsimp only
      rw [← hc]
      exact if_congr Iff.rfl rfl (if_congr Iff.rfl rfl (if_congr List.isEmpty_iff rfl rfl))
  · intro n t lba dst off c pi l m s hm
    refine ⟨?_, rfl, rfl⟩
    rw [State.rxCmb, ← hm]
  · intro n t lba dst c d pi fmt k s u v w hu hf hv hk hw
    rw [State.rxBlock, ← hu, ← hf, ← hv]
    refine if_congr (by rw [Bool.not_eq_true']) rfl ?_
    dsimp only at hw ⊢
    rw [← hk, ← hw]
    rw [apply_ite (fun x => State.dmaEnd x n none)]
    exact if_congr (by rw [Bool.not_eq_true']) rfl rfl
  · intro n p q i st w s u h hi hst
    refine ⟨?_, ?_⟩
    · rw [exec_postCqe]
      refine onSeq_next h ?_
      dsimp only
      rw [hi, ← hst]
    · rw [exec_msix]
      refine onSeq_next h ?_
      dsimp only
      rw [hi]
  · intro n t st c w s u h hi hst hc
    refine ⟨?_, ?_⟩
    · rw [exec_postCqe]
      refine onSeq_next h ?_
      dsimp only
      rw [hi, ← hst]
      dsimp only
      rw [← hc]
      exact if_congr (by rw [Bool.or_eq_true, Bool.or_eq_true, Bool.not_eq_true', or_assoc]) rfl rfl
    · rw [exec_msix]
      refine onSeq_next h ?_
      dsimp only
      rw [hi, hc]
  · intro n a s u h
    refine ⟨?_, fun hi => ⟨?_, ?_⟩⟩
    · rw [exec_prefetch]
      exact onSeq_next h rfl
    · rw [exec_postCqe]
      refine onSeq_next h ?_
      dsimp only
      rw [hi]
    · rw [exec_msix]
      refine onSeq_next h ?_
      dsimp only
      rw [hi]

end Sys2Proof.Machine

/-!
The commands of a wedge sequencer: the proof of O38.
-/
namespace Sys2Proof.Machine
set_option Elab.async false

/-- A wedge sequencer's command, by what its work does with the actuator. -/
theorem onWedge_next {s u : State} {n v : Nat} {g : State → Nat → State} {g' : Nat → State}
    (h : u = s.issuing n unitCmd) (hg : ∀ a, g u a = g' a) :
    (.next (s.onWedge n v g) : Outcome) = .next (if s.issues n 3 unitCmd v anyWord = true then (u.atWedge n g').advance n else s) := by
  subst h
  rw [onWedge_eq, show g (s.issuing n unitCmd) = g' from funext hg]

/-- Settles O38, command by command: each is the issued word's work on the actuator; then what TRIGGER and STAMP do engine by engine. -/
theorem wedgeCommands : Obligations.WedgeCommands := by
  unfold Obligations.WedgeCommands
  refine ⟨?_, ?_, ?_, ?_, ?_, ?_⟩
  · intro n s u h
    refine ⟨?_, ?_, ?_, ?_⟩
    · rw [exec_window]
      exact onWedge_next h fun a => rfl
    · rw [exec_demod]
      exact onWedge_next h fun a => rfl
    · rw [exec_pes]
      exact onWedge_next h fun a => rfl
    · rw [exec_stamp]
      exact onWedge_next h fun a => rfl
  · intro n iMeas vel maPri maMate err s u h
    refine ⟨?_, ?_⟩
    · rw [exec_trigger]
      exact onWedge_next h fun a => rfl
    · rw [exec_wclk]
      refine onSeq_next h ?_
      dsimp only
      unfold State.atWedge
      cases u.csTarget n with
      | none => rfl
      | some t =>
        dsimp only [Option.elim]
        cases u.b .SRV_CTRL_EN 0 <;> rfl
  · intro a i vel p m k s
    rfl
  · intro n a w t s u hw ht hu
    rw [State.stampAct, ← hw, ← ht]
    refine if_congr (by rw [Bool.not_eq_true']) rfl ?_
    dsimp only
    rw [← hu]
  · intro k v s u h
    rw [State.stampEngine, ← h]
  · intro a w t prevW prevT d span known s v hd hs hk hv hn
    rw [State.stampFirst]
    dsimp only
    rw [← hd, ← hs, ← hk, hv]
    exact if_pos hn

end Sys2Proof.Machine

/-!
The commands of the band copy and power classes: the proof of O39.
-/
namespace Sys2Proof.Machine
set_option Elab.async false

/-- A command of a band copy sequencer on the lane named in S14. -/
theorem subCmd_next {n : Cs} {l pma z v opc : Nat} {s u w x : State} (h : u = s.issuing n unitCmd) (hl : l = u.sreg n 14 % 8)
    (hp : pma = u.sreg n 0 + 2 ^ 32 * u.sreg n 1) (hz : z = (u.zoneFor (pmaHead pma) (pmaTrack pma)).getD 0)
    (hw : w = (u.setDone n 0x40 false).setDone n 0x41 false)
    (hx : x = if u.blkOn .chn l = false then u else if u.b .CHN_CTRL_EN l = false then u.csFault n 5
      else if (u.lane l).op.isSome = true then u else w.laneBegin l (.copy n) (subWords opc l (w.sreg n 6) pma (w.spair n 2) 0 false z)) :
    (.next (s.subCmd n v opc) : Outcome) = .next (if s.issues n 4 unitCmd v anyWord = true then x.advance n else s) := by
  refine onSeq_next h ?_
  dsimp only
  rw [← hl, hx]
  cases hb : u.blkOn .chn l with
  | false => rw [inBlk_off hb, if_pos rfl]
  | true =>
    rw [inBlk_on hb, if_neg (show ¬ true = false from nofun), ← hp, ← hz, ← hw]
    exact if_congr (by rw [Bool.not_eq_true']) rfl rfl

/-- Settles O39, command by command: each is the issued word's work, those on a lane by one rule for reading, writing and verifying. -/
theorem copyAndMotorCommands : Obligations.CopyAndMotorCommands := by
  unfold Obligations.CopyAndMotorCommands
  refine ⟨?_, ?_, ?_, ?_, ?_⟩
  · intro n l pma z e s u v h hl hp hz hv he
    refine ⟨?_, ?_, ?_⟩
    · rw [exec_subRead]
      exact subCmd_next h hl hp hz hv (congrFun he 1)
    · rw [exec_subWrite]
      exact subCmd_next h hl hp hz hv (congrFun he 2)
    · rw [exec_subVerify]
      exact subCmd_next h hl hp hz hv (congrFun he 3)
  · intro n s u h
    refine ⟨?_, ?_⟩
    · rw [exec_copyXor]
      exact onSeq_next h (if_congr (by rw [Bool.or_eq_true]) rfl rfl)
    · rw [exec_copyLog]
      exact onSeq_next h rfl
  · intro n src dst k s t u ht hu
    rw [State.xorInto]
    dsimp only
    rw [← ht, ← hu]
    exact if_congr (by rw [Bool.or_eq_true]) rfl rfl
  · intro n r i w f s u hf hu
    rw [State.copyLogItem, ← hf, hu]
  · intro n d dom on m v s u h
    refine ⟨?_, ?_, ?_, ?_⟩
    · rw [exec_drv]
      exact onSeq_next h rfl
    · rw [exec_sample]
      exact onSeq_next h rfl
    · rw [exec_sloe]
      exact onSeq_next h rfl
    · rw [exec_vault]
      refine onSeq_next h ?_
      cases (u.cs n).item with
      | none => rfl
      | some it =>
        dsimp only [Option.elim]
        refine if_congr Iff.rfl rfl (if_congr Iff.rfl rfl ?_)
        cases u.vaultOp it.words true with
        | mk r t => cases r <;> rfl

end Sys2Proof.Machine
